-- ==== Sys2Proof/Word.lean ====
section
/-! DEFINITION. The word types of the model: a register of BAR0 is 64 bits wide (R13), a byte is the unit of every address space (R11). -/

namespace Sys2Proof

/-- One byte of an address space. -/
abbrev Byte := BitVec 8

/-- A 64-bit word: a BAR0 register, a scalar register of the sequencer. -/
abbrev Word := BitVec 64

/-- A list of bytes, byte 0 first (R11). -/
abbrev Bytes := List Byte

namespace Machine

/-- A packet: its 32 B header and its payload (R350). -/
structure Packet where
  hdr     : BitVec 256
  payload : Bytes
  deriving DecidableEq, Repr

/-- What the background scrub, a checker or the vote of three copies finds in on-die storage (R457 to R460). Words are 64-bit words of what is named; what a memory die's staging buffer holds is named by its place among the die's entries of its kind (R436). -/
inductive SramFault where
  | clean                                  -- nothing
  | single                                 -- a single-bit error of a SEC-DED word
  | palette (core word : Nat)              -- a double error
  | clusterMem (cluster word : Nat)
  | staging (die ctx write word : Nat)     -- in a write that waits: its place in the context's queue, its word
  | redSlot (die slot word : Nat)          -- in a reduction slot: q, mask, header in this order
  | flow (die flow : Nat)
  | reorder (die flow place word : Nat)    -- in a packet that waits in the reorder store, its header first
  | version (entry : Nat)                  -- in the version store
  | ledger (ctx entry : Nat)               -- in a context's ledger accumulators
  | arrival (ctx counter : Nat)
  | stepFlag (ctx step : Nat)
  | storeSram (core ctx image word : Nat)  -- in a control store's copy of an image
  | coreRegs (core engine : Nat)           -- a parity error in a register file or accumulator set of an engine
  | upeTemps (cluster : Nat)
  | stat (core ctx tag row : Nat)
  | table (core slot : Nat)
  | storeCopy (core ctx image : Nat)
  | route (bank index : Nat)
  | vote (word copy : Nat)                 -- one of a critical word's three copies disagrees
  | voteLost (word : Nat)                  -- all three differ
  deriving DecidableEq, Repr

/-- An access to a memory port whose first `failed` attempts, 1 to 5, end in a CRC error (R431). -/
structure CrcAccess where
  port   : Nat
  failed : Nat := 5
  deriving DecidableEq, Repr

/-- How an Easel operation ends: whether a retrain converged, the checkers that SELF_TEST tested, and the unit code of the first that fails (R523, R524). -/
structure EaselResult where
  converged : Bool := true
  checkers  : Nat := 0
  failing   : Nat := 0
  deriving DecidableEq, Repr

/-- How a step of bring-up ends (R555): the unit code of a failure, and what the step finds on the board and in the dies. -/
structure StepResult where
  fail    : Option Nat := none
  straps  : Option Nat := none                -- the straps' levels from here on, where the board changes them (R623)
  flash   : Option (Bytes × Bytes × Nat) := none  -- step 2: slots A and B of the flash and the marked slot; none where they are as the package left them
  density : Nat := 2                          -- step 7: 1 16 Gbit, 2 32 Gbit
  deriving DecidableEq, Repr

/-- What the board gives at the assertion of PWR_GOOD: the references that run, bits 0 PCIE, 1 LINK, 2 SYS, and the straps, BOOT_SRC in bits [1:0], PKG_POS in bits [6:4] (R530, R623). -/
structure BoardPins where
  refs   : Nat := 3
  straps : Nat := 0
  deriving DecidableEq, Repr

/-- The voltage, in mV, that a rail's supervisor sees at its sense balls (R534). -/
structure RailLevel where
  rail : Nat
  mv   : Nat
  deriving DecidableEq, Repr

/-- A set of calibration constants as the calibration port received it, and its three OTP copies as they read back (R573). -/
structure CalSet where
  data : Bytes
  back : List Bytes
  deriving DecidableEq, Repr

/-- A read on the metrology readout port: the 16-bit address at which it begins, and its length (R577). -/
structure MeterRead where
  addr : Nat := 0x10
  len  : Nat
  deriving DecidableEq, Repr

/-- An MCTP control message as it arrives on the sideband (R600): its command, or a message whose framing or integrity check fails (R606). -/
inductive MctpControl where
  | setEid (eid : Nat)
  | getEid
  | version
  | types
  | vendors
  | other (command : Nat)
  | bad
  deriving DecidableEq, Repr

/-- Whether its fields fit. -/
def MctpControl.ok : MctpControl → Bool
  | .setEid e => decide (e < 256)
  | .other c => decide (c < 256)
  | _ => true

/-- What a read of host memory was for (R506). -/
inductive HostRead where
  | index       -- a doorbell or consumer index
  | entry       -- a ring entry
  | axisMap
  | easel
  deriving DecidableEq, Repr

/-- A PCI Express configuration request: a read or write of a dword, or a write of the MSI-X capability's message control (R503, R514). -/
inductive ConfigReq where
  | read (off : Nat)
  | write (off value : Nat)
  | msix (enable mask : Bool)
  deriving DecidableEq, Repr

end Machine

end Sys2Proof
end

