-- ==== Sys2Proof/Syntax.lean ====
section
/-! DEFINITION. The commands of the block: one constructor per row of spec/opcode_table.json, in its order. The first operand `t` of every command is the package time, in ns, at which it takes effect (R469); the others are what the sender or the environment supplies. -/

namespace Sys2Proof

open Machine

/-- A command: a register write, a packet, an event on a pin, a timer that comes due, an engine's operation. -/
inductive Instr where
  /-- STROKE_BOUNDARY (R55): The stroke period elapses on the package's own timing (source, unsynchronised, holdover or stroke lost) and the maintenance-slot work runs in its fixed order. -/
  | strokeBoundary (t : Nat)
  /-- MAINT_SLOT_END (R54): The maintenance slot's time elapses and the dispatch window opens. -/
  | maintSlotEnd (t : Nat)
  /-- STROKE_MARK_ACCEPT (R47): A stroke mark with a good symbol check is accepted, and the package corrects its boundary phase from it. -/
  | strokeMarkAccept (t : Nat) (port stroke period slot offset : Nat)
  /-- MARK_TIMEOUT (R49): No mark arrives within 2 µs after the expected boundary. -/
  | markTimeout (t : Nat)
  /-- HOLDOVER_LIMIT_EXPIRE (R50): Holdover has lasted more than holdover_limit strokes, so the package enters the stroke-lost state. -/
  | holdoverLimitExpire (t : Nat)
  /-- VOTE_WAIT_EXPIRY (R659): A child vote for stroke s has not arrived by step 1 of slot s+2, so it counts as 0 and the member sends the result on. -/
  | voteWaitExpiry (t : Nat) (herd stroke : Nat)
  /-- STROKE_CFG_WRITE (R52): A write to STROKE_CFG is checked and takes effect at the next boundary, or is discarded and logged. -/
  | strokeCfgWrite (t : Nat) (value : Word)
  /-- STROKE_NUMBER_WRITE (R53): A write sets the starting stroke number, only while the package is unsynchronised and is the source. -/
  | strokeNumberWrite (t : Nat) (value : Word)
  /-- SPARE_POOL_CFG_WRITE (R68): A write sets the spare pool's size, base and enable, or is discarded when a context is open or the range is invalid. -/
  | sparePoolCfgWrite (t : Nat) (value : Word)
  /-- STAGED_WRITE_RESUME (R67): A first write waiting in the staging queues for the end of step 2 or for a free pool frame lands. -/
  | stagedWriteResume (t : Nat) (ctx : Nat)
  /-- FRAME_RECYCLE (R66): The recycler returns superseded version frames to the spare pool during the stroke after a commit. -/
  | frameRecycle (t : Nat)
  /-- TRANSFER_AGED (R81): At the second boundary after issue, an outstanding transfer is dropped and its stroke is voided for the issuing context. -/
  | transferAged (t : Nat) (cluster id : Nat)
  /-- PACKET_AGE_DROP (R81): A packet that has waited in an Antler queue for longer than one stroke period is dropped. -/
  | packetAgeDrop (t : Nat) (port : Nat)
  /-- DOORBELL_POLL (R221): The poll interval, or step 6 of a slot, comes due, and the SQ producer indices of open contexts are read. -/
  | doorbellPoll (t : Nat) (indices : List (Nat × Nat)) (others : List (Nat × Bytes))
  /-- SKETCH (R235): A SKETCH entry is taken and, if the context's quota and the package's free slots allow it, the sketch is validated and admitted. -/
  | sketch (t : Nat) (ctx : Nat) (entry : Bytes)
  /-- SKETCH_ADMIT_RESUME (R235): A sketch that was waiting for task slots is admitted once enough slots are free. -/
  | sketchAdmitResume (t : Nat) (ctx : Nat)
  /-- SLOT_SET (R230): A SLOT_SET entry loads a model slot's descriptors and makes the context its owner, or is refused. -/
  | slotSet (t : Nat) (ctx : Nat) (entry : Bytes)
  /-- SLOT_CLEAR (R230): A SLOT_CLEAR entry releases a model slot that the context owns. -/
  | slotClear (t : Nat) (ctx : Nat) (entry : Bytes)
  /-- SLOT_ENTRY_RESUME (R230): A slot entry that was waiting for the slot's admitted tasks to be reported takes effect. -/
  | slotEntryResume (t : Nat) (ctx : Nat)
  /-- ARRIVAL_SET (R238): An ARRIVAL_SET entry resets an arrival counter and sets or removes its window. -/
  | arrivalSet (t : Nat) (ctx : Nat) (entry : Bytes)
  /-- TASK_DISPATCH (R237): A ready task is placed on a free allowed core once its budget fits the time left in the stroke. -/
  | taskDispatch (t : Nat) (task core : Nat)
  /-- UPDATE_TASK_DISPATCH (R288): An update task is dispatched to a free UPE, determines its mode, checks its flags and advances its groups. -/
  | updateTaskDispatch (t : Nat) (task cluster : Nat)
  /-- TASK_COMPLETE (R190): A task completes once its engine operations have finished and its transfers are acknowledged, and its successors are released. -/
  | taskComplete (t : Nat) (core : Nat)
  /-- UPDATE_TASK_COMPLETE (R283): An update task completes once all its writes have been acknowledged. -/
  | updateTaskComplete (t : Nat) (cluster : Nat)
  /-- CQ_RECORDS_RELEASE (R233): Records held because the completion ring was full are written once the CQ consumer index shows room. -/
  | cqRecordsRelease (t : Nat) (ctx consumer : Nat)
  /-- CTX_OPEN (R215): CTX_CMD OPEN opens a free context after checking its rings, page table root and doorbell area. -/
  | ctxOpen (t : Nat) (zero : Bool)
  /-- CTX_CLOSE (R216): CTX_CMD CLOSE moves an open context to closing and starts teardown. -/
  | ctxClose (t : Nat) (zero : Bool)
  /-- CONTEXT_RELEASE (R491): At the second boundary after the tag advance, the closing context's resources are released. -/
  | contextRelease (t : Nat) (ctx : Nat)
  /-- RELEASE_ZERO_FILL_DONE (R491): The release zero-fill ends, CONTEXT_RELEASED and the context record are written, and the context becomes free. -/
  | releaseZeroFillDone (t : Nat) (ctx : Nat)
  /-- CTX_SCHED_WRITE (R215): A write to CTX_SCHED sets weight, quota and interrupt, or is discarded when out of range. -/
  | ctxSchedWrite (t : Nat) (value : Word)
  /-- AG_STEP (R179): The AG STEP op provides the slot's stream for the repeat and advances the generator. -/
  | agStep (t : Nat) (core : Nat)
  /-- AG_HOLD (R179): The AG HOLD op provides the same units at every repeat without advancing. -/
  | agHold (t : Nat) (core : Nat)
  /-- AG_SETDESC (R179): The AG SETDESC op loads a preset descriptor into a generator. -/
  | agSetdesc (t : Nat) (core : Nat)
  /-- AG_SETBASE (R179): The AG SETBASE op sets a generator's base from a scalar register and resets its indices. -/
  | agSetbase (t : Nat) (core : Nat)
  /-- AG_RESET (R179): The AG RESET op zeroes a generator's indices and resets its side pointer. -/
  | agReset (t : Nat) (core : Nat)
  /-- AG_ADDBASE (R179): The AG ADDBASE op adds a scalar register to a generator's base. -/
  | agAddbase (t : Nat) (core : Nat)
  /-- SCL_ADD (R184): The SCL ADD op adds two scalar registers. -/
  | sclAdd (t : Nat) (core : Nat)
  /-- SCL_SUB (R184): The SCL SUB op subtracts two scalar registers. -/
  | sclSub (t : Nat) (core : Nat)
  /-- SCL_MUL (R184): The SCL MUL op multiplies two scalar registers and keeps the low 64 bits. -/
  | sclMul (t : Nat) (core : Nat)
  /-- SCL_ADDI (R184): The SCL ADDI op adds a sign-extended immediate to a scalar register. -/
  | sclAddi (t : Nat) (core : Nat)
  /-- SCL_MOVI (R184): The SCL MOVI op loads the IMM slot into a scalar register. -/
  | sclMovi (t : Nat) (core : Nat)
  /-- SCL_SETLC (R184): The SCL SETLC op sets a loop count register. -/
  | sclSetlc (t : Nat) (core : Nat)
  /-- SCL_CTSET (R184): The SCL CTSET op sets a counter from a scalar register. -/
  | sclCtset (t : Nat) (core : Nat)
  /-- SCL_CTINC (R184): The SCL CTINC op increments a counter. -/
  | sclCtinc (t : Nat) (core : Nat)
  /-- SCL_CPSET (R184): The SCL CPSET op sets a comparator flag from a signed comparison. -/
  | sclCpset (t : Nat) (core : Nat)
  /-- FLOW_LOOP (R187): The FLOW LOOP op opens a hardware loop level with a latched count. -/
  | flowLoop (t : Nat) (core : Nat)
  /-- FLOW_JUMP (R186): The FLOW JUMP op continues at a target, unconditionally or on a comparator flag. -/
  | flowJump (t : Nat) (core : Nat)
  /-- FLOW_BREAK (R186): The FLOW BREAK op closes a loop level and the levels inside it. -/
  | flowBreak (t : Nat) (core : Nat)
  /-- FLOW_END (R190): The FLOW END op stops issue, and the task completes once its work and transfers have finished. -/
  | flowEnd (t : Nat) (core : Nat)
  /-- MXE_MMA (R191): The MMA op multiplies streamed A and B operands into an accumulator set. -/
  | mxeMma (t : Nat) (core : Nat)
  /-- MXE_WRITEOUT (R194): The WRITEOUT op converts an accumulator set into the target tensor's format. -/
  | mxeWriteout (t : Nat) (core : Nat)
  /-- VXE_LOAD (R197): The VXE LOAD op decodes stream elements with their scales into a register. -/
  | vxeLoad (t : Nat) (core : Nat)
  /-- VXE_STORE (R197): The VXE STORE op converts a register into the stream's format with its block scales. -/
  | vxeStore (t : Nat) (core : Nat)
  /-- VXE_ADD (R197): The VXE ADD op adds two registers lane by lane. -/
  | vxeAdd (t : Nat) (core : Nat)
  /-- VXE_SUB (R197): The VXE SUB op subtracts two registers lane by lane. -/
  | vxeSub (t : Nat) (core : Nat)
  /-- VXE_MUL (R197): The VXE MUL op multiplies two registers lane by lane. -/
  | vxeMul (t : Nat) (core : Nat)
  /-- VXE_FMA (R197): The VXE FMA op computes a fused multiply-add lane by lane. -/
  | vxeFma (t : Nat) (core : Nat)
  /-- VXE_DIV (R197): The VXE DIV op divides lane by lane, correctly rounded. -/
  | vxeDiv (t : Nat) (core : Nat)
  /-- VXE_SQRT (R197): The VXE SQRT op takes a correctly rounded square root lane by lane. -/
  | vxeSqrt (t : Nat) (core : Nat)
  /-- VXE_MAX (R197): The VXE MAX op takes the IEEE maximum lane by lane. -/
  | vxeMax (t : Nat) (core : Nat)
  /-- VXE_MIN (R197): The VXE MIN op takes the IEEE minimum lane by lane. -/
  | vxeMin (t : Nat) (core : Nat)
  /-- VXE_ABS (R197): The VXE ABS op clears the sign bit. -/
  | vxeAbs (t : Nat) (core : Nat)
  /-- VXE_NEG (R197): The VXE NEG op flips the sign bit. -/
  | vxeNeg (t : Nat) (core : Nat)
  /-- VXE_COPYSIGN (R197): The VXE COPYSIGN op takes the magnitude of va with the sign of vb. -/
  | vxeCopysign (t : Nat) (core : Nat)
  /-- VXE_CMP (R197): The VXE CMP op writes a lane mask from a comparison predicate. -/
  | vxeCmp (t : Nat) (core : Nat)
  /-- VXE_SELECT (R197): The VXE SELECT op chooses lanes of va or vb by a mask. -/
  | vxeSelect (t : Nat) (core : Nat)
  /-- VXE_ADDK (R197): The VXE ADDK op adds an FP32 constant. -/
  | vxeAddk (t : Nat) (core : Nat)
  /-- VXE_MULK (R197): The VXE MULK op multiplies by an FP32 constant. -/
  | vxeMulk (t : Nat) (core : Nat)
  /-- VXE_EXP (R144): The VXE EXP op evaluates the built-in EXP function. -/
  | vxeExp (t : Nat) (core : Nat)
  /-- VXE_EXP2 (R144): The VXE EXP2 op evaluates the built-in EXP2 function. -/
  | vxeExp2 (t : Nat) (core : Nat)
  /-- VXE_LN (R144): The VXE LN op evaluates the built-in LN function. -/
  | vxeLn (t : Nat) (core : Nat)
  /-- VXE_LOG2 (R144): The VXE LOG2 op evaluates the built-in LOG2 function. -/
  | vxeLog2 (t : Nat) (core : Nat)
  /-- VXE_TANH (R144): The VXE TANH op evaluates the built-in TANH function. -/
  | vxeTanh (t : Nat) (core : Nat)
  /-- VXE_SIGMOID (R144): The VXE SIGMOID op evaluates the built-in SIGMOID function. -/
  | vxeSigmoid (t : Nat) (core : Nat)
  /-- VXE_TEVAL (R146): The VXE TEVAL op evaluates the value table of a table-pair slot. -/
  | vxeTeval (t : Nat) (core : Nat)
  /-- VXE_TDERIV (R148): The VXE TDERIV op multiplies the gradient by the derivative table at the saved input. -/
  | vxeTderiv (t : Nat) (core : Nat)
  /-- VXE_TABLE_LOAD (R147): The VXE TABLE_LOAD op copies a value and derivative table pair into a slot tagged with the context. -/
  | vxeTableLoad (t : Nat) (core : Nat)
  /-- VXE_MOV (R197): The VXE MOV op copies a register. -/
  | vxeMov (t : Nat) (core : Nat)
  /-- NORM_FWD (R150): The RWE NORM_FWD op normalises rows and saves their mean and rstd. -/
  | normFwd (t : Nat) (core : Nat)
  /-- RMS_FWD (R150): The RWE RMS_FWD op applies RMS normalisation and saves rstd. -/
  | rmsFwd (t : Nat) (core : Nat)
  /-- SMAX_FWD (R150): The RWE SMAX_FWD op computes the soft-maximum and saves the maximum and lse. -/
  | smaxFwd (t : Nat) (core : Nat)
  /-- NORM_BWD (R150): The RWE NORM_BWD op computes the normalisation gradient from saved statistics. -/
  | normBwd (t : Nat) (core : Nat)
  /-- RMS_BWD (R150): The RWE RMS_BWD op computes the RMS-normalisation gradient. -/
  | rmsBwd (t : Nat) (core : Nat)
  /-- SMAX_BWD (R150): The RWE SMAX_BWD op computes the soft-maximum gradient. -/
  | smaxBwd (t : Nat) (core : Nat)
  /-- SPILL_SET (R153): The RWE SPILL_SET op selects the core's statistics spill region. -/
  | spillSet (t : Nat) (core : Nat)
  /-- GATHER (R162): The SDE GATHER op groups rows by route index up to the capacity and writes the group table. -/
  | gather (t : Nat) (core : Nat)
  /-- SCATTER (R164): The SDE SCATTER op combines grouped results back into rows with their weights. -/
  | scatter (t : Nat) (core : Nat)
  /-- TXE_COPY_IN (R202): The TXE COPY_IN op moves data from a tensor, local or a peer's, into the stream. -/
  | txeCopyIn (t : Nat) (core : Nat)
  /-- TXE_COPY_OUT (R202): The TXE COPY_OUT op moves data from the stream to a local or peer tensor. -/
  | txeCopyOut (t : Nat) (core : Nat)
  /-- TXE_REDUCE (R316): The TXE REDUCE op contributes contribution frames to the exact reduction. -/
  | txeReduce (t : Nat) (core : Nat)
  /-- TXE_RELAY (R390): The TXE RELAY op sends a block round a role's line for a number of hops. -/
  | txeRelay (t : Nat) (core : Nat)
  /-- SYNC_WAIT (R204): The SYNC WAIT op holds the word's issue until the selected asynchronous work has finished. -/
  | syncWait (t : Nat) (core : Nat)
  /-- SYNC_WAIT_RELEASE (R204): The conditions of a holding WAIT are met and the word issues. -/
  | syncWaitRelease (t : Nat) (core cycles : Nat)
  /-- INTERLOCK_RELEASE (R206): A repeat held by a palette or accumulator interlock issues once the hazard clears. -/
  | interlockRelease (t : Nat) (core cycles : Nat)
  /-- TXE_SLOT_FREE (R203): A TXE word waiting for a tracked-transfer slot issues once one frees. -/
  | txeSlotFree (t : Nat) (core cycles : Nat)
  /-- REDUCE_FRAME_SEND (R316): Once a frame's write-out has landed, the transfer engine sends it and sets its state to 2. -/
  | reduceFrameSend (t : Nat) (cluster id : Nat)
  /-- UPE_LOAD (R292): The UPE LOAD op reads the gradient, slot tensor or parameter into a temporary. -/
  | upeLoad (t : Nat) (cluster : Nat)
  /-- UPE_STORE (R293): The UPE STORE op converts a temporary and writes it to a slot tensor. -/
  | upeStore (t : Nat) (cluster : Nat)
  /-- UPE_ADD (R291): The UPE ADD op adds two temporaries. -/
  | upeAdd (t : Nat) (cluster : Nat)
  /-- UPE_SUB (R291): The UPE SUB op subtracts two temporaries. -/
  | upeSub (t : Nat) (cluster : Nat)
  /-- UPE_MUL (R291): The UPE MUL op multiplies two temporaries. -/
  | upeMul (t : Nat) (cluster : Nat)
  /-- UPE_FMA (R291): The UPE FMA op computes a fused multiply-add. -/
  | upeFma (t : Nat) (cluster : Nat)
  /-- UPE_DIV (R291): The UPE DIV op divides, correctly rounded. -/
  | upeDiv (t : Nat) (cluster : Nat)
  /-- UPE_SQRT (R291): The UPE SQRT op takes a square root. -/
  | upeSqrt (t : Nat) (cluster : Nat)
  /-- UPE_RSQRT (R291): The UPE RSQRT op takes a reciprocal square root. -/
  | upeRsqrt (t : Nat) (cluster : Nat)
  /-- UPE_MAX (R291): The UPE MAX op takes the IEEE maximum. -/
  | upeMax (t : Nat) (cluster : Nat)
  /-- UPE_MIN (R291): The UPE MIN op takes the IEEE minimum. -/
  | upeMin (t : Nat) (cluster : Nat)
  /-- UPE_ABS (R291): The UPE ABS op clears the sign bit. -/
  | upeAbs (t : Nat) (cluster : Nat)
  /-- UPE_SELECT (R291): The UPE SELECT op chooses lanes by a mask. -/
  | upeSelect (t : Nat) (cluster : Nat)
  /-- UPE_CMP (R291): The UPE CMP op writes a lane mask from a predicate. -/
  | upeCmp (t : Nat) (cluster : Nat)
  /-- UPE_CONV (R294): The UPE CONV op rounds once to a format, raw EIR32 temporaries included. -/
  | upeConv (t : Nat) (cluster : Nat)
  /-- UPE_CLAMP (R291): The UPE CLAMP op clamps a temporary between two bounds. -/
  | upeClamp (t : Nat) (cluster : Nat)
  /-- EIR_DATA (R319): An EIR_DATA packet of a contribution or partial is combined into a reduction slot. -/
  | eirData (t : Nat) (arr : Option Nat) (packet : Packet)
  /-- EIR_TAIL (R321): An EIR_TAIL packet completes a tile's combination, which is forwarded, or finalised at the home. -/
  | eirTail (t : Nat) (arr : Option Nat) (packet : Packet)
  /-- EIR_FINAL_DATA (R325): An EIR_FINAL_DATA packet of a final tile is taken and forwarded along the distribution path. -/
  | eirFinalData (t : Nat) (arr : Option Nat) (packet : Packet)
  /-- EIR_FINAL_TAIL (R325): An EIR_FINAL_TAIL packet completes the tile on the member: values, offset, bound and mask are written. -/
  | eirFinalTail (t : Nat) (arr : Option Nat) (packet : Packet)
  /-- EIR_REDO (R323): A redo notice makes the transfer engine rewrite the frame at the new offset and contribute it again. -/
  | eirRedo (t : Nat) (arr : Option Nat) (packet : Packet)
  /-- REDUCTION_SLOT_FREE (R320): A reduction slot frees and a tile waiting on credits is combined. -/
  | reductionSlotFree (t : Nat)
  /-- WRITE (R364): A WRITE packet passes the generation, order and apply stages at ejection and is stored. -/
  | write (t : Nat) (arr : Option Nat) (packet : Packet)
  /-- READ (R365): A READ packet is applied and answered with READ_DATA. -/
  | read (t : Nat) (arr : Option Nat) (packet : Packet)
  /-- READ_DATA (R365): A READ_DATA packet lands in the requester's transfer. -/
  | readData (t : Nat) (arr : Option Nat) (packet : Packet)
  /-- RELAY (R392): A relay block is deposited, and forwarded while hops remain. -/
  | relay (t : Nat) (arr : Option Nat) (packet : Packet)
  /-- ACK (R365): A cumulative ACK acknowledges a flow's packets, completing transfers. -/
  | ack (t : Nat) (arr : Option Nat) (packet : Packet)
  /-- NACK (R384): A NACK completes the refused packet of a transfer with the code it carries. -/
  | nack (t : Nat) (arr : Option Nat) (packet : Packet)
  /-- VOTE (R71): A child's vote is combined by AND in the vote tree. -/
  | vote (t : Nat) (arr : Option Nat) (packet : Packet)
  /-- VOTE_RESULT (R73): A vote result is recorded for application and passed down the tree. -/
  | voteResult (t : Nat) (arr : Option Nat) (packet : Packet)
  /-- VOID_NOTICE (R77): A void notice is forwarded once along the tree and applied in the next slot. -/
  | voidNotice (t : Nat) (arr : Option Nat) (packet : Packet)
  /-- FAULT_NOTICE_RX (R422): A collector logs a received FAULT_NOTICE packet as two records. -/
  | faultNoticeRx (t : Nat) (arr : Option Nat) (packet : Packet)
  /-- PEER_ABSENT (R424): A PEER_ABSENT notice adds the subject to the absent-peer set. -/
  | peerAbsent (t : Nat) (arr : Option Nat) (packet : Packet)
  /-- PEER_PRESENT (R424): A PEER_PRESENT notice removes the subject from the absent-peer set. -/
  | peerPresent (t : Nat) (arr : Option Nat) (packet : Packet)
  /-- TABLE_SWITCH (R424): A TABLE_SWITCH notice arms a route-table switch, as a ROUTE_SWITCH write does. -/
  | tableSwitch (t : Nat) (arr : Option Nat) (packet : Packet)
  /-- PACKET_FORWARD (R356): A transit or injected packet is routed by its bank to an output port or dropped. -/
  | packetForward (t : Nat) (arr : Option Nat) (packet : Packet)
  /-- ACK_TIMER (R365): 1 µs after the oldest unacknowledged packet of a flow, an ACK is sent. -/
  | ackTimer (t : Nat) (src dst ctx gen cls : Nat)
  /-- FLOW_ENTRY_EXPIRE (R364): A flow entry is freed at the fourth boundary with no arrival. -/
  | flowEntryExpire (t : Nat) (src dst ctx gen cls : Nat)
  /-- LINK_CONTROL_SYMBOL (R346): A received control symbol delivers acknowledgements, credits and marks, and the check of its block. -/
  | linkControlSymbol (t : Nat) (port : Nat) (symbol : Bytes) (dataOk : Bool) (stalled fixed broken : Nat)
  /-- REPLAY_LIMIT (R347): The same block has been replayed 8 times unacknowledged, so the port fails. -/
  | replayLimit (t : Nat) (port : Nat)
  /-- LANE_LOCK_LOSS (R347): A lane has lost lock for 1 µs, so the port fails. -/
  | laneLockLoss (t : Nat) (port : Nat)
  /-- SYMBOL_TIMEOUT (R347): No symbol with a good check has arrived for 2 µs, so the port fails. -/
  | symbolTimeout (t : Nat) (port : Nat)
  /-- IDENTITY_FRAME (R413): A good identity frame updates the peer registers and the port is re-evaluated. -/
  | identityFrame (t : Nat) (port : Nat) (frame : Bytes)
  /-- LINK_TRAINING_DONE (R416): Lanes have trained and the delay has been measured, so the port evaluates the neighbour's identity. -/
  | linkTrainingDone (t : Nat) (port delay : Nat)
  /-- TRAINING_TIMEOUT (R419): Training has not reached check 3 within 200 ms, so the port fails, or a listening port becomes disabled. -/
  | trainingTimeout (t : Nat) (port : Nat)
  /-- PORT_CMD_DISABLE (R340): PORT_CMD 1 disables a port. -/
  | portCmdDisable (t : Nat) (port : Nat)
  /-- PORT_CMD_TRAIN (R342): PORT_CMD 2 starts port training. -/
  | portCmdTrain (t : Nat) (port : Nat)
  /-- PORT_CFG_WRITE (R426): A PORT_CFG write is accepted only while the port is disabled and no plan is loaded. -/
  | portCfgWrite (t : Nat) (port : Nat) (value : Word)
  /-- QDEPTH_CLEAR (R371): A write clears every peak occupancy field of the port. -/
  | qdepthClear (t : Nat) (port : Nat) (value : Word)
  /-- ROUTE_SWITCH_WRITE (R368): A ROUTE_SWITCH arm write arms the candidate bank for a stroke, or is discarded. -/
  | routeSwitchWrite (t : Nat) (value : Word)
  /-- ROUTE_BANK_DRAIN_END (R368): At the second boundary after a switch, the DRAINING bank becomes EMPTY. -/
  | routeBankDrainEnd (t : Nat) (bank : Nat)
  /-- AXMAP_LOAD (R376): AXMAP_CMD LOAD reads a map image into a map slot after checking it. -/
  | axmapLoad (t : Nat) (image : Bytes)
  /-- AXMAP_CLEAR (R376): AXMAP_CMD CLEAR empties a map slot unless the map is in use. -/
  | axmapClear (t : Nat)
  /-- AXMAP_SWITCH_WRITE (R377): An AXMAP_SWITCH arm write arms a loaded map of a herd for a stroke. -/
  | axmapSwitchWrite (t : Nat) (value : Word)
  /-- RESHARD_ARM (R405): RESHARD_CMD ARM checks the descriptor and arms a re-sharding for stroke S. -/
  | reshardArm (t : Nat)
  /-- RESHARD_CANCEL (R403): RESHARD_CMD CANCEL returns an armed re-sharding to idle. -/
  | reshardCancel (t : Nat)
  /-- NOTICE_TX_SEND (R423): NOTICE_TX_CMD send sends the staged peer notice, or applies it locally. -/
  | noticeTxSend (t : Nat) (value : Word)
  /-- NUMERICS_MODE_WRITE (R248): A NUMERICS_MODE write schedules a mode from a step for the affected contexts, or is refused. -/
  | numericsModeWrite (t : Nat) (value : Word)
  /-- GROUP_OPEN (R298): GROUP_CMD OPEN opens a group with a validated program and the staged parameters. -/
  | groupOpen (t : Nat)
  /-- GROUP_PARAMS (R298): GROUP_CMD PARAMS applies the staged parameters from a given step. -/
  | groupParams (t : Nat)
  /-- GROUP_CLOSE (R298): GROUP_CMD CLOSE frees a group that no slot names. -/
  | groupClose (t : Nat)
  /-- MEM_CRC_RETRY_EXHAUSTED (R431): A GDDR access fails its fifth CRC attempt; it is held and an out-of-turn retrain is scheduled. -/
  | memCrcRetryExhausted (t : Nat) (access : CrcAccess)
  /-- MEM_RETRAIN_ABANDONED (R445): A retrain has not converged at 2 µs, so the old settings are kept; the third in a row loses the port. -/
  | memRetrainAbandoned (t : Nat) (port : Nat)
  /-- CE_THRESHOLD_EXCEEDED (R447): A port's corrected count in the window exceeds ce_threshold, so the package goes out of service. -/
  | ceThresholdExceeded (t : Nat) (port : Nat)
  /-- CE_WINDOW_EXPIRE (R447): A corrected-error window of ce_window_s ends and a new count starts. -/
  | ceWindowExpire (t : Nat) (port : Nat)
  /-- SRAM_SCRUB (R457): The 2 s background scrub of an on-die SRAM word comes due. -/
  | sramScrub (t : Nat) (found : SramFault)
  /-- MEM_INJECT_WRITE (R464): A MEM_INJECT write arms error injection for a granule while debug is unlocked. -/
  | memInjectWrite (t : Nat) (value : Word)
  /-- RESET_CMD_RESET (R472): RESET_CMD cmd 1 requests a reset of the named domain. -/
  | resetCmdReset (t : Nat) (unit : Nat)
  /-- RESET_CMD_FENCE (R489): RESET_CMD cmd 2 asserts a fence in compatibility mode. -/
  | resetCmdFence (t : Nat) (unit : Nat)
  /-- RESET_CMD_UNFENCE (R489): RESET_CMD cmd 3 lifts a fence. -/
  | resetCmdUnfence (t : Nat) (unit : Nat)
  /-- RESET_CMD_DUMP (R495): RESET_CMD cmd 4 triggers a crash dump. -/
  | resetCmdDump (t : Nat) (unit : Nat)
  /-- FENCE_DRAIN_TIMEOUT (R489): 20 µs after a fence, the requests still outstanding are answered FENCED and the reset runs. -/
  | fenceDrainTimeout (t : Nat) (unit : Nat)
  /-- DOMAIN_RESET_DONE (R471): A domain reset completes and the escalation counts are checked. -/
  | domainResetDone (t : Nat) (unit : Nat)
  /-- HANG_DETECTED (R480): A second consecutive overrun, or hang_strokes of strokes without progress, declares a hang and starts suspect handling and a reset. -/
  | hangDetected (t : Nat) (unit rule streak : Nat)
  /-- STRANDED_TASK_FAIL (R483): At the hang_strokes-th stranded boundary, the task and its dependants complete OUT_OF_SERVICE. -/
  | strandedTaskFail (t : Nat) (task : Nat)
  /-- WATCHDOG_EXPIRE (R472): The control-die firmware watchdog expires and resets the package with cause 0x08. -/
  | watchdogExpire (t : Nat)
  /-- DUMP_READ_TIMEOUT (R498): A dump read unanswered for 2 µs ends its section with a no-answer marker. -/
  | dumpReadTimeout (t : Nat) (kind unit : Nat)
  /-- CRASH_DUMP_COMPLETE (R498): The dump completes, CRASH_DUMP_DONE is logged and a notice is sent. -/
  | crashDumpComplete (t : Nat)
  /-- HOT_RESET (R507): A Hot Reset, Link Disable or link down resets the package with cause 0x01. -/
  | hotReset (t : Nat)
  /-- D3HOT_ENTRY (R507): Entry into D3hot stops host-facing activity while admitted work continues. -/
  | d3hotEntry (t : Nat)
  /-- D0_RETURN (R507): A return to D0 resumes host-facing activity without a reset. -/
  | d0Return (t : Nat)
  /-- APERTURE_READ (R511): A host read through a BAR2 aperture is translated and served or refused. -/
  | apertureRead (t : Nat) (aperture offset len : Nat)
  /-- APERTURE_WRITE (R511): A host write through a BAR2 aperture is stored or discarded. -/
  | apertureWrite (t : Nat) (aperture offset : Nat) (data : Bytes)
  /-- HOST_READ_COMPLETION (R506): A package read of host memory completes, with an error handled by kind. -/
  | hostReadCompletion (t : Nat) (kind : HostRead) (bad : Bool)
  /-- HOST_READ_TIMEOUT (R506): A package read of host memory has no completion after 50 ms. -/
  | hostReadTimeout (t : Nat) (kind : HostRead)
  /-- REGISTER_WRITE (R13): A write to a BAR0 register without a row of its own is applied, or discarded and logged. -/
  | registerWrite (t : Nat) (offset enables : Nat) (value : Word)
  /-- BAR0_BAD_READ (R13): A BAR0 read of a bad size or alignment completes with Completer Abort. -/
  | bar0BadRead (t : Nat)
  /-- FIRMWARE_LOAD (R522): Easel FIRMWARE_LOAD verifies an image and writes it to the inactive flash slot. -/
  | firmwareLoad (t : Nat) (tag : Nat) (image : Bytes)
  /-- PLAN_LOAD (R415): Easel PLAN_LOAD checks and installs a plan and treats each port accordingly. -/
  | planLoad (t : Nat) (tag : Nat) (image : Bytes)
  /-- TABLE_LOAD (R520): Easel TABLE_LOAD reads, checks and writes a route-table bank. -/
  | tableLoad (t : Nat) (tag : Nat) (image : Bytes)
  /-- GESSO (R455): Easel GESSO fills device physical ranges with a pattern and valid checks. -/
  | gesso (t : Nat) (tag : Nat) (ranges : Bytes)
  /-- SCRUB_SWEEP (R521): Easel SCRUB_SWEEP scrubs named ranges at once. -/
  | scrubSweep (t : Nat) (tag : Nat) (ranges : Bytes)
  /-- PORT_RETRAIN (R523): Easel PORT_RETRAIN retrains one memory port outside the slot. -/
  | portRetrain (t : Nat) (tag : Nat)
  /-- SELF_TEST (R524): Easel SELF_TEST repeats the checker self-test. -/
  | selfTest (t : Nat) (tag : Nat)
  /-- EASEL_CRASH_DUMP (R525): Easel CRASH_DUMP takes a dump or copies the retained buffer. -/
  | easelCrashDump (t : Nat) (tag : Nat)
  /-- EASEL_OP_END (R517): An Easel operation ends: its results and code are written and the vector is raised. -/
  | easelOpEnd (t : Nat) (result : EaselResult)
  /-- EASEL_TIMEOUT (R517): An Easel operation passes its bound and ends with TIMEOUT. -/
  | easelTimeout (t : Nat) (done : Nat)
  /-- PWR_GOOD_ASSERT (R531): The assertion of PWR_GOOD checks the rails and starts bring-up. -/
  | pwrGoodAssert (t : Nat) (low : Option Nat) (board : BoardPins)
  /-- BRINGUP_STEP_DONE (R555): A bring-up step completes and the next begins; after step 10 DEVICE_READY rises. -/
  | bringupStepDone (t : Nat) (result : StepResult)
  /-- PWR_GOOD_DEASSERT (R532): PWR_GOOD falls: the clocks stop and the dies are held in reset. -/
  | pwrGoodDeassert (t : Nat)
  /-- SUPPLY_WARN (R535): A rail falls below its warning threshold and the core clocks are stretched. -/
  | supplyWarn (t : Nat) (rail mv : Nat)
  /-- STRETCH_RELEASE (R535): 10 µs after the last rail recovers, the stretch ends. -/
  | stretchRelease (t : Nat)
  /-- SUPPLY_RESET (R536): A rail below its reset threshold resets the package with cause 0x06. -/
  | supplyReset (t : Nat) (level : RailLevel)
  /-- SUPPLY_RESET_HOLD_END (R536): The rails have stayed above warning for 1 ms, so bring-up restarts from step 2. -/
  | supplyResetHoldEnd (t : Nat)
  /-- THERMAL_SAMPLE (R538): The 10 µs sensor sample is compared with the warn, throttle and trip levels. -/
  | thermalSample (t : Nat) (dies : List (List Int)) (devices : List Nat)
  /-- THROTTLE_STEP (R605): Every 1 ms while throttling or releasing, the core clock moves by 100 MHz. -/
  | throttleStep (t : Nat) (die : Nat)
  /-- POWER_CMD_OFF (R539): POWER_CMD power-off with the key halts the package and asserts PWR_OFF_REQ_N. -/
  | powerCmdOff (t : Nat)
  /-- REFCLK_LOST (R541): A reference off-frequency for 1 µs is declared lost, with its effects. -/
  | refclkLost (t : Nat) (ref : Nat)
  /-- REFCLK_RESTORED (R541): A reference within 0.1% for 1 ms is declared restored. -/
  | refclkRestored (t : Nat) (ref : Nat)
  /-- OSC_TRIM_UPDATE (R542): The periodic trim of CLK_MGMT from its best source comes due. -/
  | oscTrimUpdate (t : Nat) (correction : Int)
  /-- CLK_CORE_CFG_WRITE (R547): A write of CLK_CORE_CFG starts, or holds, a core clock change. -/
  | clkCoreCfgWrite (t : Nat) (die : Nat) (value : Word)
  /-- AVS_SETPOINT_REACHED (R547): A raised VDD_CG setpoint has been reached, so the PLL is programmed. -/
  | avsSetpointReached (t : Nat) (die : Nat)
  /-- PLL_LOCK_DONE (R547): The new PLL locks and the clock switches to it. -/
  | pllLockDone (t : Nat) (die : Nat)
  /-- PLL_UNLOCK (R550): The PLL in use loses lock, the die's clock stops and the other PLL is programmed. -/
  | pllUnlock (t : Nat) (pll : Nat)
  /-- PLL_RELOCK_TIMEOUT (R550): The other PLL has not locked within 100 µs, so the clock stays stopped. -/
  | pllRelockTimeout (t : Nat) (die : Nat)
  /-- CLK_FAB_CFG_WRITE (R546): A CLK_FAB_CFG write switches the fabric clock when no context or port is active. -/
  | clkFabCfgWrite (t : Nat) (value : Word)
  /-- CLK_GATE_ON (R552): CLK_GATE_CMD ON ungates a unit, clears its hold and turns on its ancestors. -/
  | clkGateOn (t : Nat) (unit : Nat)
  /-- CLK_GATE_OFF (R552): CLK_GATE_CMD OFF gates a unit not in use, or is refused with GATE_REFUSED. -/
  | clkGateOff (t : Nat) (unit : Nat)
  /-- CLK_GATE_HOLD (R552): CLK_GATE_CMD HOLD stops new placement on a unit. -/
  | clkGateHold (t : Nat) (unit : Nat)
  /-- PERST_N_ASSERT (R622): An assertion of PERST_N after DEVICE_READY resets the package once. -/
  | perstAssert (t : Nat)
  /-- PERST_N_DEASSERT (R622): The deassertion of PERST_N starts bring-up. -/
  | perstDeassert (t : Nat)
  /-- METER_SAMPLE (R559): Each crystal-derived sample integrates the rails' power into the energy register. -/
  | meterSample (t : Nat) (rails : List (Nat × Nat))
  /-- METER_INTERVAL_BOUNDARY (R564): At an interval boundary, the meter closes the interval and writes a signed record. -/
  | meterIntervalBoundary (t : Nat)
  /-- METER_SECOND_CHECK (R563): The once-per-second check of the crystal and vote of the calibration copies runs. -/
  | meterSecondCheck (t : Nat) (crystal : Bool) (differ : Nat)
  /-- VDD_MET_FALL (R570): VDD_MET below 3.0 V closes the interval and stores the meter state. -/
  | vddMetFall (t : Nat)
  /-- VDD_MET_RETURN (R570): VDD_MET returns and meter time resumes with an interrupted interval. -/
  | vddMetReturn (t : Nat)
  /-- MET_CAL_EN_ASSERT (R572): MET_CAL_EN_N held asserted for 10 ms unseals the varnish. -/
  | metCalEnAssert (t : Nat)
  /-- CAL_BANK_WRITE (R573): A calibration set is written to the next bank and verified, or the bank is spoiled. -/
  | calBankWrite (t : Nat) (set : CalSet)
  /-- SEAL (R574): A signed SEAL command reseals the varnish from the next boundary, or is refused. -/
  | seal (t : Nat) (signature : Bytes)
  /-- INTERVAL_LENGTH_REQUEST (R579): A valid interval length write takes effect at the end of the current interval. -/
  | intervalLengthRequest (t : Nat) (select length : Option Nat)
  /-- ENERGY_READOUT_LATCH (R577): A readout beginning at 0x0010 latches energy and time at one instant. -/
  | energyReadoutLatch (t : Nat) (read : MeterRead)
  /-- METER_SNAPSHOT (R580): A 10 µs meter snapshot or new record reaches the mirror. -/
  | meterSnapshot (t : Nat)
  /-- MIRROR_STALE_TIMEOUT (R582): No snapshot for 1 ms sets stale and logs METER_MIRROR_STALE. -/
  | mirrorStaleTimeout (t : Nat)
  /-- COMMIT_VERSION (R588): SEC_CMD COMMIT_VERSION raises the fused security version and revokes key slots. -/
  | commitVersion (t : Nat)
  /-- DEBUG_UNLOCK (R593): SEC_CMD DEBUG_UNLOCK verifies a token and opens its scope, consuming the nonce. -/
  | debugUnlock (t : Nat) (token : Bytes)
  /-- DEBUG_LOCK (R593): SEC_CMD DEBUG_LOCK closes every debug scope. -/
  | debugLock (t : Nat)
  /-- PT_INVALIDATE (R597): A PT_INVALIDATE write drops cached translations of a context or of all contexts. -/
  | ptInvalidate (t : Nat) (value : Word)
  /-- GET_VERSION (R590): The SPDM GET_VERSION request is answered. -/
  | getVersion (t : Nat) (transport : Nat) (request : Bytes)
  /-- GET_CAPABILITIES (R590): The SPDM GET_CAPABILITIES request is answered. -/
  | getCapabilities (t : Nat) (transport : Nat) (request : Bytes)
  /-- NEGOTIATE_ALGORITHMS (R590): The SPDM NEGOTIATE_ALGORITHMS request selects P-384 with SHA-384. -/
  | negotiateAlgorithms (t : Nat) (transport : Nat) (request : Bytes)
  /-- GET_DIGESTS (R590): The SPDM GET_DIGESTS request returns the certificate chain digest. -/
  | getDigests (t : Nat) (transport : Nat) (request : Bytes)
  /-- GET_CERTIFICATE (R590): The SPDM GET_CERTIFICATE request returns slot 0's chain. -/
  | getCertificate (t : Nat) (transport : Nat) (request : Bytes)
  /-- CHALLENGE (R590): The SPDM CHALLENGE request is answered with an alias-key signature. -/
  | challenge (t : Nat) (transport : Nat) (request : Bytes)
  /-- GET_MEASUREMENTS (R591): The SPDM GET_MEASUREMENTS request returns the five measurement blocks. -/
  | getMeasurements (t : Nat) (transport : Nat) (request : Bytes)
  /-- SPDM_UNSUPPORTED_REQUEST (R590): Any other SPDM request is answered with UnsupportedRequest. -/
  | spdmUnsupportedRequest (t : Nat) (transport : Nat)
  /-- SIDEBAND_STATUS (R601): The sideband STATUS command returns the bring-up, reset, out-of-service and thermal status. -/
  | sidebandStatus (t : Nat)
  /-- SIDEBAND_LOG_READ (R601): The sideband LOG_READ command returns up to 15 event records. -/
  | sidebandLogRead (t : Nat) (seq count : Nat)
  /-- SIDEBAND_REG_READ (R601): The sideband REG_READ command returns one BAR0 register. -/
  | sidebandRegRead (t : Nat) (offset : Nat)
  /-- SIDEBAND_DUMP_READ (R601): The sideband DUMP_READ command returns 1 KiB of the retained dump. -/
  | sidebandDumpRead (t : Nat) (offset : Nat)
  /-- SIDEBAND_RESET (R601): The sideband RESET command resets a unit with cause 0x02. -/
  | sidebandReset (t : Nat) (unit : Nat)
  /-- SIDEBAND_POWER_OFF (R601): The sideband POWER_OFF command powers the package off with source 2. -/
  | sidebandPowerOff (t : Nat)
  /-- ESC_CLEAR (R486): The sideband ESC_CLEAR command clears the held OUT_OF_SERVICE state. -/
  | escClear (t : Nat)
  /-- SIDEBAND_CRASH_DUMP (R601): The sideband CRASH_DUMP command triggers a dump. -/
  | sidebandCrashDump (t : Nat)
  /-- PLDM_BASE_DISCOVERY (R602): A PLDM type 0 discovery request is answered. -/
  | pldmBaseDiscovery (t : Nat)
  /-- PLDM_SENSOR_READ (R602): A PLDM type 2 sensor request returns a temperature, rail state or power reading. -/
  | pldmSensorRead (t : Nat) (sensor : Nat)
  /-- PLDM_FIRMWARE_UPDATE (R602): A PLDM type 5 update verifies an image and writes it to the inactive slot. -/
  | pldmFirmwareUpdate (t : Nat) (image : Bytes)
  /-- MCTP_SET_ENDPOINT_ID (R600): The MCTP control Set Endpoint ID command assigns the endpoint ID. -/
  | mctpSetEndpointId (t : Nat) (message : MctpControl)
  /-- SIDEBAND_ADDRESS_ASSIGN (R599): ENTDAA, SETDASA or a first I2C access sets the sideband mode and address. -/
  | sidebandAddressAssign (t : Nat) (dynamic : Option Nat)
  /-- VDD_CTL_APPLIED (R469): The application of VDD_CTL starts package time at 0, starts the event-log sequence at 1 and brings up the standby domain. -/
  | vddCtlApplied (t : Nat)
  /-- RAIL_RETURNS_ABOVE_WARNING (R535): A rail that dipped below warning returns above it, which clears its below-warning status and starts or restarts the 10 µs stretch release. -/
  | railReturnsAboveWarning (t : Nat) (rail mv : Nat)
  /-- CONFIGURATION_REQUEST (R512): A PCI Express configuration request is retried before DEVICE_READY, or served afterwards, including writes such as clearing the MSI-X function mask that send pending messages. -/
  | configurationRequest (t : Nat) (request : ConfigReq)
  /-- MET_CAL_EN_DEASSERT (R572): MET_CAL_EN_N is deasserted, so the calibration port stops answering, and a later assertion can be taken as a fresh assertion. -/
  | metCalEnDeassert (t : Nat)
  /-- FIRMWARE_UPDATE_END (R522): A sideband firmware update that is writing the flash ends, and a FIRMWARE_LOAD that was waiting for it proceeds, with its bound running from then. -/
  | firmwareUpdateEnd (t : Nat)
  deriving DecidableEq, Repr

end Sys2Proof
end

