-- ==== Sys2Proof/Machine/Bits.lean ====
section
/-! DEFINITION. Bit fields, sign extension and byte order: every multi-byte field is little-endian (R11), and a bit range [hi:lo] includes both ends (R10). -/

namespace Sys2Proof.Machine

/-- Bits [hi:lo] of a natural number (R10). -/
def nbits (x hi lo : Nat) : Nat := (x >>> lo) % 2 ^ (hi + 1 - lo)

/-- Bits [hi:lo] of a word, as a number (R10). -/
def fld {n : Nat} (x : BitVec n) (hi lo : Nat) : Nat := nbits x.toNat hi lo

/-- Bit `i` of a word. -/
def bitAt {n : Nat} (x : BitVec n) (i : Nat) : Bool := x.getLsbD i

/-- `x` with bits [hi:lo] replaced by the low bits of `v`. -/
def setFld {n : Nat} (x : BitVec n) (hi lo v : Nat) : BitVec n :=
  let mask := BitVec.ofNat n ((2 ^ (hi + 1 - lo) - 1) <<< lo)
  (x &&& ~~~mask) ||| (BitVec.ofNat n (v <<< lo) &&& mask)

/-- A number's low `w` bits read as a two's-complement integer. -/
def sext (w v : Nat) : Int :=
  let u := v % 2 ^ w
  if u < 2 ^ (w - 1) then (u : Int) else (u : Int) - (2 ^ w : Nat)

/-- An integer's two's-complement encoding in `w` bits. -/
def ofInt (w : Nat) (i : Int) : Nat := (i % ((2 ^ w : Nat) : Int)).toNat

/-- The `n` bytes of a number, byte 0 first (R11). -/
def leBytes : Nat → Nat → Bytes
  | 0, _ => []
  | n + 1, v => BitVec.ofNat 8 v :: leBytes n (v >>> 8)

/-- The number that bytes spell, byte 0 lowest (R11). -/
def leNat : Bytes → Nat
  | [] => 0
  | b :: bs => b.toNat + 256 * leNat bs

/-- `n` bytes starting at offset `o`; bytes beyond the end read 0. -/
def slice (bs : Bytes) (o n : Nat) : Bytes :=
  let t := (bs.drop o).take n
  t ++ List.replicate (n - t.length) 0

/-- The `n`-byte field at byte offset `o` of a structure (R11). -/
def le (bs : Bytes) (o n : Nat) : Nat := leNat ((bs.drop o).take n)

/-- Whether every byte of bytes [o, o+n) of a structure is zero (the reserved-field rule, R15). -/
def zeros (bs : Bytes) (o n : Nat) : Bool := le bs o n == 0

/-- Cuts a list of bytes into pieces of `n` (fuel: how many pieces at most). -/
def chunk {α : Type} : Nat → Nat → List α → List (List α)
  | 0, _, _ => []
  | f + 1, n, bs => if bs.isEmpty then [] else bs.take n :: chunk f n (bs.drop n)

/-- The lowest `n` numbers from `a` up. -/
def upto (a n : Nat) : List Nat := (List.range n).map (a + ·)

/-- The bits of a list of bytes from bit `o` up, `w` of them, as a number: packed elements (R96). -/
def bitsAt (bs : Bytes) (o w : Nat) : Nat :=
  nbits (le bs (o / 8) ((o % 8 + w + 7) / 8)) (o % 8 + w - 1) (o % 8)

/-- Packs elements of `w` bits without gaps, in ascending index from bit 0 of byte 0 upward (R96). -/
def packNat (w : Nat) : List Nat → Nat
  | [] => 0
  | x :: xs => x % 2 ^ w + (packNat w xs) <<< w

/-- The packed bytes of `w`-bit elements, the last byte filled with zeros (R96). -/
def packBytes (w : Nat) (xs : List Nat) : Bytes := leBytes ((w * xs.length + 7) / 8) (packNat w xs)

/-- The `n` elements of `w` bits that bytes hold (R96). -/
def unpack (w n : Nat) (bs : Bytes) : List Nat :=
  let v := leNat bs
  (List.range n).map fun i => nbits v (i * w + w - 1) (i * w)

/-- Whether a number is a multiple of `a`. -/
def aligned (a x : Nat) : Bool := x % a == 0

/-- `⌈a / b⌉`. -/
def ceilDiv (a b : Nat) : Nat := (a + b - 1) / b

end Sys2Proof.Machine
end

