-- ==== Sys2Proof/Machine/Ecdsa.lean ====
section
/-! DEFINITION. The meter's signature: SHA-256, ECDSA over P-256, and the deterministic nonce of RFC 6979, as the standards that R567 names define them. -/

namespace Sys2Proof.Machine

/-! ### SHA-256 (FIPS 180-4) -/

/-- The eight working words. -/
structure Sha256 where
  (a b c d e f g h : BitVec 32)
  deriving DecidableEq, Repr

def Sha256.start : Sha256 := ⟨0x6a09e667, 0xbb67ae85, 0x3c6ef372, 0xa54ff53a, 0x510e527f, 0x9b05688c, 0x1f83d9ab, 0x5be0cd19⟩

/-- The round constants. -/
def sha256K : List (BitVec 32) :=
  [0x428a2f98, 0x71374491, 0xb5c0fbcf, 0xe9b5dba5, 0x3956c25b, 0x59f111f1, 0x923f82a4, 0xab1c5ed5,
   0xd807aa98, 0x12835b01, 0x243185be, 0x550c7dc3, 0x72be5d74, 0x80deb1fe, 0x9bdc06a7, 0xc19bf174,
   0xe49b69c1, 0xefbe4786, 0x0fc19dc6, 0x240ca1cc, 0x2de92c6f, 0x4a7484aa, 0x5cb0a9dc, 0x76f988da,
   0x983e5152, 0xa831c66d, 0xb00327c8, 0xbf597fc7, 0xc6e00bf3, 0xd5a79147, 0x06ca6351, 0x14292967,
   0x27b70a85, 0x2e1b2138, 0x4d2c6dfc, 0x53380d13, 0x650a7354, 0x766a0abb, 0x81c2c92e, 0x92722c85,
   0xa2bfe8a1, 0xa81a664b, 0xc24b8b70, 0xc76c51a3, 0xd192e819, 0xd6990624, 0xf40e3585, 0x106aa070,
   0x19a4c116, 0x1e376c08, 0x2748774c, 0x34b0bcb5, 0x391c0cb3, 0x4ed8aa4a, 0x5b9cca4f, 0x682e6ff3,
   0x748f82ee, 0x78a5636f, 0x84c87814, 0x8cc70208, 0x90befffa, 0xa4506ceb, 0xbef9a3f7, 0xc67178f2]

/-- One round with its constant and its word of the schedule. -/
def Sha256.round (x : Sha256) (k w : BitVec 32) : Sha256 :=
  let s1 := x.e.rotateRight 6 ^^^ x.e.rotateRight 11 ^^^ x.e.rotateRight 25
  let t1 := x.h + s1 + ((x.e &&& x.f) ^^^ (~~~x.e &&& x.g)) + k + w
  let s0 := x.a.rotateRight 2 ^^^ x.a.rotateRight 13 ^^^ x.a.rotateRight 22
  let t2 := s0 + ((x.a &&& x.b) ^^^ (x.a &&& x.c) ^^^ (x.b &&& x.c))
  ⟨t1 + t2, x.a, x.b, x.c, x.d + t1, x.e, x.f, x.g⟩

/-- A number as `n` bytes, the most significant first, and back. -/
def beBytes (n v : Nat) : Bytes := (leBytes n v).reverse
def beNat (b : Bytes) : Nat := b.foldl (fun v x => 256 * v + x.toNat) 0

/-- The 64 words of a block's schedule. -/
def sha256Words (block : Bytes) : List (BitVec 32) :=
  (List.range 48).foldl (fun (w : List (BitVec 32)) i =>
    let x := w.getD (i + 1) 0
    let y := w.getD (i + 14) 0
    let s0 := x.rotateRight 7 ^^^ x.rotateRight 18 ^^^ (x >>> 3)
    let s1 := y.rotateRight 17 ^^^ y.rotateRight 19 ^^^ (y >>> 10)
    w ++ [w.getD i 0 + s0 + w.getD (i + 9) 0 + s1]) ((chunk 16 4 block).map fun c => BitVec.ofNat 32 (beNat c))

def Sha256.block (x : Sha256) (b : Bytes) : Sha256 :=
  let y := (sha256K.zip (sha256Words b)).foldl (fun x kw => x.round kw.1 kw.2) x
  ⟨x.a + y.a, x.b + y.b, x.c + y.c, x.d + y.d, x.e + y.e, x.f + y.f, x.g + y.g, x.h + y.h⟩

/-- SHA-256 of bytes, 32 bytes. -/
def sha256 (m : Bytes) : Bytes :=
  let p := m ++ (0x80 : Byte) :: List.replicate ((119 - m.length % 64) % 64) 0 ++ beBytes 8 (8 * m.length)
  let x := (chunk (p.length / 64) 64 p).foldl Sha256.block Sha256.start
  [x.a, x.b, x.c, x.d, x.e, x.f, x.g, x.h].flatMap fun w => beBytes 4 w.toNat

/-- HMAC-SHA256 with a key of at most 64 bytes (FIPS 198-1). -/
def hmacSha256 (k m : Bytes) : Bytes :=
  let k := k ++ List.replicate (64 - k.length) 0
  sha256 ((k.map (· ^^^ 0x5C)) ++ sha256 ((k.map (· ^^^ 0x36)) ++ m))

/-! ### P-256 (FIPS 186-5) -/

def P256.p : Nat := 0xFFFFFFFF00000001000000000000000000000000FFFFFFFFFFFFFFFFFFFFFFFF
def P256.n : Nat := 0xFFFFFFFF00000000FFFFFFFFFFFFFFFFBCE6FAADA7179E84F3B9CAC2FC632551

/-- A point of the curve in affine form; none is the point at infinity. -/
abbrev P256.Point := Option (Nat × Nat)

def P256.g : P256.Point := some
  (0x6B17D1F2E12C4247F8BCE6E563A440F277037D812DEB33A0F4A13945D898C296, 0x4FE342E2FE1A7F9B8EE7EB4A7C0F9E162BCE33576B315ECECBB6406837BF51F5)

/-- A power modulo m, by the 256 bits of the exponent, the highest first. -/
def powMod (m b e : Nat) : Nat :=
  (List.range 256).foldl (fun r i => if e.testBit (255 - i) then r * r % m * b % m else r * r % m) 1

/-- The inverse modulo a prime (Fermat). -/
def invMod (m a : Nat) : Nat := powMod m a (m - 2)

/-- The third point on the line of slope `l` through two points, mirrored. -/
def P256.third (l x1 y1 x2 : Nat) : P256.Point :=
  let x := (l * l + 2 * P256.p - x1 - x2) % P256.p
  some (x, (l * (x1 + P256.p - x) + P256.p - y1) % P256.p)

/-- The sum of two points of y² = x³ − 3x + b. -/
def P256.add : P256.Point → P256.Point → P256.Point
  | none, q => q
  | q, none => q
  | some (x1, y1), some (x2, y2) =>
    if x1 = x2 then
      if y1 = y2 ∧ y1 ≠ 0 then P256.third ((3 * x1 * x1 + P256.p - 3) * invMod P256.p (2 * y1) % P256.p) x1 y1 x2 else none
    else P256.third ((y2 + P256.p - y1) * invMod P256.p (x2 + P256.p - x1) % P256.p) x1 y1 x2

/-- A multiple of a point, by the 256 bits of the factor. -/
def P256.mul (k : Nat) (q : P256.Point) : P256.Point :=
  (List.range 256).foldl (fun r i =>
    let r := P256.add r r
    if k.testBit (255 - i) then P256.add r q else r) none

/-- The public key of a secret one. -/
def P256.publicKey (d : Nat) : Nat × Nat := (P256.mul d P256.g).getD (0, 0)

/-! ### The signature (FIPS 186-5, RFC 6979) -/

/-- r and s of a hash value under a nonce; none where the nonce does not serve. -/
def P256.signWith (d z k : Nat) : Option (Nat × Nat) :=
  if k = 0 ∨ k ≥ P256.n then none
  else
    let r := ((P256.mul k P256.g).getD (0, 0)).1 % P256.n
    let s := invMod P256.n k * (z + r * d) % P256.n
    if r = 0 ∨ s = 0 then none else some (r, s)

/-- The nonces of RFC 6979 tried in order until one serves (fuel: the tries). -/
def P256.tryNonces (d z : Nat) : Nat → Bytes → Bytes → Nat × Nat
  | 0, _, _ => (0, 0)
  | fuel + 1, key, v =>
    let v := hmacSha256 key v
    match P256.signWith d z (beNat v) with
    | some rs => rs
    | none =>
      let key := hmacSha256 key (v ++ [0])
      P256.tryNonces d z fuel key (hmacSha256 key v)

/-- r and s of a message under a secret key. -/
def P256.sign (d : Nat) (m : Bytes) : Nat × Nat :=
  let h := sha256 m
  let z := beNat h
  let seed := beBytes 32 d ++ beBytes 32 (z % P256.n)
  let v := List.replicate 32 (1 : Byte)
  let key := hmacSha256 (List.replicate 32 0) (v ++ [0] ++ seed)
  let v := hmacSha256 key v
  let key := hmacSha256 key (v ++ [1] ++ seed)
  P256.tryNonces d z 256 key (hmacSha256 key v)

/-- The 64 bytes of a record's signature: r and s as 32-byte integers, little-endian (R567). -/
def P256.signature (d : Nat) (m : Bytes) : Bytes :=
  let rs := P256.sign d m
  leBytes 32 rs.1 ++ leBytes 32 rs.2

end Sys2Proof.Machine
end

