-- ==== Sys2Proof/Config.lean ====
section
/-! DEFINITION. The free values: constants with no body, so that no proof can see what they are. Each stands for a value that the spec leaves open; the assumption log names the entry. -/

namespace Sys2Proof

/-- The result of a built-in function (EXP 0, EXP2 1, LN 2, LOG2 3, TANH 4, SIGMOID 5) of a finite FP32 operand, taken where it is within the two units in the last place that R144 allows (log entry 3). -/
opaque Config.builtin : Nat → BitVec 32 → BitVec 32

/-- The sticky flags, as five bits, that a built-in function raises on such an operand (log entry 3). -/
opaque Config.builtinFlags : Nat → BitVec 32 → BitVec 5

/-- The segment of a function table that an index value selects whose integer part no 32-bit number holds (R146; log entry 122). -/
opaque Config.segment : BitVec 32 → Nat

/-- The set that the statistics store's fixed hash gives a context, tag and row (R152; log entry 4). -/
opaque Config.statSet : Nat → Nat → Nat → BitVec 11

/-- Further cycles of one repeat in which two slots write the same byte (R133; log entry 6), by the free-value counter. -/
opaque Config.clashCycles : Nat → Nat

/-- The bytes of a crash dump's section bodies, whose layout R497 does not give (log entry 7): by the free-value counter at the dump, section kind, unit code and byte. -/
opaque Config.dumpByte : Nat → Nat → Nat → Nat → Byte

/-! Cryptography and identity: the spec names the algorithms and does not define their values (log entry 8). -/

/-- SHA-384 of bytes, as 48 bytes. -/
opaque Config.sha384 : Bytes → Bytes

/-- Whether an ECDSA P-384 signature verifies: public key, message, signature. -/
opaque Config.ecdsa384 : Bytes → Bytes → Bytes → Bool

/-- The key hash that the fuses hold for a firmware key slot. -/
opaque Config.keyHash : Nat → Bytes

/-- Whether the signature of a debug token verifies under the debug key of the fuses: message, signature. -/
opaque Config.debugSig : Bytes → Bytes → Bool

/-- DEBUG_NONCE, by the number of the draw. -/
opaque Config.nonce : Nat → Word

/-- The device identity key that R589 derives from the identity secret, and the alias key that it derives from the secret and the SHA-384 of the running image. -/
opaque Config.identityKey : Nat → Nat
opaque Config.aliasKey : Nat → Bytes → Nat

/-- The ECDSA P-384 public key of a private one, and a signature of a message under it. -/
opaque Config.p384Public : Nat → Bytes
opaque Config.ecdsa384Sign : Nat → Bytes → Bytes

/-- The manufacturing root's certificate, the identity key's in the control die's OTP, and the body of the alias key's certificate, which the identity key signs: of the public keys (R589). -/
opaque Config.rootCert : Bytes
opaque Config.identityCert : Bytes → Bytes
opaque Config.aliasCertBody : Bytes → Bytes

/-- The bytes of SPDM responses that the responder chooses: CT exponent and buffer sizes, by response code; and its nonces, by the number of the draw. -/
opaque Config.spdmOpen : Nat → Bytes
opaque Config.spdmNonce : Nat → Bytes

/-- The boot ROM version that measurement 1 covers. -/
opaque Config.romVersion : Bytes

/-- The meter's signing key, generated at manufacture (R567): a number below the order of P-256. -/
opaque Config.meterKey : Nat

/-- The calibration constants that the factory wrote to bank 0 (R573). -/
opaque Config.factoryCal : Bytes

/-- Whether a SEAL signature of the calibration authority verifies: message, signature. -/
opaque Config.sealSig : Bytes → Bytes → Bool

/-- The bytes of the meter's readout at addresses that R578 lists without a value: ROM version, type identifier, certificate. -/
opaque Config.meterByte : Nat → Byte

/-! Implementation and board values. -/

/-- The VDD_CG setpoint, in 5 mV units, that a compute die's fuses give for a core clock in MHz (R529; log entry 9). -/
opaque Config.setpoint : Nat → Nat → Nat

/-- The VDD_CS setpoint that the package applies at bring-up step 4 (R529; log entry 9): its step of 5 mV within the range of R527. -/
opaque Config.csSetpoint : Nat

/-- Which of R19's failure codes BRINGUP_STATUS holds after a failed step whose code no rule gives (R553, R556; log entry 10). -/
opaque Config.stepChoice : Nat → Nat

/-- A dword of PCI Express configuration space whose value R503 does not give (log entry 11): vendor and device identifiers, link status, equalisation and margining registers. -/
opaque Config.configSpace : Nat → BitVec 32

/-- How far a running Easel operation has come, by op and package time, where EASEL_PROGRESS is read before it ends (R515; log entry 128). -/
opaque Config.easelDone : Nat → Nat → Nat

end Sys2Proof
end

