-- ==== Sys2Proof/Machine/Mem.lean ====
section
/-! DEFINITION. Byte memory in one canonical form: addresses strictly rising, and no entry equal to what an unlisted address reads as. Palettes, cluster memories, table memories and the GDDR contents are held so. -/

namespace Sys2Proof.Machine

/-- A byte memory: the listed bytes, addresses rising. -/
abbrev Memory := List Host.Cell

/-- What an unlisted address reads as (R135 and R454: a line or granule nothing has written carries zero bytes; whether it may be read is the written and valid sets' matter). -/
def Memory.blank : Byte := 0

/-- One byte. -/
def Memory.read : Memory → Nat → Byte
  | [], _ => Memory.blank
  | (k, v) :: t, a => if k = a then v else Memory.read t a

/-- One byte written, keeping the canonical form. -/
def Memory.write : Memory → Nat → Byte → Memory
  | [], a, v => if v = Memory.blank then [] else [(a, v)]
  | (k, w) :: t, a, v =>
    if k = a then (if v = Memory.blank then t else (a, v) :: t)
    else if a < k then (if v = Memory.blank then (k, w) :: t else (a, v) :: (k, w) :: t)
    else (k, w) :: Memory.write t a v

/-- `n` bytes from address `a` up. -/
def Memory.readN (m : Memory) : Nat → Nat → Bytes
  | _, 0 => []
  | a, n + 1 => m.read a :: Memory.readN m (a + 1) n

/-- Bytes written from address `a` up. -/
def Memory.writeN (m : Memory) : Nat → Bytes → Memory
  | _, [] => m
  | a, b :: bs => Memory.writeN (m.write a b) (a + 1) bs

/-- Every listed byte in [lo, hi) dropped, so that the range reads blank. -/
def Memory.clear (m : Memory) (lo hi : Nat) : Memory := m.filter fun c => c.1 < lo || hi ≤ c.1

/-- The canonical form: addresses strictly rising, no blank entry. -/
def Memory.wf : Memory → Bool
  | [] => true
  | [(_, v)] => v != Memory.blank
  | (k, v) :: (k', v') :: t => v != Memory.blank && (decide (k < k')) && Memory.wf ((k', v') :: t)

/-- A sorted set of numbers: written lines, valid granules, poisoned granules. -/
abbrev NatSet := List Nat

/-- Membership. -/
def NatSet.mem (s : NatSet) (i : Nat) : Bool := s.contains i

/-- The set with an element, kept sorted. -/
def NatSet.ins : NatSet → Nat → NatSet
  | [], i => [i]
  | k :: t, i => if k = i then k :: t else if i < k then i :: k :: t else k :: NatSet.ins t i

/-- The set without an element. -/
def NatSet.del (s : NatSet) (i : Nat) : NatSet := s.filter (· ≠ i)

/-- The set with several elements. -/
def NatSet.insAll (s : NatSet) (is : List Nat) : NatSet := is.foldl NatSet.ins s

/-- The set without several elements. -/
def NatSet.delAll (s : NatSet) (is : List Nat) : NatSet := s.filter (fun i => !is.contains i)

/-- The `u`-byte units that bytes [a, a+n) touch. -/
def unitsOf (u a n : Nat) : List Nat :=
  if n = 0 then [] else upto (a / u) ((a + n - 1) / u - a / u + 1)

end Sys2Proof.Machine
end

