-- ==== Sys2Proof/Machine/Flags.lean ====
section
/-! DEFINITION. The sticky IEEE flags of a task (R105) and the status codes of outcomes (R19, R21). -/

namespace Sys2Proof.Machine

/-- The five sticky flags (R105). -/
structure Sticky where
  inv : Bool := false
  dz  : Bool := false
  of  : Bool := false
  uf  : Bool := false
  nx  : Bool := false
  deriving DecidableEq, Repr

/-- No flag. -/
def Sticky.none : Sticky := {}

/-- The flags of either side. -/
def Sticky.or (a b : Sticky) : Sticky :=
  ⟨a.inv || b.inv, a.dz || b.dz, a.of || b.of, a.uf || b.uf, a.nx || b.nx⟩

/-- Only the invalid flag. -/
def Sticky.invIf (b : Bool) : Sticky := { inv := b }

/-- The `ieee` byte of a completion record (R231). -/
def Sticky.toNat (s : Sticky) : Nat :=
  s.inv.toNat + 2 * s.dz.toNat + 4 * s.of.toNat + 8 * s.uf.toNat + 16 * s.nx.toNat

/-- The status codes (R19). -/
abbrev Code := Nat

def Code.ok : Code := 0x00
def Code.okEvents : Code := 0x01
def Code.invalidDescriptor : Code := 0x10
def Code.engineAbsent : Code := 0x11
def Code.contextClosed : Code := 0x12
def Code.generationStale : Code := 0x13
def Code.hangReset : Code := 0x20
def Code.suspectConvicted : Code := 0x21
def Code.nonfiniteSkipped : Code := 0x30
def Code.shardVersionMismatch : Code := 0x31
def Code.poisonedInput : Code := 0x32
def Code.recomputeExhausted : Code := 0x33
def Code.linkQuarantined : Code := 0x40
def Code.peerAbsent : Code := 0x41
def Code.layoutEpochStale : Code := 0x42
def Code.fenced : Code := 0x43
def Code.easelBusy : Code := 0x50
def Code.gateRefused : Code := 0x51
def Code.notReady : Code := 0x52
def Code.outOfService : Code := 0x60
def Code.timeout : Code := 0x61

/-- One task reports the numerically highest of its codes (R21). -/
def Code.worst (a b : Code) : Code := max a b

end Sys2Proof.Machine
end

