-- ==== Sys2Proof/Machine/Operands.lean ====
section
/-! DEFINITION. Number formats, exact values, rounding, conversions and IEEE arithmetic: every operand form that a unit reads or writes (R89 to R128). A value is kept exactly; each operation rounds once. -/

namespace Sys2Proof.Machine

/-! ### Exact values -/

/-- An exact value: a NaN (signalling or quiet), an infinity, or (−1)^neg × m × 2^e. -/
inductive Num where
  | nan (signalling : Bool)
  | inf (neg : Bool)
  | fin (neg : Bool) (m : Nat) (e : Int)
  deriving DecidableEq, Repr

/-- +0. -/
def Num.zero : Num := .fin false 0 0

/-- Whether a value is a NaN. -/
def Num.isNan : Num → Bool
  | .nan _ => true
  | _ => false

/-- Whether a value is a signalling NaN. -/
def Num.isSig : Num → Bool
  | .nan s => s
  | _ => false

/-- Whether a value is infinite. -/
def Num.isInf : Num → Bool
  | .inf _ => true
  | _ => false

/-- Whether a value is finite. -/
def Num.isFin : Num → Bool
  | .fin _ _ _ => true
  | _ => false

/-- Whether a value is ±0. -/
def Num.isZero : Num → Bool
  | .fin _ m _ => m == 0
  | _ => false

/-- A finite value times 2^k; an infinity and a NaN stay as they are. -/
def Num.scale (k : Int) : Num → Num
  | .fin s m e => .fin s m (e + k)
  | x => x

/-- The value with its sign flipped. -/
def Num.neg : Num → Num
  | .fin s m e => .fin (!s) m e
  | .inf s => .inf (!s)
  | x => x

/-- The magnitude. -/
def Num.abs : Num → Num
  | .fin _ m e => .fin false m e
  | .inf _ => .inf false
  | x => x

/-- Whether a value is +1. -/
def Num.isOne : Num → Bool
  | .fin false m e => decide (m ≠ 0 ∧ e ≤ 0 ∧ m = 2 ^ (-e).toNat)
  | _ => false

/-- An integer as an exact value. -/
def Num.ofInt (i : Int) : Num := .fin (decide (i < 0)) i.natAbs 0

/-- Two finite magnitudes on one exponent. -/
def alignMag (ma : Nat) (ea : Int) (mb : Nat) (eb : Int) : Nat × Nat × Int :=
  if ea ≤ eb then (ma, mb <<< (eb - ea).toNat, ea) else (ma <<< (ea - eb).toNat, mb, eb)

/-- The order of two values that are no NaN; −0 equals +0 (R107). -/
def Num.cmp (a b : Num) : Ordering :=
  match a, b with
  | .inf s, .inf t => if s == t then .eq else if s then .lt else .gt
  | .inf s, _ => if s then .lt else .gt
  | _, .inf t => if t then .gt else .lt
  | .fin s ma ea, .fin t mb eb =>
    let (x, y, _) := alignMag ma ea mb eb
    let i : Int := if s then -(x : Int) else x
    let j : Int := if t then -(y : Int) else y
    compare i j
  | _, _ => .eq

/-! ### Rounding -/

/-- The rounding modes (R116), DEFAULT already resolved. -/
inductive Rm where
  | rne | rna | rtz | rup | rdn | sr
  deriving DecidableEq, Repr

/-- The mode of a 3-bit field, `grad` saying whether DEFAULT resolves to SR (R116); none for the reserved code. -/
def Rm.ofCode (grad : Bool) : Nat → Option Rm
  | 0 => some (if grad then .sr else .rne)
  | 1 => some .rne
  | 2 => some .rna
  | 3 => some .rtz
  | 4 => some .rup
  | 5 => some .rdn
  | 6 => some .sr
  | _ => none

/-- Rounds m × 2^e to a multiple of 2^lsb: the multiple, and whether it is inexact. `u` is the 16-bit draw of SR (R124). -/
def roundAt (rm : Rm) (u : Nat) (neg : Bool) (m : Nat) (e lsb : Int) : Nat × Bool :=
  if lsb ≤ e then (m <<< (e - lsb).toNat, false)
  else
    let k := (lsb - e).toNat
    let q := m >>> k
    let r := m % 2 ^ k
    let half := 2 ^ (k - 1)
    let up : Bool :=
      match rm with
      | .rne => decide (r > half) || (r == half && q % 2 == 1)
      | .rna => decide (r ≥ half)
      | .rtz => false
      | .rup => r != 0 && !neg
      | .rdn => r != 0 && neg
      | .sr => decide (((r <<< 16) >>> k) + u % 2 ^ 16 ≥ 2 ^ 16)
    (if up then q + 1 else q, r != 0)

/-- Rounds a nonzero magnitude to `p` significant bits with no least significant place below `lsbMin`:
the significand, its place, and whether it is inexact. A carry into bit `p` is renormalised. -/
def roundSig (rm : Rm) (u : Nat) (neg : Bool) (m : Nat) (e : Int) (p : Nat) (lsbMin : Option Int) : Nat × Int × Bool :=
  let free : Int := e + (Nat.log2 m : Int) + 1 - p
  let lsb : Int := match lsbMin with
    | none => free
    | some l => max free l
  let (q, nx) := roundAt rm u neg m e lsb
  if q = 2 ^ p then (2 ^ (p - 1), lsb + 1, nx) else (q, lsb, nx)

/-! ### Formats -/

/-- What the top exponent field of a format encodes (R92). -/
inductive TopField where
  | ieee   -- infinities and NaNs
  | e4m3   -- numbers, and one NaN
  | finite -- numbers only
  deriving DecidableEq, Repr

/-- A floating-point format (R92). -/
structure FloatFmt where
  eb   : Nat
  fb   : Nat
  bias : Nat
  top  : TopField
  deriving DecidableEq, Repr

def fp64 : FloatFmt := ⟨11, 52, 1023, .ieee⟩
def fp32 : FloatFmt := ⟨8, 23, 127, .ieee⟩
def bf16 : FloatFmt := ⟨8, 7, 127, .ieee⟩
def fp16 : FloatFmt := ⟨5, 10, 15, .ieee⟩
def e4m3 : FloatFmt := ⟨4, 3, 7, .e4m3⟩
def e5m2 : FloatFmt := ⟨5, 2, 15, .ieee⟩
def e3m2 : FloatFmt := ⟨3, 2, 3, .finite⟩
def e2m3 : FloatFmt := ⟨2, 3, 1, .finite⟩
def e2m1 : FloatFmt := ⟨2, 1, 1, .finite⟩
/-- The accumulator format: 1 sign bit, 10 exponent bits of bias 511, 23 fraction bits (R110). -/
def accFmt : FloatFmt := ⟨10, 23, 511, .ieee⟩

/-- The width of an element in bits. -/
def FloatFmt.width (f : FloatFmt) : Nat := 1 + f.eb + f.fb

/-- The place of the last bit of a subnormal. -/
def FloatFmt.lsbMin (f : FloatFmt) : Int := 1 - (f.bias : Int) - f.fb

/-- The largest finite value, as a significand and its place (R92). -/
def FloatFmt.maxFin (f : FloatFmt) : Nat × Int :=
  match f.top with
  | .ieee => (2 ^ (f.fb + 1) - 1, (2 ^ f.eb - 2 : Nat) - (f.bias : Int) - f.fb)
  | .e4m3 => (2 ^ (f.fb + 1) - 2, (2 ^ f.eb - 1 : Nat) - (f.bias : Int) - f.fb)
  | .finite => (2 ^ (f.fb + 1) - 1, (2 ^ f.eb - 1 : Nat) - (f.bias : Int) - f.fb)

/-- An encoding from its sign, exponent field and fraction. -/
def FloatFmt.mk3 (f : FloatFmt) (s : Bool) (ef fr : Nat) : Nat :=
  (if s then 2 ^ (f.eb + f.fb) else 0) + ef * 2 ^ f.fb + fr

/-- The largest finite encoding. -/
def FloatFmt.maxBits (f : FloatFmt) (s : Bool) : Nat :=
  match f.top with
  | .ieee => f.mk3 s (2 ^ f.eb - 2) (2 ^ f.fb - 1)
  | .e4m3 => f.mk3 s (2 ^ f.eb - 1) (2 ^ f.fb - 2)
  | .finite => f.mk3 s (2 ^ f.eb - 1) (2 ^ f.fb - 1)

/-- The infinity encoding of an IEEE top field. -/
def FloatFmt.infBits (f : FloatFmt) (s : Bool) : Nat := f.mk3 s (2 ^ f.eb - 1) 0

/-- The canonical NaN, sign 0 (R93). -/
def FloatFmt.nanBits (f : FloatFmt) : Nat :=
  match f.top with
  | .ieee => f.mk3 false (2 ^ f.eb - 1) (2 ^ (f.fb - 1))
  | .e4m3 => f.mk3 false (2 ^ f.eb - 1) (2 ^ f.fb - 1)
  | .finite => 0

/-- The exact value of an encoding (R92, R93). E5M2 NaNs are quiet whatever their fraction. -/
def FloatFmt.decode (f : FloatFmt) (b : Nat) : Num :=
  let s := nbits b (f.eb + f.fb) (f.eb + f.fb) == 1
  let ef := nbits b (f.eb + f.fb - 1) f.fb
  let fr := nbits b (f.fb - 1) 0
  let num : Num := if ef = 0 then .fin s fr f.lsbMin
    else .fin s (2 ^ f.fb + fr) ((ef : Int) - f.bias - f.fb)
  match f.top with
  | .finite => num
  | .e4m3 => if ef = 2 ^ f.eb - 1 ∧ fr = 2 ^ f.fb - 1 then .nan false else num
  | .ieee =>
    if ef = 2 ^ f.eb - 1 then
      (if fr = 0 then .inf s else .nan (decide (f.eb + f.fb ≥ 15) && decide (fr < 2 ^ (f.fb - 1))))
    else num

/-! ### Conversions -/

/-- What one conversion gives: the encoding, the flags, and the ledger's events (R121, R265). -/
structure Conv where
  bits   : Nat
  fl     : Sticky
  ovf    : Bool
  vanish : Bool
  nonfin : Bool
  deriving DecidableEq, Repr

/-- The overflow result (R118). `sat`: saturate mode. -/
def FloatFmt.overflow (f : FloatFmt) (rm : Rm) (sat neg : Bool) : Nat :=
  let away : Nat := match f.top with
    | .ieee => f.infBits neg
    | .e4m3 => f.nanBits
    | .finite => f.maxBits neg
  if sat then f.maxBits neg else
    match rm with
    | .rne | .rna | .sr => away
    | .rtz => f.maxBits neg
    | .rup => if neg then f.maxBits neg else away
    | .rdn => if neg then away else f.maxBits neg

/-- One conversion of an exact value into a floating-point format (R118 to R121). -/
def FloatFmt.conv (f : FloatFmt) (rm : Rm) (sat : Bool) (u : Nat) (x : Num) : Conv :=
  match x with
  | .nan sig =>
    match f.top with
    | .finite => ⟨0, .invIf true, true, false, true⟩
    | _ => ⟨f.nanBits, .invIf sig, false, false, true⟩
  | .inf s =>
    if sat || f.top == .finite then ⟨f.maxBits s, { of := true, nx := true }, true, false, true⟩
    else match f.top with
      | .ieee => ⟨f.infBits s, .none, false, false, true⟩
      | _ => ⟨f.nanBits, .invIf true, false, false, true⟩
  | .fin s m e =>
    if m = 0 then ⟨f.mk3 s 0 0, .none, false, false, false⟩
    else
      let p := f.fb + 1
      let (q, lsb, nx) := roundSig rm u s m e p (some f.lsbMin)
      let (mm, me) := f.maxFin
      if lsb > me ∨ (lsb = me ∧ q > mm) then
        ⟨f.overflow rm sat s, { of := true, nx := true }, true, false, false⟩
      else
        let sub := decide (q < 2 ^ f.fb)
        let bits := if sub then f.mk3 s 0 q else f.mk3 s (lsb + f.bias + f.fb).toNat (q - 2 ^ f.fb)
        let (_, lsb', _) := roundSig rm u s m e p none
        let tiny := decide (lsb' < f.lsbMin)
        ⟨bits, { uf := tiny && nx, nx := nx }, false, sub, false⟩

/-- One conversion into an integer target of `w` bits saturating at ±mx (R94, R105, R118, R119). -/
def convInt (w mx : Nat) (rm : Rm) (u : Nat) (x : Num) : Conv :=
  match x with
  | .nan _ => ⟨0, .invIf true, true, false, true⟩
  | .inf s => ⟨Machine.ofInt w (if s then -(mx : Int) else mx), { of := true, nx := true }, true, false, true⟩
  | .fin s m e =>
    let (q, nx) := roundAt rm u s m e 0
    if q > mx then ⟨Machine.ofInt w (if s then -(mx : Int) else mx), { of := true, nx := true }, true, false, false⟩
    else ⟨Machine.ofInt w (if s then -(q : Int) else q), { nx := nx }, false, m != 0 && q == 0, false⟩

/-- The element formats of R89, by base code. -/
inductive Elem where
  | flt (f : FloatFmt)
  | int (w mx : Nat)
  deriving DecidableEq, Repr

/-- The format of a base code in bits [3:0] (R89). -/
def Elem.ofBase : Nat → Option Elem
  | 0x1 => some (.flt fp64)
  | 0x2 => some (.flt fp32)
  | 0x4 => some (.flt bf16)
  | 0x5 => some (.flt fp16)
  | 0x6 => some (.flt e4m3)
  | 0x7 => some (.flt e5m2)
  | 0x8 => some (.flt e3m2)
  | 0x9 => some (.flt e2m3)
  | 0xA => some (.flt e2m1)
  | 0xB => some (.int 8 127)
  | 0xC => some (.int 4 7)
  | 0xD => some (.int 32 (2 ^ 31 - 1))
  | 0xE => some (.int 32 (2 ^ 31 - 1))
  | _ => none

/-- Whether a code is one of R89: a base, or the block-scaled variant of bases 6 to 0xB (R90). -/
def fmtValid (c : Nat) : Bool :=
  if c < 16 then (Elem.ofBase c).isSome else decide (0x16 ≤ c ∧ c ≤ 0x1B)

/-- Whether a code is block-scaled (bit 4, R89). -/
def fmtBlock (c : Nat) : Bool := decide (0x16 ≤ c ∧ c ≤ 0x1B)

/-- The element format of a code. -/
def fmtElem (c : Nat) : Elem := (Elem.ofBase (c % 16)).getD (.flt fp32)

/-- The element width in bits (R89). -/
def fmtWidth (c : Nat) : Nat :=
  match fmtElem c with
  | .flt f => f.width
  | .int w _ => w

/-- Whether the base format has infinities or NaN encodings (R119). -/
def fmtHasNan (c : Nat) : Bool :=
  match fmtElem c with
  | .flt f => f.top != .finite
  | .int _ _ => false

/-- Whether the target is an integer format. -/
def fmtIsInt (c : Nat) : Bool :=
  match fmtElem c with
  | .flt _ => false
  | .int _ _ => true

/-- The exact value of an element encoding, scales apart (R92, R94, R95). -/
def fmtDecode (c b : Nat) : Num :=
  match fmtElem c with
  | .flt f => f.decode b
  | .int w _ => .ofInt (sext w b)

/-- One conversion into a format, with its modes resolved. -/
def fmtConv (c : Nat) (rm : Rm) (sat : Bool) (u : Nat) (x : Num) : Conv :=
  match fmtElem c with
  | .flt f => f.conv rm sat u x
  | .int w mx => convInt w mx rm u x

/-- A conversion mode resolved for a target (R117): whether it saturates; none where the target does not allow it. -/
def cmodeOf (c : Nat) (mode : Nat) : Option Bool :=
  let base := c % 16
  match mode with
  | 0 => some (!(decide (base ≤ 5)))
  | 1 => some true
  | 2 => if base ≤ 7 then some false else none
  | _ => none

/-! ### Block scales (R97, R99) -/

/-- The exponent of an E8M0 byte; none for 0xFF (NaN). -/
def e8m0 (e : Nat) : Option Int := if e = 255 then none else some ((e : Int) - 127)

/-- Largest finite magnitude of a block-scaled base format, as significand and place. -/
def blockMax (c : Nat) : Nat × Int :=
  match fmtElem c with
  | .flt f => f.maxFin
  | .int _ mx => (mx, 0)

/-- Whether m × 2^e ≤ mm × 2^me. -/
def magLe (m : Nat) (e : Int) (mm : Nat) (me : Int) : Bool :=
  let (x, y, _) := alignMag m e mm me
  decide (x ≤ y)

/-- The larger of two finite magnitudes; what is not finite counts as absent. -/
def magMax (a b : Nat × Int) : Nat × Int := if magLe a.1 a.2 b.1 b.2 then b else a

/-- The largest finite magnitude among values. -/
def amaxOf (vs : List Num) : Nat × Int :=
  vs.foldl (fun acc v => match v with
    | .fin _ m e => magMax acc (m, e)
    | _ => acc) (0, 0)

/-- The block exponent of R99: the smallest b in [−127, 127] with amax × 2^−b at most the largest finite value. -/
def blockExp (c : Nat) (vs : List Num) : Int :=
  let (m, e) := amaxOf vs
  if m = 0 then -127 else
    let (mm, me) := blockMax c
    let b0 : Int := e + Nat.log2 m - me - Nat.log2 mm
    let b : Int := if magLe m (e - b0) mm me then b0 else b0 + 1
    max (-127) (min 127 b)

/-- A conversion whose target holds every value of its source: no event (R122). -/
def Conv.held (h : Bool) (c : Conv) : Conv := if h then { c with vanish := false } else c

/-- A block written under R99: its scale byte, and its conversions. `u i` is the SR draw of the block's element i.
In a block of scale 0xFF every finite nonzero element counts one overflow event, and no other element any (R121).
DESIGN CHOICE, log entry 96: the flags stay those of the elements' own conversions, an infinite element's in saturate mode included, which R119 and R121 leave open; it counts no event, since it decodes as NaN. -/
def blockConv (c : Nat) (rm : Rm) (sat : Bool) (u : Nat → Nat) (vs : List Num) : Nat × List Conv :=
  let b := blockExp c vs
  let cs := vs.zipIdx.map fun (v, i) => fmtConv c rm sat (u i) (v.scale (-b))
  let bad := (vs.any Num.isNan) || (vs.zip cs).any fun (v, r) =>
    !v.isNan && fmtHasNan c && (fmtDecode c r.bits).isNan
  if bad then
    (255, (vs.zip cs).map fun (v, r) =>
      { bits := r.bits, fl := if v.isNan then .invIf v.isSig else r.fl,
        ovf := v.isFin && !v.isZero, vanish := false, nonfin := r.nonfin })
  else ((b + 127).toNat, cs)

/-! ### IEEE arithmetic on exact values (R104 to R108) -/

/-- A product: the value, and whether it is an invalid operation (R106). -/
def Num.mul (a b : Num) : Num × Bool :=
  match a, b with
  | .nan s, y => (.nan false, s || y.isSig)
  | x, .nan s => (.nan false, s || x.isSig)
  | .inf s, .inf t => (.inf (s != t), false)
  | .inf s, .fin t m _ => if m = 0 then (.nan false, true) else (.inf (s != t), false)
  | .fin s m _, .inf t => if m = 0 then (.nan false, true) else (.inf (s != t), false)
  | .fin s m e, .fin t n f => (.fin (s != t) (m * n) (e + f), false)

/-- An element's value times a scale. A NaN passes as it is, so that the rounding after it still sees a signalling one (R106). -/
def Num.scaled (a s : Num) : Num := if a.isNan then a else (a.mul s).1

/-- An exact sum: the value, and whether it is an invalid operation. An exact zero from opposite signs is −0 only when rounding down. -/
def Num.add (rm : Rm) (a b : Num) : Num × Bool :=
  match a, b with
  | .nan s, y => (.nan false, s || y.isSig)
  | x, .nan s => (.nan false, s || x.isSig)
  | .inf s, .inf t => if s == t then (.inf s, false) else (.nan false, true)
  | .inf s, _ => (.inf s, false)
  | _, .inf t => (.inf t, false)
  | .fin s m e, .fin t n f =>
    let (x, y, g) := alignMag m e n f
    if s == t then (.fin s (x + y) g, false)
    else if x = y then (.fin (rm == .rdn) 0 g, false)
    else if x > y then (.fin s (x - y) g, false)
    else (.fin t (y - x) g, false)

/-- A fused product and sum. An infinity times zero is invalid whatever the addend (R106). -/
def Num.fma (rm : Rm) (a b c : Num) : Num × Bool :=
  let (p, i) := a.mul b
  if i && !(a.isNan || b.isNan) then (.nan false, true)
  else let (r, j) := p.add rm c
    (r, i || j)

/-- A quotient with a sticky last bit: the value, invalid, division by zero. -/
def Num.div (a b : Num) : Num × Bool × Bool :=
  match a, b with
  | .nan s, y => (.nan false, s || y.isSig, false)
  | x, .nan s => (.nan false, s || x.isSig, false)
  | .inf _, .inf _ => (.nan false, true, false)
  | .inf s, .fin t _ _ => (.inf (s != t), false, false)
  | .fin s _ _, .inf t => (.fin (s != t) 0 0, false, false)
  | .fin s m e, .fin t n f =>
    if n = 0 then (if m = 0 then (.nan false, true, false) else (.inf (s != t), false, true))
    else if m = 0 then (.fin (s != t) 0 0, false, false)
    else
      let k := 256 + Nat.log2 n
      let q := (m <<< k) / n
      let r := (m <<< k) % n
      (.fin (s != t) (2 * q + (if r = 0 then 0 else 1)) (e - f - k - 1), false, false)

/-- A value over a scale, before its one rounding. A NaN passes as it is, so that its conversion still sees a signalling one (R106, R119). -/
def Num.over (a s : Num) : Num := if a.isNan then a else (a.div s).1

/-- The integer square root, by binary digits from bit `b` down. -/
def isqrtFrom (n : Nat) : Nat → Nat → Nat
  | 0, r => if (r + 1) * (r + 1) ≤ n then r + 1 else r
  | b + 1, r => isqrtFrom n b (if (r + 2 ^ (b + 1)) * (r + 2 ^ (b + 1)) ≤ n then r + 2 ^ (b + 1) else r)

/-- The integer square root. -/
def isqrt (n : Nat) : Nat := isqrtFrom n (Nat.log2 n / 2 + 1) 0

/-- A square root with a sticky last bit: the value, and whether it is an invalid operation. -/
def Num.sqrt (a : Num) : Num × Bool :=
  match a with
  | .nan s => (.nan false, s)
  | .inf s => if s then (.nan false, true) else (.inf false, false)
  | .fin s m e =>
    if m = 0 then (.fin s 0 0, false)
    else if s then (.nan false, true)
    else
      let k := 256 + (if (e - 256) % 2 = 0 then 0 else 1)
      let n := m <<< k
      let r := isqrt n
      (.fin false (2 * r + (if r * r = n then 0 else 1)) ((e - k) / 2 - 1), false)

/-- The IEEE maximum (R108): a NaN operand gives NaN, and −0 is below +0. -/
def Num.maximum (a b : Num) : Num × Bool :=
  if a.isNan || b.isNan then (.nan false, a.isSig || b.isSig)
  else match a.cmp b with
    | .lt => (b, false)
    | .gt => (a, false)
    | .eq => (match a, b with
      | .fin s m e, .fin t _ _ => if m = 0 then .fin (s && t) 0 e else a
      | _, _ => a, false)

/-- The IEEE minimum (R108). -/
def Num.minimum (a b : Num) : Num × Bool :=
  if a.isNan || b.isNan then (.nan false, a.isSig || b.isSig)
  else match a.cmp b with
    | .lt => (a, false)
    | .gt => (b, false)
    | .eq => (match a, b with
      | .fin s m e, .fin t _ _ => if m = 0 then .fin (s || t) 0 e else a
      | _, _ => a, false)

/-! ### Arithmetic in one format: the encoding and the flags -/

/-- An exact result rounded once into a format, IEEE overflow (R104). -/
def FloatFmt.out (f : FloatFmt) (rm : Rm) (x : Num) (inv : Bool) : Nat × Sticky :=
  let c := f.conv rm false 0 x
  (c.bits, c.fl.or (.invIf inv))

def FloatFmt.add (f : FloatFmt) (rm : Rm) (a b : Nat) : Nat × Sticky :=
  let r := (f.decode a).add rm (f.decode b)
  f.out rm r.1 r.2

def FloatFmt.sub (f : FloatFmt) (rm : Rm) (a b : Nat) : Nat × Sticky :=
  let r := (f.decode a).add rm (f.decode b).neg
  f.out rm r.1 r.2

def FloatFmt.mul (f : FloatFmt) (rm : Rm) (a b : Nat) : Nat × Sticky :=
  let r := (f.decode a).mul (f.decode b)
  f.out rm r.1 r.2

def FloatFmt.fma (f : FloatFmt) (rm : Rm) (a b c : Nat) : Nat × Sticky :=
  let r := Num.fma rm (f.decode a) (f.decode b) (f.decode c)
  f.out rm r.1 r.2

def FloatFmt.div (f : FloatFmt) (rm : Rm) (a b : Nat) : Nat × Sticky :=
  let r := (f.decode a).div (f.decode b)
  let o := f.out rm r.1 r.2.1
  (o.1, o.2.or { dz := r.2.2 })

def FloatFmt.sqrt (f : FloatFmt) (rm : Rm) (a : Nat) : Nat × Sticky :=
  let r := (f.decode a).sqrt
  f.out rm r.1 r.2

def FloatFmt.max (f : FloatFmt) (a b : Nat) : Nat × Sticky :=
  let r := (f.decode a).maximum (f.decode b)
  f.out .rne r.1 r.2

def FloatFmt.min (f : FloatFmt) (a b : Nat) : Nat × Sticky :=
  let r := (f.decode a).minimum (f.decode b)
  f.out .rne r.1 r.2

/-- The sign bit's place. -/
def FloatFmt.signBit (f : FloatFmt) : Nat := 2 ^ (f.eb + f.fb)

/-- ABS clears the sign bit, payloads kept (R93). -/
def FloatFmt.abs (f : FloatFmt) (a : Nat) : Nat := a % f.signBit

/-- NEG flips the sign bit, payloads kept (R93). -/
def FloatFmt.negate (f : FloatFmt) (a : Nat) : Nat :=
  if a % (2 * f.signBit) < f.signBit then a % f.signBit + f.signBit else a % f.signBit

/-- COPYSIGN: the magnitude of `a`, the sign of `b` (R197). -/
def FloatFmt.copysign (f : FloatFmt) (a b : Nat) : Nat :=
  a % f.signBit + (b % (2 * f.signBit)) / f.signBit * f.signBit

/-- The comparison predicates by code (R197); none for the reserved codes. The result, and whether it is an invalid operation (R107). -/
def cmpPred (pred : Nat) (a b : Num) : Option (Bool × Bool) :=
  let un := a.isNan || b.isNan
  let sig := a.isSig || b.isSig
  let o := a.cmp b
  let eq := !un && o == .eq
  let lt := !un && o == .lt
  let gt := !un && o == .gt
  match pred with
  | 0 => some (eq, sig)
  | 1 => some (!eq, sig)
  | 2 => some (lt, un)
  | 3 => some (lt || eq, un)
  | 4 => some (gt, un)
  | 5 => some (gt || eq, un)
  | 6 => some (un, sig)
  | 7 => some (!un, sig)
  | 8 => some (eq, un)
  | 9 => some (!eq, un)
  | 10 => some (lt, sig)
  | 11 => some (lt || eq, sig)
  | 12 => some (gt, sig)
  | 13 => some (gt || eq, sig)
  | _ => none

/-! ### Stochastic rounding's generator (R125) -/

/-- The rotation of R125. -/
def rotl32 (x : BitVec 32) (r : Nat) : BitVec 32 := x.rotateLeft r

/-- One absorption step of R125. -/
def srAbsorb (h k : BitVec 32) : BitVec 32 :=
  let k := rotl32 (k * 0xCC9E2D51#32) 15 * 0x1B873593#32
  rotl32 (h ^^^ k) 13 * 5#32 + 0xE6546B64#32

/-- The generator's draw for one element (R125, R126). -/
def srDraw (seed step : Nat) (tensor stream : Nat) (index : Nat) : BitVec 32 :=
  let lo (n : Nat) : BitVec 32 := BitVec.ofNat 32 n
  let hi (n : Nat) : BitVec 32 := BitVec.ofNat 32 (n >>> 32)
  let h := [lo seed, hi seed, lo step, hi step, lo tensor, lo stream, lo index, hi index].foldl srAbsorb 0x6A09E667#32
  let h := h ^^^ 32#32
  let h := h ^^^ (h >>> 16)
  let h := h * 0x85EBCA6B#32
  let h := h ^^^ (h >>> 13)
  let h := h * 0xC2B2AE35#32
  h ^^^ (h >>> 16)

/-- The 16 bits that rounding uses: bits [31:16] of the draw (R124). -/
def srU (seed step tensor stream index : Nat) : Nat := (srDraw seed step tensor stream index).toNat >>> 16

/-! ### The matrix accumulator (R110 to R113) -/

/-- One rounded addition in the accumulator format, to nearest even. -/
def accAdd (a b : Num) : Nat × Sticky :=
  let r := a.add .rne b
  accFmt.out .rne r.1 r.2

/-- The tree of R112 over exact products: groups of four in ascending contraction index, missing ones +0. -/
def accumulate : Nat → List Num → Nat × Sticky
  | acc, [] => (acc, .none)
  | acc, [p0] => accGroup acc p0 .zero .zero .zero
  | acc, [p0, p1] => accGroup acc p0 p1 .zero .zero
  | acc, [p0, p1, p2] => accGroup acc p0 p1 p2 .zero
  | acc, p0 :: p1 :: p2 :: p3 :: ps =>
    let (a, f) := accGroup acc p0 p1 p2 p3
    let (r, g) := accumulate a ps
    (r, f.or g)
where
  /-- One group of R112. -/
  accGroup (acc : Nat) (p0 p1 p2 p3 : Num) : Nat × Sticky :=
    let (a, f0) := accAdd p0 p1
    let (b, f1) := accAdd p2 p3
    let (c, f2) := accAdd (accFmt.decode a) (accFmt.decode b)
    let (d, f3) := accAdd (accFmt.decode acc) (accFmt.decode c)
    (d, ((f0.or f1).or f2).or f3)

end Sys2Proof.Machine
end

