-- ==== Sys2Proof/Machine/Tbl.lean ====
section
/-! DEFINITION. Sparse tables: a list of (key, value) pairs with keys rising, and a default for a key that is not listed. Register files, per-unit records and the package's tables are held so. -/

namespace Sys2Proof.Machine

/-- A sparse table. -/
abbrev Tbl (α : Type) := List (Nat × α)

/-- The value listed at a key. -/
def Tbl.find {α : Type} : Tbl α → Nat → Option α
  | [], _ => none
  | (k, v) :: t, i => if k = i then some v else Tbl.find t i

/-- The value at a key, or the default. -/
def Tbl.get {α : Type} (d : α) (t : Tbl α) (i : Nat) : α := (Tbl.find t i).getD d

/-- The table with a key's value set. -/
def Tbl.set {α : Type} : Tbl α → Nat → α → Tbl α
  | [], i, v => [(i, v)]
  | (k, w) :: t, i, v =>
    if k = i then (i, v) :: t
    else if i < k then (i, v) :: (k, w) :: t
    else (k, w) :: Tbl.set t i v

/-- The table with a key removed. -/
def Tbl.erase {α : Type} : Tbl α → Nat → Tbl α
  | [], _ => []
  | (k, w) :: t, i => if k = i then t else (k, w) :: Tbl.erase t i

/-- The table with a key's value changed by `f`. -/
def Tbl.upd {α : Type} (d : α) (t : Tbl α) (i : Nat) (f : α → α) : Tbl α := t.set i (f (t.get d i))

/-- The listed keys. -/
def Tbl.keys {α : Type} (t : Tbl α) : List Nat := t.map (·.1)

/-- The listed values. -/
def Tbl.vals {α : Type} (t : Tbl α) : List α := t.map (·.2)

/-- The pairs whose value meets a test. -/
def Tbl.filterV {α : Type} (t : Tbl α) (p : Nat → α → Bool) : Tbl α := t.filter fun kv => p kv.1 kv.2

/-- Every value changed by `f`. -/
def Tbl.mapV {α : Type} (t : Tbl α) (f : Nat → α → α) : Tbl α := t.map fun kv => (kv.1, f kv.1 kv.2)

/-- The least of a list under a strict order, the first on a tie. -/
def bestOf {α : Type} (less : α → α → Bool) : List α → Option α
  | [] => none
  | x :: xs => some (xs.foldl (fun b y => if less y b then y else b) x)

/-- The keys rise strictly. -/
def Tbl.sorted {α : Type} (t : Tbl α) : Prop := t.Pairwise fun a b => a.1 < b.1

end Sys2Proof.Machine
end

