-- ==== Sys2Proof/Machine/StCore.lean ====
section
/-! DEFINITION. The state of tasks, cores and clusters: what chapters 4 to 9 name. -/

namespace Sys2Proof.Machine

/-! ### Tasks -/

/-- Where an admitted task stands (R237, R60, R75). -/
inductive TaskPhase where
  | waiting    -- admitted, not dispatched
  | running    -- on a core or an update engine
  | completed  -- complete, its record waits for the commit of its window (R75)
  | reported   -- its record is written, but a sketch summary or a held record still holds its slot (R233)
  deriving DecidableEq, Repr

/-- A tensor of a task: its descriptor (R227), and the scale record read at dispatch (R102). -/
structure TensorRef where
  desc : BitVec 512 := 0
  scale : BitVec 256 := 0
  hist  : Bytes := []            -- the history block after it, of an auto-scaled tensor (R249)
  deriving DecidableEq, Repr

/-- What a task has converted into one of its tensors and not yet recorded (R250). -/
structure TensorMax where
  tensor : Nat
  m      : Nat
  e      : Int
  deriving DecidableEq, Repr

/-- One task slot: an admitted, unreported task. -/
structure Task where
  ctx       : Nat := 0
  seq       : Nat := 0           -- sketch sequence number (R224)
  idx       : Nat := 0           -- index within its sketch
  desc      : BitVec 1024 := 0   -- R225
  imageHdr  : BitVec 512 := 0    -- R168
  tensors   : List TensorRef := []
  slotRefs  : Tbl TensorRef := []  -- slot tensors read at dispatch: 4 × route index + (0 weights, 1 wide, 2 avg1, 3 avg2)
  succs     : List Nat := []
  deps      : Nat := 0           -- remaining dependence count (R237)
  update    : Bool := false      -- an update task (R283)
  phase     : TaskPhase := .waiting
  core      : Nat := 0           -- physical core or cluster of the run
  at0       : Nat := 0           -- time of dispatch, ns
  code      : Nat := 0           -- worst status code recorded (R21)
  conds     : List Nat := []     -- group 0 conditions of this run that have their event record (R21)
  ieee      : Sticky := {}
  events    : Nat := 0           -- event records logged over every run (R231)
  cycles    : Nat := 0
  overruns  : Nat := 0           -- consecutive boundaries running (R60)
  overran   : Nat := 0           -- overruns reported (R231)
  replay    : Bool := false      -- ran under replay
  atCompletion : Bool := false   -- reported at completion
  window    : Nat := 0           -- stroke in which it completed
  order     : Nat := 0           -- order of completion
  map       : Option Nat := none -- axis map latched at first dispatch (R378)
  maxima    : List TensorMax := []
  noOffsets : List Nat := []     -- tensors for which RECOMPUTE_NO_OFFSETS is logged (R260)
  progress  : Option Nat := none -- stroke of the last progress in this run (R479)
  stranded  : Nat := 0           -- consecutive stranded boundaries (R483)
  budgetHeld : Bool := false     -- counted in BUDGET_HOLD_COUNT while it waits (R57)
  awaits    : Tbl Nat := []      -- counters under which it awaits where a later ARRIVAL_SET has taken the number: by number (R84)
  deriving DecidableEq, Repr

/-! ### Cores -/

/-- A program image in a control store (R167, R170). -/
structure Image where
  ctx     : Nat
  addr    : Nat
  hdr     : BitVec 512
  presets : List (BitVec 256)
  words   : List (BitVec 16)
  poison  : NatSet := []   -- 64-bit words of the copy that are poisoned (R457)
  deriving DecidableEq, Repr

/-- An address generator: descriptor, indices and side pointer (R176). -/
structure Ag where
  desc : BitVec 256 := 0
  i0   : Nat := 0
  i1   : Nat := 0
  i2   : Nat := 0
  i3   : Nat := 0
  side : Nat := 0
  deriving DecidableEq, Repr

/-- An open loop level (R187). -/
structure LoopLvl where
  level : Nat
  first : Nat
  stop  : Nat
  left  : Nat
  deriving DecidableEq, Repr

/-- An accumulator set (R138 to R141). -/
structure AccSet where
  elems   : Tbl Nat := []     -- accumulator encodings; +0 where unlisted
  poison  : NatSet := []      -- elements that depend on poisoned data or invalid metadata (R159, R451)
  filled  : Bool := false
  written : Bool := false
  kRagged : Bool := false     -- the last K was no multiple of 4 (R139)
  sideRagged : Bool := false  -- the last K was no multiple of 32 with a side array (R192)
  fmt     : Nat := 0
  a       : Nat := 0
  b       : Nat := 0
  deriving DecidableEq, Repr

/-- A vector register of 1 KiB, and its poisoned 32-bit lanes (R451). -/
structure VReg where
  bits   : BitVec 8192 := 0
  poison : NatSet := []
  deriving DecidableEq, Repr

/-- A table-pair slot: its owner, and the value and derivative images (R147). -/
structure TpSlot where
  ctx   : Nat
  bytes : Bytes
  poison : Bool := false
  deriving DecidableEq, Repr

/-- A statistics entry (R152), its set, and its release mark (R156). -/
structure StatEntry where
  set   : Nat
  ctx   : Nat
  tag   : Nat
  row   : Nat
  stat0 : Nat
  stat1 : Nat
  marks : List Nat := []  -- task slots whose backward operation marked it for release
  deriving DecidableEq, Repr

/-- An engine operation that the SEQ has issued and that has yet to finish (R206). -/
structure BusyOp where
  slot   : Nat
  reads  : List (Nat × Nat) := []   -- palette ranges: start, length
  writes : List (Nat × Nat) := []
  acc    : Option Nat := none
  isOut  : Bool := false            -- a write-out
  deriving DecidableEq, Repr

/-- Why the repeat in hand is held. -/
inductive Hold where
  | none | interlock | wait | txe
  deriving DecidableEq, Repr

/-- One core: sequencer, palette, accumulators, vector registers, tables, statistics and counters. -/
structure CoreSt where
  task   : Option Nat := none       -- the task slot that runs
  ended  : Bool := false            -- END reached (R190)
  store  : List Image := []         -- control store copies (R170)
  image  : Nat := 0                 -- image address of the running task
  pc     : Nat := 0
  rep    : Nat := 0
  clashLogged : Bool := false       -- PALETTE_WRITE_CLASH written for this word (R133)
  loops  : List LoopLvl := []       -- innermost first
  sreg   : Tbl Word := []           -- S0–S15
  ct     : Tbl (BitVec 32) := []    -- CT0–CT7
  cp     : Tbl Bool := []           -- CP0–CP3
  lc     : Tbl (BitVec 32) := []    -- LC0–LC3
  ags    : Tbl Ag := []             -- AG0–AG15
  vreg   : Tbl VReg := []           -- V0–V31
  acc    : Tbl AccSet := []         -- ACC0–ACC3
  pal    : Memory := []             -- palette bytes
  palWritten : NatSet := []         -- written lines (R135)
  palPoison  : NatSet := []         -- poisoned 64-bit words (R451, R457)
  tps    : Tbl TpSlot := []         -- TP0–TP15
  stats  : List StatEntry := []     -- oldest first
  spill  : Option Nat := none       -- core-local address of the selected spill descriptor (R153)
  spillMarks : List (Nat × Nat × Nat × Nat × Nat) := []  -- spilled entries marked for release: descriptor, context, tag, row, task slot
  busy   : List BusyOp := []
  hold   : Hold := .none
  ctr    : Tbl Nat := []            -- counters by offset in the core's block (R165, R212)
  deriving DecidableEq, Repr

/-! ### Clusters -/

/-- What a tracked transfer does. -/
inductive XferKind where
  | copyIn | copyOut | reduce | relay | pull
  deriving DecidableEq, Repr

/-- A tracked transfer that has not been acknowledged (R81, R202). -/
structure Xfer where
  id      : Nat          -- transfer index at the requester, 0–1,023 within its cluster
  cluster : Nat
  task    : Nat          -- task slot
  core    : Nat := 0     -- physical core
  ctx     : Nat
  gen     : Nat
  group   : Nat
  kind    : XferKind
  stroke  : Nat          -- issue stroke
  left    : Nat          -- packets still unacknowledged
  dst     : Nat := 0     -- remote endpoint of a copy
  addr    : Nat := 0     -- remote address of a copy-in's next READ
  ag      : Ag := {}     -- the local stream of a copy-in at issue
  agOff   : Int := 0
  units   : Nat := 0     -- units of a copy-in
  done    : Nat := 0     -- units that its finished READs have brought
  asked   : Nat := 0     -- units of the READ in flight
  layout  : Nat := 0
  frame   : Nat := 0     -- REDUCE: cluster-memory offset of the frame
  map     : Option Nat := none
  tensor  : TensorRef := {}   -- REDUCE: the tensor, as read at dispatch
  tile    : Nat := 0
  step    : Nat := 0
  sent    : Bool := false  -- REDUCE: the frame has been contributed
  refused : Bool := false  -- REDUCE: a packet of the contribution has been refused (R384)
  zero    : Bool := false  -- REDUCE: as zeros, since it was never written (R316)
  old     : Option (Tbl (Word × Bool)) := none  -- the translations that it completes under, where PT_INVALIDATE dropped them while it was in flight (R597)
  deriving DecidableEq, Repr

/-- What an update engine is doing with its task (R283 to R306). -/
structure UpeSt where
  task    : Option Nat := none
  slot    : Nat := 0               -- route index of the slot in work
  elem    : Nat := 0               -- first element of the 256-lane block
  pc      : Nat := 0               -- position in the update program
  temps   : Tbl (BitVec 16384) := []  -- temporaries: 256 lanes of 64 bits; a raw lane holds q in [31:0] and t in [39:32]
  raw     : NatSet := []           -- temporaries that hold raw EIR32 lanes
  mask    : Tbl Nat := []          -- masked lanes of the block, with their mask values (R303)
  began   : Bool := false          -- the block's gradient has been looked at
  masked  : Nat := 0               -- masked elements of the slot
  maskLow : Nat := 0               -- lowest masked logical index
  details : Nat := 0               -- DETAIL records written for the task
  poison  : NatSet := []           -- poisoned lanes: 256 × temporary + lane (R451)
  maskPoison : NatSet := []        -- lanes of the block whose mask value depends on poisoned data (R451)
  params  : Tbl (List Nat) := []   -- by route index of each slot to update: lr, decay, β1, β2, ε, p1, p2
  done    : Bool := false
  deriving DecidableEq, Repr

/-- One cluster: its memory, transfers and update engine. -/
structure ClusterSt where
  mem    : Memory := []
  poison : NatSet := []     -- poisoned 64-bit words (R451, R457)
  written : NatSet := []    -- units written since the last cluster reset
  xfers  : List Xfer := []
  frameEv : Tbl (Nat × Nat) := []  -- attempt-0 overflow and vanish events of the frame at an offset (R327)
  upe    : UpeSt := {}
  ctr    : Tbl Nat := []    -- counters by offset in the cluster's block (R651)
  deriving DecidableEq, Repr

end Sys2Proof.Machine
end

