-- ==== Sys2Proof/Machine/StCtx.lean ====
section
/-! DEFINITION. The state of contexts, rings, sketches, model slots, groups and windows: what chapters 2, 6, 7, 8 and 11 name. -/

namespace Sys2Proof.Machine

/-- One of the four step-flag entries of a context (R256, R399). -/
structure StepFlag where
  step    : Nat := 0
  nonfin  : Bool := false   -- non-finite step flag
  invalid : Bool := false   -- step-invalid flag
  tensors : List Nat := []  -- tensors whose blocks mismatched (R400)
  poison  : Bool := false   -- its word is poisoned (R457)
  deriving DecidableEq, Repr

/-- A mismatched tensor noted (R400). -/
def StepFlag.withTensor (e : StepFlag) (t : Nat) : StepFlag := { e with tensors := e.tensors ++ [t] }

/-- A group's counter and maintained powers (R296, R300). -/
structure GroupAdv where
  t     : Nat := 0
  p1    : BitVec 32 := 0x3F800000
  p2    : BitVec 32 := 0x3F800000
  last  : Nat := 0
  valid : Bool := false
  deriving DecidableEq, Repr

/-- Window state of a context: it commits with a window, and a void returns it to its committed value (R239, R256, R300, R407). -/
structure WinState where
  arr   : Tbl Nat := []        -- arrival counters of stroke-buffered windows
  flags : Tbl StepFlag := []   -- by step mod 4
  grp   : Tbl GroupAdv := []   -- by group number
  epoch : Nat := 0             -- layout epoch
  deriving DecidableEq, Repr

/-- Ledger counts of one window, tensor and step (R265, R266). -/
structure LedgerCount where
  window : Nat
  tensor : Nat
  step   : Nat
  format : Nat
  elements : Nat := 0
  overflow : Nat := 0
  vanish   : Nat := 0
  shadow   : Nat := 0
  nonfin   : Nat := 0
  recomputed : Nat := 0
  exhausted  : Nat := 0
  flagExh  : Bool := false
  flagStep : Bool := false
  propose  : Bool := false     -- the tensor's history asks for proposals (R268)
  poison   : Bool := false     -- a word of it is poisoned (R457)
  deriving DecidableEq, Repr

/-- A sketch whose tasks are not all reported (R224, R232). -/
structure Sketch where
  seq      : Nat
  tag      : Nat
  summary  : Bool
  irq      : Bool
  waitBack : Nat
  count    : Nat
  unreported : Nat
  code     : Nat := 0       -- highest code of reported tasks
  events   : Nat := 0
  stroke   : Nat := 0
  ieee     : Sticky := {}
  cycles   : Nat := 0
  deriving DecidableEq, Repr

/-- What waits at the front of a submission ring (R223, R230, R235). -/
inductive RingWait where
  | none | sketchSlots | slotTasks
  deriving DecidableEq, Repr

/-- An arrival window (R238). -/
structure ArrWin where
  base     : Nat
  len      : Nat
  buffered : Bool
  poison   : Bool := false   -- its counter's word is poisoned (R457)
  deriving DecidableEq, Repr

/-- A completion record that waits for room in the ring (R233): its 63 bytes before the phase byte, and whether it raises the vector. -/
structure HeldRec where
  bytes : Bytes
  irq   : Bool
  slots : List Nat := []  -- task slots to free once it is written
  failSeq : Option Nat := none  -- sketch of a task that failed with no effect: it counts as completed once this is written (R237)
  late  : Bool := false  -- its stroke field is that of its writing (R231)
  deriving DecidableEq, Repr

/-- Re-sharding states (R403). -/
inductive ReshardPhase where
  | idle | armed | holding | moving
  deriving DecidableEq, Repr

/-- One pull of a re-sharding that has not landed (R408). -/
structure Pull where
  id   : Nat             -- sequence number of its READ
  peer : Nat
  src  : Nat             -- device-virtual address at the peer
  dst  : Nat             -- device-virtual address here
  len  : Nat
  bound : Nat := 0       -- bound words: their tensor's mask array lies here past the entries (0: none), for R408's mask entries
  deriving DecidableEq, Repr

/-- Re-sharding of one context (R403 to R410). -/
structure Reshard where
  desc   : Word := 0
  stroke : Word := 0
  phase  : ReshardPhase := .idle
  voids  : Nat := 0
  error  : Nat := 0
  entries : List Bytes := []    -- descriptor entries read at ARM
  tensors : List (BitVec 512 × BitVec 512) := []
  window : Nat := 0             -- the window that moves
  toIssue : List Pull := []
  pulls  : List Pull := []
  deriving DecidableEq, Repr

/-- A re-sharding's registers with no re-sharding going on (R403). -/
def Reshard.kept (r : Reshard) : Reshard := { desc := r.desc, stroke := r.stroke }

/-- A void notice of a herd (R77). -/
structure VoidNote where
  herd   : Nat
  stroke : Nat
  gen    : Nat
  deriving DecidableEq, Repr

/-- The packet that a remote write came in, within its context (R86, R365). -/
structure PktId where
  src : Nat
  dst : Nat
  gen : Nat
  cls : Nat
  seq : Nat
  deriving DecidableEq, Repr

/-- On whose behalf a device-virtual write is made: the task and the unit that it runs on, the packet that it came in, the adder operation that it is (R440), whether it counts in arrival windows (R239), and how it lies in its transfer (R434). -/
structure WrBy where
  task : Option (Nat × Nat) := none
  pkt  : Option PktId := none
  op   : Option Nat := none
  arrives : Bool := false
  head : Nat := 0                -- bytes before it in its first granule that its transfer has written already
  more : Bool := false           -- its transfer goes on past its end
  deriving DecidableEq, Repr

/-- A write that waits in the staging queues (R67, R69, R86). -/
structure StagedWrite where
  addr : Nat
  data : Bytes
  bad  : Bool                    -- it carries poison
  by_  : WrBy := {}
  record : Option Nat := none    -- the version record whose frame it waits for
  counted : Bool := false        -- it has been counted in POOL_EMPTY_COUNT
  old : Option (Tbl (Word × Bool)) := none  -- the translations that it lands under, where PT_INVALIDATE dropped them while it waited (R597)
  deriving DecidableEq, Repr

/-- The life of a context number (R214). -/
inductive CtxPhase where
  | free | open | closing
  deriving DecidableEq, Repr

/-- Where a closing context's teardown stands (R491). -/
inductive Teardown where
  | none
  | waiting (boundaries : Nat)   -- boundaries still to pass before release
  | filling                      -- release zero-fill running
  | record                       -- the context record waits for room in the completion ring (R233)
  deriving DecidableEq, Repr

/-- One context. -/
structure Ctx where
  phase    : CtxPhase := .free
  openError : Nat := 0
  sq       : Word := 0
  cq       : Word := 0
  herd     : Word := 0
  seed     : Word := 0
  root     : Word := 0
  sched    : Word := 0x100400
  gen      : Nat := 0
  genCfg   : Nat := 0            -- CTX_GEN
  zeroFill : Bool := false
  teardown : Teardown := .none
  closeCode : Nat := 0           -- code of the context record
  -- rings
  sqProd   : Nat := 0
  sqCons   : Nat := 0
  cqProd   : Nat := 0
  cqCons   : Nat := 0
  badSq    : List Nat := []      -- invalid values seen (R219)
  badCq    : List Nat := []
  ringHeld : RingWait := .none
  ringEntry : Bytes := []        -- the entry that waits
  waitNoted : Bool := false      -- counted in ADMIT_WAIT_COUNT
  cqHeld   : List HeldRec := []
  cqFull   : Bool := false       -- the full ring has been counted and logged (R233)
  sketchSeq : Nat := 0           -- SKETCH entries taken so far
  sketches : List Sketch := []
  -- windows
  committed : Nat := 0           -- committed-through stroke
  cur      : WinState := {}
  closed   : List (Nat × WinState) := []  -- closed windows, not committed, oldest first
  com      : WinState := {}
  arrWin   : Tbl ArrWin := []
  arrDirect : Tbl Nat := []      -- counters of direct windows
  defers   : Nat := 0            -- consecutive deferrals
  overran  : Bool := false       -- a task overran at the last boundary
  voidFrom : Option Nat := none  -- earliest stroke to void in step 2
  herdHeld : Bool := false       -- held under R74
  suspectHeld : Bool := false    -- held under R482
  peerHeld : Bool := false       -- held under R424
  replayAfter : List Nat := []   -- non-replayable tasks that ran when a void was applied: replay waits for them (R79)
  replayFrom : Nat := 0          -- stroke from whose dispatch window on its tasks are dispatched after a void (R78)
  ledger   : List LedgerCount := []
  stagedWrites : List StagedWrite := []  -- writes that wait, oldest first (R67, R69)
  dirty    : List Nat := []      -- version records with pending frames (DPA of the record)
  -- numerics
  modeBefore : Bool := true
  modeAfter  : Bool := true
  switchStep : Nat := 0
  lastRefused : Bool := false
  recompute : Word := 0x302
  ledgerCfg : Word := 0xFA0
  proposal  : Word := 0x400000010008
  -- others
  adders   : Tbl Word := []      -- adder-window registers by index (R439)
  reshard  : Reshard := {}
  spills   : List (Nat × Nat × Nat) := []  -- spill regions known in use: core, descriptor address, base (R156)
  energy   : Nat := 0            -- attributed energy, nJ (R583)
  activity : Nat := 0            -- activity units since the last boundary
  deriving DecidableEq, Repr

/-- A model slot (R229, R230). -/
structure ModelSlot where
  owner   : Nat
  weights : BitVec 512
  wide    : Option (BitVec 512)
  avg1    : Option (BitVec 512)
  avg2    : Option (BitVec 512)
  group   : Nat
  deriving DecidableEq, Repr

/-- One set of group parameters (R296). -/
structure GroupParams where
  lr     : BitVec 32 := 0
  decay  : BitVec 32 := 0
  b1     : BitVec 32 := 0
  b2     : BitVec 32 := 0
  eps    : BitVec 32 := 0
  frozen : Bool := false
  deriving DecidableEq, Repr

/-- A parameter group (R296). Its counter and powers are window state of its owner. -/
structure Group where
  isOpen : Bool := false
  owner  : Nat := 0
  cls    : Bool := false     -- remainder class
  policy : Nat := 0
  prog   : Bytes := []
  before : GroupParams := {}
  after  : GroupParams := {}
  switch : Nat := 0
  error  : Nat := 0
  refused : Bool := false
  deriving DecidableEq, Repr

/-- A shard-version entry (R398). -/
structure VersionEntry where
  ctx    : Nat
  tensor : Nat
  step   : Nat
  origin : Nat
  version : Nat
  poison  : Bool := false   -- its word is poisoned (R457)
  deriving DecidableEq, Repr

/-- An open vote round of a herd (R71 to R74). -/
structure VoteRound where
  herd   : Nat
  stroke : Nat
  own    : Option Bool := none
  votes  : List (Nat × Nat × Bool) := []  -- phase, package index of the child, bit
  sent   : List Nat := []                  -- phases already sent on
  result : Option Bool := none
  startAt : Nat := 0                       -- time of step 1 of the slot, ns
  deriving DecidableEq, Repr

/-- A collective digest entry (R332). -/
structure DigestEntry where
  ctx : Nat
  tensor : Nat
  step : Nat
  gen  : Nat
  tx   : Word := 0
  rx   : Word := 0
  complete : Bool := false
  known : Bool := true     -- the step is the full one; else only its low 12 bits are known
  stroke : Nat := 0        -- stroke of the last packet counted
  tiles : Nat := 0   -- tiles completed on this package
  order : Nat := 0
  deriving DecidableEq, Repr

/-- A reduction slot (R320): one tile of one attempt. -/
structure RedSlot where
  ctx : Nat
  gen : Nat
  tensor : Nat
  tile : Nat
  step : Nat
  attempt : Nat
  t    : Nat := 0
  q    : Tbl (BitVec 32) := []   -- combined values
  bound : Nat := 0
  nonfin : Bool := false
  mask : Tbl Nat := []           -- 2-bit codes, 0 where unlisted
  count : Nat := 0
  own  : Bool := false           -- this package's contribution is in
  data : List (Nat × Nat × List Nat) := []  -- EIR_DATA pieces of tiles still arriving: source, piece, values
  task : Nat := 0
  known : Bool := false          -- the step is the full one; else only its low 12 bits are known
  poison : NatSet := []          -- 64-bit words that are poisoned: 0 to 511 q, 512 to 543 the mask, 544 to 551 the header (R457)
  deriving DecidableEq, Repr

/-- The last attempt a package has seen of a tile (R323). -/
structure TileSeen where
  ctx : Nat
  gen : Nat
  tensor : Nat
  tile : Nat
  step : Nat
  attempt : Nat
  stroke : Nat := 0      -- stroke in which the attempt was last seen
  deriving DecidableEq, Repr

end Sys2Proof.Machine
end

