-- ==== Sys2Proof/Machine/StFab.lean ====
section
/-! DEFINITION. The state of ports, links, routes, flows, axis maps and discovery: what chapters 10 to 12 name. -/

namespace Sys2Proof.Machine

/-- The room that a received packet takes in its port's receive buffer, in flits: its channel's own, and the shared pool's (R348). -/
structure Room where
  port : Nat
  chan : Nat
  own  : Nat
  pool : Nat
  deriving DecidableEq, Repr

/-- A packet on its way out by a port: as it came and the port it came by, as it goes out, and the room that it still takes. -/
structure Moving where
  orig : Packet
  arr  : Option Nat := none
  pkt  : Packet
  room : Option Room := none
  deriving DecidableEq, Repr

/-- A block in a port's retry buffer: its number, its data flits without the idle headers behind them, and the packets that end in it (R344, R346). -/
structure TxBlk where
  seq  : Nat
  data : Bytes := []
  pkts : List Moving := []
  deriving DecidableEq, Repr

/-- One torus port (R338 to R349, R371, R413, R427). -/
structure Port where
  cfg      : Word := 0          -- PORT_CFG
  state    : Nat := 1           -- PORT_STATUS state (R340)
  reason   : Nat := 0           -- fail_reason
  delay    : Nat := 0           -- units of 100 ps
  revision : Nat := 0
  listening : Bool := false     -- trains under R421 without a plan entry
  trainFrom : Nat := 0          -- time training started, ns
  identity : Option Bytes := none  -- last good identity frame
  trained  : Bool := false      -- lanes trained and delay measured since training started (R416)
  check    : Nat := 0           -- the check of R416 that set the state last; 0 none since training started
  -- link layer
  rxExpect : Nat := 0           -- next block number expected in order
  rxAck    : Nat := 0xFFFF      -- highest block received in order
  replayReq : Bool := false
  rxOk     : Bool := true       -- the block closed last was received: the packets that it completes are delivered (R346)
  txNext   : Nat := 0           -- number of the block being filled
  txData   : Bytes := []        -- its data so far
  txPkts   : List Moving := []  -- the packets that end in it so far
  unacked  : List TxBlk := []   -- retry buffer, oldest first
  waiting  : List (Nat × Moving) := []  -- packets that wait for credit or retry space, oldest first, with the time they began to wait
  turn     : Nat := 0           -- member of the output round robin whose turn it is (R361)
  turnUsed : Nat := 0           -- packets it has sent in this turn
  credits  : Tbl Nat := []      -- credits left by channel, 512 where unlisted
  pool     : Nat := 2048        -- pool credits left
  held     : Tbl Nat := []      -- flits of the receive buffer taken by channel, of its own
  heldPool : Tbl Nat := []      -- and of the shared pool
  freed    : Tbl Nat := []      -- flits freed by channel since the last symbol
  freedPool : Nat := 0          -- and in the shared pool
  replays  : Nat := 0           -- replays of the oldest block
  markOut  : Option (Nat × Nat × Nat) := none  -- mark that the next symbol carries: stroke, period, slot (R349)
  -- telemetry
  ctr      : Tbl Nat := []      -- counters by offset in the port's block (R371)
  peak     : Tbl Nat := []      -- peak occupancy by channel
  digTx    : Word := 0
  digRx    : Word := 0
  strokeBytes : Nat := 0        -- bytes sent in the ending stroke (R358)
  deriving DecidableEq, Repr

/-- Bank states (R366). -/
inductive BankState where
  | empty | loading | ready | armed | active | draining
  deriving DecidableEq, Repr

/-- One route-table bank (R354, R366). -/
structure Bank where
  state   : BankState := .empty
  entries : Tbl (BitVec 16) := []
  loaded  : Nat := 0            -- order of loading
  swStroke : Nat := 0           -- armed stroke
  drainEnd : Nat := 0           -- stroke whose boundary empties a draining bank
  deriving DecidableEq, Repr

/-- A flow at its receiver (R364, R365). -/
structure RxFlow where
  src   : Nat
  dst   : Nat
  ctx   : Nat
  gen   : Nat
  cls   : Nat
  next  : Nat := 0
  lastStroke : Nat := 0         -- stroke in which a packet last left stage 2
  arrived : Nat := 0            -- stroke of the last arrival
  early : List Packet := []     -- packets that wait in the reorder store
  bad   : List (Nat × Nat) := []  -- poisoned words there: the packet's sequence number, its word, the header's four first (R457)
  poison : Bool := false        -- a word of the entry itself is poisoned (R457)
  unackN : Nat := 0             -- packets applied since the last ACK
  ackedTo : Option Nat := none  -- sequence number applied through
  run : Option (Nat × Nat × Nat) := none  -- the WRITE transfer that goes on: the address of its next packet, the bytes before it in its granule that it has written, and their window (R434)
  deriving DecidableEq, Repr

/-- A flow at its sender (R362): the next number, and the stroke of its last packet. -/
structure TxFlow where
  src   : Nat
  dst   : Nat
  ctx   : Nat
  gen   : Nat
  cls   : Nat
  next  : Nat := 0
  lastStroke : Nat := 0
  deriving DecidableEq, Repr

/-- A packet of a tracked transfer that has been sent and not acknowledged (R365). -/
structure Pending where
  src  : Nat
  dst  : Nat
  ctx  : Nat
  gen  : Nat
  cls  : Nat
  seq  : Nat
  xfer : Nat         -- cluster × 1024 + transfer, 65536 and above for forwarded relays and pulls
  deriving DecidableEq, Repr

/-- What waits for a reduction slot (R320): an EIR packet, or this package's own frame of a transfer. -/
inductive RedWait where
  | packet (p : Packet)
  | own (xfer ctx gen tile : Nat)
  deriving DecidableEq, Repr

/-- A packet of a relay block that has been forwarded (R239, R393). -/
structure RelayPkt where
  seq   : Nat            -- its sequence number as received
  fwd   : Nat            -- that of the forwarded copy
  acked : Bool := false  -- the copy has been acknowledged
  addr  : Nat            -- where it was stored, and how many bytes
  len   : Nat
  deriving DecidableEq, Repr

/-- A relay block being received, and forwarded where hops remain (R392, R393). -/
structure RelayFwd where
  src   : Nat          -- EID of the neighbour it came from
  dstEp : Nat
  ctx   : Nat
  gen   : Nat
  stroke : Nat         -- issue stroke of the header
  hdr   : Bytes        -- relay header of the block
  addr  : Nat          -- landing address of the next packet
  left  : Nat          -- bytes of the block still to come
  next  : Option Nat   -- the next member; none where the block is not forwarded
  head  : Nat := 0     -- bytes before that address in its granule that the block has written (R434)
  pend  : List RelayPkt := []  -- the packets forwarded
  old   : Option (Tbl (Word × Bool)) := none  -- the translations that its packets land under, where PT_INVALIDATE dropped them (R597)
  deriving DecidableEq, Repr

/-- One axis-map slot (R374, R376). -/
structure AxMap where
  image  : Bytes
  active : Bool := false
  deriving DecidableEq, Repr

/-- An armed axis-map switch of a herd (R377). -/
structure AxSwitch where
  herd   : Nat
  slot   : Nat
  stroke : Nat
  deriving DecidableEq, Repr

/-- The fabric: ports, banks, buckets, flows, maps, reduction slots, digests. -/
structure Fabric where
  ports   : Tbl Port := []
  banks   : Tbl Bank := []
  loadNo  : Nat := 0
  buckets : Tbl (Tbl Nat) := []    -- by direction 1–6, then bucket: port (R355)
  rebuild : List Nat := []         -- directions to rebuild in the next slot (R358)
  rxFlows : List RxFlow := []
  stalled : List Packet := []    -- answers to the transfer engines of a stopped die (R550)
  txFlows : List TxFlow := []
  pending : List Pending := []
  relays  : List RelayFwd := []
  selfIdx : Option Nat := none     -- own package index, a critical word (R352)
  maps    : Tbl AxMap := []
  axErr   : Tbl Nat := []          -- cmd_error by map slot
  axSwitch : List AxSwitch := []
  redSlots : List RedSlot := []
  redWait : List RedWait := []     -- reduction packets and own frames waiting for a slot, oldest first
  redRoom : List (Nat × Packet × Room) := []  -- the room that waiting reduction packets take in their ports' receive buffers, with the time they began to wait
  seen    : List TileSeen := []
  digests : Tbl DigestEntry := []
  digNo   : Nat := 0
  versions : List VersionEntry := []
  votes   : List VoteRound := []
  voidIn  : List VoidNote := []    -- received, to be applied in the next slot
  voidSent : List VoidNote := []   -- forwarded or sent already (R77)
  voidNew : List (Nat × VoidNote) := []    -- own notices sent since the last slot, with the context that was voided
  voidCause : List (Nat × VoidNote) := []  -- own notices that this slot applies
  -- discovery
  plan    : Bytes := []            -- plan image, empty when none is loaded (R414)
  absent  : List Nat := []         -- absent-peer set (R424)
  noticeKeys : List (Nat × Nat) := []  -- (unit, kind) noticed this stroke (R422)
  deriving DecidableEq, Repr

end Sys2Proof.Machine
end

