-- ==== Sys2Proof/Machine/StSys.lean ====
section
/-! DEFINITION. The state of the package around its engines: fuses, rails, clocks, gates, resets, the host port, Easel, the meter, security, the sideband and the memory ports (chapters 13 to 19). -/

namespace Sys2Proof.Machine

/-- The fused identity and configuration of this package, and the fuse units of its dies (R27 to R33, R588, R592). -/
structure Fuses where
  serial  : Nat := 0
  grade   : Nat := 1             -- 1 KTP-24A, 2 KTP-24B, 3 KTP-24E
  revision : Nat := 1
  cores   : Tbl Nat := []        -- present-core mask by cluster; the grade's lowest where unlisted
  fp64    : Tbl Bool := []       -- FP64 lanes by compute die; the grade's value where unlisted
  columns : Tbl Word := []       -- SRAM column repair by compute die
  memPorts : Tbl Nat := []       -- memory-port presence by memory die, 8 bits; all eight where unlisted
  staging : Tbl Word := []       -- staging-buffer repair by memory die
  ports   : Tbl Nat := []        -- port presence by link die, 6 bits; the grade's value where unlisted
  serdes  : Tbl Word := []       -- SerDes trim by link die
  identity : Nat := 0            -- the 256-bit identity secret, which nothing reads out (R589)
  minSec  : Nat := 0             -- fused minimum security version
  revoked : Nat := 0             -- revoked key slots, 4 bits
  debugLock : Bool := false
  deriving DecidableEq, Repr

/-- A rail below its warning threshold (R535): since when, the lowest voltage seen, and whether its return is no longer a dip's: it reached the reset threshold, or it was below at the assertion of PWR_GOOD (R531, R536). -/
structure RailDip where
  since : Nat
  low   : Nat
  past  : Bool := false
  deriving DecidableEq, Repr

/-- Supplies, pins and bring-up (R530 to R539, R555, R619 to R625). -/
structure PowerSt where
  ctl      : Bool := true            -- VDD_CTL is applied (R533)
  pwrGood  : Bool := false
  perst    : Bool := false           -- PERST_N is asserted
  step     : Option Nat := none      -- bring-up step in progress
  waiting  : Bool := false           -- bring-up waits for a pin, a trip or the supply hold to let it begin
  last     : Nat := 0                -- BRINGUP_STATUS: last step completed
  failStep : Nat := 0                -- the step that failed
  failCode : Nat := 0
  stopped  : Bool := false           -- that failure holds bring-up (R556)
  shadow   : Option Fuses := none    -- the dies' fuse units as step 3 read them into the triplicated shadows (R33), whose copies agree (log entry 81)
  readyMs  : Nat := 0
  from_    : Nat := 0                -- time that bring-up counts from, ns
  ready    : Bool := false           -- DEVICE_READY
  risen    : Bool := false           -- it has risen since package reset
  halted   : Bool := false           -- powered off on request, until PWR_GOOD falls (R539)
  offReq   : Bool := false           -- PWR_OFF_REQ_N
  trip     : Bool := false           -- THERM_TRIP_N
  supplyHold : Bool := false         -- waits for 1 ms above warning (R536)
  dips     : Tbl RailDip := []       -- by rail
  warned   : NatSet := []            -- rails warned since cleared
  stretched : Option Nat := none     -- start of the stretch in progress
  lastUp   : Nat := 0                -- last recovery of a rail
  hold10   : Bool := false           -- bring-up is held at step 10 until ESC_CLEAR (R486, R556)
  strapPins : Nat := 0               -- the levels on the straps: BOOT_SRC in bits [1:0], PKG_POS in bits [6:4]
  bootSrc  : Nat := 0                -- STRAPS as sampled
  pkgPos   : Nat := 0
  alert    : Bool := false           -- ALERT_N
  resetSince : Bool := false         -- a PACKAGE_RESET notice waits for DEVICE_READY (R501)
  deriving DecidableEq, Repr

/-- A step of a core clock change (R547, R550). -/
inductive ClkPhase where
  | idle | raising | locking | relock
  deriving DecidableEq, Repr

/-- A request of a core clock change: frequency, bypass, and the reason byte of R657. -/
structure ClkReq where
  mhz    : Nat
  bypass : Bool
  reason : Nat
  deriving DecidableEq, Repr

/-- The core clock of one compute die (R544 to R550, R605). -/
structure CoreClk where
  mhz     : Nat := 0                 -- current MHz; 0 before bring-up step 4
  bypass  : Bool := false
  pllB    : Bool := false
  phase   : ClkPhase := .idle
  target  : ClkReq := ⟨0, false, 0⟩
  held    : Option ClkReq := none
  stopped : Bool := false
  ceiling : Option Nat := none       -- throttle ceiling, MHz
  deriving DecidableEq, Repr

/-- Clocks, references and gates (R540 to R553). -/
structure ClockSt where
  core    : Tbl CoreClk := []
  setpoint : Tbl Nat := []           -- setpoint commanded over AVSBus by rail, 0 to 3 VDD_CG, 4 VDD_CS, 5 mV units; 160 (0.80 V) where unlisted
  reached : Tbl Nat := []            -- the same as the regulator has reached it (R547)
  fab     : Nat := 1400              -- CLK_FAB, MHz
  trim    : Nat := 0                 -- trim source
  correction : Nat := 0              -- last correction, 16 bits signed, 0.01 ppm
  present : NatSet := []             -- references present: 0 PCIE, 1 LINK, 2 SYS
  lost    : NatSet := []             -- lost since cleared
  off     : NatSet := []             -- unit codes gated by command
  hold    : NatSet := []             -- unit codes held
  onCmd   : NatSet := []             -- unit codes whose gate a command turned on (R551)
  lastUnit : Nat := 0
  lastCode : Nat := 0
  deriving DecidableEq, Repr

/-- A domain reset in progress, or waiting for its fence to drain (R471, R489). -/
structure DomRun where
  unit  : Nat
  cause : Nat
  ctx   : Nat                        -- context whose fault led to it; 0xFFFF if none
  fenced : Bool := false             -- the reset waits for the fence's 20 µs
  inner  : List Nat := []            -- the domains inside it whose resets it took over (R473)
  deriving DecidableEq, Repr

/-- Suspect tests on a domain (R481, R482). -/
structure SuspectTest where
  unit    : Nat
  waiting : List Nat                 -- suspects not yet tested, ascending
  current : Option Nat := none
  worked  : Option Nat := none       -- first stroke in which it had work in the domain
  idle    : Nat := 0                 -- strokes without work for the domain
  deriving DecidableEq, Repr

/-- The crash dump (R495 to R499). -/
structure DumpSt where
  running  : Option Nat := none      -- trigger
  at_      : Nat := 0
  stroke   : Nat := 0
  unit     : Nat := 0
  seq      : Nat := 0
  sections : List (Nat × Nat × Nat) := []  -- sections with no answer: kind, unit code, reason
  bodies   : List (Nat × Nat × Bytes) := []  -- section bodies taken before a reset: kind, unit code, bytes (R480)
  retained : Bytes := []             -- retained buffer's image; empty where it holds none
  trigger  : Nat := 0                -- of the last dump
  noAnswer : Nat := 0                -- of the last dump
  begins   : Option (Nat × Nat) := none  -- package reset that waits for the dump: cause, context
  deriving DecidableEq, Repr

/-- Resets, escalation, hangs and fences (R471 to R490). -/
structure ResetSt where
  running  : List DomRun := []
  history  : Tbl (List Nat) := []    -- reset times by domain's unit code, ns
  pkgHistory : List Nat := []        -- package reset times, ns
  oos      : NatSet := []            -- unit codes out of service
  pkgOos   : Bool := false           -- the package is OUT_OF_SERVICE; held in the standby domain
  oosDue   : Bool := false           -- the running package reset reached pkg_count: OUT_OF_SERVICE when it ends (R484)
  lastUnit : Nat := 0                -- RESET_STATUS
  lastCause : Nat := 0
  refused  : Nat := 0
  pkgCause : Nat := 9                -- PKG_RESET_STATUS
  fences   : NatSet := []            -- fenced units
  streak   : Tbl Nat := []           -- strokes without progress, by engine unit code
  progressed : NatSet := []          -- engines that progressed in this stroke
  tests    : List SuspectTest := []
  dieResets : Tbl (Nat × Nat × Nat) := []  -- DIE_RESETS: die, cluster and core counts
  copies   : Tbl NatSet := []        -- by critical word: which of its three copies, 0 to 2, disagree with the others (R459)
  dump     : DumpSt := {}
  deriving DecidableEq, Repr

/-- A vector of the MSI-X table (R508, R514). -/
structure MsixVec where
  addr : Nat := 0
  data : Nat := 0
  mask : Bool := true
  deriving DecidableEq, Repr

/-- The host port (R503 to R514, R658). -/
structure HostSt where
  d3      : Bool := false            -- D3hot
  msixEn  : Bool := false
  msixMask : Bool := false           -- function mask
  vecs    : Tbl MsixVec := []
  pba     : NatSet := []             -- pending bits
  config  : Tbl Nat := []            -- configuration dwords written, by offset
  held    : List (Bool × Nat × Bytes) := []  -- host traffic held in D3hot: message or write, vector or address, data
  faults  : Nat := 0                 -- HOST_ACCESS_FAULTS
  readErrors : Nat := 0              -- HOST_READ_ERRORS
  aer     : Nat := 0                 -- accesses recorded in Advanced Error Reporting (R13, R506)
  aerBits : NatSet := []             -- its uncorrectable error status: 12 poisoned TLP, 14 completion timeout, 15 completer abort
  deriving DecidableEq, Repr

/-- An Easel operation that runs (R515 to R526). -/
structure EaselRun where
  op    : Nat
  tag   : Nat
  args  : List Nat
  image : Bytes := []                -- image or range list read from the host
  read  : Bool := false              -- the whole image has been read, and what it changes is being written (R520)
  waits : Bool := false              -- a FIRMWARE_LOAD waits for a sideband update (R522)
  deriving DecidableEq, Repr

/-- The Easel port (R515). -/
structure EaselSt where
  run   : Option EaselRun := none
  op    : Nat := 0
  tag   : Nat := 0
  code  : Nat := 0
  refusedCode : Nat := 0
  progress : Nat := 0
  results : List Nat := [0, 0, 0, 0]
  deriving DecidableEq, Repr

/-- The metrology die (R558 to R579). Energy is held in µJ × 2^20, the unit of one sample in µW. -/
structure MeterSt where
  up      : Bool := false            -- VDD_MET is applied
  fine    : Nat := 0                 -- energy register with its fraction, units of 1/2^20 µJ
  ticks   : Nat := 0                 -- meter time
  sub     : Nat := 0                 -- samples since the last tick, 32 to a tick
  len     : Nat := 900
  lenNext : Option Nat := none
  startE  : Nat := 0                 -- register at the interval's start, mJ
  startT  : Nat := 0
  startStroke : Nat := 0xFFFFFFFFFFFF
  flags   : Nat := 0
  seq     : Nat := 0                 -- records written
  records : Tbl Bytes := []          -- by seq mod 4,096
  isSealed : Bool := true
  sealNext : Bool := false
  bank    : Nat := 0
  bankNext : Option Nat := none
  spoiled : NatSet := []
  nextFree : Nat := 1                -- next unwritten bank
  banks   : Tbl (List Bytes) := []   -- the three OTP copies of each bank written by the calibration port (R573)
  events  : Nat := 0                 -- event counter
  spent   : Bool := false            -- its capacity is exhausted
  tmr     : Nat := 0                 -- MET_TMR_DISAGREE
  calFault : Bool := false
  calEn   : Bool := false            -- MET_CAL_EN_N is asserted
  clockFault : Bool := false         -- timed from the RC oscillator
  secFine : Nat := 0                 -- energy of the second in progress
  select  : Nat := 0                 -- record select
  latch   : Bytes := []
  lenTaken : Bool := false           -- a length change took effect as VDD_MET fell: the next interval's record says so (R579)
  disturbed : Bool := false          -- the supply-disturbed line
  deriving DecidableEq, Repr

/-- What the control die last saw of the meter (R580 to R584). -/
structure MirrorSt where
  energy : Nat := 0
  time   : Nat := 0
  events : Nat := 0
  len    : Nat := 0
  varnish : Nat := 0
  bank   : Nat := 0
  flags  : Nat := 0
  seq    : Nat := 0
  record : Bytes := []
  stroke : Nat := 0
  stale  : Bool := false
  lastAt : Nat := 0
  seen   : Bool := false             -- a snapshot has arrived
  used   : Nat := 0                  -- energy at the previous attribution
  usedOk : Bool := false             -- a previous attribution since package reset
  unalloc : Nat := 0                 -- ATTR_UNALLOCATED
  attrStroke : Nat := 0
  staleStrokes : Nat := 0
  history : List (Nat × Nat) := []   -- snapshots of the last second: time in ns, energy in mJ (R602)
  deriving DecidableEq, Repr

/-- Secure boot, debug, temperatures and attestation (R586 to R607). -/
structure SecSt where
  flash   : List Bytes := [[], []]   -- images of slots A and B
  mark    : Nat := 0                 -- slot marked for the next bring-up
  slot    : Nat := 0                 -- boot slot
  fallback : Bool := false
  header  : Bytes := []              -- running image's header; empty before step 2 ends
  scope   : Nat := 0                 -- debug scope open
  nonceNo : Nat := 0                 -- number of the current nonce
  temps   : Tbl Int := []            -- °C by die, order of R602
  hottest : Tbl Int := []            -- highest since package reset
  warning : Bool := false
  warnDies : NatSet := []
  throttling : NatSet := []          -- compute dies being throttled
  idKey   : Nat := 0                 -- the device identity key and the alias key as bring-up derived them (R589)
  aliasKey : Nat := 0
  chain   : Bytes := []              -- certificate slot 0
  spdm    : Tbl Nat := []            -- negotiated state by transport: 0 none, 1 version, 2 capabilities, 3 algorithms
  deriving DecidableEq, Repr

/-- The sideband port (R599 to R602). -/
structure SideSt where
  mode  : Nat := 0                   -- 0 none, 1 I3C, 2 SMBus
  addr  : Nat := 0
  eid   : Nat := 0
  fw    : Bool := false              -- a sideband firmware update is writing the flash
  deriving DecidableEq, Repr

/-- One memory port (R429 to R447, R462). -/
structure MemPort where
  state  : Nat := 0                  -- 0 untrained, 1 training, 2 up, 3 retraining, 4 failed
  cause  : Nat := 0
  abandoned : Nat := 0               -- in a row
  last   : Nat := 0                  -- stroke of the last completed retrain
  lastAt : Nat := 0                  -- time of the last training, ns
  temp   : Nat := 0                  -- latest device temperature
  tempAt : Nat := 0                  -- at the last training
  turn   : Bool := false             -- out-of-turn request
  waiting : Nat := 0                 -- accesses held for it
  window : Nat := 0                  -- CE_WINDOW
  deriving DecidableEq, Repr

/-- The memory ports, the scrub and the injection (R443 to R447, R456, R464). -/
structure MemSys where
  density : Nat := 0                 -- 0 none, 1 16 Gbit, 2 32 Gbit
  ports   : Tbl MemPort := []
  granule : Nat := 0                 -- next granule of the sweep
  sweeps  : Nat := 0
  sweepAt : Nat := 0                 -- time the sweep began, ns
  credit  : Nat := 0                 -- bytes scrubbed in the sweep
  behind  : Bool := false            -- SCRUB_BEHIND logged in this sweep
  deriving DecidableEq, Repr

end Sys2Proof.Machine
end

