-- ==== Sys2Proof/Machine/Pkg.lean ====
section
/-! DEFINITION. The package's state: everything the spec names, but for the queue of commands. -/

namespace Sys2Proof.Machine

/-- An event record (R467). Its bytes are `Event.bytes`. -/
structure Event where
  stroke : Nat
  event  : Nat
  time   : Nat
  unit   : Nat
  ctx    : Option Nat
  code   : Nat
  lost   : Bool := false
  notice : Bool := false
  seq    : Nat
  detail : Bytes
  deriving DecidableEq, Repr

/-- What the package sends out of itself, in order (R504): posted host writes, MSI-X messages, packets, symbols with their marks and identity frames on ports, responses, pins. -/
inductive Output where
  | hostWrite (addr : Nat) (data : Bytes)
  | msix (vector : Nat)
  | packet (port : Nat) (chan : Nat) (p : Packet)
  | symbol (port : Nat) (b : Bytes)
  | identity (port : Nat) (frame : Bytes)
  | completion (status : Nat) (data : Bytes) (poisoned : Bool)
  | hostRead (tag : Nat) (addr len : Nat)
  | pin (name : Nat) (asserted : Bool)
  | sideband (data : Bytes)
  | spdm (data : Bytes)
  | flash (slot : Nat) (data : Bytes)
  | avs (master rail mv : Nat)            -- an AVSBus voltage write (R529)
  | avsRead (master rail : Nat)          -- an AVSBus voltage read
  | meter (data : Bytes)
  | ready                                -- the Device Readiness Status message
  deriving DecidableEq, Repr

/-- Sync states (STROKE_STATUS). -/
inductive Sync where
  | unsync | locked | holdover | lost
  deriving DecidableEq, Repr

/-- The stroke clock and the spare pool (chapter 2). -/
structure StrokeSt where
  cfg      : Word := 0x00010060000401F4  -- STROKE_CFG in force: holdover 256, defer 3, slot 4, period 500
  cfgNext  : Option Word := none    -- accepted write, in force from the next boundary (R52)
  number   : Nat := 0               -- STROKE_NUMBER
  sync     : Sync := .unsync
  holdovers : Nat := 0              -- holdover_strokes
  offset   : BitVec 16 := 0         -- mark_offset_ns
  markPort : Nat := 0               -- mark_port
  onAlt    : Bool := false          -- the alternate parent delivers the marks (R49)
  lastMark : Option (Nat × Nat) := none  -- period and slot last received, µs (R44)
  curPeriod : Nat := 500            -- of the current stroke, µs
  curSlot  : Nat := 4
  inSlot   : Bool := false
  openedAt : Nat := 0               -- time of the current stroke's boundary, ns
  nextAt   : Nat := 500000          -- expected next boundary, ns
  marked   : Bool := false          -- a mark for the coming boundary was accepted
  parentHeard : Bool := false       -- the parent port has delivered one while the alternate's is the one heard (R49)
  spareCfg : Word := 0x0000600000000000  -- SPARE_POOL_CFG: 24,576 pages
  freeLow  : Nat := 0               -- lowest free count since read
  used     : NatSet := []           -- frames of the pool region in use, as numbers within it
  joined   : NatSet := []           -- free frames from outside the region: superseded frames of mappings (R66)
  recycle  : List Nat := []         -- superseded frame numbers to return (R66)
  rounds   : List (Nat × Nat) := []  -- vote rounds of the last 1,024 strokes (VOTE_LATENCY): stroke, ns
  completeNo : Nat := 0             -- order of task completions
  turnCtx  : Nat := 0               -- context whose turn it is in the round robin of R240
  turnUsed : Nat := 0               -- dispatches it has made in this turn
  freeNo   : Nat := 0               -- the model's own counter of free values
  deriving DecidableEq, Repr

/-- The event log (R469, R470). -/
structure LogSt where
  recs    : List Event := []        -- newest first, at most 16,384
  nextSeq : Nat := 1
  lostNext : Bool := false          -- the next copied record has host_lost set
  deriving DecidableEq, Repr

/-- A spare frame taken for the first write of a page in a window, whose copy from an older version is skipped where the window's writes come to cover the whole page before any read of it (R65). -/
structure PageFill where
  ctx     : Nat
  frame   : Nat
  src     : Nat            -- the frame of the newest version that stood
  covered : NatSet := []   -- its granules, 0 to 1,023, that have been written whole
  deriving DecidableEq, Repr

/-- GDDR contents and protection state (chapter 13). Addresses are device physical (DPA). -/
structure MemSt where
  bytes  : Memory := []
  valid  : NatSet := []             -- granules ever written with a valid check; every other reads poisoned (R454)
  poison : NatSet := []             -- granules found uncorrectable or written poisoned (R449, R451)
  single : NatSet := []             -- granules with one bad symbol, corrected at the next read (R448, R464)
  double : NatSet := []             -- granules with two, uncorrectable at the next read
  inject : Word := 0                -- MEM_INJECT (R464)
  usable : Nat := 0                 -- usable size in bytes, found at bring-up (R430)
  fills  : List PageFill := []      -- frames whose copy is open (R65)
  served : NatSet := []             -- memory ports that have completed an access in this stroke (R479)
  deriving DecidableEq, Repr

/-- The package. -/
structure Pkg where
  fuses    : Fuses := {}
  now      : Nat := 0               -- package time, ns (R469)
  out      : List Output := []      -- everything sent, oldest first
  regs     : Tbl Word := []         -- plain registers and counters by BAR0 offset
  tasks    : Tbl Task := []
  cores    : Tbl CoreSt := []
  clusters : Tbl ClusterSt := []
  ctxs     : Tbl Ctx := []
  slots    : Tbl ModelSlot := []
  groups   : Tbl Group := []
  stroke   : StrokeSt := {}
  fab      : Fabric := {}
  log      : LogSt := {}
  mem      : MemSt := {}
  tlb      : Tbl (Tbl (Word × Bool)) := []  -- cached translations by context and 64 KiB page: the leaf, and whether it is a 2 MiB leaf (R597)
  power    : PowerSt := {}
  clk      : ClockSt := {}
  rst      : ResetSt := {}
  host     : HostSt := {}
  easel    : EaselSt := {}
  meter    : MeterSt := {}
  mirror   : MirrorSt := {}
  sec      : SecSt := {}
  side     : SideSt := {}
  msys     : MemSys := {}
  deriving DecidableEq, Repr

end Sys2Proof.Machine
end

