-- ==== Sys2Proof/Machine/Ops.lean ====
section
/-! DEFINITION. The named operations every family shares: counters, the event log and its host copy, notes on a task, and access to units' records. -/

namespace Sys2Proof.Machine

/-! ### Registers and counters -/

/-- A plain register or counter by BAR0 offset, zero where nothing has been written (its reset value is the register file's matter). -/
def Pkg.reg (s : Pkg) (off : Nat) : Word := s.regs.get 0 off

/-- The register written. -/
def Pkg.setReg (s : Pkg) (off : Nat) (v : Word) : Pkg := { s with regs := s.regs.set off v }

/-- A counter raised by `n`, 64 bits wide. -/
def Pkg.bumpBy (s : Pkg) (off n : Nat) : Pkg := s.setReg off (s.reg off + BitVec.ofNat 64 n)

/-- A counter raised by one. -/
def Pkg.bump (s : Pkg) (off : Nat) : Pkg := s.bumpBy off 1

/-- Something sent out of the package, after everything sent before (R504). -/
def Pkg.emit (s : Pkg) (o : Output) : Pkg := { s with out := s.out ++ [o] }

/-- The time of a command: package time never runs back (R469). -/
def Pkg.tick (s : Pkg) (t : Nat) : Pkg := { s with now := max s.now t }

/-- The free-value counter read and advanced (the model's own field). -/
def Pkg.fresh (s : Pkg) : Nat × Pkg :=
  (s.stroke.freeNo, { s with stroke := { s.stroke with freeNo := s.stroke.freeNo + 1 } })

/-! ### Towards the host (R504, R507, R514) -/

/-- A posted write to host memory: held inside the package in D3hot (R507). -/
def Pkg.hostW (s : Pkg) (addr : Nat) (data : Bytes) : Pkg :=
  if s.host.d3 then { s with host := { s.host with held := s.host.held ++ [(false, addr, data)] } }
  else s.emit (.hostWrite addr data)

/-- A vector raised (R513, R514): sent, or left pending while it or the function is masked; nothing while MSI-X is disabled and unmasked. -/
def Pkg.msixNow (s : Pkg) (v : Nat) : Pkg :=
  if (s.host.vecs.get {} v).mask || s.host.msixMask then { s with host := { s.host with pba := s.host.pba.ins v } }
  else if s.host.msixEn then s.emit (.msix v) else s

/-- A vector raised, held in D3hot (R507). -/
def Pkg.raise (s : Pkg) (v : Nat) : Pkg :=
  if s.host.d3 then { s with host := { s.host with held := s.host.held ++ [(true, v, [])] } } else s.msixNow v

/-- What D3hot held back goes out in order (R507). -/
def Pkg.releaseHost (s : Pkg) : Pkg :=
  s.host.held.foldl (fun s h => if h.1 then s.msixNow h.2.1 else s.emit (.hostWrite h.2.1 h.2.2))
    { s with host := { s.host with d3 := false, held := [] } }

/-! ### Unit codes (R35) -/

def Unit.package : Nat := 0x0000
def Unit.computeDie (n : Nat) : Nat := 0x1000 + n
def Unit.cluster (n : Nat) : Nat := 0x2000 + n
def Unit.core (n : Nat) : Nat := 0x3000 + n
def Unit.engine (core e : Nat) : Nat := 0x4000 + core * 8 + e
def Unit.memDie (n : Nat) : Nat := 0x5000 + n
def Unit.memPort (n : Nat) : Nat := 0x6000 + n
def Unit.linkDie (n : Nat) : Nat := 0x7000 + n
def Unit.port (n : Nat) : Nat := 0x8000 + n
def Unit.hostPort : Nat := 0x9000
def Unit.controlDie : Nat := 0xA000
def Unit.meterDie : Nat := 0xB000
def Unit.clusterEngine (cluster e : Nat) : Nat := 0xC000 + cluster * 2 + e

/-! ### The event log (R467 to R470) -/

/-- The 64 B of a record (R467). `phase` is the host ring's phase bit, 0 elsewhere. -/
def Event.bytes (e : Event) (phase : Bool) : Bytes :=
  leBytes 6 e.stroke ++ leBytes 2 e.event ++ leBytes 8 e.time ++ leBytes 2 e.unit ++
  leBytes 2 (match e.ctx with
    | some c => c % 4096 + 4096
    | none => 0) ++
  leBytes 1 e.code ++ leBytes 1 (e.lost.toNat + 2 * e.notice.toNat + 128 * phase.toNat) ++
  leBytes 2 0 ++ leBytes 8 e.seq ++ slice e.detail 0 32

/-- LOG_CFG, LOG_HOST_BASE, LOG_HOST_CONSUMER, LOG_HOST_DROPS and LOG_OVERWRITTEN (R470, R500). -/
def Reg.logCfg : Nat := 0x100100
def Reg.logHostBase : Nat := 0x100108
def Reg.logHostConsumer : Nat := 0x100110
def Reg.logHostDrops : Nat := 0x100238
def Reg.logOverwritten : Nat := 0x100230

/-- The host copy of a record (R470): written to its ring entry with its phase, or dropped where it would overtake the consumer. -/
def Pkg.logCopy (s : Pkg) (e : Event) : Pkg :=
  let cfg := s.reg Reg.logCfg
  if bitAt cfg 0 then
    let k := fld cfg 8 4
    if e.seq > (s.reg Reg.logHostConsumer).toNat + 2 ^ k then
      { s.bump Reg.logHostDrops with log := { s.log with lostNext := true } }
    else
      let e' := { e with lost := s.log.lostNext }
      let s := { s with log := { s.log with lostNext := false } }
      let s := s.hostW ((s.reg Reg.logHostBase).toNat + 64 * (e.seq % 2 ^ k))
        (e'.bytes (bitAt (BitVec.ofNat 64 e.seq) k))
      if bitAt cfg 10 then s.raise (fld cfg 26 16) else s
  else s

/-- One event record written to the control die's log, and copied to the host ring where enabled (R467, R469, R470). -/
def Pkg.logWith (s : Pkg) (event unit : Nat) (ctx : Option Nat) (code : Nat) (notice : Bool) (detail : Bytes) : Pkg :=
  let e : Event :=
    { stroke := s.stroke.number, event := event, time := s.now, unit := unit, ctx := ctx, code := code,
      notice := notice, seq := s.log.nextSeq, detail := detail }
  let s := if s.log.recs.length ≥ 16384 then s.bump Reg.logOverwritten else s
  let s := { s with log := { s.log with recs := (e :: s.log.recs).take 16384, nextSeq := s.log.nextSeq + 1 } }
  s.logCopy e

/-- A record of an event that reports no status code and sends no notice. -/
def Pkg.logEv (s : Pkg) (event unit : Nat) (ctx : Option Nat) (detail : Bytes) : Pkg :=
  s.logWith event unit ctx 0 false detail

/-! Event codes by group (R468). -/

def Ev.regWriteDiscarded : Nat := 0x0101
def Ev.admitFailed : Nat := 0x0102
def Ev.ringIndexInvalid : Nat := 0x0103
def Ev.cqFull : Nat := 0x0104
def Ev.hostPoisonRead : Nat := 0x0105
def Ev.strokeParentSwitch : Nat := 0x0201
def Ev.strokeHoldover : Nat := 0x0202
def Ev.strokeLost : Nat := 0x0203
def Ev.taskOverrun : Nat := 0x0204
def Ev.strokeVoided : Nat := 0x0205
def Ev.sparePoolEmpty : Nat := 0x0206
def Ev.transferAged : Nat := 0x0207
def Ev.cwSkipped : Nat := 0x0301
def Ev.programEndMissing : Nat := 0x0302
def Ev.paletteWriteClash : Nat := 0x0303
def Ev.tableNotOwned : Nat := 0x0304
def Ev.rowStatsDropped : Nat := 0x0305
def Ev.rowStatsMissing : Nat := 0x0306
def Ev.sparseMetaInvalid : Nat := 0x0307
def Ev.routeIndexRange : Nat := 0x0308
def Ev.routeDeferFull : Nat := 0x0309
def Ev.tileOffsetInvalid : Nat := 0x030A
def Ev.regfileParity : Nat := 0x030B
def Ev.numericsModeRefused : Nat := 0x0401
def Ev.historyEntryStale : Nat := 0x0402
def Ev.scaleStepBehind : Nat := 0x0403
def Ev.guardFlagStale : Nat := 0x0404
def Ev.recomputeNoOffsets : Nat := 0x0405
def Ev.ledgerStale : Nat := 0x0406
def Ev.ledgerCollision : Nat := 0x0407
def Ev.ledgerUnmapped : Nat := 0x0408
def Ev.groupCmdRefused : Nat := 0x0409
def Ev.groupStepBehind : Nat := 0x040A
def Ev.frozenSkip : Nat := 0x040B
def Ev.nonfiniteMasked : Nat := 0x040C
def Ev.eirFrameNotWritten : Nat := 0x0501
def Ev.eirTileRedone : Nat := 0x0502
def Ev.eirTileExhausted : Nat := 0x0503
def Ev.eirCountMismatch : Nat := 0x0504
def Ev.portFailed : Nat := 0x0601
def Ev.badHeader : Nat := 0x0602
def Ev.badEndpoint : Nat := 0x0603
def Ev.routeDrop : Nat := 0x0604
def Ev.remoteAccessFault : Nat := 0x0605
def Ev.faultNotice : Nat := 0x0606
def Ev.faultNoticeRx : Nat := 0x0607
def Ev.peerNoticeRejected : Nat := 0x0608
def Ev.axmapCmdRefused : Nat := 0x0701
def Ev.reshardRefused : Nat := 0x0702
def Ev.reshardFailed : Nat := 0x0703
def Ev.memRetrainAbandoned : Nat := 0x0801
def Ev.memoryPortLost : Nat := 0x0802
def Ev.memUncorrectable : Nat := 0x0803
def Ev.scrubBehind : Nat := 0x0804
def Ev.sramUncorrectable : Nat := 0x0805
def Ev.tmrLost : Nat := 0x0806
def Ev.selfTestFailed : Nat := 0x0807
def Ev.adderRemoteStore : Nat := 0x0808
def Ev.domainReset : Nat := 0x0901
def Ev.hangDetected : Nat := 0x0902
def Ev.suspectCleared : Nat := 0x0903
def Ev.hangUnattributed : Nat := 0x0904
def Ev.domainOutOfService : Nat := 0x0905
def Ev.packageReset : Nat := 0x0906
def Ev.fenceAsserted : Nat := 0x0907
def Ev.fenceDrainTimeout : Nat := 0x0908
def Ev.contextReleased : Nat := 0x0909
def Ev.crashDumpDone : Nat := 0x090A
def Ev.taskStranded : Nat := 0x090B
def Ev.logOverwrite : Nat := 0x090C

def Ev.supplyWarn : Nat := 0x0A01
def Ev.supplyReset : Nat := 0x0A02
def Ev.supplySequenceFault : Nat := 0x0A03
def Ev.refclkLost : Nat := 0x0A04
def Ev.refclkRestored : Nat := 0x0A05
def Ev.oscTrimSource : Nat := 0x0A06
def Ev.pllUnlock : Nat := 0x0A07
def Ev.clockSwitched : Nat := 0x0A08
def Ev.thermalTrip : Nat := 0x0A09
def Ev.powerOff : Nat := 0x0A0A
def Ev.bringupFailed : Nat := 0x0A0B
def Ev.secureBootFallback : Nat := 0x0B01
def Ev.firmwareRejected : Nat := 0x0B02
def Ev.versionCommitted : Nat := 0x0B03
def Ev.debugUnlocked : Nat := 0x0B04
def Ev.debugLocked : Nat := 0x0B05
def Ev.debugTokenRejected : Nat := 0x0B06
def Ev.thermalWarn : Nat := 0x0B07
def Ev.thermalWarnEnd : Nat := 0x0B08
def Ev.thermalThrottle : Nat := 0x0B09
def Ev.thermalThrottleEnd : Nat := 0x0B0A
def Ev.sidebandMode : Nat := 0x0B0B
def Ev.meterMirrorStale : Nat := 0x0C01
def Ev.meterMirrorRestored : Nat := 0x0C02
def Ev.meterUnsealed : Nat := 0x0C03
def Ev.meterSealed : Nat := 0x0C04
def Ev.meterEventCount : Nat := 0x0C05
def Ev.meterCalFault : Nat := 0x0C06
def Ev.meterInterrupted : Nat := 0x0C07
def Ev.meterIntervalChanged : Nat := 0x0C08

/-- FENCE_REFUSALS (R500). -/
def Reg.fenceRefusals : Nat := 0x100228

/-! ### Discarded writes (R13, R468) -/

def Reg.badAccess : Nat := 0x000100
def Reg.discardedWrites : Nat := 0x000108
def Reg.lastBad : Nat := 0x000110

/-- A write discarded and logged: REG_WRITE_DISCARDED with the offset, the byte enables and the bytes (R468). -/
def Pkg.discardBytes (s : Pkg) (off be : Nat) (v : Word) : Pkg :=
  (s.bump Reg.discardedWrites).logEv Ev.regWriteDiscarded Unit.controlDie none
    (leBytes 4 off ++ leBytes 1 be ++ leBytes 3 0 ++ (leBytes 8 v.toNat).zipIdx.map fun b => if be.testBit b.2 then b.1 else 0)

/-- An aligned 64-bit write discarded and logged. -/
def Pkg.discard (s : Pkg) (off : Nat) (v : Word) : Pkg := s.discardBytes off 0xFF v

/-! ### What is present (R24 to R30, R551) -/

/-- Present cores of a cluster by grade (R3, R29). -/
def Fuses.perCluster (f : Fuses) : Nat := if f.grade = 1 then 8 else if f.grade = 2 then 7 else 4

/-- The present-core mask of a cluster. -/
def Fuses.mask (f : Fuses) (cluster : Nat) : Nat := f.cores.get (2 ^ f.perCluster - 1) cluster

/-- Whether a physical core is present. -/
def Pkg.corePresent (s : Pkg) (c : Nat) : Bool := decide (c < 512) && (s.fuses.mask (c / 8)).testBit (c % 8)

/-- The present cores, in ascending physical order: the logical numbering (R27). -/
def Pkg.presentCores (s : Pkg) : List Nat := (List.range 512).filter s.corePresent

/-- The ports of a grade on each link die (R3, R26). -/
def Fuses.gradePorts (f : Fuses) : Nat := if f.grade = 3 then 3 else 0x3F

/-- The present ports of a link die. -/
def Fuses.linkPorts (f : Fuses) (die : Nat) : Nat := f.ports.get f.gradePorts die

def Pkg.portPresent (s : Pkg) (n : Nat) : Bool := decide (n < 24) && (s.fuses.linkPorts (n / 6)).testBit (n % 6)

/-- Whether FP64 lanes are present on a compute die (R28, R33). -/
def Fuses.hasFp64 (f : Fuses) (die : Nat) : Bool := f.fp64.get (f.grade != 3) die

/-- The set bits of a mask of eight. -/
def bitCount (m : Nat) : Nat := ((List.range 8).filter m.testBit).length

/-- The first die whose fuses disagree with the grade, as its unit code (R29, R32, R33). -/
def Fuses.clash (f : Fuses) : Option Nat :=
  (((List.range 16).find? fun d =>
      f.hasFp64 d != (f.grade != 3) || ((upto (4 * d) 4).any fun c => bitCount (f.mask c) != f.perCluster || decide (255 < f.mask c))).map Unit.computeDie).orElse fun _ =>
  (((List.range 4).find? fun d => f.memPorts.get 0xFF d != 0xFF).map Unit.memDie).orElse fun _ =>
  ((List.range 4).find? fun d => f.linkPorts d != f.gradePorts).map Unit.linkDie

/-- Whether a unit is out of service, itself or by a containing domain (R485). -/
def Pkg.unitOos (s : Pkg) (unit : Nat) : Bool :=
  let o := s.rst.oos
  let i := unit % 4096
  o.mem unit || (match unit / 4096 with
    | 2 => o.mem (Unit.computeDie (i / 4))
    | 3 => o.mem (Unit.cluster (i / 8)) || o.mem (Unit.computeDie (i / 32))
    | 4 => o.mem (Unit.core (i / 8)) || o.mem (Unit.cluster (i / 64)) || o.mem (Unit.computeDie (i / 256))
    | 8 => o.mem (Unit.linkDie (i / 6))
    | 12 => o.mem (Unit.cluster (i / 2)) || o.mem (Unit.computeDie (i / 8))
    | _ => false)

/-- Whether a set of units names a unit or one that contains it (R35, R471, R551). -/
def inTree (g : NatSet) (unit : Nat) : Bool :=
  let i := unit % 4096
  g.mem unit || (match unit / 4096 with
    | 1 => g.mem Unit.package
    | 2 => g.mem (Unit.computeDie (i / 4)) || g.mem Unit.package
    | 3 => g.mem (Unit.cluster (i / 8)) || g.mem (Unit.computeDie (i / 32)) || g.mem Unit.package
    | 4 => g.mem (Unit.core (i / 8)) || g.mem (Unit.cluster (i / 64)) || g.mem (Unit.computeDie (i / 256)) || g.mem Unit.package
    | 6 => g.mem (Unit.memDie (i / 8)) || g.mem Unit.package
    | 8 => g.mem (Unit.linkDie (i / 6)) || g.mem Unit.package
    | 5 | 7 => g.mem Unit.package
    | 12 => g.mem (Unit.cluster (i / 2)) || g.mem (Unit.computeDie (i / 8)) || g.mem Unit.package
    | _ => false)

/-- Whether a unit is gated or held, itself or by an ancestor (R551). -/
def Pkg.gated (s : Pkg) (unit : Nat) : Bool := inTree s.clk.off unit || inTree s.clk.hold unit

/-- Whether a unit lies in a domain that is being reset (R471); a reset that waits for its fence has not begun (R489). -/
def Pkg.inReset (s : Pkg) (unit : Nat) : Bool := inTree ((s.rst.running.filter fun r => !r.fenced).map (·.unit)) unit

/-- The core clock of a compute die, MHz (R549). -/
def Pkg.dieMhz (s : Pkg) (die : Nat) : Nat := (s.clk.core.get {} die).mhz

/-- Whether the compute, memory and link clocks have stopped: after a thermal trip, until its reset begins and beyond (R538), and on the halt of a power-off (R539). -/
def Pkg.frozen (s : Pkg) : Bool := s.power.trip || s.power.halted

/-- Whether a compute die's clock has stopped: for want of a PLL (R550), or with every other clock. -/
def Pkg.dieStopped (s : Pkg) (die : Nat) : Bool := s.frozen || (s.clk.core.get {} die).stopped

/-- The packages of the grade's largest herd (R3). -/
def Fuses.herdLimit (f : Fuses) : Nat := if f.grade = 3 then 8 else 24576

/-- The maximum core clock of the grade, MHz (R38). -/
def Fuses.maxMhz (f : Fuses) : Nat := if f.grade = 3 then 1500 else 1800

/-! ### Records of units -/

def Pkg.core (s : Pkg) (c : Nat) : CoreSt := s.cores.get {} c
def Pkg.setCore (s : Pkg) (c : Nat) (v : CoreSt) : Pkg := { s with cores := s.cores.set c v }
def Pkg.updCore (s : Pkg) (c : Nat) (f : CoreSt → CoreSt) : Pkg := s.setCore c (f (s.core c))
def Pkg.cluster (s : Pkg) (c : Nat) : ClusterSt := s.clusters.get {} c
def Pkg.setCluster (s : Pkg) (c : Nat) (v : ClusterSt) : Pkg := { s with clusters := s.clusters.set c v }
def Pkg.updCluster (s : Pkg) (c : Nat) (f : ClusterSt → ClusterSt) : Pkg := s.setCluster c (f (s.cluster c))
def Pkg.ctx (s : Pkg) (c : Nat) : Ctx := s.ctxs.get {} c
def Pkg.setCtx (s : Pkg) (c : Nat) (v : Ctx) : Pkg := { s with ctxs := s.ctxs.set c v }
def Pkg.updCtx (s : Pkg) (c : Nat) (f : Ctx → Ctx) : Pkg := s.setCtx c (f (s.ctx c))
def Pkg.task (s : Pkg) (k : Nat) : Task := s.tasks.get {} k
def Pkg.setTask (s : Pkg) (k : Nat) (v : Task) : Pkg := { s with tasks := s.tasks.set k v }
def Pkg.updTask (s : Pkg) (k : Nat) (f : Task → Task) : Pkg :=
  match s.tasks.find k with
  | some v => s.setTask k (f v)
  | none => s
def Pkg.group (s : Pkg) (g : Nat) : Group := s.groups.get {} g
def Pkg.setGroup (s : Pkg) (g : Nat) (v : Group) : Pkg := { s with groups := s.groups.set g v }
def Pkg.port (s : Pkg) (p : Nat) : Port := s.fab.ports.get {} p
def Pkg.setPort (s : Pkg) (p : Nat) (v : Port) : Pkg := { s with fab := { s.fab with ports := s.fab.ports.set p v } }
def Pkg.updPort (s : Pkg) (p : Nat) (f : Port → Port) : Pkg := s.setPort p (f (s.port p))
def Pkg.bank (s : Pkg) (b : Nat) : Bank := s.fab.banks.get {} b
def Pkg.setBank (s : Pkg) (b : Nat) (v : Bank) : Pkg := { s with fab := { s.fab with banks := s.fab.banks.set b v } }

/-- A counter of a core's block raised (R165, R212). -/
def Pkg.coreCount (s : Pkg) (c off n : Nat) : Pkg :=
  s.updCore c fun k => { k with ctr := k.ctr.upd 0 off (· + n) }

/-- A counter of a cluster's block raised (R651). -/
def Pkg.clusterCount (s : Pkg) (c off n : Nat) : Pkg :=
  s.updCluster c fun k => { k with ctr := k.ctr.upd 0 off (· + n) }

/-- A packet sent or a deposit landed by a cluster's transfer engine (R479). -/
def Pkg.txeMoved (s : Pkg) (cluster : Nat) : Pkg :=
  { s with rst := { s.rst with progressed := s.rst.progressed.ins (Unit.clusterEngine cluster 0) } }

/-- Activity units credited to a context in this stroke (R583). -/
def Pkg.credit (s : Pkg) (c n : Nat) : Pkg := s.updCtx c fun x => { x with activity := x.activity + n }

/-- Sticky flags raised for a task (R105). -/
def Pkg.taskFlags (s : Pkg) (k : Nat) (f : Sticky) : Pkg := s.updTask k fun t => { t with ieee := t.ieee.or f }

/-- An event logged for a task: a record with its context, the task's event count, and at least OK_WITH_EVENTS (R21, R231). -/
def Pkg.taskEvent (s : Pkg) (k event unit code : Nat) (detail : Bytes) : Pkg :=
  let s := s.logWith event unit (some (s.task k).ctx) code false detail
  s.updTask k fun t => { t with events := t.events + 1, code := Code.worst t.code (Code.worst code Code.okEvents) }

/-- An event record of the control die, logged for a task where one caused it (R231). -/
def Pkg.noteFor (s : Pkg) (task : Option Nat) (c event : Nat) : Pkg :=
  match task with
  | some k => s.taskEvent k event Unit.controlDie 0 []
  | none => s.logEv event Unit.controlDie (some c) []

/-- The unit on which a task runs. -/
def Task.unit (t : Task) : Nat := if t.update then Unit.clusterEngine t.core 1 else Unit.core t.core

/-- A condition recorded for a task: its worst code raised to at least `code`, and one event record of the condition's own name in each run (R21). -/
def Pkg.taskCode (s : Pkg) (k code : Nat) : Pkg :=
  let t := s.task k
  if code < 0x10 ∨ t.conds.contains code then s.updTask k fun t => { t with code := Code.worst t.code code }
  else (s.updTask k fun t => { t with conds := t.conds ++ [code] }).taskEvent k code (if t.phase = .running then t.unit else Unit.controlDie) code []

/-- The cluster of a physical core (R24). -/
def clusterOf (core : Nat) : Nat := core / 8

end Sys2Proof.Machine
end

