-- ==== Sys2Proof/Machine/Ledger.lean ====
section
/-! DEFINITION. What a conversion into a stored tensor leaves beside its element: sticky flags, the window's ledger counts, the largest magnitude, the step flag and the shadow events (R121, R250, R255 to R258, R265, R266, R269). -/

namespace Sys2Proof.Machine

/-! ### Fields of descriptors -/

def TensorRef.base (t : TensorRef) : Nat := fld t.desc 47 0
def TensorRef.fmt (t : TensorRef) : Nat := fld t.desc 55 48
def TensorRef.buffered (t : TensorRef) : Bool := bitAt t.desc 56
def TensorRef.grad (t : TensorRef) : Bool := bitAt t.desc 57
def TensorRef.policy (t : TensorRef) : Nat := fld t.desc 59 58
def TensorRef.rmode (t : TensorRef) : Nat := fld t.desc 66 64
def TensorRef.cmode (t : TensorRef) : Nat := fld t.desc 68 67
def TensorRef.epoch (t : TensorRef) : Nat := fld t.desc 79 72
def TensorRef.shardDim (t : TensorRef) : Nat := fld t.desc 81 80
def TensorRef.id (t : TensorRef) : Nat := fld t.desc 127 96
def TensorRef.extent (t : TensorRef) (d : Nat) : Nat := fld t.desc (128 + 32 * d + 31) (128 + 32 * d)
def TensorRef.stride (t : TensorRef) (d : Nat) : Nat := fld t.desc (256 + 48 * (d - 1) + 47) (256 + 48 * (d - 1))
def TensorRef.scalePtr (t : TensorRef) : Nat := fld t.desc 447 400
def TensorRef.version (t : TensorRef) : Nat := fld t.desc 479 448
def TensorRef.shards (t : TensorRef) : Nat := fld t.desc 495 480
def TensorRef.shardIdx (t : TensorRef) : Nat := fld t.desc 511 496
def TensorRef.S (t : TensorRef) : Nat := fld t.scale 31 0
def TensorRef.auto (t : TensorRef) : Bool := bitAt t.scale 40
def TensorRef.offsetAddr (t : TensorRef) : Nat := fld t.scale 111 64
def TensorRef.blockAddr (t : TensorRef) : Nat := fld t.scale 175 128

/-- The scale as an exact value. -/
def TensorRef.scaleNum (t : TensorRef) : Num := fp32.decode t.S

/-- The shard's extent in a dimension (R227). -/
def TensorRef.shardExt (t : TensorRef) (d : Nat) : Nat :=
  if d = t.shardDim then t.extent d / max 1 t.shards else t.extent d

/-- The shard's first index in a dimension (R227). -/
def TensorRef.shardOff (t : TensorRef) (d : Nat) : Nat :=
  if d = t.shardDim then t.shardIdx * (t.extent d / max 1 t.shards) else 0

/-- A logical index from full indices (R126). -/
def TensorRef.logical (t : TensorRef) (i0 i1 i2 i3 : Nat) : Nat :=
  i0 + t.extent 0 * (i1 + t.extent 1 * (i2 + t.extent 2 * i3))

/-! Fields of a task descriptor (R225). -/

def Task.image (t : Task) : Nat := fld t.desc 63 0
def Task.tensorArr (t : Task) : Nat := fld t.desc 127 64
def Task.succList (t : Task) : Nat := fld t.desc 191 128
def Task.budget (t : Task) : Nat := fld t.desc 223 192
def Task.succCount (t : Task) : Nat := fld t.desc 239 224
def Task.depCount (t : Task) : Nat := fld t.desc 255 240
def Task.step (t : Task) : Nat := fld t.desc 319 256
def Task.rstream (t : Task) : Nat := fld t.desc 335 320
def Task.modelSlot (t : Task) : Nat := fld t.desc 351 336
def Task.span (t : Task) : Nat := fld t.desc 367 352
def Task.tensorCount (t : Task) : Nat := fld t.desc 383 368
def Task.mask (t : Task) : BitVec 64 := BitVec.ofNat 64 (fld t.desc 447 384)
def Task.coreField (t : Task) : Nat := fld t.desc 463 448
def Task.replayable (t : Task) : Bool := bitAt t.desc 464
def Task.placement (t : Task) : Nat := fld t.desc 466 465
def Task.irq (t : Task) : Bool := bitAt t.desc 467
def Task.awaitEn (t : Task) (n : Nat) : Bool := bitAt t.desc (472 + n)
def Task.awaitCtr (t : Task) (n : Nat) : Nat := fld t.desc (480 + 8 * n + 7) (480 + 8 * n)
/-- The counter under which a task awaits: its number, or where the window of an earlier entry has been kept for it (R84). -/
def Task.awaitKey (t : Task) (n : Nat) : Nat := t.awaits.get (t.awaitCtr n) (t.awaitCtr n)
def Task.awaitMin (t : Task) (n : Nat) : Nat := fld t.desc (512 + 64 * n + 63) (512 + 64 * n)
def Task.tag (t : Task) : Nat := fld t.desc 703 640
def Task.hasSlot (t : Task) : Bool := t.modelSlot != 0xFFFF

/-- The tensor at an index of a task: its array, or the slot tensors at 252 to 255 (R191, R230). -/
def Task.tensor (t : Task) (i : Nat) : Option TensorRef :=
  if t.hasSlot && decide (252 ≤ i ∧ i ≤ 255) then t.slotRefs.find (i - 252)
  else t.tensors[i]?

/-- Whether an index names a tensor of the task. -/
def Task.tensorOk (t : Task) (i : Nat) : Bool := (t.tensor i).isSome

/-! ### Modes of a context -/

/-- Whether a context runs a step in guarded mode (R247). -/
def Ctx.guarded (x : Ctx) (step : Nat) : Bool := if step < x.switchStep then x.modeBefore else x.modeAfter

def Ctx.herdEn (x : Ctx) : Bool := bitAt x.herd 16
def Ctx.herdId (x : Ctx) : Nat := fld x.herd 15 0
/-- Tensors whose blocks mismatched in a step whose flag is set (R400). -/
def Ctx.badTensors (x : Ctx) (step : Nat) : List Nat :=
  match x.cur.flags.find (step % 4) with
  | some e => if e.step = step then e.tensors else []
  | none => []

def Ctx.stateCode (x : Ctx) : Nat := match x.phase with
  | .free => 0
  | .open => 1
  | .closing => 2

/-! ### Step flags (R255, R256, R399) -/

def Reg.guardStale : Nat := 0x050108

/-- Raises a flag of a step: `nonfin` the non-finite flag, else the step-invalid flag. A lower step is replaced; a higher one drops the flag, counted and logged (R256). -/
def Pkg.raiseFlag (s : Pkg) (task : Option Nat) (c step : Nat) (nonfin : Bool) : Pkg :=
  let x := s.ctx c
  let e := x.cur.flags.get {} (step % 4)
  let known := (x.cur.flags.find (step % 4)).isSome
  if known && decide (e.step > step) then
    (s.bump Reg.guardStale).noteFor task c Ev.guardFlagStale
  else
    let b : StepFlag := if known && e.step == step then e else { step := step }
    let b := if nonfin then { b with nonfin := true } else { b with invalid := true }
    s.setCtx c { x with cur := { x.cur with flags := x.cur.flags.set (step % 4) b } }

/-- Whether a step's flag is found set (R256). -/
def Ctx.flagSet (x : Ctx) (step : Nat) (nonfin : Bool) : Bool :=
  match x.cur.flags.find (step % 4) with
  | some e => e.step == step && (if nonfin then e.nonfin else e.invalid)
  | none => false

/-! ### The window's ledger counts (R264 to R266) -/

/-- The stroke of the window that a context's writes now belong to. -/
def Pkg.window (s : Pkg) : Nat := s.stroke.number

/-- Adds counts to the current window's entry of a tensor and step, where the context keeps a ledger. -/
def Pkg.ledgerAdd (s : Pkg) (c tensor step fmt : Nat) (f : LedgerCount → LedgerCount) : Pkg :=
  let x := s.ctx c
  if !bitAt x.ledgerCfg 0 then s else
  let w := s.window
  let hit (l : LedgerCount) : Bool := l.window == w && l.tensor == tensor && l.step == step
  let ls := if x.ledger.any hit then x.ledger.map fun l => if hit l then f { l with format := fmt } else l
    else x.ledger ++ [f { window := w, tensor := tensor, step := step, format := fmt }]
  s.setCtx c { x with ledger := ls }

/-- The next narrower proposal format: E5M2 for BF16, E4M3 for E5M2 (R269). -/
def narrower (fmt : Nat) : Option Nat := if fmt = 4 then some 7 else if fmt = 7 then some 6 else none

/-- Whether proposals are made for a tensor (R268, R249 flags [0]). -/
def TensorRef.proposes (t : TensorRef) : Bool :=
  t.auto && t.grad && (t.fmt == 6 || t.fmt == 7 || t.fmt == 4) && (le t.hist 2 1) % 2 == 1

/-- The shadow events of values `v` (with the tensor scale applied) under the next narrower format, an infinity that saturates among them (R119, R121, R269). `off`: tile offset. DESIGN CHOICE, log entry 99: the notional conversion takes the format's default conversion mode, which R269 leaves open. -/
def TensorRef.shadowEvents (t : TensorRef) (off : Int) (vs : List Num) : Nat :=
  if !t.proposes then 0 else
  match narrower t.fmt with
  | none => 0
  | some f =>
    let e := sext 16 (le t.hist 4 2)
    (vs.filter fun v =>
      let r := fmtConv f .rne ((cmodeOf f 0).getD true) 0 (v.scale (-(e + off)))
      r.ovf || r.vanish).length

/-- The largest finite magnitude merged into a task's maxima of a tensor, 0 included (R250). -/
def Task.noteMax (t : Task) (i : Nat) (m : Nat × Int) : Task :=
  if t.maxima.any (·.tensor == i) then
    { t with maxima := t.maxima.map fun x =>
        if x.tensor == i then { x with m := (magMax (x.m, x.e) m).1, e := (magMax (x.m, x.e) m).2 } else x }
  else { t with maxima := t.maxima ++ [⟨i, m.1, m.2⟩] }

/-- The largest finite value of a tensor's format, as FP32-exact magnitude (R252). -/
def fmtLargest (fmt : Nat) : Nat × Int := blockMax fmt

/-- The back-off value L × S × 2^(b − h) of R258. -/
def TensorRef.backoff (t : TensorRef) : Nat × Int :=
  let (m, e) := fmtLargest t.fmt
  match t.scaleNum with
  | .fin _ n f => (m * n, e + f + (le t.hist 1 1 : Int) - (le t.hist 0 1 : Int))
  | _ => (0, 0)

/-- A non-finite value of a gradient tensor of a context without a herd: the flag of the step is raised, and in guarded mode an auto-scaled tensor takes the back-off (R255, R258). -/
def Pkg.localNonfin (s : Pkg) (k i : Nat) (t : TensorRef) : Pkg :=
  let task := s.task k
  let s := s.raiseFlag (some k) task.ctx task.step true
  if (s.ctx task.ctx).guarded task.step && t.auto then s.updTask k fun x => x.noteMax i t.backoff else s

/-- What conversions of a task into tensor `i` leave behind: flags, ledger, maximum, step flag. `vs`: the exact values with the tensor scale applied; `cs`: their conversions as stored; `off`: tile offset; `tile`: recomputed and exhausted tiles. -/
def Pkg.converted (s : Pkg) (k i : Nat) (t : TensorRef) (off : Int) (vs : List Num) (cs : List Conv)
    (recomputed exhausted : Nat) : Pkg :=
  let task := s.task k
  let c := task.ctx
  let s := s.taskFlags k (cs.foldl (fun f r => f.or r.fl) {})
  let nf := (cs.filter (·.nonfin)).length
  let local_ := !(s.ctx c).herdEn && t.grad && nf > 0
  let s := s.ledgerAdd c t.id task.step t.fmt fun l => { l with
    elements := l.elements + cs.length
    overflow := l.overflow + (cs.filter (·.ovf)).length
    vanish := l.vanish + (cs.filter (·.vanish)).length
    shadow := l.shadow + t.shadowEvents off vs
    nonfin := l.nonfin + nf
    recomputed := l.recomputed + recomputed
    exhausted := l.exhausted + exhausted
    flagExh := l.flagExh || exhausted > 0
    flagStep := l.flagStep || local_
    propose := t.proposes }
  let s := if t.auto && vs.any (·.isFin) then s.updTask k fun x => x.noteMax i (amaxOf vs) else s
  if local_ then s.localNonfin k i t else s

/-- The rounding mode of a store into a tensor: the slot's field, the descriptor's where the slot defers, and DEFAULT by the gradient mark (R114, R116).
DEDUCED, log entry 97: a slot field of 0 leaves the mode to the descriptor's own field; R114 converts under C's modes, where R116 and R117 resolve 0 by the gradient mark and the format alone. -/
def TensorRef.rm (t : TensorRef) (slot : Nat) : Option Rm := Rm.ofCode t.grad (if slot = 0 then t.rmode else slot)

/-- The conversion mode of a store into a tensor: whether it saturates (R114, R117). A slot field of 0 leaves it to the descriptor's own field: DEDUCED, log entry 97. -/
def TensorRef.sat (t : TensorRef) (slot : Nat) : Option Bool := cmodeOf t.fmt (if slot = 0 then t.cmode else slot)

/-- The SR draw of an element of a task's tensor at site 0 (R126). -/
def Pkg.draw (s : Pkg) (k tensor index : Nat) : Nat :=
  let t := s.task k
  srU (s.ctx t.ctx).seed.toNat t.step tensor (t.rstream % 65536) index

end Sys2Proof.Machine
end

