-- ==== Sys2Proof/Machine/Vm.lean ====
section
/-! DEFINITION. GDDR granules with their check state, page tables, version pages and frames, and the device-virtual accesses every engine uses (R61 to R69, R432, R449 to R451, R454, R594 to R596). -/

namespace Sys2Proof.Machine

/-! ### Granules (R432, R449 to R451, R454) -/

/-- The port, data address and check address of a granule (R432). -/
def granulePlace (g : Nat) : Nat × Nat × Nat :=
  let h := [0, 5, 10, 15, 20, 25].foldl (fun h s => h ^^^ (g >>> s) % 32) 0
  let l := g / 32
  let grp := l / 31
  let pos := l % 31
  (h, (grp * 32 + pos) * 256, (grp * 32 + 31) * 256 + 8 * pos)

/-- The GDDR contents replaced. -/
def Pkg.setMem (s : Pkg) (m : MemSt) : Pkg := { s with mem := m }

/-- The memory port of a granule. -/
def granulePort (g : Nat) : Nat := (granulePlace g).1

/-- Per-port counters of a memory port's block (R462). -/
def Reg.mpBlock (n : Nat) : Nat := 0x0C0000 + 0x400 * n
def Reg.ueCount (n : Nat) : Nat := Reg.mpBlock n + 0x108
def Reg.poisonReads (n : Nat) : Nat := Reg.mpBlock n + 0x130

/-- The detail of MEM_UNCORRECTABLE (R657). -/
def uncorrectableDetail (g finder : Nat) : Bytes := leBytes 4 g ++ leBytes 1 (granulePort g) ++ leBytes 1 finder

/-- A granule found uncorrectable: poisoned, counted once and logged (R449). -/
def Pkg.poisonGranule (s : Pkg) (g finder : Nat) : Pkg :=
  let s := s.setMem { s.mem with poison := s.mem.poison.ins g, valid := s.mem.valid.del g, double := s.mem.double.del g }
  (s.bump (Reg.ueCount (granulePort g))).logEv Ev.memUncorrectable (Unit.memPort (granulePort g)) none
    (uncorrectableDetail g finder)

/-- A granule's single bad symbol corrected and written back, counted (R448). -/
def Pkg.correct (s : Pkg) (g : Nat) : Pkg :=
  let s := s.setMem { s.mem with single := s.mem.single.del g }
  let n := granulePort g
  { s.bump (Reg.mpBlock n + 0x100) with
    msys := { s.msys with ports := s.msys.ports.upd {} n fun p => { p with window := p.window + 1 } } }

/-- An access completed by the memory ports of granules (R479). -/
def MemSt.serve (m : MemSt) (gs : List Nat) : MemSt := { m with served := m.served.insAll (gs.map granulePort) }

/-- The read of a granule accounted for: one never written is found uncorrectable, one already poisoned counts a poison read (R449, R454). -/
def Pkg.touch1 (s : Pkg) (finder g : Nat) : Pkg :=
  let s := s.setMem (s.mem.serve [g])
  if s.mem.poison.mem g then s.bump (Reg.poisonReads (granulePort g))
  else if s.mem.double.mem g then s.poisonGranule g finder
  else if s.mem.single.mem g then s.correct g
  else if s.mem.valid.mem g then s
  else s.poisonGranule g finder

/-- An open copy of a frame made: the memory die reads every granule of the older version (R65). What it stores is in the frame already. -/
def Pkg.fillFrame (s : Pkg) (p : PageFill) : Pkg :=
  (upto (p.src * 1024) 1024).foldl (fun s g => s.touch1 0 g)
    (s.setMem { s.mem with fills := s.mem.fills.filter fun q => q.frame ≠ p.frame })

/-- A read of a granule makes the open copy of its frame (R65). -/
def Pkg.fillBefore (s : Pkg) (g : Nat) : Pkg :=
  match s.mem.fills.find? fun p => p.frame == g / 1024 with
  | some p => s.fillFrame p
  | none => s

/-- The reads of granules accounted for. -/
def Pkg.touch (s : Pkg) (finder : Nat) (gs : List Nat) : Pkg :=
  gs.foldl (fun s g => (s.fillBefore g).touch1 finder g) s

/-- The open copies of a context's frames made: its window closes with pages that its writes have not covered (R65). -/
def Pkg.fillCtx (s : Pkg) (c : Nat) : Pkg := (s.mem.fills.filter fun p => p.ctx == c).foldl (fun s p => s.fillFrame p) s

/-- Granules written whole: a frame whose every granule has been covered needs no copy (R65). -/
def MemSt.cover (m : MemSt) (gs : List Nat) : MemSt :=
  { m with fills := (m.fills.map fun p =>
      { p with covered := p.covered.insAll ((gs.filter fun g => g / 1024 == p.frame).map (· % 1024)) }).filter fun p => decide (p.covered.length < 1024) }

/-- Whether a granule reads as poisoned. -/
def Pkg.granBad (s : Pkg) (g : Nat) : Bool := s.mem.poison.mem g || !s.mem.valid.mem g || s.mem.double.mem g

/-- Whether all GDDR traffic has stopped: a memory port is lost, or the package is OUT_OF_SERVICE (R447, R486). -/
def Pkg.memStopped (s : Pkg) : Bool := s.frozen || s.rst.pkgOos || s.msys.ports.any fun p => p.2.state == 4

/-- Device bytes. -/
def Pkg.dRead (s : Pkg) (a n : Nat) : Bytes := s.mem.bytes.readN a n

/-- Whether any granule of [a, a+n) reads as poisoned. -/
def Pkg.dBad (s : Pkg) (a n : Nat) : Bool := (unitsOf 256 a n).any s.granBad

/-- A 16-bit symbol of a granule as stored inverted (R464). -/
def Memory.flip (m : Memory) (g sym : Nat) : Memory :=
  let a := 256 * g + 2 * sym
  m.writeN a ((m.readN a 2).map fun b => ~~~b)

/-- The error that an armed MEM_INJECT stores with a whole-granule write to its granule (R464): one inverted symbol, which a read corrects, or two, which it cannot; the inverted bytes are then the data as read. -/
def MemSt.injected (m : MemSt) (covers : Nat → Bool) : MemSt :=
  let g := fld m.inject 28 0
  let a := fld m.inject 38 32
  let b := fld m.inject 46 40
  if !(bitAt m.inject 63 && covers g) then m
  else
    let m := { m with inject := setFld m.inject 63 63 0 }
    if !bitAt m.inject 62 then { m with single := m.single.ins g }
    else if a = b then m
    else { m with double := m.double.ins g, bytes := (m.bytes.flip g a).flip g b }

/-- A device write of bytes, `bad` saying whether it carries poison. A whole granule written clean gets a valid check; a write of part of one, and every read-modify-write (`rmw`), reads the granule first and leaves a bad granule bad (R434, R442, R449, R450). The memory die merges the units of one transfer, which may come in several packets: `head` bytes before this write in its first granule are the transfer's, and a granule at its end that the transfer has covered so far, and goes on covering (`more`), is settled by the packet that follows. -/
def Pkg.dWrite (s : Pkg) (a : Nat) (bs : Bytes) (bad : Bool) (rmw : Bool := false) (head : Nat := 0) (more : Bool := false) : Pkg :=
  if s.memStopped then s else
  let n := bs.length
  let lo := a - min head (a % 256)
  let gs := unitsOf 256 a n
  let full := if rmw then [] else gs.filter fun g => decide (lo ≤ 256 * g ∧ 256 * g + 256 ≤ a + n)
  let later := if rmw || !more then [] else gs.filter fun g => decide (lo ≤ 256 * g ∧ a + n < 256 * g + 256)
  let s := s.touch 3 (gs.filter fun g => !full.contains g && !later.contains g)
  let m := (s.mem.cover full).serve full
  s.setMem (MemSt.injected { m with
      bytes := m.bytes.writeN a bs
      single := m.single.delAll full
      double := m.double.delAll full
      valid := if bad then m.valid.delAll gs else m.valid.insAll full
      poison := if bad then m.poison.insAll gs else m.poison.delAll full } full.contains)

/-- The memory with [src, src+n) copied to [dst, dst+n). -/
def Memory.copy (m : Memory) (src dst n : Nat) : Memory :=
  let cells := m.filter fun c => decide (src ≤ c.1 ∧ c.1 < src + n)
  cells.foldl (fun m c => m.write (c.1 - src + dst) c.2) (m.clear dst (dst + n))

/-- A set with [src, src+n) copied to [dst, dst+n). -/
def NatSet.copy (p : NatSet) (src dst n : Nat) : NatSet :=
  let xs := p.filter fun g => decide (src ≤ g ∧ g < src + n)
  NatSet.insAll (p.filter fun g => !decide (dst ≤ g ∧ g < dst + n)) (xs.map fun g => g - src + dst)

/-- A frame of 256 KiB taken for a context's page, with what the memory die fills it from another: each granule written whole, poison included (R65, R448, R449, R466). The reads of the other frame are accounted for when the copy is made, which is where the page is first read or its window ends before its writes cover it (`fillFrame`).
DESIGN CHOICE, log entry 110: a write of part of a granule reads it, and so ends the skip; an armed injection meets the copy at once. -/
def Pkg.copyFrame (s : Pkg) (c src dst : Nat) : Pkg :=
  if s.memStopped then s else
  let sz := 0x40000
  let m := s.mem
  let bad := ((upto (src * 1024) 1024).filter s.granBad).map fun g => g - src * 1024 + dst * 1024
  let kept (x : NatSet) : NatSet := x.filter fun g => !decide (dst * 1024 ≤ g ∧ g < dst * 1024 + 1024)
  s.setMem (MemSt.injected { m with
      bytes := m.bytes.copy (src * sz) (dst * sz) sz
      valid := (m.valid.copy (src * 1024) (dst * 1024) 1024).delAll bad
      poison := (kept m.poison).insAll bad
      single := kept m.single, double := kept m.double
      fills := m.fills.filter (fun p => p.frame ≠ dst) ++ [{ ctx := c, frame := dst, src := src }] }
    fun g => decide (dst * 1024 ≤ g ∧ g < dst * 1024 + 1024))

/-! ### Memory-side adders (R389, R438 to R442) -/

/-- One lane of an adder operation (R438): old and written operand. Codes 8 to 15 are reserved and never enabled (R465). -/
def adderLane (ty a b : Nat) : Nat × Sticky :=
  match ty with
  | 0 => ((a + b) % 2 ^ 32, {})
  | 1 => ((a + b) % 2 ^ 64, {})
  | 2 => fp32.add .rne a b
  | 3 => bf16.add .rne a b
  | 4 => fp32.max a b
  | 5 => fp32.min a b
  | 6 => bf16.max a b
  | 7 => bf16.min a b
  | _ => (b, {})

def adderWidth (ty : Nat) : Nat := if ty = 1 then 64 else if ty = 3 ∨ ty = 6 ∨ ty = 7 then 16 else 32

/-- Sector operations on whole 64 B sectors: the new bytes and their flags. -/
def adderSector (ty : Nat) (old new : Bytes) : Bytes × Sticky :=
  let w := adderWidth ty
  let n := 8 * new.length / w
  let rs := ((unpack w n old).zip (unpack w n new)).map fun (a, b) => adderLane ty a b
  (packBytes w (rs.map (·.1)), rs.foldl (fun f r => f.or r.2) {})

def Reg.adderOps : Nat := 0x0C8130
def Reg.adderRemote : Nat := 0x0C8138
def Reg.poisonZeroed : Nat := 0x0C8140

/-- A context's enabled adder window over [va, va+n): its operand type (R439). -/
def Ctx.adderAt (x : Ctx) (va n : Nat) : Option Nat :=
  (List.range 16).findSome? fun i =>
    let base := fld (x.adders.get 0 (2 * i)) 47 16 * 65536
    let cfg := x.adders.get 0 (2 * i + 1)
    if bitAt cfg 63 && decide (base ≤ va ∧ va + n ≤ base + fld cfg 31 0 * 65536) then some (fld cfg 51 48) else none

/-- Bytes that reach GDDR: stored, or combined with what is there, each sector counted (R438, R440, R442). -/
def Pkg.dLand (s : Pkg) (b : WrBy) (a : Nat) (bs : Bytes) (bad : Bool) : Pkg × Sticky :=
  match b.op with
  | none => (s.dWrite a bs bad false b.head b.more, {})
  | some ty =>
    let (new, fl) := adderSector ty (s.dRead a bs.length) bs
    ((s.bumpBy Reg.adderOps (bs.length / 64)).dWrite a new bad true, fl)

/-! ### Arrival counters (R238, R239) -/

/-- The bytes of [a, a+n) inside [b, b+m). -/
def overlap (a n b m : Nat) : Nat := min (a + n) (b + m) - max a b

/-- Whether a range touches an enabled adder window of a context. -/
def Ctx.adderTouched (x : Ctx) (va n : Nat) : Bool :=
  (List.range 16).any fun i =>
    let cfg := x.adders.get 0 (2 * i + 1)
    bitAt cfg 63 && decide (0 < overlap va n (fld (x.adders.get 0 (2 * i)) 47 16 * 65536) (fld cfg 31 0 * 65536))

/-- A landed write counted in every window that it reaches. -/
def Pkg.arrive (s : Pkg) (c va n : Nat) : Pkg :=
  let x := s.ctx c
  x.arrWin.foldl (fun s w =>
    let k := overlap va n w.2.base w.2.len
    if k = 0 then s
    else s.updCtx c fun y =>
      if w.2.buffered then { y with cur := { y.cur with arr := y.cur.arr.upd 0 w.1 (· + k) } }
      else { y with arrDirect := y.arrDirect.upd 0 w.1 (· + k) }) s

/-! ### Version records (R65, R66, R595) -/

/-- A version record. -/
structure VRec where
  committed : Nat
  p0 : Nat
  p1 : Nat
  s0 : Nat
  s1 : Nat
  v0 : Bool
  v1 : Bool
  deriving DecidableEq, Repr

def Pkg.vrec (s : Pkg) (r : Nat) : VRec :=
  let b := s.dRead r 32
  ⟨le b 0 4, le b 4 4, le b 8 4, le b 16 6, le b 22 6, le b 28 1 % 2 == 1, le b 28 1 / 2 % 2 == 1⟩

def VRec.bytes (v : VRec) : Bytes :=
  leBytes 4 v.committed ++ leBytes 4 v.p0 ++ leBytes 4 v.p1 ++ leBytes 4 0 ++ leBytes 6 v.s0 ++ leBytes 6 v.s1 ++
  leBytes 1 (v.v0.toNat + 2 * v.v1.toNat) ++ leBytes 3 0

/-- Frames of the record by window: the pending ones, oldest window first. -/
def VRec.pending (v : VRec) : List (Nat × Nat) :=
  let a := if v.v0 then [(v.s0, v.p0)] else []
  let b := if v.v1 then [(v.s1, v.p1)] else []
  if v.v0 && v.v1 && decide (v.s1 < v.s0) then b ++ a else a ++ b

/-- A record from its committed frame and its pending frames. -/
def VRec.make (committed : Nat) : List (Nat × Nat) → VRec
  | [] => ⟨committed, 0, 0, 0, 0, false, false⟩
  | [(s, p)] => ⟨committed, p, 0, s, 0, true, false⟩
  | (s, p) :: (s', p') :: _ => ⟨committed, p, p', s, s', true, true⟩

/-- The committed frame under a committed-through stroke (R66). -/
def VRec.committedAt (v : VRec) (through : Nat) : Nat :=
  match (v.pending.filter fun x => decide (x.1 ≤ through)).getLast? with
  | some x => x.2
  | none => v.committed

/-- The newest frame (R64). -/
def VRec.newest (v : VRec) : Nat :=
  match v.pending.getLast? with
  | some x => x.2
  | none => v.committed

/-! ### The table walk (R594 to R596) -/

/-- What an access asks of a leaf (R596). -/
inductive Acc where
  | read | write | remoteRead | remoteWrite
  deriving DecidableEq, Repr

/-- A translation: a direct device address, or a version record and the offset within its page. -/
inductive Xlat where
  | fault
  | direct (dpa : Nat) (leaf : Word)
  | version (record : Nat) (off : Nat) (leaf : Word)
  deriving DecidableEq, Repr

/-- A table entry at a device address; none where it reads as poisoned, is not valid, or has a reserved bit set. -/
def Pkg.pte (s : Pkg) (a : Nat) : Option Word :=
  if s.dBad a 8 || decide (a + 8 > s.mem.usable) then none
  else
    let e : Word := BitVec.ofNat 64 (leNat (s.dRead a 8))
    if bitAt e 0 && fld e 63 48 == 0 && fld e 11 7 == 0 then some e else none

def pteAddr (e : Word) : Nat := fld e 47 12 * 4096

/-- A next-level table: its address, where it lies in usable memory. -/
def Pkg.nextTable (s : Pkg) (e : Word) : Option Nat :=
  if !bitAt e 1 && decide (pteAddr e + 4096 ≤ s.mem.usable) then some (pteAddr e) else none

/-- The permission that an access needs. -/
def leafAllows (e : Word) : Acc → Bool
  | .read => bitAt e 2
  | .write => bitAt e 3
  | .remoteRead => bitAt e 2 && bitAt e 6
  | .remoteWrite => bitAt e 3 && bitAt e 6

/-- The walk from a table on, `levels` naming the index bits of each level still to read: the leaf and whether it is a 2 MiB leaf, and the granules that the walk reads (R594, R595). -/
def Pkg.walk (s : Pkg) (va : Nat) : List (Nat × Nat) → Nat → Option (Word × Bool) × List Nat
  | [], _ => (none, [])
  | (hi, lo) :: rest, table =>
    let a := table + 8 * nbits va hi lo
    if a + 8 > s.mem.usable then (none, []) else
    match s.pte a with
    | none => (none, [a / 256])
    | some e =>
      if bitAt e 1 then (if lo = 21 then some (e, true) else if lo = 16 then some (e, false) else none, [a / 256])
      else match s.nextTable e with
        | none => (none, [a / 256])
        | some t =>
          let r := s.walk va rest t
          (r.1, a / 256 :: r.2)

/-- The leaf of an address found by a walk of the context's tables, and the granules read to find it (R594, R595). -/
def Pkg.walkFrom (s : Pkg) (root : Word) (va : Nat) : Option (Word × Bool) × List Nat :=
  if va ≥ 2 ^ 48 ∨ fld root 63 48 ≠ 0 ∨ fld root 11 0 ≠ 0 then (none, [])
  else s.walk va [(47, 39), (38, 30), (29, 21), (20, 16)] (fld root 47 12 * 4096)

/-- The leaf of a context's address: the cached translation of its page, or what a walk finds (R597). -/
def Pkg.leafAt (s : Pkg) (c va : Nat) : Option (Word × Bool) × List Nat :=
  match Tbl.find (s.tlb.get [] c) (va / 0x10000) with
  | some e => (some e, [])
  | none => s.walkFrom (s.ctx c).root va

/-- The leaf of an address: the entry and whether it is a 2 MiB leaf. -/
def Pkg.leafOf (s : Pkg) (c va : Nat) : Option (Word × Bool) := (s.leafAt c va).1

/-- The translation of an address's page cached, where it has one (R597). DESIGN CHOICE, log entry 65: every translation used is kept until it is dropped. -/
def Pkg.cacheAt (s : Pkg) (c va : Nat) : Pkg :=
  match s.leafOf c va with
  | some e => { s with tlb := s.tlb.upd [] c fun t => t.set (va / 0x10000) e }
  | none => s

/-- The cached translations of a context dropped (R597). -/
def Pkg.uncache (s : Pkg) (c : Nat) : Pkg := { s with tlb := s.tlb.erase c }

/-- The package as an access of a context meets it that was in flight at a PT_INVALIDATE: with the translations that it started with (R597, R608). -/
def Pkg.started (s : Pkg) (c : Nat) (old : Option (Tbl (Word × Bool))) : Pkg :=
  match old with
  | some t => { s with tlb := s.tlb.set c t }
  | none => s

/-- The package after such an access, with its translations of before. -/
def Pkg.resumed (s before : Pkg) (c : Nat) (old : Option (Tbl (Word × Bool))) : Pkg :=
  match old with
  | some _ => { s with tlb := s.tlb.set c (before.tlb.get [] c) }
  | none => s

/-- What an access does under the translations that it started with. -/
def Pkg.under (s : Pkg) (c : Nat) (old : Option (Tbl (Word × Bool))) (f : Pkg → Pkg) : Pkg := (f (s.started c old)).resumed s c old

/-- Whether a version record keeps the rules of R595 and R596: its reserved bytes and bits are 0, and the frames that it names end in usable memory. -/
def Pkg.recordOk (s : Pkg) (r : Nat) : Bool :=
  let b := s.dRead r 32
  let v := s.vrec r
  zeros b 12 4 && decide (le b 28 1 < 4) && zeros b 29 3 &&
  (v.committed :: v.pending.map (·.2)).all fun f => decide ((f + 1) * 0x40000 ≤ s.mem.usable)

/-- The translation of one address, and the granules read for it (R448, R595, R596). -/
def Pkg.look (s : Pkg) (c va : Nat) (acc : Acc) : Xlat × List Nat :=
  match s.leafAt c va with
  | (none, gs) => (.fault, gs)
  | (some (e, big), gs) =>
    if !leafAllows e acc then (.fault, gs)
    else if bitAt e 4 then
      if big && decide (pteAddr e + 256 ≤ s.mem.usable) then
        let r := pteAddr e + 32 * nbits va 20 18
        (if s.dBad r 32 || !s.recordOk r then .fault else .version r (va % 0x40000) e, gs ++ [r / 256])
      else (.fault, gs)
    else
      let sz := if big then 0x200000 else 0x10000
      (if pteAddr e % sz = 0 ∧ pteAddr e + sz ≤ s.mem.usable then .direct (pteAddr e + va % sz) e else .fault, gs)

/-- The translation of one address. -/
def Pkg.xlat (s : Pkg) (c va : Nat) (acc : Acc) : Xlat := (s.look c va acc).1

/-! ### Version records at work (R65, R66) -/

/-- The record with its committed windows folded in: the committed frame, the windows still pending, and the frames this frees (R66). -/
def VRec.fold (v : VRec) (through : Nat) : VRec × List Nat :=
  let old := v.pending.filter fun x => decide (x.1 ≤ through)
  let new := v.pending.filter fun x => !decide (x.1 ≤ through)
  let c := v.committedAt through
  (VRec.make c new, ((v.committed :: old.map (·.2)).filter (· ≠ c)))

/-- A version record rewritten by the package: its granule's check stays good (R595). -/
def Pkg.setVrec (s : Pkg) (r : Nat) (v : VRec) : Pkg :=
  if s.memStopped then s else
  s.setMem { s.mem with bytes := s.mem.bytes.writeN r v.bytes }

/-! ### The spare pool (R68, R69) -/

def poolPages (cfg : Word) : Nat := fld cfg 51 32
/-- The first frame number of the pool. -/
def poolBase (cfg : Word) : Nat := fld cfg 31 16 * 8

/-- Free frames of the pool now. -/
def StrokeSt.freeFrames (k : StrokeSt) : Nat := poolPages k.spareCfg - k.used.length + k.joined.length

/-- The lowest frame of the pool that is free, by fuel. -/
def firstFree (used : NatSet) : Nat → Nat → Option Nat
  | 0, _ => none
  | n + 1, i => if used.mem i then firstFree used n (i + 1) else some i

/-- A frame taken from the pool, the lowest free one of its region first; none where it is empty or not enabled. -/
def Pkg.takeFrame (s : Pkg) : Option (Nat × Pkg) :=
  let k := s.stroke
  if !bitAt k.spareCfg 0 then none
  else
    let done (f : Nat) (k' : StrokeSt) : Option (Nat × Pkg) :=
      some (f, { s with stroke := { k' with freeLow := min k'.freeLow k'.freeFrames } })
    match firstFree k.used (poolPages k.spareCfg) 0 with
    | some i => done (poolBase k.spareCfg + i) { k with used := k.used.ins i }
    | none =>
      match k.joined with
      | f :: rest => done f { k with joined := rest }
      | [] => none

/-- A superseded frame returned to the pool (R66). -/
def StrokeSt.give (k : StrokeSt) (f : Nat) : StrokeSt :=
  let b := poolBase k.spareCfg
  if b ≤ f ∧ f < b + poolPages k.spareCfg then { k with used := k.used.del (f - b) } else { k with joined := k.joined.ins f }

/-- Frames handed to the recycler (R66). -/
def Pkg.retire (s : Pkg) (fs : List Nat) : Pkg := { s with stroke := { s.stroke with recycle := s.stroke.recycle ++ fs } }

/-- A context's version records with pending frames, each read and, where `f` changes it, rewritten, the frames that this frees going to the recycler. One that reads as poisoned stays as it is (R449, R596). -/
def Pkg.eachRecord (s : Pkg) (c : Nat) (f : VRec → Option (VRec × List Nat)) : Pkg :=
  (s.ctx c).dirty.foldl (fun s r =>
    let s := s.touch 0 [r / 256]
    if s.dBad r 32 then s
    else match f (s.vrec r) with
      | some (v, freed) => (s.setVrec r v).retire freed
      | none => s) s

/-- A context's version records with the windows that have committed folded in: the superseded frames go to the recycler, and records with no pending frame left are forgotten (R66). -/
def Pkg.foldCommitted (s : Pkg) (c : Nat) : Pkg :=
  let s := s.eachRecord c fun v => let p := v.fold (s.ctx c).committed; if p.2.isEmpty then none else some p
  s.updCtx c fun y => { y with dirty := y.dirty.filter fun r => !(s.vrec r).pending.isEmpty }

/-- The frame that the current window writes, taking one for its first write (R65). `none`: the write waits in the staging queues (R67, R69), and the flag says whether the pool was empty. -/
def Pkg.writeFrame (s : Pkg) (c r : Nat) : Option (Nat × Pkg) × Bool :=
  let w := s.window
  let (v, freed) := (s.vrec r).fold (s.ctx c).committed
  match v.pending.find? (·.1 == w) with
  | some x => (some (x.2, (s.setVrec r v).retire freed), false)
  | none =>
    if v.pending.length ≥ 2 then (none, false)
    else
      match s.takeFrame with
      | none => (none, true)
      | some (f, s') =>
        let s' := s'.copyFrame c v.newest f
        let s' := (s'.setVrec r (VRec.make v.committed (v.pending ++ [(w, f)]))).retire freed
        let s' := s'.updCtx c fun x => { x with dirty := NatSet.ins x.dirty r }
        (some (f, s'), false)

/-! ### Device-virtual accesses -/

/-- A read: bytes, whether it faults, whether it reads poison, the granules it touches, and the pages whose translations it uses, by context and address. -/
structure Rd where
  bytes  : Bytes
  fault  : Bool
  poison : Bool
  grans  : List Nat
  pages  : List (Nat × Nat)
  deriving DecidableEq, Repr

/-- A read carried out: its granules accounted for, its translations cached (R449, R597). -/
def Pkg.took (s : Pkg) (r : Rd) : Pkg := r.pages.foldl (fun s p => s.cacheAt p.1 p.2) (s.touch 0 r.grans)

/-- Several reads carried out. -/
def Pkg.tookAll (s : Pkg) (rs : List Rd) : Pkg := rs.foldl (fun s r => s.took r) s

/-- Several reads that one access makes: each granule is read once. -/
def Pkg.tookOnce (s : Pkg) (rs : List Rd) : Pkg :=
  s.took ⟨[], false, false, (rs.flatMap (·.grans)).eraseDups, (rs.flatMap (·.pages)).eraseDups⟩

/-- The context whose windows the pending frames of a version record belong to. -/
def Pkg.versionOwner (s : Pkg) (r : Nat) : Option Nat := (s.ctxs.find? fun x => x.2.dirty.contains r).map (·.1)

/-- The device address that a read reaches, and the granules read to find it: the newest version for the owning context's tasks, the committed one for every other reader (R64, R87, R598). -/
def Pkg.readAt (s : Pkg) (c va : Nat) (acc : Acc) (own : Bool) : Option Nat × List Nat :=
  match s.look c va acc with
  | (.fault, gs) => (none, gs)
  | (.direct a _, gs) => (some a, gs)
  | (.version r o _, gs) =>
    let v := s.vrec r
    let w := (s.versionOwner r).getD c
    let f := if own && w == c then v.newest else v.committedAt (s.ctx w).committed
    (if (f + 1) * 0x40000 ≤ s.mem.usable then some (f * 0x40000 + o) else none, gs)

def Pkg.readAddr (s : Pkg) (c va : Nat) (acc : Acc) (own : Bool) : Option Nat := (s.readAt c va acc own).1

/-- The pieces of [va, va+n) that lie in one 64 KiB page each: address and length (fuel: how many pages at most). -/
def pieces : Nat → Nat → Nat → List (Nat × Nat)
  | 0, _, _ => []
  | f + 1, va, n =>
    if n = 0 then [] else
    let k := min n (0x10000 - va % 0x10000)
    (va, k) :: pieces f (va + k) (n - k)

/-- The pieces of a range. -/
def piecesOf (va n : Nat) : List (Nat × Nat) := pieces (n / 0x10000 + 2) va n

/-- A device-virtual read (R64, R451, R596). A faulting piece delivers zero bytes that are poisoned. -/
def Pkg.vRead (s : Pkg) (c va n : Nat) (acc : Acc) (own : Bool) : Rd :=
  (piecesOf va n).foldl (fun r (a, k) =>
    match s.readAt c a acc own with
    | (none, gs) => { bytes := r.bytes ++ List.replicate k 0, fault := true, poison := true, grans := r.grans ++ gs, pages := r.pages ++ [(c, a)] }
    | (some d, gs) => { r with bytes := r.bytes ++ s.dRead d k, poison := r.poison || s.dBad d k,
                               grans := r.grans ++ gs ++ unitsOf 256 d k, pages := r.pages ++ [(c, a)] })
    ⟨[], false, false, [], []⟩

/-- Bytes read from [va, va+n) with the context's own writes that wait in the staging queues laid over them, in their order (R69): what the package's own structures hold. -/
def overlay (ws : List StagedWrite) (va : Nat) (bs : Bytes) : Bytes :=
  ws.foldl (fun bs w =>
    if w.by_.op.isSome || overlap va bs.length w.addr w.data.length = 0 then bs
    else bs.zipIdx.map fun (b, i) => if w.addr ≤ va + i then (w.data[va + i - w.addr]?).getD b else b) bs

/-- What a structure of the package's own holds at [a, a+n): its own writes that still wait included. -/
def Pkg.readOwn (s : Pkg) (c a n : Nat) : Bytes := overlay (s.ctx c).stagedWrites a (s.vRead c a n .read true).bytes

/-- Whether every byte of a range can be reached. -/
def Pkg.vMapped (s : Pkg) (c va n : Nat) (acc : Acc) : Bool :=
  (piecesOf va n).all fun (a, _) => (s.readAddr c a acc true).isSome

/-- The class of the leaf that maps an address: some true for stroke-buffered; none where it is unmapped (R63, R595). -/
def Pkg.classAt (s : Pkg) (c va : Nat) : Option Bool :=
  match s.leafOf c va with
  | none => none
  | some (e, big) =>
    if bitAt e 4 then (if big && decide (pteAddr e + 256 ≤ s.mem.usable) then some true else none)
    else
      let sz := if big then 0x200000 else 0x10000
      if pteAddr e % sz = 0 ∧ pteAddr e + sz ≤ s.mem.usable then some false else none

/-- What a device-virtual write comes to: it has landed, with the flags of its adder operation; it faults; or it waits for a frame of a version record. -/
inductive WrRes where
  | done (s : Pkg) (fl : Sticky)
  | fault (s : Pkg)
  | staged (s : Pkg) (record : Nat) (poolEmpty : Bool)
  deriving DecidableEq, Repr

/-- A write within one page (R61, R62, R65). -/
def Pkg.vWrite1 (s : Pkg) (c va : Nat) (b : WrBy) (bs : Bytes) (bad : Bool) (acc : Acc) : WrRes :=
  match s.look c va acc with
  | (.fault, gs) => .fault ((s.touch 0 gs).cacheAt c va)
  | (.direct a _, gs) =>
    let (s, fl) := ((s.touch 0 gs).cacheAt c va).dLand b a bs bad
    .done s fl
  | (.version r o _, gs) =>
    let s := (s.touch 0 gs).cacheAt c va
    if (s.ctx c).stagedWrites.any fun w => w.record == some r then .staged s r false
    else match s.writeFrame c r with
      | (some (f, s'), _) =>
        if (f + 1) * 0x40000 ≤ s.mem.usable then
          let (s', fl) := s'.dLand b (f * 0x40000 + o) bs bad
          .done s' fl
        else .fault s
      | (none, e) => .staged s r e

/-- Whether a packet's write must wait behind an earlier one of its flow (R86). -/
def Ctx.flowWaits (x : Ctx) (b : WrBy) : Bool := match b.pkt with
  | none => false
  | some p => x.stagedWrites.any fun w => match w.by_.pkt with
    | some q => q.src == p.src && q.dst == p.dst && q.gen == p.gen && q.cls == p.cls
    | none => false

def Reg.poolEmpty : Nat := 0x040130

/-- One page's part of a write, behind those that wait for its page or before it in its flow. A first write that finds the pool empty is counted once (R67, R69, R85, R86, R239). The flag says whether it faulted. -/
def Pkg.vWritePart (s : Pkg) (c : Nat) (w : StagedWrite) : Pkg × Bool × Sticky :=
  let acc := if w.by_.pkt.isSome then Acc.remoteWrite else .write
  let wait (s : Pkg) (w : StagedWrite) : Pkg := s.updCtx c fun x => { x with stagedWrites := x.stagedWrites ++ [w] }
  if (s.ctx c).flowWaits w.by_ then (wait s { w with record := none }, false, {})
  else match s.vWrite1 c w.addr w.by_ w.data w.bad acc with
    | .done s fl => (if w.by_.arrives then s.arrive c w.addr w.data.length else s, false, fl)
    | .fault s => (s, true, {})
    | .staged s r e =>
      (wait (if e && !w.counted then s.bump Reg.poolEmpty else s) { w with record := some r, counted := w.counted || e }, false, {})

/-- A device-virtual write: what lands lands, a faulting piece is discarded (R596), and a first write that finds no frame waits in the staging queues (R67, R69). Whether a piece faulted, and the flags of adder operations. -/
def Pkg.vWriteAs (s : Pkg) (b : WrBy) (c va : Nat) (bs : Bytes) (bad : Bool) : Pkg × Bool × Sticky :=
  (piecesOf va bs.length).foldl (fun (r : Pkg × Bool × Sticky) (p : Nat × Nat) =>
    let q := r.1.vWritePart c { addr := p.1, data := (bs.drop (p.1 - va)).take p.2, bad := bad, by_ := b }
    (q.1, r.2.1 || q.2.1, r.2.2.or q.2.2)) (s, false, {})

/-- A write of the package's own, for no task and no packet. -/
def Pkg.vWrite (s : Pkg) (c va : Nat) (bs : Bytes) (bad : Bool) : Pkg × Bool :=
  let r := s.vWriteAs {} c va bs bad
  (r.1, r.2.1)

/-- The fault of a running task's access: POISONED_INPUT at least, REMOTE_ACCESS_FAULT logged, PT_FAULTS counted (R596). -/
def Reg.ptFaults : Nat := 0x120200

def Pkg.taskFault (s : Pkg) (k unit : Nat) : Pkg :=
  ((s.bump Reg.ptFaults).taskEvent k Ev.remoteAccessFault unit 0 []).taskCode k Code.poisonedInput

/-- A task's own read: granules accounted for, a fault logged, poison recorded (R451, R596). -/
def Pkg.taskRead (s : Pkg) (k unit va n : Nat) : Rd × Pkg :=
  let r := s.vRead (s.task k).ctx va n .read true
  let s := s.took r
  let s := if r.fault then s.taskFault k unit else s
  (r, if r.poison then s.taskCode k Code.poisonedInput else s)

/-- A task's own write (R85: one that waits is the task's until it lands). -/
def Pkg.taskWrite (s : Pkg) (k unit va : Nat) (bs : Bytes) (bad : Bool) : Pkg :=
  let (s, f, _) := s.vWriteAs { task := some (k, unit) } (s.task k).ctx va bs bad
  if f then s.taskFault k unit else s

/-- STAGED_WRITE_RESUME: the writes of a context that wait in the staging queues land in their order, or wait on (R67, R69, R85, R86). What an adder operation or a fault of a task's write comes to reaches the task. -/
def Pkg.stagedResume (s : Pkg) (c : Nat) : Pkg :=
  (s.ctx c).stagedWrites.foldl (fun s w => s.under c w.old fun s =>
    let (s, f, fl) := s.vWritePart c w
    match w.by_.task with
    | some (k, unit) => if f then s.taskFault k unit else s.taskFlags k fl
    | none => s) (s.updCtx c fun x => { x with stagedWrites := [] })

/-- Whether a write of a task still waits (R60, R85). -/
def Pkg.stagedFor (s : Pkg) (k : Nat) : Bool :=
  (s.ctx (s.task k).ctx).stagedWrites.any fun w => (w.by_.task.map (·.1)) == some k

end Sys2Proof.Machine
end

