-- ==== Sys2Proof/Machine/History.lean ====
section
/-! DEFINITION. The history of maxima and the scale roll (R249 to R254, R258). -/

namespace Sys2Proof.Machine

def Reg.scaleRolls : Nat := 0x050120
def Reg.stepBehind : Nat := 0x050128
def Reg.historyStale : Nat := 0x050130

/-- A magnitude as the FP32 value that a history entry holds. -/
def magF32 (m : Nat × Int) : Nat := (fp32.conv .rne true 0 (.fin false m.1 m.2)).bits

/-- A maximum merged into the entry of a step (R250). -/
def Pkg.recordMax (s : Pkg) (task : Option Nat) (c : Nat) (t : TensorRef) (step value : Nat) : Pkg :=
  let a := t.scalePtr + 32 + 32 + 16 * (step % 16)
  let s := s.took (s.vRead c a 12 .read true)
  let e := s.readOwn c a 12
  let est := le e 0 8
  if est > step then
    (s.bump Reg.historyStale).noteFor task c Ev.historyEntryStale
  else
    let v := if est = step then (fp32.max (le e 8 4) value).1 else value
    (s.vWrite c a (leBytes 8 step ++ leBytes 4 v) false).1

/-- The smallest x with m × 2^(e−x) at most a limit (R252). -/
def ceilLog2Ratio (m : Nat × Int) (l : Nat × Int) : Int :=
  let b : Int := m.2 + Nat.log2 m.1 - l.2 - Nat.log2 l.1
  if magLe m.1 (m.2 - b) l.1 l.2 then b else b + 1

/-- An integer held in a range. -/
def clampI (lo hi x : Int) : Int := max lo (min hi x)

/-- The largest maximum of the 16 steps before `step` (R252). -/
def histAmax (h : Bytes) (step : Nat) : Nat × Int :=
  (upto 1 16).foldl (fun acc j =>
    if j > step then acc else
    let o := 32 + 16 * ((step - j) % 16)
    if le h o 8 = step - j then
      match fp32.decode (le h (o + 8) 4) with
      | .fin false m e => magMax acc (m, e)
      | _ => acc
    else acc) (0, 0)

/-- 2^x as an FP32 encoding, x from −126 to 127. -/
def pow2F32 (x : Int) : Nat := (x + 127).toNat * 2 ^ 23

/-- The roll of a tensor's scale before a task of `step` reads it (R252): the writes it makes. -/
def Pkg.scaleRoll (s : Pkg) (c : Nat) (t : TensorRef) (step : Nat) : Pkg :=
  let h := t.hist
  let ha := t.scalePtr + 32
  let s := (s.vWrite c (ha + 8) (leBytes 8 step) false).1
  let s := s.bump Reg.scaleRolls
  let amax := histAmax h step
  if amax.1 = 0 then s
  else
    let hr : Int := le h 0 1
    let lim := fmtLargest t.fmt
    let nar := match narrower t.fmt with
      | some f => fmtLargest f
      | none => lim
    let sc := clampI (-126) 127 (ceilLog2Ratio amax lim + hr)
    let sh := clampI (-126) 127 (ceilLog2Ratio amax nar + hr)
    let s := (s.vWrite c t.scalePtr (leBytes 4 (pow2F32 sc)) false).1
    (s.vWrite c (ha + 4) (leBytes 2 (ofInt 16 sh)) false).1

end Sys2Proof.Machine
end

