-- ==== Sys2Proof/Machine/Net.lean ====
section
/-! DEFINITION. Packets, flows, routing, the link layer, fault notices and digests: what every sender and receiver shares (R330 to R332, R344 to R365, R422). -/

namespace Sys2Proof.Machine

/-! ### Headers (R350, R351) -/

/-- The fields of a packet header (R350). -/
structure Hd where
  aux : Nat := 0
  seq : Nat := 0
  ext : Nat := 0
  addr : Nat := 0
  hops : Nat := 0
  layout : Nat := 0
  len : Nat := 0
  ctx : Nat := 0
  gen : Nat := 0
  op : Nat := 0
  start : Bool := false
  epoch : Bool := false
  esc : Bool := false
  dl : Bool := false
  cls : Nat := 0
  src : Nat := 0
  dst : Nat := 0
  deriving DecidableEq, Repr

def Packet.hd (p : Packet) : Hd :=
  let h := p.hdr
  ⟨fld h 247 224, fld h 223 192, fld h 191 176, fld h 175 128, fld h 127 120, fld h 119 112, fld h 105 96, fld h 91 80,
    fld h 79 64, fld h 63 56, bitAt h 53, bitAt h 52, bitAt h 51, bitAt h 50, fld h 49 48, fld h 47 24, fld h 23 0⟩

/-- The 256 bits of a header. -/
def Hd.bits (h : Hd) : BitVec 256 :=
  let put (hi lo v : Nat) (x : BitVec 256) : BitVec 256 := setFld x hi lo v
  put 247 224 h.aux <| put 223 192 h.seq <| put 191 176 h.ext <| put 175 128 h.addr <| put 127 120 h.hops <|
  put 119 112 h.layout <| put 105 96 h.len <| put 91 80 h.ctx <| put 79 64 h.gen <| put 63 56 h.op <|
  put 53 53 h.start.toNat <| put 52 52 h.epoch.toNat <| put 51 51 h.esc.toNat <| put 50 50 h.dl.toNat <|
  put 49 48 h.cls <| put 47 24 h.src <| put 23 0 h.dst 0

/-- A packet from its header fields and payload. -/
def mkPacket (h : Hd) (payload : Bytes) : Packet := ⟨{ h with len := payload.length }.bits, payload⟩

/-- The packet with header fields changed. -/
def Packet.upd (p : Packet) (f : Hd → Hd) : Packet := { p with hdr := (f p.hd).bits }

def opWRITE : Nat := 0x01
def opREAD : Nat := 0x02
def opREADDATA : Nat := 0x03
def opRELAY : Nat := 0x04
def opACK : Nat := 0x08
def opNACK : Nat := 0x09
def opEIRDATA : Nat := 0x10
def opEIRTAIL : Nat := 0x11
def opEIRFDATA : Nat := 0x12
def opEIRFTAIL : Nat := 0x13
def opEIRREDO : Nat := 0x14
def opVOTE : Nat := 0x20
def opVOTERES : Nat := 0x21
def opVOID : Nat := 0x22
def opFAULT : Nat := 0x23
def opPEER : Nat := 0x24

/-- Whether an opcode is one of R351 that may cross a port. -/
def opKnown (o : Nat) : Bool :=
  (decide (1 ≤ o ∧ o ≤ 4)) || o == 8 || o == 9 || decide (0x10 ≤ o ∧ o ≤ 0x14) || decide (0x20 ≤ o ∧ o ≤ 0x24)

/-- Whether a header is good (R350): a known opcode, reserved fields zero, a length in range. -/
def Packet.good (p : Packet) : Bool :=
  let h := p.hdr
  opKnown p.hd.op && fld h 255 248 == 0 && fld h 111 106 == 0 && fld h 95 92 == 0 && fld h 55 54 == 0 &&
    decide (p.hd.len ≤ 512) && p.hd.len % 32 == 0 && p.payload.length == p.hd.len

/-- The package index and endpoint of an EID (R352). -/
def eidPkg (e : Nat) : Nat := nbits e 23 8
def eidEp (e : Nat) : Nat := nbits e 7 0
def eidOf (pkg ep : Nat) : Nat := (pkg % 65536) * 256 + ep % 256

/-- The package's own index; 0 before any plan (R352). -/
def Pkg.self (s : Pkg) : Nat := s.fab.selfIdx.getD 0

/-- Whether an endpoint exists (R352). -/
def epOk (e : Nat) : Bool := decide (e < 68) || e == 80

/-! ### Digests (R330 to R332) -/

/-- One byte of the CRC-64 of R330. -/
def crc64Byte (crc : BitVec 64) (b : Byte) : BitVec 64 :=
  (List.range 8).foldl (fun (c : BitVec 64) _ =>
    if c.getLsbD 63 then (c <<< 1) ^^^ 0x42F0E1EBA9EA3693#64 else c <<< 1) (crc ^^^ (b.setWidth 64 <<< 56))

/-- The digest term of a packet (R330). -/
def digestTerm (seq : Nat) (payload : Bytes) : BitVec 64 := (leBytes 8 seq ++ payload).foldl crc64Byte 0

def Packet.term (p : Packet) : BitVec 64 := digestTerm p.hd.seq p.payload

/-- Whether a packet belongs to an EIR reduction (R332). -/
def Packet.isEir (p : Packet) : Bool := decide (0x10 ≤ p.hd.op ∧ p.hd.op ≤ 0x14)

def Reg.digestReplaced : Nat := 0x160228

/-- The tensor identifier of an EIR packet (R351). -/
def Hd.eirTensor (h : Hd) : Nat := nbits h.addr 47 16
def Hd.eirTile (h : Hd) : Nat := nbits h.addr 15 0 + h.ext * 65536
def Hd.eirPiece (h : Hd) : Nat := nbits h.aux 3 0
def Hd.eirAttempt (h : Hd) : Nat := nbits h.aux 11 4
def Hd.eirStepLow (h : Hd) : Nat := nbits h.aux 23 12

/-- Whether a full step has the low 12 bits that an EIR packet carries. -/
def Hd.isStep (h : Hd) (step : Nat) : Bool := step % 4096 == h.eirStepLow

/-- What waits for a reduction slot names a tile of a context under a tag. -/
def RedWait.ctx : RedWait → Nat
  | .packet p => p.hd.ctx
  | .own _ c _ _ => c
def RedWait.gen : RedWait → Nat
  | .packet p => p.hd.gen
  | .own _ _ g _ => g
def RedWait.tile : RedWait → Nat
  | .packet p => p.hd.eirTile
  | .own _ _ _ i => i

/-- The full step that an EIR packet names, where this package's own transfers or slots of its tensor tell it (R318, R351). -/
def Pkg.eirStep (s : Pkg) (h : Hd) : Option Nat :=
  let hit (ctx gen tensor step : Nat) : Bool := ctx == h.ctx && gen == h.gen && tensor == h.eirTensor && h.isStep step
  ((s.clusters.vals.findSome? fun c => c.xfers.find? fun x => x.kind == .reduce && hit x.ctx x.gen x.tensor.id x.step).map (·.step)).orElse
    fun _ => (s.fab.redSlots.find? fun r => r.known && hit r.ctx r.gen r.tensor r.step).map (·.step)

/-- The digest entry of a packet whose header gives only the low bits of its step: the newest open one that agrees with them, else a complete one that was counted within the last two strokes. -/
def Pkg.digestLow (s : Pkg) (h : Hd) : Option Nat :=
  let l := s.fab.digests.filter fun e => e.2.ctx == h.ctx && e.2.tensor == h.eirTensor && e.2.gen == h.gen && h.isStep e.2.step
  let newest (l : Tbl DigestEntry) : Option Nat := (bestOf (fun a b => decide (a.2.order < b.2.order)) l).map (·.1)
  (newest (l.filter fun e => !e.2.complete)).orElse fun _ =>
    newest (l.filter fun e => e.2.complete && decide (s.stroke.number ≤ e.2.stroke + 2))

/-- A new digest entry: an empty one, else in the place of the oldest complete one, else of the oldest (R332). -/
def Pkg.newDigest (s : Pkg) (e : DigestEntry) : Nat × Pkg :=
  let f := s.fab
  let put (s : Pkg) (i : Nat) : Nat × Pkg :=
    (i, { s with fab := { s.fab with digests := s.fab.digests.set i { e with order := f.digNo }, digNo := f.digNo + 1 } })
  match (List.range 512).find? fun i => (f.digests.find i).isNone with
  | some i => put s i
  | none =>
    let oldest (l : Tbl DigestEntry) : Option Nat := (bestOf (fun a b => decide (b.2.order < a.2.order)) l).map (·.1)
    put (s.bump Reg.digestReplaced) (((oldest (f.digests.filterV fun _ e => e.complete)).orElse fun _ => oldest f.digests).getD 0)

/-- The index of a packet's digest entry, allocating one at the first packet of its key (R332). A tail, a notice and a packet of a tile in work here name the full step; any other piece the low bits of it (DEDUCED, log entry 89). -/
def Pkg.digestEntry (s : Pkg) (p : Packet) : Nat × Pkg :=
  let h := p.hd
  let full := if h.op = opEIRDATA ∨ h.op = opEIRFDATA then s.eirStep h else some (le p.payload 16 8)
  let mine (e : DigestEntry) : Bool := e.ctx == h.ctx && e.tensor == h.eirTensor && e.gen == h.gen
  match full with
  | some n =>
    match s.fab.digests.find? fun e => mine e.2 && (if e.2.known then e.2.step == n else h.isStep e.2.step) with
    | some (i, e) => (i, { s with fab := { s.fab with digests := s.fab.digests.set i { e with step := n, known := true } } })
    | none => s.newDigest { ctx := h.ctx, tensor := h.eirTensor, step := n, gen := h.gen }
  | none =>
    match s.digestLow h with
    | some i => (i, s)
    | none => s.newDigest { ctx := h.ctx, tensor := h.eirTensor, step := h.eirStepLow, gen := h.gen, known := false }

/-- A packet counted in its reduction's digest (R332). -/
def Pkg.digestEir (s : Pkg) (p : Packet) (tx : Bool) : Pkg :=
  if !p.isEir || p.payload.isEmpty then s else
  let (i, s) := s.digestEntry p
  { s with fab := { s.fab with digests := s.fab.digests.mapV fun j e =>
      if j ≠ i then e
      else { e with stroke := s.stroke.number, tx := if tx then e.tx ^^^ p.term else e.tx, rx := if tx then e.rx else e.rx ^^^ p.term } } }

/-! ### Ports and directions (R338, R355, R358) -/

/-- The direction label of a port: 1 +X, 2 −X, 3 +Y, 4 −Y, 5 +Z, 6 −Z (R354). -/
def portDir (cfg : Word) : Nat := 1 + 2 * fld cfg 2 1 + fld cfg 3 3

/-- The axis of a direction, and its opposite. -/
def dirAxis (d : Nat) : Nat := (d - 1) / 2
def dirOpp (d : Nat) : Nat := if d % 2 = 1 then d + 1 else d - 1

/-- The live ports of a direction, lowest first: used ports that are up. -/
def Pkg.livePorts (s : Pkg) (d : Nat) : List Nat :=
  (List.range 24).filter fun n => let p := s.port n
    p.state == 4 && bitAt p.cfg 0 && portDir p.cfg == d

/-- A bucket table over live ports (R355). -/
def buildBuckets (live : List Nat) : Tbl Nat :=
  if live.isEmpty then [] else (List.range 64).map fun j => (j, live.getD (j % live.length) 0)

/-- The bucket table of a direction built from its live ports. -/
def Pkg.rebuildDir (s : Pkg) (d : Nat) : Pkg :=
  { s with fab := { s.fab with buckets := s.fab.buckets.set d (buildBuckets (s.livePorts d)) } }

/-- The port among `live` that holds the fewest buckets, the lowest-numbered on a tie (R358). -/
def fewest (b : Tbl Nat) (live : List Nat) : Nat :=
  let cnt (n : Nat) : Nat := (b.filter fun x => x.2 == n).length
  (live.foldl (fun (r : Option Nat) n => match r with
    | none => some n
    | some m => if cnt n < cnt m then some n else some m) none).getD 0

/-- A failed port's buckets reassigned, in ascending bucket order (R358). -/
def Pkg.reassign (s : Pkg) (d port : Nat) : Pkg :=
  let live := s.livePorts d
  let b := s.fab.buckets.get [] d
  let b' := if live.isEmpty then [] else
    b.foldl (fun (acc : Tbl Nat) x => if x.2 = port then acc.set x.1 (fewest (acc.filter fun y => y.2 ≠ port) live) else acc) b
  { s with fab := { s.fab with buckets := s.fab.buckets.set d b' } }

/-- The flow's bucket (R355). -/
def flowBucket (dst src ctx gen cls : Nat) : Nat :=
  let h := srAbsorb 0x6A09E667#32 (BitVec.ofNat 32 dst)
  let h := srAbsorb h (BitVec.ofNat 32 src)
  let h := srAbsorb h (BitVec.ofNat 32 (gen * 65536 + ctx * 4 + cls))
  (h ^^^ (h >>> 16)).toNat % 64

/-- The channel of a packet (R359). -/
def Hd.chan (h : Hd) : Nat := if h.esc then 8 + h.dl.toNat else 2 * h.cls + h.dl.toNat

/-! ### Symbol checks (R345) -/

/-- One byte of the CRC-16 of polynomial 0x1021. -/
def crc16Byte (crc : BitVec 16) (b : Byte) : BitVec 16 :=
  (List.range 8).foldl (fun (c : BitVec 16) _ => if c.getLsbD 15 then (c <<< 1) ^^^ 0x1021#16 else c <<< 1)
    (crc ^^^ (b.setWidth 16 <<< 8))

/-- symbol_crc over bytes 0 to 57. -/
def symbolCrc (b : Bytes) : BitVec 16 := (slice b 0 58).foldl crc16Byte 0xFFFF#16

/-- Whether a symbol of 64 bytes has a good symbol_crc. -/
def symbolGood (b : Bytes) : Bool := b.length == 64 && le b 58 2 == (symbolCrc b).toNat

/-- One byte of the CRC-32 of IEEE 802.3. -/
def crc32Byte (crc : BitVec 32) (b : Byte) : BitVec 32 :=
  (List.range 8).foldl (fun (c : BitVec 32) _ => if c.getLsbD 0 then (c >>> 1) ^^^ 0xEDB88320#32 else c >>> 1) (crc ^^^ b.setWidth 32)

/-- block_crc over a block's 4,032 B of data flits, idle headers behind what it holds (R344, R345). -/
def blockCrc (data : Bytes) : BitVec 32 :=
  ~~~((data ++ List.replicate (4032 - data.length) 0).foldl crc32Byte 0xFFFFFFFF#32)

/-- A symbol from its first 58 bytes and its block's check. -/
def sealSymbol (b : Bytes) (block : Nat) : Bytes := slice b 0 58 ++ leBytes 2 (symbolCrc b).toNat ++ leBytes 4 block

/-! ### Receive buffers (R348, R371) -/

/-- Flits of a packet: what it takes in a receive buffer and in credits (DESIGN CHOICE, log entry 90). -/
def Packet.flits (p : Packet) : Nat := ceilDiv (32 + p.payload.length) 64

/-- The room that a packet takes in a port's receive buffer: its channel's own first, then of the shared pool, as its sender spent the credits. -/
def Port.roomFor (p : Port) (n : Nat) (q : Packet) : Room :=
  let own := min (512 - p.held.get 0 q.hd.chan) q.flits
  ⟨n, q.hd.chan, own, q.flits - own⟩

/-- A receive buffer's occupancy by a channel (R371). -/
def Port.occupancy (p : Port) (ch : Nat) : Nat := p.held.get 0 ch + p.heldPool.get 0 ch

/-- Room taken. -/
def Port.takeRoom (p : Port) (r : Room) : Port :=
  { p with
    held := p.held.upd 0 r.chan (· + r.own)
    heldPool := p.heldPool.upd 0 r.chan (· + r.pool)
    peak := p.peak.upd 0 r.chan (max · (p.occupancy r.chan + r.own + r.pool)) }

/-- Room freed when its packet has left: the flits go back as credits in the next symbol. -/
def Pkg.freeRoom (s : Pkg) (r : Option Room) : Pkg :=
  match r with
  | none => s
  | some r => s.updPort r.port fun p => { p with
      held := p.held.upd 0 r.chan (· - r.own)
      heldPool := p.heldPool.upd 0 r.chan (· - r.pool)
      freed := p.freed.upd 0 r.chan (· + r.own)
      freedPool := p.freedPool + r.pool }

/-- The room of reduction packets that no longer wait freed (R320). -/
def Pkg.freeRooms (s : Pkg) : Pkg :=
  let gone := s.fab.redRoom.filter fun x => !s.fab.redWait.contains (.packet x.2.1)
  let s := gone.foldl (fun s x => s.freeRoom (some x.2.2)) s
  { s with fab := { s.fab with redRoom := s.fab.redRoom.filter fun x => s.fab.redWait.contains (.packet x.2.1) } }

/-! ### Blocks and symbols (R344 to R346, R349) -/

/-- The symbol that closes block `seq`: acknowledgement, replay request, freed credits, and a mark that is due (R345, R349). -/
def Pkg.sendSymbol (s : Pkg) (n seq : Nat) (data : Bytes) : Pkg :=
  let p := s.port n
  let mark := if s.stroke.openedAt + 320 ≤ s.now then p.markOut else none
  let mb := match mark with
    | some (st, period, slot) => leBytes 6 st ++ leBytes 2 (period % 4096) ++ leBytes 1 (slot % 32) ++ leBytes 1 0 ++
        leBytes 3 (100 * (s.now - (s.stroke.openedAt + 320)))
    | none => leBytes 13 0
  let b := leBytes 2 seq ++ leBytes 2 p.rxAck ++ leBytes 1 (p.replayReq.toNat + 2 * mark.isSome.toNat) ++ leBytes 3 0 ++
    ((List.range 10).flatMap fun ch => leBytes 2 (p.freed.get 0 ch)) ++ leBytes 2 p.freedPool ++ mb ++ leBytes 15 0
  (s.setPort n { p with freed := [], freedPool := 0, replayReq := false, markOut := if mark.isSome then none else p.markOut }).emit
    (.symbol n (sealSymbol b (blockCrc data).toNat))

/-- The block being filled is closed by its symbol and kept for replay. A block of idle flits that finds the retry buffer full takes no number (R346; DESIGN CHOICE, log entry 91). -/
def Pkg.closeBlock (s : Pkg) (n : Nat) : Pkg :=
  let p := s.port n
  if p.txData.isEmpty && decide (50 ≤ p.unacked.length) then s.sendSymbol n ((p.txNext + 65535) % 65536) []
  else
    (s.setPort n { p with unacked := p.unacked ++ [⟨p.txNext, p.txData, p.txPkts⟩]
                          txNext := (p.txNext + 1) % 65536, txData := [], txPkts := [] }).sendSymbol n p.txNext p.txData

/-! ### Transmission (R344, R346, R348, R361) -/

/-- A packet's bytes on a link, header first. -/
def Packet.bytes (p : Packet) : Bytes := leBytes 32 p.hdr.toNat ++ p.payload

/-- Whether a packet can leave now: nothing of its channel waits before it, the retry buffer has room, and credits cover it. -/
def Port.canSend (p : Port) (ahead : List (Nat × Moving)) (q : Packet) : Bool :=
  let ch := q.hd.chan
  !(ahead.any fun x => x.2.pkt.hd.chan == ch) &&
    decide (4032 * p.unacked.length + p.txData.length + 32 + q.payload.length ≤ 4032 * 50) &&
    decide (q.flits ≤ p.credits.get 512 ch + p.pool)

/-- A packet sent on a port: credits spent, and counted (R348, R358, R371). -/
def Port.sent (p : Port) (q : Packet) : Port :=
  let ch := q.hd.chan
  let own := min (p.credits.get 512 ch) q.flits
  { p with
    credits := p.credits.set ch (p.credits.get 512 ch - own)
    pool := p.pool - (q.flits - own)
    strokeBytes := p.strokeBytes + 32 + q.payload.length
    ctr := if ch ≥ 8 then p.ctr.upd 0 0xF0 (· + 1) else p.ctr }

/-- A packet sent: its bytes packed behind those of the block being filled, which closes when its data flits are full; the packet belongs to the block in which it ends (R344). Its receive buffer is free. -/
def Pkg.place (s : Pkg) (n : Nat) (m : Moving) : Pkg :=
  let s := s.freeRoom m.room
  let m := { m with room := none }
  let p := (s.port n).sent m.pkt
  let d := p.txData ++ m.pkt.bytes
  let out (s : Pkg) : Pkg := s.emit (.packet n m.pkt.hd.chan m.pkt)
  if d.length < 4032 then out (s.setPort n { p with txData := d, txPkts := p.txPkts ++ [m] })
  else if d.length = 4032 then (out (s.setPort n { p with txData := d, txPkts := p.txPkts ++ [m] })).closeBlock n
  else out (((s.setPort n { p with txData := d.take 4032 }).closeBlock n).updPort n fun p => { p with txData := d.drop 4032, txPkts := [m] })

/-- A packet given to a port: sent, or queued (R348). -/
def Pkg.transmit (s : Pkg) (n : Nat) (m : Moving) : Pkg :=
  let p := s.port n
  if p.canSend p.waiting m.pkt then s.place n m
  else s.setPort n { p with waiting := p.waiting ++ [(s.now, m)] }

/-- The member of the output arbitration that a channel belongs to: 7 management, 6 the escape channels, else the channel itself (R361). -/
def chanMember (ch : Nat) : Nat := if ch ≥ 8 then 6 else if ch ≥ 6 then 7 else ch

/-- The waiting packet that a member can send now: the first of its channel that credits and the retry buffer allow. -/
def Port.firstOf (p : Port) (m : Nat) : Option (Nat × Moving) :=
  p.waiting.find? fun x =>
    let ch := x.2.pkt.hd.chan
    chanMember ch == m && (p.waiting.find? fun y => y.2.pkt.hd.chan == ch) == some x && p.canSend [] x.2.pkt

/-- The packets that a member may send in one turn of the round robin: eight shared out by the flits that wait, at least one (R361; DESIGN CHOICE, log entry 92). -/
def Port.share (p : Port) (m : Nat) : Nat :=
  let flits (l : List (Nat × Moving)) : Nat := (l.map fun x => x.2.pkt.flits).sum
  max 1 (8 * flits (p.waiting.filter fun x => chanMember x.2.pkt.hd.chan == m) / max 1 (flits p.waiting))

/-- The waiting packet that the output arbitration takes next: management first, else the members in round robin (R361). -/
def Port.nextOut (p : Port) : Option ((Nat × Moving) × Port) :=
  match p.firstOf 7 with
  | some x => some (x, p)
  | none =>
    let stays := decide (p.turnUsed < p.share p.turn)
    let order := (if stays then [p.turn] else []) ++ (upto 1 7).map fun i => (p.turn + i) % 7
    match order.find? fun m => (p.firstOf m).isSome with
    | none => none
    | some m => (p.firstOf m).map fun x =>
        (x, { p with turn := m, turnUsed := if m = p.turn ∧ stays then p.turnUsed + 1 else 1 })

/-- Waiting packets sent while any can go (fuel: their number). -/
def Pkg.pumpFrom (n : Nat) : Nat → Pkg → Pkg
  | 0, s => s
  | f + 1, s =>
    match (s.port n).nextOut with
    | none => s
    | some (x, p) => Pkg.pumpFrom n f ((s.setPort n { p with waiting := p.waiting.erase x }).place n x.2)

def Pkg.pump (s : Pkg) (n : Nat) : Pkg := Pkg.pumpFrom n (s.port n).waiting.length s

/-! ### Forwarding (R356, R367) -/

/-- Whether a bank forwards (R366). -/
def BankState.forwards : BankState → Bool
  | .armed | .active | .draining => true
  | _ => false

/-- A bank's state code (R366). -/
def BankState.code : BankState → Nat
  | .empty => 0
  | .loading => 1
  | .ready => 2
  | .armed => 3
  | .active => 4
  | .draining => 5

/-- The active bank. -/
def Pkg.activeBank (s : Pkg) : Option Nat :=
  if (s.bank 0).state = .active then some 0 else if (s.bank 1).state = .active then some 1 else none

/-- What routing decides (R356). -/
inductive Fwd where
  | eject
  | drop (reason : Nat)            -- 1 hop limit, 2 epoch, 3 unreachable
  | send (port : Nat) (p : Packet) (entered : Bool)
  deriving DecidableEq, Repr

/-- The forwarding rule of R356. `arr`: the arrival direction, none for an injected packet. -/
def Pkg.route (s : Pkg) (p : Packet) (arr : Option Nat) : Fwd :=
  let h := p.hd
  if eidPkg h.dst = s.self ∧ s.fab.selfIdx.isSome then .eject
  else if h.hops = 127 then .drop 1
  else
    let b := s.bank h.epoch.toNat
    if !b.state.forwards then .drop 2
    else
      let e := b.entries.get 0 (eidPkg h.dst)
      let d := fld e 2 0
      if !bitAt e 3 || d == 0 || d == 7 then .drop 3
      else
        let stay := match arr with
          | some a => h.esc && dirAxis d == dirAxis a
          | none => false
        let (d, esc) := if stay then (dirOpp (arr.getD 1), true) else (d, false)
        let dl := match arr with
          | some a => if dirAxis d == dirAxis a then h.dl else false
          | none => false
        let go (d : Nat) (esc dl entered : Bool) : Fwd :=
          let port := Tbl.get 0 (s.fab.buckets.get [] d) (flowBucket h.dst h.src h.ctx h.gen h.cls)
          let dl := if bitAt (s.port port).cfg 4 then true else dl
          .send port (p.upd fun x => { x with esc := esc, dl := dl, hops := h.hops + 1 }) entered
        if (s.livePorts d).isEmpty then
          if esc then .drop 3
          else if (s.livePorts (dirOpp d)).isEmpty then .drop 3
          else go (dirOpp d) true false true
        else go d esc dl false

def Reg.epochDrops : Nat := 0x0A0100
def Reg.unreachDrops : Nat := 0x0A0108
def Reg.hopDrops : Nat := 0x0A0110
def Reg.endpointDrops : Nat := 0x0A0118
def Reg.genDrops : Nat := 0x0A0120
def Reg.dupDrops : Nat := 0x0A0128
def Reg.orderDrops : Nat := 0x0A0130
def Reg.nacksSent : Nat := 0x0A0138
def Reg.escapes : Nat := 0x0A0140

/-- The unit of an endpoint: a cluster, a memory die or the control die (R657). -/
def epUnit (e : Nat) : Nat :=
  if e < 64 then Unit.cluster e else if e < 68 then Unit.memDie (e - 64) else Unit.controlDie

/-- A drop counted and logged (R356, R657). -/
def Pkg.routeDrop (s : Pkg) (p : Packet) (arrPort : Option Nat) (reason : Nat) : Pkg :=
  let h := p.hd
  let unit := match arrPort with
    | some n => Unit.port n
    | none => epUnit (eidEp h.src)
  (s.bump (if reason = 1 then Reg.hopDrops else if reason = 2 then Reg.epochDrops else Reg.unreachDrops)).logEv
    Ev.routeDrop unit none
    (leBytes 4 h.src ++ leBytes 4 h.dst ++ leBytes 1 h.op ++ leBytes 1 reason ++ leBytes 1 h.cls ++ leBytes 1 h.epoch.toNat)

/-- A packet forwarded from an arrival port, or injected (R356), with the room that it takes in a receive buffer. A packet for this package is the receiver's matter. -/
def Pkg.forward (s : Pkg) (p : Packet) (arrPort : Option Nat) (room : Option Room) : Pkg :=
  let arr := arrPort.map fun n => portDir (s.port n).cfg
  match s.route p arr with
  | .eject => s.freeRoom room
  | .drop r => (s.freeRoom room).routeDrop p arrPort r
  | .send port q entered =>
    let s := if entered then s.bump Reg.escapes else s
    s.transmit port ⟨p, arrPort, q, room⟩

/-! ### Senders (R362, R363, R367) -/

/-- The next number of a flow, and whether it starts the flow (R362). -/
def Pkg.number (s : Pkg) (src dst ctx gen cls : Nat) : (Nat × Bool) × Pkg :=
  let f := s.fab
  let now := s.stroke.number
  let hit (x : TxFlow) : Bool := x.src == src && x.dst == dst && x.ctx == ctx && x.gen == gen && x.cls == cls
  match f.txFlows.find? hit with
  | some x =>
    let restart := decide (x.lastStroke + 2 < now)
    let n := if restart then 0 else x.next
    let y := { x with next := (n + 1) % 2 ^ 32, lastStroke := now }
    ((n, n == 0 && (restart || x.next == 0)), { s with fab := { f with txFlows := f.txFlows.map fun z => if hit z then y else z } })
  | none =>
    ((0, true), { s with fab := { f with txFlows := f.txFlows ++ [{ src := src, dst := dst, ctx := ctx, gen := gen, cls := cls, next := 1, lastStroke := now }] } })

/-- A sequenced packet numbered and injected under the active bank (R362, R367): the sequence number it took. -/
def Pkg.inject (s : Pkg) (h : Hd) (payload : Bytes) : Nat × Pkg :=
  let ((n, st), s) := s.number h.src h.dst h.ctx h.gen h.cls
  let p := mkPacket { h with seq := n, start := st, epoch := s.activeBank == some 1 } payload
  (n, s.forward p none none)

/-- An unsequenced packet injected (ACK, NACK). -/
def Pkg.injectRaw (s : Pkg) (h : Hd) (payload : Bytes) : Pkg :=
  s.forward (mkPacket { h with epoch := s.activeBank == some 1 } payload) none none

/-- A packet of a tracked transfer: injected, and held until it is acknowledged. `x`: the transfer's key. -/
def Pkg.injectTracked (s : Pkg) (x : Nat) (h : Hd) (payload : Bytes) : Pkg :=
  let (n, s) := s.inject h payload
  let s := if x < 65536 then s.txeMoved (x / 1024) else s
  { s with fab := { s.fab with pending := s.fab.pending ++ [⟨h.src, h.dst, h.ctx, h.gen, h.cls, n, x⟩] } }

/-! ### Fault notices (R422) -/

def Reg.noticeCfg : Nat := 0x0A0518
def Reg.noticesSent : Nat := 0x0A0580
def Reg.noticesSuppressed : Nat := 0x0A0598
def Reg.planId : Nat := 0x0A0500

/-- What a notice says beyond its common fields: bytes 32 to 63. -/
structure NoticeTail where
  port : Nat := 0
  state : Nat := 0
  reason : Nat := 0
  peerSerial : Nat := 0
  peerPort : Nat := 0
  peerLabel : Nat := 0
  peerRev : Nat := 0
  deriving DecidableEq, Repr

/-- The 64 B of a notice (R422). -/
def Pkg.noticeBytes (s : Pkg) (kind code unit : Nat) (t : NoticeTail) : Bytes :=
  leBytes 1 kind ++ leBytes 1 code ++ leBytes 2 unit ++ leBytes 2 s.self ++ leBytes 2 0 ++ leBytes 6 s.stroke.number ++
  leBytes 2 0 ++ leBytes 8 s.fuses.serial ++ leBytes 8 (s.reg Reg.planId).toNat ++ leBytes 1 t.port ++ leBytes 1 t.state ++
  leBytes 1 t.reason ++ leBytes 1 0 ++ leBytes 8 t.peerSerial ++ leBytes 1 t.peerPort ++ leBytes 1 t.peerLabel ++
  leBytes 2 t.peerRev ++ leBytes 16 0

/-- A received or own notice written to a collector's log as two records (R422). -/
def Pkg.noticeRx (s : Pkg) (b : Bytes) : Pkg :=
  let unit := le b 2 2
  (s.logEv Ev.faultNoticeRx unit none (slice b 0 32)).logEv Ev.faultNoticeRx unit none (slice b 32 32)

/-- Whether a notice of this unit and kind may still be sent in this stroke. -/
def Pkg.noticeFree (s : Pkg) (unit kind : Nat) : Bool := !s.fab.noticeKeys.contains (unit, kind)

/-! ### MCTP (R600; log entry 129) -/

/-- The MCTP message types that the package supports. -/
def Mctp.control : Nat := 0x00
def Mctp.pldm : Nat := 0x01
def Mctp.spdm : Nat := 0x05
def Mctp.vendor : Nat := 0x7E

/-- The packets of a message: a transport header (version, destination and source endpoint, first, last, sequence, tag owner) and at most 64 B, the baseline transmission unit. `owner`: the package begins the exchange. -/
def mctpPackets (src : Nat) (owner : Bool) (msg : Bytes) : List Bytes :=
  let cs := chunk (msg.length / 64 + 1) 64 msg
  cs.zipIdx.map fun (b, i) =>
    leBytes 1 1 ++ leBytes 1 0 ++ leBytes 1 src ++
      leBytes 1 (128 * (i == 0).toNat + 64 * (i + 1 == cs.length).toNat + 16 * (i % 4) + 8 * owner.toNat) ++ b

/-- The outputs of a message of an MCTP type. -/
def sideOut (eid : Nat) (owner : Bool) (type : Nat) (body : Bytes) : List Output :=
  (mctpPackets eid owner (leBytes 1 type ++ body)).map .sideband

/-- Zhomor's PCI vendor identifier, the higher byte first as a vendor-defined message carries it. -/
def vendorBytes : Bytes := (leBytes 2 (Config.configSpace 0).toNat).reverse

/-- A message sent on the sideband. -/
def Pkg.sideSend (s : Pkg) (owner : Bool) (type : Nat) (body : Bytes) : Pkg := { s with out := s.out ++ sideOut s.side.eid owner type body }

/-- A vendor-defined message. -/
def Pkg.sideVendor (s : Pkg) (owner : Bool) (body : Bytes) : Pkg := s.sideSend owner Mctp.vendor (vendorBytes ++ body)

/-- A notice sent on the sideband as message 0x20 (R422, R601): in SMBus mode ALERT_N signals it in place of an In-Band Interrupt (R599). A pulse (log entry 71) where no warning holds the pin. -/
def Pkg.sideNotice (s : Pkg) (b : Bytes) : Pkg :=
  let send (s : Pkg) : Pkg := s.sideVendor true (leBytes 1 0x20 ++ b)
  if s.side.mode = 2 ∧ s.power.alert = false then (send (s.emit (.pin 1 true))).emit (.pin 1 false) else send s

/-- The 64 B of a notice sent by every path, at most one per unit and kind in a stroke (R422). -/
def Pkg.noticeRaw (s : Pkg) (kind unit code : Nat) (b : Bytes) : Pkg :=
  if !s.noticeFree unit kind then s.bump Reg.noticesSuppressed
  else
    let s := { s with fab := { s.fab with noticeKeys := (unit, kind) :: s.fab.noticeKeys } }
    let s := (s.bump Reg.noticesSent).logWith Ev.faultNotice unit none code false (slice b 0 32)
    let cfg := s.reg Reg.noticeCfg
    let s := if bitAt cfg 11 then s.raise (fld cfg 10 0) else s
    let s := s.sideNotice b
    if bitAt cfg 32 then
      if fld cfg 31 16 = s.self then s.noticeRx b
      else (s.inject { op := opFAULT, cls := 3, src := eidOf s.self 80, dst := eidOf (fld cfg 31 16) 80 } b).2
    else s

/-- A fault notice with port fields (R422). -/
def Pkg.notice (s : Pkg) (kind code unit : Nat) (t : NoticeTail) : Pkg := s.noticeRaw kind unit code (s.noticeBytes kind code unit t)

/-- An event that is also sent as a fault notice (R422, R467 flags [1]). -/
def Pkg.alert (s : Pkg) (event unit : Nat) (ctx : Option Nat) (code : Nat) (detail : Bytes) (kind ncode : Nat) (t : NoticeTail) : Pkg :=
  (s.logWith event unit ctx code (s.noticeFree unit kind) detail).notice kind ncode unit t

/-- The tail of a port's notice (R422). -/
def Port.tail (p : Port) (n reason : Nat) : NoticeTail :=
  match p.identity with
  | none => { port := n, state := p.state, reason := reason }
  | some b => { port := n, state := p.state, reason := reason, peerSerial := le b 8 8, peerPort := le b 16 1,
                peerLabel := le b 17 1, peerRev := le b 5 1 * 256 + le b 6 1 }

/-! ### A port that leaves the up state (R347, R358, R418) -/

/-- Traffic of a port that is no longer live moves: buckets reassigned, the packets of its unacknowledged blocks re-injected in order, then those queued behind them. Each is forwarded anew as it came, from the port it came by (R358; DEDUCED, log entry 93). -/
def Pkg.evacuate (s : Pkg) (n : Nat) : Pkg :=
  let p := s.port n
  let s := s.setPort n { p with unacked := [], txData := [], txPkts := [], waiting := [] }
  let s := s.reassign (portDir p.cfg) n
  (p.unacked.flatMap (·.pkts) ++ p.txPkts ++ p.waiting.map (·.2)).foldl (fun s m => s.forward m.orig m.arr m.room) s

/-- A port fails (R347): state failed, PORT_FAILED logged and noticed, traffic moved. -/
def Pkg.portFail (s : Pkg) (n reason : Nat) : Pkg :=
  let p := s.port n
  let p' := { p with state := 6, reason := reason }
  let s := s.setPort n p'
  let s := s.alert Ev.portFailed (Unit.port n) none Code.timeout [BitVec.ofNat 8 reason] 0x01 Code.timeout (p'.tail n reason)
  if p.state = 4 then s.evacuate n else s

/-! ### Flow entries by memory die (R436) -/

/-- The memory die that holds a flow's entry and its early packets: by the flow's hash (R355, R436; DEDUCED, log entry 94). -/
def flowDie (dst src ctx gen cls : Nat) : Nat := flowBucket dst src ctx gen cls % 4

def RxFlow.die (f : RxFlow) : Nat := flowDie f.dst f.src f.ctx f.gen f.cls
def Hd.die (h : Hd) : Nat := flowDie h.dst h.src h.ctx h.gen h.cls

/-- The flow entries of a memory die. -/
def Pkg.dieFlows (s : Pkg) (d : Nat) : List RxFlow := s.fab.rxFlows.filter fun f => f.die == d

end Sys2Proof.Machine
end

