-- ==== Sys2Proof/Machine/Axes.lean ====
section
/-! DEFINITION. Axis maps, lines, roles, reduction chains and the vote tree (R373 to R387). -/

namespace Sys2Proof.Machine

/-! ### Map images (R374) -/

def AxMap.herd (m : AxMap) : Nat := le m.image 0 2
def AxMap.closed (m : AxMap) (a : Nat) : Bool := (le m.image 3 1).testBit a
def AxMap.role (m : AxMap) (a : Nat) : Nat := le m.image (4 + a) 1 % 8
def AxMap.ext (m : AxMap) (a : Nat) : Nat := le m.image (8 + a) 1
def AxMap.pos (m : AxMap) (a : Nat) : Nat := le m.image (11 + a) 1
def AxMap.line (m : AxMap) (a p : Nat) : Nat := le m.image (16 + 64 * a + 2 * p) 2

/-- The axes that carry a role. -/
def AxMap.axesOf (m : AxMap) (role : Nat) : List Nat := [0, 1, 2].filter fun a => m.role a == role

/-- Every package index in the map's line tables. -/
def AxMap.members (m : AxMap) : List Nat := [0, 1, 2].flatMap fun a => (List.range (m.ext a)).map (m.line a)

/-- The limits and reserved fields of an image (R374, R375). -/
def AxMap.ok (m : AxMap) (self : Option Nat) (largest : Nat) : Bool :=
  m.image.length == 256 && decide (m.ext 0 * m.ext 1 * m.ext 2 ≤ largest) && decide (le m.image 3 1 < 8) &&
  ([0, 1, 2].all fun a =>
    decide (le m.image (4 + a) 1 ≤ 5) && decide (1 ≤ m.ext a ∧ m.ext a ≤ (if a = 2 then 24 else 32)) &&
    decide (m.pos a < m.ext a) && (m.ext a != 1 || m.role a == 0) &&
    ((List.range 32).all fun p => decide (p < m.ext a) || m.line a p == 0) && some (m.line a (m.pos a)) == self) &&
  ([2, 3, 4, 5].all fun r => decide ((m.axesOf r).length ≤ 1)) &&
  zeros m.image 7 1 && zeros m.image 14 2 && zeros m.image 208 48

/-- Whether two maps of one herd agree in all that must be equal (R375). -/
def AxMap.agrees (m n : AxMap) : Bool :=
  le m.image 3 1 == le n.image 3 1 && slice m.image 8 6 == slice n.image 8 6 && slice m.image 16 192 == slice n.image 16 192 &&
    m.axesOf 1 == n.axesOf 1

/-- The active map slot of a herd. -/
def Pkg.activeMap (s : Pkg) (herd : Nat) : Option Nat :=
  (s.fab.maps.find? fun m => m.2.active && m.2.herd == herd).map (·.1)

def Pkg.axMap (s : Pkg) (i : Nat) : Option AxMap := s.fab.maps.find i

/-- The map that a task resolves roles with (R378). -/
def Pkg.taskMap (s : Pkg) (k : Nat) : Option AxMap := (s.task k).map.bind s.axMap

/-! ### Neighbours -/

/-- The neighbour of this package on an axis in a direction (dir 0 plus, 1 minus); none at the end of an open line. -/
def AxMap.neighbour (m : AxMap) (a dir : Nat) : Option Nat :=
  let n := m.ext a
  let p := m.pos a
  if dir = 0 then
    (if p + 1 < n then some (m.line a (p + 1)) else if m.closed a && decide (n > 1) then some (m.line a 0) else none)
  else
    (if p > 0 then some (m.line a (p - 1)) else if m.closed a && decide (n > 1) then some (m.line a (n - 1)) else none)

/-- One chain toward position `h` on an axis (R386): the direction this package sends (none at the home), and how many members lie beyond it on its chain. -/
def AxMap.chain (m : AxMap) (a h : Nat) : Option Nat × Nat :=
  let n := m.ext a
  let p := m.pos a
  if p = h then (none, 0)
  else if m.closed a then
    let d := (p + n - h) % n
    let lim := n / 2                -- ⌈(n − 1)/2⌉
    if d ≤ lim then (some 1, lim - d) else (some 0, (n - 1 - lim) - (n - d))
  else if p > h then (some 1, n - 1 - p) else (some 0, p)

/-- The upstream neighbours of the home of a line: the heads of its chains (R386). -/
def AxMap.heads (m : AxMap) (a h : Nat) : List Nat :=
  let n := m.ext a
  if m.closed a then
    (if n ≥ 2 then [m.line a ((h + 1) % n)] else []) ++ (if n ≥ 3 then [m.line a ((h + n - 1) % n)] else [])
  else (if h + 1 < n then [m.line a (h + 1)] else []) ++ (if h > 0 then [m.line a (h - 1)] else [])

/-- A tree toward a home along phases of axes: the next member (none at the home), its axis, the members that send here, and the contributions gathered here (R387). -/
structure TreePos where
  next : Option Nat
  axis : Nat
  kids : List Nat
  count : Nat
  deriving DecidableEq, Repr

/-- The place of this package in the phases of axes `as` toward coordinates `h`; `n`: contributions gathered by the phases before. -/
def AxMap.tree (m : AxMap) (h : Nat → Nat) : List Nat → Nat → List Nat → TreePos
  | [], n, kids => ⟨none, 3, kids, n⟩
  | a :: as, n, kids =>
    match m.chain a (h a) with
    | (none, _) => AxMap.tree m h as (n * m.ext a) (kids ++ m.heads a (h a))
    | (some dir, beyond) =>
      ⟨m.neighbour a dir, a, kids ++ (if beyond > 0 then (m.neighbour a (1 - dir)).toList else []), n * (1 + beyond)⟩

/-- The size of the reduction group (R385). -/
def AxMap.groupSize (m : AxMap) : Nat := ((m.axesOf 1).map m.ext).foldl (· * ·) 1

/-- The home's coordinate on an axis for ring position `r`: mixed radix over the data axes (R385). -/
def AxMap.homeCoord (m : AxMap) (r a : Nat) : Nat :=
  let below := ((m.axesOf 1).filter (· < a)).map m.ext
  r / below.foldl (· * ·) 1 % max 1 (m.ext a)

/-- The reduction tree of a tile (R317, R385 to R387); alone where there is no map. -/
def redTree (m : Option AxMap) (tile : Nat) : TreePos × Nat :=
  match m with
  | none => (⟨none, 3, [], 1⟩, 1)
  | some m =>
    let g := m.groupSize
    (m.tree (m.homeCoord (tile % g)) (m.axesOf 1) 1 [], g)

/-- The chain of the vote tree on one axis toward position 0 (R379). -/
def AxMap.voteChain (m : AxMap) (a : Nat) : Option Nat :=
  let n := m.ext a
  let p := m.pos a
  if p = 0 then none
  else if m.closed a && decide (p > n / 2) then m.neighbour a 0 else m.neighbour a 1

/-- The member that a vote or a void of this package goes to: its axis phase and package index; none at the root (R379). -/
def AxMap.voteParent (m : AxMap) : Option (Nat × Nat) :=
  [0, 1, 2].findSome? fun a => (m.voteChain a).map fun q => (a, q)

/-- The members that vote to this package: axis phase and package index (R379). -/
def AxMap.voteKids (m : AxMap) : List (Nat × Nat) :=
  let rec go : List Nat → List (Nat × Nat)
    | [] => []
    | a :: as =>
      let n := m.ext a
      let p := m.pos a
      let at_ (q : Nat) : Nat × Nat := (a, m.line a q)
      if p = 0 then
        (if n ≥ 2 then [at_ 1] else []) ++ (if m.closed a && decide (n ≥ 3) && decide (n - 1 > n / 2) then [at_ (n - 1)] else []) ++ go as
      else if m.closed a && decide (p > n / 2) then (if p - 1 > n / 2 then [at_ (p - 1)] else [])
      else if m.closed a then (if p + 1 ≤ n / 2 then [at_ (p + 1)] else [])
      else (if p + 1 < n then [at_ (p + 1)] else [])
  go [0, 1, 2]

/-! ### Peer selectors (R380, R382) -/

/-- A resolved peer: the axis, the member's position, its package index. -/
structure Peer where
  axis : Nat
  pos  : Nat
  pkg  : Nat
  deriving DecidableEq, Repr

/-- Whether a selector of a COPY is in order (R380, R382), and the peer it names. `sel`: bits [63:48]. -/
def copyPeer (m : Option AxMap) (sel : Nat) : Option Peer :=
  let role := nbits sel 15 13
  match m with
  | none => none
  | some m =>
    match m.axesOf role with
    | [a] =>
      let n := m.ext a
      let v := nbits sel 9 5
      let ok := decide (1 ≤ role ∧ role ≤ 5) && nbits sel 11 10 == 0 && nbits sel 4 4 == 0 && nbits sel 3 0 == 0
      if !ok then none
      else if sel.testBit 12 then (if v < n then some ⟨a, v, m.line a v⟩ else none)
      else let q := (m.pos a + v) % n
        some ⟨a, q, m.line a q⟩
    | _ => none

/-- A relay's selector (R380, R382, R390): axis, direction, hops, version mode, self. -/
structure RelaySel where
  axis : Nat
  dir  : Nat
  hops : Nat
  vmode : Nat
  self : Bool
  deriving DecidableEq, Repr

def relaySel (m : Option AxMap) (sel : Nat) : Option RelaySel :=
  let role := nbits sel 15 13
  match m with
  | none => none
  | some m =>
    match m.axesOf role with
    | [a] =>
      let n := m.ext a
      let h := nbits sel 9 5
      let dir := nbits sel 12 12
      let reach := if m.closed a then n - 1 else if dir = 0 then n - 1 - m.pos a else m.pos a
      if 1 ≤ role ∧ role ≤ 5 ∧ nbits sel 3 0 = 0 ∧ nbits sel 11 10 ≠ 3 ∧ 1 ≤ h ∧ h ≤ reach then
        some ⟨a, dir, h, nbits sel 11 10, sel.testBit 4⟩
      else none
    | _ => none

end Sys2Proof.Machine
end

