-- ==== Sys2Proof/Machine/Seq.lean ====
section
/-! DEFINITION. The sequencer: control words, streams and address generators, core-local memory, the scalar slot, hardware loops and flow (chapter 5, R167 to R190, R204, R205). -/

namespace Sys2Proof.Machine

/-! ### Core-local memory (R129 to R135, R451) -/

def clusterBase : Nat := 0x1000000000

/-- Whether [a, a+n) lies wholly in the palette window. -/
def inPalette (a n : Nat) : Bool := decide (a + n ≤ 0x400000)

/-- Whether [a, a+n) lies wholly in the cluster-memory window. -/
def inCluster (a n : Nat) : Bool := decide (clusterBase ≤ a ∧ a + n ≤ clusterBase + 0x2000000)

/-- Whether [a, a+n) lies wholly in one of the windows of R129. -/
def inWindow (a n : Nat) : Bool := inPalette a n || inCluster a n

/-- Bytes at a core-local address; an address outside the windows reads 0 (a word that makes such an access is skipped before it issues). -/
def Pkg.lRead (s : Pkg) (c a n : Nat) : Bytes :=
  if a < clusterBase then (s.core c).pal.readN a n
  else (s.cluster (clusterOf c)).mem.readN (a - clusterBase) n

/-- Whether any 64-bit word of [a, a+n) is poisoned (R451, R457). -/
def Pkg.lPoison (s : Pkg) (c a n : Nat) : Bool :=
  if a < clusterBase then (unitsOf 8 a n).any (s.core c).palPoison.mem
  else (unitsOf 8 (a - clusterBase) n).any (s.cluster (clusterOf c)).poison.mem

/-- Line reads of unwritten palette lines in [a, a+n) (R135). -/
def Pkg.unwrittenLines (s : Pkg) (c a n : Nat) : Nat :=
  if a < clusterBase then ((unitsOf 64 a n).filter fun l => !(s.core c).palWritten.mem l).length else 0

/-- A write of a word's slot to core-local memory. -/
structure LWrite where
  slot   : Nat
  addr   : Nat
  data   : Bytes
  poison : Bool := false
  deriving DecidableEq, Repr

/-- The poisoned words after a write: poisoned, or cleaned where the write covers the whole word (R457). -/
def poisonAfter (p : NatSet) (a n : Nat) (bad : Bool) : NatSet :=
  let us := unitsOf 8 a n
  if bad then p.insAll us
  else p.delAll (us.filter fun u => decide (a ≤ 8 * u ∧ 8 * u + 8 ≤ a + n))

/-- One write landed (R133, R135). -/
def Pkg.lWrite (s : Pkg) (c : Nat) (w : LWrite) : Pkg :=
  let n := w.data.length
  if w.addr < clusterBase then
    s.updCore c fun k => { k with
      pal := k.pal.writeN w.addr w.data
      palWritten := k.palWritten.insAll (unitsOf 64 w.addr n)
      palPoison := poisonAfter k.palPoison w.addr n w.poison }
  else
    let a := w.addr - clusterBase
    s.updCluster (clusterOf c) fun k => { k with
      mem := k.mem.writeN a w.data
      written := k.written.insAll (unitsOf 64 a n)
      poison := poisonAfter k.poison a n w.poison }

/-! ### Control words (R172 to R175) -/

/-- A fetched control word: header, present slots, length in halfwords. -/
structure CWord where
  hdr  : BitVec 32
  slots : Tbl (BitVec 96)
  len  : Nat
  deriving DecidableEq, Repr

/-- The slot widths in halfwords (R173). -/
def slotHalf : List Nat := [2, 3, 3, 3, 4, 6, 3, 3, 4, 2, 2, 4]

/-- `n` halfwords from index `i`, lowest first, as a number. -/
def halves (ws : List (BitVec 16)) : Nat → Nat → Nat
  | _, 0 => 0
  | i, n + 1 => (ws.getD i 0).toNat + 65536 * halves ws (i + 1) n

/-- The present slots above a header, in ascending slot number (R174): slots and the halfword after them. -/
def takeSlots (ws : List (BitVec 16)) (present : Nat) : List (Nat × Nat) → Nat → Tbl (BitVec 96) × Nat
  | [], i => ([], i)
  | (k, n) :: rest, i =>
    if present.testBit k then
      let (t, j) := takeSlots ws present rest (i + n)
      ((k, BitVec.ofNat 96 (halves ws i n)) :: t, j)
    else takeSlots ws present rest i

/-- The word at a halfword index; none where it acts as an END (R189). -/
def fetchWord (ws : List (BitVec 16)) (pc : Nat) : Option CWord :=
  if pc + 2 > ws.length then none
  else
    let h := BitVec.ofNat 32 (halves ws pc 2)
    let (t, j) := takeSlots ws (fld h 11 0) (slotHalf.zipIdx.map fun (n, k) => (k, n)) (pc + 2)
    if j > ws.length then none else some ⟨h, t, j - pc⟩

/-- The slot's bits, zero where absent. -/
def CWord.slot (w : CWord) (k : Nat) : BitVec 96 := w.slots.get 0 k

/-- Whether a slot is present. -/
def CWord.has (w : CWord) (k : Nat) : Bool := (w.slots.find k).isSome

/-- The repeat count: the word executes this often (R172). -/
def CWord.repeats (w : CWord) : Nat := fld w.hdr 31 16 + 1

/-- The op field of a slot: bits by slot (R178, R184, R186, R191, R196, R198, R200, R202, R204); the IMM slot has none. -/
def CWord.op (w : CWord) (k : Nat) : Nat :=
  let x := w.slot k
  if k = 0 ∨ k = 9 ∨ k = 10 then fld x 31 28
  else if k = 1 ∨ k = 2 ∨ k = 3 then fld x 47 44
  else if k = 4 ∨ k = 8 then fld x 63 60
  else if k = 5 then fld x 95 90
  else if k = 6 ∨ k = 7 then fld x 47 44
  else 0

/-- The index of the word after `n` words from `pc` (a loop body's end, R186). A word that the area does not hold acts as an END (R189): the body then never reaches its end, which is put one halfword further for each missing word, so that bodies that run past the area still compare (R188; DEDUCED, log entry 100). -/
def skipWords (ws : List (BitVec 16)) : Nat → Nat → Nat
  | 0, pc => pc
  | n + 1, pc => match fetchWord ws pc with
    | some w => skipWords ws n (pc + w.len)
    | none => pc + (n + 1)

/-! ### Address generators (R176 to R182) -/

def Ag.base (a : Ag) : Nat := fld a.desc 231 192
def Ag.sideBase (a : Ag) : Nat := fld a.desc 253 232
def Ag.sideEn (a : Ag) : Bool := bitAt a.desc 255
def Ag.transpose (a : Ag) : Bool := bitAt a.desc 254
def Ag.ext (a : Ag) (d : Nat) : Nat := fld a.desc (16 * d + 15) (16 * d) + 1
def Ag.stride (a : Ag) (d : Nat) : Int := sext 32 (fld a.desc (64 + 32 * d + 31) (64 + 32 * d))

/-- The generator with its indices at 0 and its side pointer at side_base. -/
def Ag.reset (a : Ag) : Ag := { a with i0 := 0, i1 := 0, i2 := 0, i3 := 0, side := a.sideBase }

/-- The position in the stream, dimension 0 innermost. -/
def Ag.pos (a : Ag) : Nat := a.i0 + a.ext 0 * (a.i1 + a.ext 1 * (a.i2 + a.ext 2 * a.i3))

/-- The generator moved to a position, wrapping after the last unit (R177). -/
def Ag.at (a : Ag) (p : Nat) : Ag :=
  let p := p % (a.ext 0 * a.ext 1 * a.ext 2 * a.ext 3)
  { a with
    i0 := p % a.ext 0
    i1 := p / a.ext 0 % a.ext 1
    i2 := p / a.ext 0 / a.ext 1 % a.ext 2
    i3 := p / a.ext 0 / a.ext 1 / a.ext 2 }

/-- The address at the current indices, modulo 2^40, with the access's unit offset (R177, R178). -/
def Ag.addr (a : Ag) (off : Int) : Nat :=
  let i : Int := a.base + a.i0 * a.stride 0 + a.i1 * a.stride 1 + a.i2 * a.stride 2 + a.i3 * a.stride 3 + 64 * off
  (i % 2 ^ 40).toNat

/-- The addresses of `n` units from the current position. -/
def Ag.units (a : Ag) (off : Int) (n : Nat) : List Nat := (List.range n).map fun k => (a.at (a.pos + k)).addr off

/-- Replaces the base (SETBASE, ADDBASE). -/
def Ag.setBase (a : Ag) (b : Nat) : Ag := { a with desc := setFld a.desc 231 192 b }

/-- The palette bank of an offset (R130). -/
def bankOf (o : Nat) : Nat := (o / 64 % 16 + o / 1024 % 16) % 16

/-- The stall of reads of up to 16 palette chunks together: one cycle for each extra access to the busiest bank (R131). -/
def bankStall (ads : List Nat) : Nat :=
  ((List.range 16).map fun b => (ads.filter fun o => bankOf o == b).length).foldl max 0 - 1

/-- Whether a dimension-0 stride is a pitch that R131 allows: 64 B or an odd multiple of 1 KiB. -/
def pitchOk (st : Int) : Bool := st == 64 || (st % 2048 == 1024)

def Pkg.ag (s : Pkg) (c n : Nat) : Ag := (s.core c).ags.get {} n
def Pkg.sreg (s : Pkg) (c n : Nat) : Word := (s.core c).sreg.get 0 n

/-- How an engine operation of a word uses a stream (R180 to R182, R193). -/
structure Use where
  slot   : Nat          -- the engine's slot
  stream : Nat          -- 0 A, 1 B, 2 C
  bytes  : Nat          -- packed bytes of the operand
  width  : Nat          -- element width, for the transposing mode
  write  : Bool
  side   : Nat := 0     -- side-array bytes, used where the generator has side_en
  group  : Nat := 16    -- lines transposed together: 64 of an A operand, 32 of a B operand, else a block of 16
  deriving DecidableEq, Repr

/-- The units that a use consumes. In the transposing mode each line gives 64 B, or 48 B of 6-bit elements (R132, R181). -/
def Use.units (u : Use) (tr : Bool) : Nat :=
  if tr then u.group * ceilDiv u.bytes (u.group * (if u.width = 6 then 48 else 64)) else ceilDiv u.bytes 64

/-- The generator and unit offset behind a stream of a word; none where its slot is absent or carries a configuration op (R179, R180). -/
def CWord.stream (w : CWord) (st : Nat) : Option (Nat × Int) :=
  if st < 3 ∧ (w.op (st + 1) = 1 ∨ w.op (st + 1) = 2) then
    some (fld (w.slot (st + 1)) 43 40, sext 20 (fld (w.slot (st + 1)) 29 10))
  else none

/-- The unit addresses of a use. -/
def Pkg.useUnits (s : Pkg) (c : Nat) (w : CWord) (u : Use) : List Nat :=
  match w.stream u.stream with
  | some (n, off) => (s.ag c n).units off (u.units (s.ag c n).transpose)
  | none => []

/-- Elements of a transposed block of 16 lines: columns in order, each with the 16 rows' elements (R132). A line is its bytes and the poison of each. -/
def transposeBlock (wd : Nat) (lines : List (Bytes × (Nat → Bool))) : List (Nat × Bool) :=
  let cols := if wd = 6 then 64 else 512 / wd
  (List.range cols).flatMap fun j => lines.map fun (b, p) =>
    (bitsAt b (j * wd) wd, p (j * wd / 8) || p ((j * wd + wd - 1) / 8))

/-- The `n` elements of `wd` bits that a stream gives from its current position, each with its poison (R96, R132, R181, R451). -/
def Pkg.elems (s : Pkg) (c : Nat) (w : CWord) (st wd n : Nat) : List (Nat × Bool) :=
  match w.stream st with
  | none => List.replicate n (0, false)
  | some (g, off) =>
    let a := s.ag c g
    let u : Use := { slot := 0, stream := st, bytes := ceilDiv (wd * n) 8, width := wd, write := false }
    let us := a.units off (u.units a.transpose)
    if a.transpose then
      let lines := us.map fun ad => (s.lRead c ad 64, fun i => s.lPoison c (ad + i) 1)
      ((chunk (lines.length + 1) 16 lines).flatMap (transposeBlock wd)).take n
    else
      let bs := us.flatMap fun ad => s.lRead c ad 64
      let bad (b : Nat) : Bool := s.lPoison c (us.getD (b / 64) 0 + b % 64) 1
      (List.range n).map fun i => (bitsAt bs (i * wd) wd, bad (i * wd / 8) || bad ((i * wd + wd - 1) / 8))

/-- The bytes of a stream, with the poison of each. -/
def Pkg.streamBytes (s : Pkg) (c : Nat) (w : CWord) (st n : Nat) : List (Nat × Bool) := s.elems c w st 8 n

/-- Side-array bytes from the side pointer of a stream's generator (R182). -/
def Pkg.sideBytes (s : Pkg) (c : Nat) (w : CWord) (st n : Nat) : Bytes :=
  match w.stream st with
  | some (g, _) => s.lRead c (s.ag c g).side n
  | none => []

/-- Whether a stream's side bytes [off, off+n) are poisoned (R451). -/
def Pkg.sidePoison (s : Pkg) (c : Nat) (w : CWord) (st off n : Nat) : Bool :=
  match w.stream st with
  | some (g, _) => s.lPoison c ((s.ag c g).side + off) n
  | none => false

/-- The writes of the block scales of a store to a stream's side array: whole where no byte is poisoned, else word by word (R182, R451, R457). -/
def sideWrites (slot addr : Nat) (data : Bytes) (bad : Nat → Bool) : List LWrite :=
  if data.isEmpty then []
  else if (List.range data.length).any bad then
    (unitsOf 8 addr data.length).map fun u =>
      let lo := max addr (8 * u) - addr
      let hi := min (addr + data.length) (8 * u + 8) - addr
      { slot := slot, addr := addr + lo, data := (data.drop lo).take (hi - lo), poison := (upto lo (hi - lo)).any bad }
  else [{ slot := slot, addr := addr, data := data }]

def Pkg.sideOn (s : Pkg) (c : Nat) (w : CWord) (st : Nat) : Bool :=
  match w.stream st with
  | some (g, _) => (s.ag c g).sideEn
  | none => false

/-- The writes of one unit: whole where no byte is poisoned, else word by word (R457). -/
def unitWrites (slot addr : Nat) (data : Bytes) (bad : Nat → Bool) : List LWrite :=
  if (List.range data.length).any bad then
    (chunk 8 8 data).zipIdx.map fun (d, i) =>
      { slot := slot, addr := addr + 8 * i, data := d, poison := (List.range 8).any fun b => bad (8 * i + b) }
  else [{ slot := slot, addr := addr, data := data }]

/-- Writes of packed bytes to a stream's units, `bad` saying which bytes belong to poisoned elements. -/
def Pkg.streamWrites (s : Pkg) (c : Nat) (w : CWord) (slot st : Nat) (data : Bytes) (bad : Nat → Bool) : List LWrite :=
  match w.stream st with
  | none => []
  | some (g, off) =>
    let us := (s.ag c g).units off (ceilDiv data.length 64)
    us.zipIdx.flatMap fun (ad, k) => unitWrites slot ad ((data.drop (64 * k)).take 64) fun b => bad (64 * k + b)

/-! ### Checks shared by slots (R180 to R182, R209, R211) -/

/-- A rule broken: slot and reason. -/
abbrev Why := List (Nat × Nat)

/-- A rule of a slot, broken where the test holds. -/
def whyIf (slot reason : Nat) (b : Bool) : Why := if b then [(slot, reason)] else []

/-- The first broken rule: lowest slot, then lowest reason (R211). -/
def Why.first : Why → Option (Nat × Nat)
  | [] => none
  | x :: xs => match Why.first xs with
    | none => some x
    | some y => if x.1 < y.1 ∨ (x.1 = y.1 ∧ x.2 ≤ y.2) then some x else some y

/-- The header and the three AG slots (R175, R178, R180). `p`: presets of the image. -/
def checkAg (w : CWord) (p : Nat) : Why :=
  whyIf 0xFF 1 (fld w.hdr 15 12 != 0) ++
  ([1, 2, 3].flatMap fun k =>
    if w.has k then
      let x := w.slot k
      let op := w.op k
      if op = 0 then whyIf k 1 (x != 0)
      else whyIf k 1 (fld x 9 0 != 0) ++ whyIf k 2 (decide (op > 6)) ++
        whyIf k 0x12 (op = 3 && decide (fld x 39 34 ≥ p)) ++
        whyIf k 6 ([1, 2, 3].any fun j => j ≠ k && w.has j && w.op j ≠ 0 && fld (w.slot j) 43 40 == fld x 43 40)
    else [])

/-- The scalar slot (R184, R188, R205). `opened`: open loop levels. -/
def checkScl (w : CWord) (opened : List Nat) : Why :=
  if !w.has 9 then [] else
  let x := w.slot 9
  let op := w.op 9
  let bad (lo : Nat) : Why := whyIf 9 1 (lo > 0 && fld x (lo - 1) 0 != 0)
  match op with
  | 0 => whyIf 9 1 (x != 0)
  | 1 | 2 | 3 => bad 16
  | 4 => bad 4
  | 5 => bad 24 ++ whyIf 9 0xA (!w.has 11)
  | 6 => bad 22 ++ whyIf 9 0xB (opened.contains (fld x 27 26))
  | 7 => bad 21
  | 8 => bad 25
  | 9 => bad 14 ++ whyIf 9 2 (decide (fld x 16 14 ≥ 6)) ++ whyIf 9 1 (!bitAt x 25 && decide (fld x 24 21 ≥ 8))
  | _ => bad 28 ++ [(9, 2)]

/-- The flow slot (R186, R188). -/
def checkFlow (ws : List (BitVec 16)) (w : CWord) (pc : Nat) (loops : List LoopLvl) : Why :=
  if !w.has 0 then [] else
  let x := w.slot 0
  match w.op 0 with
  | 0 => whyIf 0 1 (x != 0)
  | 1 =>
    let stop := skipWords ws (fld x 24 12) (pc + w.len)
    whyIf 0 0xC (loops.any fun l => l.level == fld x 27 26) ++
    whyIf 0 0xC (fld x 24 12 == 0) ++
    whyIf 0 0xC (loops.any fun l => decide (stop > l.stop))
  | 2 =>
    let target := fld x 16 0
    whyIf 0 1 (fld x 23 17 != 0) ++
    whyIf 0 0xC (loops.any fun l => decide (l.first ≤ pc ∧ pc < l.stop) && !decide (l.first ≤ target ∧ target < l.stop))
  | 3 => whyIf 0 1 (fld x 21 0 != 0) ++ whyIf 0 0xC (!loops.any fun l => l.level == fld x 27 26)
  | 4 => whyIf 0 1 (fld x 27 0 != 0)
  | _ => whyIf 0 1 (fld x 27 0 != 0) ++ [(0, 2)]

/-- The SYNC slot (R204). -/
def checkSync (w : CWord) : Why :=
  if !w.has 10 then [] else
  let x := w.slot 10
  match w.op 10 with
  | 0 => whyIf 10 1 (x != 0)
  | 1 => whyIf 10 1 (fld x 17 0 != 0)
  | _ => whyIf 10 1 (fld x 17 0 != 0) ++ [(10, 2)]

/-- A use's stream: its units and side bytes must lie in the windows; the transposing mode reads the palette only, at an allowed pitch (R180 to R182).
DEDUCED, log entry 101: a missing stream is the fault of the engine's slot that names it, and an address or a transposing rule that of the AG slot whose generator breaks it. -/
def Pkg.checkUse (s : Pkg) (c : Nat) (w : CWord) (u : Use) : Why :=
  match w.stream u.stream with
  | none => []
  | some (g, off) =>
    let a := s.ag c g
    let us := a.units off (u.units a.transpose)
    whyIf (u.stream + 1) 4 (us.any fun ad => !inWindow ad 64 || ad % 64 != 0) ++
    whyIf (u.stream + 1) 4 (a.sideEn && u.side > 0 && !inPalette a.side u.side) ++
    whyIf (u.stream + 1) 0xF (a.transpose && (u.write || !pitchOk (a.stride 0) || a.ext 0 % 16 != 0 ||
      us.any fun ad => decide (ad ≥ clusterBase)))

/-! ### Effects of the sequencer's own slots -/

/-- The AG slots after a repeat (R179): STEP advances past what the word's uses consumed; the configuration ops take effect. -/
def Pkg.agAfter (pre s : Pkg) (c : Nat) (w : CWord) (img : Image) (uses : List Use) (slot : Nat) : Pkg :=
  if !w.has slot then s else
  let x := w.slot slot
  let g := fld x 43 40
  let a := pre.ag c g
  let sv := (pre.sreg c (fld x 33 30)).toNat % 2 ^ 40
  let put (b : Ag) : Pkg := s.updCore c fun k => { k with ags := k.ags.set g b }
  match w.op slot with
  | 1 =>
    let mine := uses.filter fun u => u.stream == slot - 1
    let n := (mine.map fun u => u.units a.transpose).sum
    let sd := if a.sideEn then (mine.map (·.side)).sum else 0
    put { a.at (a.pos + n) with side := a.side + sd }
  | 3 => put { desc := img.presets.getD (fld x 39 34) 0, side := fld (img.presets.getD (fld x 39 34) 0) 253 232 }
  | 4 => put { (a.setBase sv) with i0 := 0, i1 := 0, i2 := 0, i3 := 0 }
  | 5 => put a.reset
  | 6 => put (a.setBase ((a.base + sv) % 2 ^ 40))
  | _ => s

/-- The scalar slot's effect, reading the values before the repeat (R184, R185). -/
def Pkg.sclAfter (pre s : Pkg) (c : Nat) (w : CWord) : Pkg :=
  if !w.has 9 then s else
  let x := w.slot 9
  let S (n : Nat) : Word := pre.sreg c n
  let d := fld x 27 24
  let a := S (fld x 23 20)
  let b := S (fld x 19 16)
  let put (v : Word) : Pkg := s.updCore c fun k => { k with sreg := k.sreg.set d v }
  match w.op 9 with
  | 1 => put (a + b)
  | 2 => put (a - b)
  | 3 => put (a * b)
  | 4 => put (a + BitVec.ofInt 64 (sext 16 (fld x 19 4)))
  | 5 => put (BitVec.ofNat 64 (w.slot 11).toNat)
  | 6 => s.updCore c fun k => { k with lc := k.lc.set (fld x 27 26) ((S (fld x 25 22)).setWidth 32) }
  | 7 => s.updCore c fun k => { k with ct := k.ct.set (fld x 27 25) ((S (fld x 24 21)).setWidth 32) }
  | 8 => s.updCore c fun k => { k with ct := k.ct.set (fld x 27 25) ((pre.core c).ct.get 0 (fld x 27 25) + 1) }
  | 9 =>
    let src : Word := if bitAt x 25 then S (fld x 24 21) else ((pre.core c).ct.get 0 (fld x 24 21)).setWidth 64
    let rhs := S (fld x 20 17)
    let r := match fld x 16 14 with
      | 0 => src == rhs
      | 1 => src != rhs
      | 2 => decide (src.toInt < rhs.toInt)
      | 3 => decide (src.toInt ≤ rhs.toInt)
      | 4 => decide (src.toInt > rhs.toInt)
      | _ => decide (src.toInt ≥ rhs.toInt)
    s.updCore c fun k => { k with cp := k.cp.set (fld x 27 26) r }
  | _ => s

/-- Ends iterations whose body ends at `pc`, innermost first (R187): the loops left open and where to go on. -/
def loopEnds : List LoopLvl → Nat → List LoopLvl × Nat
  | [], pc => ([], pc)
  | l :: ls, pc =>
    if pc = l.stop then
      if l.left > 1 then ({ l with left := l.left - 1 } :: ls, l.first) else loopEnds ls pc
    else (l :: ls, pc)

/-- The flow op after a word's last repeat (R186, R187): loops, next index, and whether the program ends. A loop level is pushed innermost. -/
def Pkg.flowAfter (s : Pkg) (c : Nat) (ws : List (BitVec 16)) (w : CWord) (pc : Nat) : List LoopLvl × Nat × Bool :=
  let k := s.core c
  let next := pc + w.len
  let x := w.slot 0
  match (if w.has 0 then w.op 0 else 0) with
  | 1 =>
    let lv := fld x 27 26
    let cnt := if bitAt x 25 then fld x 11 0 else (k.lc.get 0 lv).toNat
    let stop := skipWords ws (fld x 24 12) next
    if cnt = 0 then (k.loops, stop, false) else (⟨lv, next, stop, cnt⟩ :: k.loops, next, false)
  | 2 =>
    let taken := !bitAt x 27 || (k.cp.get false (fld x 26 25) == bitAt x 24)
    (k.loops, if taken then fld x 16 0 else next, false)
  | 3 =>
    let lv := fld x 27 26
    let taken := !bitAt x 25 || (k.cp.get false (fld x 24 23) == bitAt x 22)
    if taken then
      match k.loops.dropWhile (fun l => l.level != lv) with
      | l :: ls => (ls, l.stop, false)
      | [] => (k.loops, next, false)
    else (k.loops, next, false)
  | 4 => (k.loops, next, true)
  | _ => (k.loops, next, false)

/-- Moves on after a word: loop ends handled, repeat 0 of the next word in hand, or the program ended (R187, R190). -/
def Pkg.advance (s : Pkg) (c : Nat) (r : List LoopLvl × Nat × Bool) : Pkg :=
  let (ls, pc) := loopEnds r.1 r.2.1
  s.updCore c fun k => { k with loops := ls, pc := pc, rep := 0, clashLogged := false, ended := r.2.2 }

end Sys2Proof.Machine
end

