-- ==== Sys2Proof/Machine/Builtin.lean ====
section
/-! DEFINITION. The built-in functions of the vector and row engines (R144): each result lies within two units in the last place of the function's value. Values of the functions are computed in fixed point of 320 fraction bits. -/

namespace Sys2Proof.Machine

/-! ### Values of the functions in fixed point -/

/-- Fraction bits of the fixed point. -/
def fixBits : Nat := 320

/-- Terms of the exponential's series from number `k` on: `t` the term before, `r` the argument. -/
def expTerms (r : Nat) : Nat → Nat → Nat → Nat
  | 0, _, _ => 0
  | n + 1, k, t => let u := ((t * r) >>> fixBits) / k; u + expTerms r n (k + 1) u

/-- e^r of a fixed-point r in [0, 1). -/
def expFix (r : Nat) : Nat := 2 ^ fixBits + expTerms r 90 1 (2 ^ fixBits)

/-- Terms of the inverse hyperbolic tangent's series: `p` the power of `z` in hand, `k` its exponent. -/
def atanhTerms (z2 : Nat) : Nat → Nat → Nat → Nat
  | 0, _, _ => 0
  | n + 1, k, p => p / k + atanhTerms z2 n (k + 2) ((p * z2) >>> fixBits)

/-- atanh z of a fixed-point z in [0, 1/3]. -/
def atanhFix (z : Nat) : Nat := atanhTerms ((z * z) >>> fixBits) 110 1 z

/-- The natural logarithm of 2. -/
def ln2Fix : Nat := 2 * atanhFix (2 ^ fixBits / 3)

/-- ln (m / 2^l) for m in [2^l, 2^(l+1)). -/
def lnMant (m l : Nat) : Nat := 2 * atanhFix (((m - 2 ^ l) <<< fixBits) / (m + 2 ^ l))

/-- (−1)^s × m × 2^e in fixed point. -/
def toFix (s : Bool) (m : Nat) (e : Int) : Int :=
  let n : Int := e + fixBits
  let v : Nat := if n ≥ 0 then m <<< n.toNat else m >>> (-n).toNat
  if s then -(v : Int) else v

/-- A value of the last fixed-point form: i × 2^−320. -/
def ofFix (i : Int) : Num := .fin (decide (i < 0)) i.natAbs (-(fixBits : Int))

/-- A positive value below every half of a representable one, and one above every one. -/
def farBelow : Num := .fin false 1 (-2000)
def farAbove : Num := .fin false 1 2000
/-- A value just below 1. -/
def nearOne : Num := .fin false (2 ^ 200 - 1) (-200)

/-- e^x. -/
def expNum (s : Bool) (m : Nat) (e : Int) : Num :=
  if magLe 1 10 m e then (if s then farBelow else farAbove) else
    let x := toFix s m e
    let n := x / (ln2Fix : Int)
    .fin false (expFix (x - n * ln2Fix).toNat) (n - fixBits)

/-- 2^x. -/
def exp2Num (s : Bool) (m : Nat) (e : Int) : Num :=
  if magLe 1 10 m e then (if s then farBelow else farAbove) else
    let x := toFix s m e
    let n := x / 2 ^ fixBits
    .fin false (expFix (((x - n * 2 ^ fixBits).toNat * ln2Fix) >>> fixBits)) (n - fixBits)

/-- ln x of a positive x. -/
def lnNum (m : Nat) (e : Int) : Num := ofFix ((e + Nat.log2 m) * ln2Fix + lnMant m (Nat.log2 m))

/-- log2 x of a positive x. -/
def log2Num (m : Nat) (e : Int) : Num :=
  ofFix ((e + Nat.log2 m) * 2 ^ fixBits + ((lnMant m (Nat.log2 m) <<< fixBits) / ln2Fix : Nat))

/-- e^a of a magnitude below 2^10, in fixed point. -/
def expMag (m : Nat) (e : Int) : Nat :=
  match expNum false m e with
  | .fin _ r k => r <<< (k + fixBits).toNat
  | _ => 0

/-- tanh x. -/
def tanhNum (s : Bool) (m : Nat) (e : Int) : Num :=
  if magLe 1 6 m e then (if s then nearOne.neg else nearOne) else
    let a := expMag m (e + 1)
    .fin s (((a - 2 ^ fixBits) <<< 400) / (a + 2 ^ fixBits)) (-400)

/-- 1 / (1 + e^−x). -/
def sigmoidNum (s : Bool) (m : Nat) (e : Int) : Num :=
  if magLe 1 8 m e then (if s then farBelow else nearOne) else
    let a := expMag m e
    .fin false (((if s then 2 ^ fixBits else a) <<< 1000) / (a + 2 ^ fixBits)) (-1000)

/-- The value of function `fn` at a finite operand: EXP 0, EXP2 1, LN 2, LOG2 3, TANH 4, SIGMOID 5. LN and LOG2 are asked of positive operands only. -/
def fnValue (fn : Nat) (s : Bool) (m : Nat) (e : Int) : Num :=
  match fn with
  | 0 => expNum s m e
  | 1 => exp2Num s m e
  | 2 => lnNum m e
  | 3 => log2Num m e
  | 4 => tanhNum s m e
  | _ => sigmoidNum s m e

/-! ### The bound and the functions -/

/-- Whether an FP32 result lies within 2 units in the last place of a value. The unit is that of the value's binade, at least 2^−149; an infinity stands for 2^128 (DESIGN CHOICE, log entry 3). -/
def withinTwoUlp (v : Num) (bits : Nat) : Bool :=
  let near (x : Num) : Bool :=
    match v, (x.add .rne v.neg).1 with
    | .fin _ m e, .fin _ d f => magLe d f 1 ((if m = 0 then -149 else max (-149) (e + Nat.log2 m - 23)) + 1)
    | _, _ => false
  match fp32.decode bits with
  | .nan _ => false
  | .inf s => near (.fin s 1 128)
  | x => near x

/-- Flags from five bits, in the order of R105. -/
def stickyOf (b : BitVec 5) : Sticky := ⟨b.getLsbD 0, b.getLsbD 1, b.getLsbD 2, b.getLsbD 3, b.getLsbD 4⟩

/-- The result at a finite operand: a free value within 2 units in the last place, and free flags (R144). -/
def builtinFree (fn x : Nat) (s : Bool) (m : Nat) (e : Int) : Nat × Sticky :=
  let v := fnValue fn s m e
  let r := (Config.builtin fn (BitVec.ofNat 32 x)).toNat
  (if withinTwoUlp v r then r else (fp32.conv .rne false 0 v).bits, stickyOf (Config.builtinFlags fn (BitVec.ofNat 32 x)))

/-- A built-in function of an FP32 operand: EXP 0, EXP2 1, LN 2, LOG2 3, TANH 4, SIGMOID 5. Special inputs follow the limits that R144 names; every other result is free within its bound. -/
def builtin (fn x : Nat) : Nat × Sticky :=
  let inf := fp32.infBits false
  let one : Nat := 0x3F800000
  match fp32.decode x with
  | .nan s => (fp32.nanBits, .invIf s)
  | .inf s =>
    match fn with
    | 0 | 1 => (if s then 0 else inf, {})
    | 2 | 3 => if s then (fp32.nanBits, .invIf true) else (inf, {})
    | 4 => (if s then one + fp32.signBit else one, {})
    | _ => (if s then 0 else one, {})
  | .fin s m e =>
    if fn = 2 ∨ fn = 3 then
      if m = 0 then (fp32.infBits true, { dz := true })
      else if s then (fp32.nanBits, .invIf true)
      else builtinFree fn x s m e
    else builtinFree fn x s m e

end Sys2Proof.Machine
end

