-- ==== Sys2Proof/Machine/Vxe.lean ====
section
/-! DEFINITION. The vector engine (R104 to R108, R144 to R148, R196, R197). -/

namespace Sys2Proof.Machine

/-! ### Tables (R145, R146) -/

/-- An FP32 field of a table image. -/
def tbField (tb : Bytes) (o : Nat) : Nat := le tb o 4

/-- The integer below a value, where one of 32 bits is (R146). -/
def Num.floorU32 : Num → Option Nat
  | .fin false m e =>
    let n := if e ≥ 0 then m <<< e.toNat else m >>> (-e).toNat
    if n < 2 ^ 32 then some n else none
  | .fin true 0 _ => some 0
  | _ => none

/-- The segment of a table that u selects (R146). (u32)floor(u) has no value where u is infinite, NaN, negative or 2^32 or more: a free one of the 512 segments (log entry 122). -/
def segmentOf (u : Nat) : Nat :=
  match (fp32.decode u).floorU32 with
  | some n => min 511 n
  | none => Config.segment (BitVec.ofNat 32 u) % 512

/-- The table evaluation of R146: every operation rounds to FP32 under RNE. -/
def tableEval (tb : Bytes) (x : Nat) : Nat × Sticky :=
  let f := fp32
  let v := f.decode x
  let lo := tbField tb 0
  let hi := tbField tb 4
  let edge (a b : Nat) : Nat × Sticky :=
    if v.isInf && (f.decode b).isZero then (a, {}) else f.fma .rne b x a
  if v.isNan then (f.nanBits, .invIf v.isSig)
  else if v.cmp (f.decode lo) == .lt then edge (tbField tb 12) (tbField tb 16)
  else if v.cmp (f.decode hi) != .lt then edge (tbField tb 20) (tbField tb 24)
  else
    let (d, f1) := f.sub .rne x lo
    let (u, f2) := f.mul .rne d (tbField tb 8)
    let i := segmentOf u
    let o := 32 + 16 * i
    let (t, f3) := f.sub .rne x (tbField tb (o + 12))
    let (q, f4) := f.fma .rne (tbField tb (o + 8)) t (tbField tb (o + 4))
    let (r, f5) := f.fma .rne q t (tbField tb o)
    (r, (((f1.or f2).or f3).or f4).or f5)

/-- The size of one table image, and of a pair (R145, R147). -/
def tableBytes : Nat := 8224

/-! ### Lanes -/

/-- Lane `i` of `w` bits of a register. -/
def VReg.lane (r : VReg) (w i : Nat) : Nat := fld r.bits (w * i + w - 1) (w * i)

/-- Whether lane `i` of `w` bits is poisoned: its 32-bit lanes (R451). -/
def VReg.lanePoison (r : VReg) (w i : Nat) : Bool := (upto (i * w / 32) (w / 32)).any r.poison.mem

/-- A register from lanes of `w` bits and their poison. -/
def VReg.ofLanes (w : Nat) (ls : List (Nat × Bool)) : VReg :=
  { bits := BitVec.ofNat 8192 (packNat w (ls.map (·.1)))
    poison := ls.zipIdx.foldl (fun p (l, i) => if l.2 then p.insAll (upto (i * w / 32) (w / 32)) else p) [] }

/-! ### The slot -/

/-- The fields of a VXE slot (R196). -/
structure VxeF where
  op : Nat
  vd : Nat
  va : Nat
  vb : Nat
  vc : Nat
  fmt : Nat
  rmode : Nat
  cmode : Nat
  stream : Nat
  tp : Nat
  pred : Nat
  tensor : Nat
  org : Nat
  imm : Nat
  deriving DecidableEq, Repr

def vxeF (x : BitVec 96) : VxeF :=
  ⟨fld x 95 90, fld x 89 85, fld x 84 80, fld x 79 75, fld x 74 70, fld x 69 65, fld x 64 62, fld x 61 60,
    fld x 59 58, fld x 57 54, fld x 53 50, fld x 49 42, fld x 41 38, fld x 31 0⟩

/-- The elements that a register-wide access moves: 256, or 128 of FP64 (R197). -/
def VxeF.count (f : VxeF) : Nat := if f.fmt = 1 then 128 else 256

/-- The uses of streams: LOAD reads, STORE writes, TABLE_LOAD reads 16,448 B (R197). -/
def vxeUses (w : CWord) : List Use :=
  if !w.has 5 then [] else
  let f := vxeF (w.slot 5)
  let n := ceilDiv (f.count * fmtWidth f.fmt) 8
  let sd := if fmtBlock f.fmt then f.count / 32 else 0
  match f.op with
  | 1 => [{ slot := 5, stream := f.stream, bytes := n, width := fmtWidth f.fmt, write := false, side := sd }]
  | 2 => [{ slot := 5, stream := f.stream, bytes := n, width := fmtWidth f.fmt, write := true, side := sd }]
  | 0x1A => [{ slot := 5, stream := f.stream, bytes := 2 * tableBytes, width := 8, write := false }]
  | _ => []

/-- Whether a table-pair slot holds tables of the task's context (R147). -/
def Pkg.tpOwned (s : Pkg) (c k tp : Nat) : Bool :=
  match (s.core c).tps.find tp with
  | some t => t.ctx == (s.task k).ctx
  | none => false

/-- The rules of the VXE slot (R196, R197, R211). -/
def Pkg.checkVxe (s : Pkg) (c k : Nat) (w : CWord) (fp64ok : Bool) : Why :=
  if !w.has 5 then [] else
  let x := w.slot 5
  let f := vxeF x
  if f.op = 0 then whyIf 5 1 (x != 0) else
  let t := s.task k
  let mem := f.op == 1 || f.op == 2
  let arith := (decide (3 ≤ f.op ∧ f.op ≤ 0x11)) || f.op == 0x1B
  let fn := decide (0x12 ≤ f.op ∧ f.op ≤ 0x19)
  whyIf 5 1 (fld x 37 32 != 0) ++ whyIf 5 1 (mem && f.imm / 256 != 0) ++
  whyIf 5 2 (decide (f.op > 0x1B)) ++
  whyIf 5 3 (arith && f.fmt != 1 && f.fmt != 2) ++ whyIf 5 3 (fn && f.fmt != 2) ++
  whyIf 5 3 (mem && !fmtValid f.fmt) ++
  whyIf 5 3 (f.rmode == 7 || f.cmode == 3 || (f.rmode == 6 && f.op != 2)) ++
  whyIf 5 3 (f.op == 2 && ((cmodeOf f.fmt f.cmode).isNone || (f.rmode == 6 && (f.fmt == 1 || f.fmt == 2)))) ++
  (if mem then
    whyIf 5 5 (f.stream == 3) ++ whyIf 5 0xE (!t.tensorOk f.tensor) ++
    (match t.tensor f.tensor with
      | some r =>
        whyIf 5 7 (r.fmt != f.fmt) ++
        (if f.op = 2 then
          whyIf 5 3 ((r.rm f.rmode).isNone || (r.sat f.cmode).isNone) ++
          whyIf 5 3 ((r.rm f.rmode) == some .sr && (f.fmt == 1 || f.fmt == 2))
        else [])
      | none => []) ++
    whyIf 5 0xF (fmtBlock f.fmt && f.stream < 3 && !s.sideOn c w f.stream)
  else []) ++
  whyIf 5 2 (f.op == 0xE && decide (f.pred ≥ 14)) ++
  whyIf 5 5 (f.op == 0x1A && f.stream == 3) ++
  whyIf 5 0xD ((f.op == 0x18 || f.op == 0x19) && !s.tpOwned c k f.tp) ++
  whyIf 5 0x10 ((arith || mem) && f.fmt == 1 && !fp64ok)

/-- A signed tile offset: outside −64 to +63 it counts as 0, and is reported (R103). -/
def tileOffset (b : Nat) : Int × Bool :=
  let t := sext 8 b
  if -64 ≤ t ∧ t ≤ 63 then (t, false) else (0, true)

/-- The FP32 constant of ADDK and MULK in the operation's format. Widening raises no flag but that of a signalling NaN (R106, R122). -/
def VxeF.constant (f : VxeF) : Nat × Sticky :=
  if f.fmt = 1 then let r := fp64.conv .rne false 0 (fp32.decode f.imm); (r.bits, r.fl) else (f.imm, {})

/-- A result with further flags. -/
def withFlags (fl : Sticky) (r : Nat × Sticky) : Nat × Sticky := (r.1, fl.or r.2)

/-- One lane of an operation that reads registers only: the result and its flags. SELECT tests the bits of vc, as the update engine's SELECT does (R291): DEDUCED, log entry 102. -/
def vxeLane (f : VxeF) (tb : TpSlot) (a b c : Nat) : Nat × Sticky :=
  let fm := if f.fmt = 1 then fp64 else fp32
  let rm := (Rm.ofCode false f.rmode).getD .rne
  let ones := 2 ^ fm.width - 1
  match f.op with
  | 0x03 => fm.add rm a b
  | 0x04 => fm.sub rm a b
  | 0x05 => fm.mul rm a b
  | 0x06 => fm.fma rm a b c
  | 0x07 => fm.div rm a b
  | 0x08 => fm.sqrt rm a
  | 0x09 => fm.max a b
  | 0x0A => fm.min a b
  | 0x0B => (fm.abs a, {})
  | 0x0C => (fm.negate a, {})
  | 0x0D => (fm.copysign a b, {})
  | 0x0E =>
    match cmpPred f.pred (fm.decode a) (fm.decode b) with
    | some (r, i) => (if r then ones else 0, .invIf i)
    | none => (0, {})
  | 0x0F => (if c = 0 then b else a, {})
  | 0x10 => withFlags f.constant.2 (fm.add rm a f.constant.1)
  | 0x11 => withFlags f.constant.2 (fm.mul rm a f.constant.1)
  | 0x12 => builtin 0 a
  | 0x13 => builtin 1 a
  | 0x14 => builtin 2 a
  | 0x15 => builtin 3 a
  | 0x16 => builtin 4 a
  | 0x17 => builtin 5 a
  | 0x18 => tableEval (tb.bytes.take tableBytes) a
  | 0x19 =>
    let (d, f1) := tableEval (tb.bytes.drop tableBytes) a
    let (r, f2) := fp32.mul .rne b d
    (r, f1.or f2)
  | _ => (a, {})

/-- Which source registers an operation reads: b, c. -/
def vxeReads (op : Nat) : Bool × Bool :=
  (decide (op = 3 ∨ op = 4 ∨ op = 5 ∨ op = 6 ∨ op = 7 ∨ op = 9 ∨ op = 0xA ∨ op = 0xD ∨ op = 0xE ∨ op = 0xF ∨ op = 0x19),
    decide (op = 6 ∨ op = 0xF))

/-- A register-to-register operation over the whole register (R197), poison following the lanes it reads (R451). -/
def vxeArith (f : VxeF) (tb : TpSlot) (va vb vc : VReg) : VReg × Sticky :=
  let w := if f.fmt = 1 then 64 else 32
  let n := if f.fmt = 1 then 128 else 256
  let (rb, rc) := vxeReads f.op
  let rs := (List.range n).map fun i =>
    let (v, fl) := vxeLane f tb (va.lane w i) (vb.lane w i) (vc.lane w i)
    (v, va.lanePoison w i || (rb && vb.lanePoison w i) || (rc && vc.lanePoison w i) || tb.poison, fl)
  (VReg.ofLanes w (rs.map fun r => (r.1, r.2.1)), rs.foldl (fun fl r => fl.or r.2.2) {})

/-- LOAD (R197): each element decoded with its block scale, tile offset and tensor scale, rounded once. -/
def Pkg.vxeLoad (s : Pkg) (c k : Nat) (w : CWord) (f : VxeF) (t : TensorRef) : VReg × Sticky :=
  let es := s.elems c w f.stream (fmtWidth f.fmt) f.count
  let sb := if fmtBlock f.fmt then s.sideBytes c w f.stream (f.count / 32) else []
  let (off, _) := tileOffset (f.imm % 256)
  let rm := (Rm.ofCode false f.rmode).getD .rne
  let fm := if f.fmt = 1 then fp64 else fp32
  let rs := es.zipIdx.map fun ((e, p), i) =>
    let v := fmtDecode f.fmt e
    let v := if fmtBlock f.fmt then
        (match e8m0 (sb.getD (i / 32) 0).toNat with
          | some b => v.scale b
          | none => .nan false)
      else v
    let (b, fl) := fm.out rm ((v.scale off).scaled t.scaleNum) false
    (b, p || (fmtBlock f.fmt && s.sidePoison c w f.stream (i / 32) 1), fl)
  let _ := k
  (VReg.ofLanes fm.width (rs.map fun r => (r.1, r.2.1)), rs.foldl (fun fl r => fl.or r.2.2) {})

/-- What a STORE converts (R99, R197): the values, the conversions, the packed bytes and the block scales. -/
def Pkg.vxeStore (s : Pkg) (c k : Nat) (f : VxeF) (t : TensorRef) : List Num × List Conv × Bytes × Bytes :=
  let r := (s.core c).vreg.get {} f.va
  let fm := if f.fmt = 1 then fp64 else fp32
  let vs := (List.range f.count).map fun i => fm.decode (r.lane fm.width i)
  let (off, _) := tileOffset (f.imm % 256)
  let rm := (t.rm f.rmode).getD .rne
  let sat := (t.sat f.cmode).getD true
  let org := (s.sreg c f.org).toNat
  let u (i : Nat) : Nat := s.draw k t.id (org + i)
  let xs := vs.map fun v => v.over (t.scaleNum.scale off)
  let held := f.fmt ≤ 2 && off == 0 && t.scaleNum.isOne
  let (cs, sb) :=
    if fmtBlock f.fmt then
      let bl := (chunk (xs.length + 1) 32 xs).zipIdx.map fun (b, j) => blockConv f.fmt rm sat (fun i => u (32 * j + i)) b
      (bl.flatMap (·.2), bl.map fun b => BitVec.ofNat 8 b.1)
    else (xs.zipIdx.map fun (x, i) => (fmtConv f.fmt rm sat (u i) x).held held, [])
  (vs, cs, packBytes (fmtWidth f.fmt) (cs.map (·.bits)), sb)

/-- A vector register written, and the flags of the lanes raised. -/
def Pkg.vregPut (s : Pkg) (c k vd : Nat) (r : VReg × Sticky) : Pkg :=
  (s.updCore c fun x => { x with vreg := x.vreg.set vd r.1 }).taskFlags k r.2

/-- An invalid tile offset reported (R103). -/
def Pkg.badOffset (s : Pkg) (c k : Nat) (f : VxeF) : Pkg :=
  if (tileOffset (f.imm % 256)).2 then
    (s.taskFlags k (.invIf true)).taskEvent k Ev.tileOffsetInvalid (Unit.engine c 1) 0 []
  else s

/-- LOAD as issued. -/
def Pkg.vxeLoadIssue (pre s : Pkg) (c k : Nat) (w : CWord) (f : VxeF) : Pkg :=
  match (pre.task k).tensor f.tensor with
  | some t =>
    let r := pre.vxeLoad c k w f t
    let s := (s.badOffset c k f).vregPut c k f.vd r
    if r.1.poison.isEmpty then s else s.taskCode k Code.poisonedInput
  | none => s

/-- STORE as issued: what it leaves, and its writes. -/
def Pkg.vxeStoreIssue (pre s : Pkg) (c k : Nat) (w : CWord) (f : VxeF) : Pkg × List LWrite :=
  match (pre.task k).tensor f.tensor with
  | some t =>
    let (vs, cs, bs, sb) := pre.vxeStore c k f t
    let wd := fmtWidth f.fmt
    let src := (pre.core c).vreg.get {} f.va
    let lw := if f.fmt = 1 then 64 else 32
    let lane (i : Nat) : Bool :=
      if fmtBlock f.fmt then (upto (i / 32 * 32) 32).any (src.lanePoison lw) else src.lanePoison lw i
    let bad (b : Nat) : Bool := lane (8 * b / wd) || lane ((8 * b + 7) / wd)
    let ws := pre.streamWrites c w 5 f.stream bs bad
    let side := match w.stream f.stream with
      | some (g, _) => sideWrites 5 (pre.ag c g).side sb fun j => lane (32 * j)
      | none => []
    ((s.badOffset c k f).converted k f.tensor t (tileOffset (f.imm % 256)).1 vs cs 0 0, ws ++ side)
  | none => (s, [])

/-- The table pair that a TABLE_LOAD copies from its stream, tagged with the task's context (R147). -/
def Pkg.tablePair (pre : Pkg) (c k : Nat) (w : CWord) (f : VxeF) : TpSlot :=
  let bs := pre.streamBytes c w f.stream (2 * tableBytes)
  { ctx := (pre.task k).ctx, bytes := bs.map fun b => BitVec.ofNat 8 b.1, poison := bs.any (·.2) }

/-- TABLE_LOAD as issued. -/
def Pkg.tableLoadIssue (pre s : Pkg) (c k : Nat) (w : CWord) (f : VxeF) : Pkg :=
  let slot := pre.tablePair c k w f
  let s := s.updCore c fun x => { x with tps := x.tps.set f.tp slot }
  if slot.poison then s.taskCode k Code.poisonedInput else s

/-- What a register-to-register operation gives: its result and flags. TEVAL and TDERIV read the table pair that the slot names. -/
def Pkg.vxeResult (pre : Pkg) (c : Nat) (f : VxeF) : VReg × Sticky :=
  let x := pre.core c
  let tb := if f.op = 0x18 ∨ f.op = 0x19 then x.tps.get ⟨0, [], false⟩ f.tp else ⟨0, [], false⟩
  vxeArith f tb (x.vreg.get {} f.va) (x.vreg.get {} f.vb) (x.vreg.get {} f.vc)

/-- The VXE slot's effect in a repeat: registers and records in `s`, reads from `pre`, writes returned (R133, R197). -/
def Pkg.vxeIssue (pre s : Pkg) (c k : Nat) (w : CWord) : Pkg × List LWrite :=
  if !w.has 5 then (s, []) else
  let f := vxeF (w.slot 5)
  match f.op with
  | 0 => (s, [])
  | 1 => (pre.vxeLoadIssue s c k w f, [])
  | 2 => pre.vxeStoreIssue s c k w f
  | 0x1A => (pre.tableLoadIssue s c k w f, [])
  | _ => (s.vregPut c k f.vd (pre.vxeResult c f), [])

end Sys2Proof.Machine
end

