-- ==== Sys2Proof/Machine/Mxe.lean ====
section
/-! DEFINITION. The matrix engine: MMA and WRITEOUT (R109 to R115, R136 to R143, R157 to R160, R182, R191 to R195), overflow recompute (R260 to R263) and contribution frames (R312 to R315). -/

namespace Sys2Proof.Machine

/-! ### The slot (R191, R194) -/

/-- The MMA fields of an MXE slot (R191). -/
structure MmaF where
  acc : Nat
  init : Nat
  fmt : Nat
  k : Nat
  sparse : Nat
  pat8 : Bool
  zskip : Bool
  aSt : Nat
  bSt : Nat
  mSt : Nat
  cSt : Nat
  aT : Nat
  bT : Nat
  cT : Nat
  deriving DecidableEq, Repr

def mmaF (x : BitVec 96) : MmaF :=
  ⟨fld x 59 58, fld x 57 56, fld x 55 51, fld x 50 40 + 1, fld x 39 38, bitAt x 37, bitAt x 36,
    fld x 35 34, fld x 33 32, fld x 31 30, fld x 29 28, fld x 27 20, fld x 19 12, fld x 11 4⟩

/-- The WRITEOUT fields of an MXE slot (R194). -/
structure OutF where
  acc : Nat
  dest : Nat
  fmt : Nat
  rmode : Nat
  cmode : Nat
  st : Nat
  ten : Nat
  rowR : Nat
  colR : Nat
  deriving DecidableEq, Repr

def outF (x : BitVec 96) : OutF :=
  ⟨fld x 59 58, fld x 57 56, fld x 55 51, fld x 50 48, fld x 47 46, fld x 45 44, fld x 43 36, fld x 35 32, fld x 31 28⟩

/-- The MXE's operand codes (R91). -/
def mxeOperand (c : Nat) : Bool :=
  fmtValid c && !(c == 1 || c == 2 || c == 0xD || c == 0xE)

/-- Contraction positions per dense step (R136). -/
def posPerStep (c : Nat) : Nat := if fmtWidth c = 16 then 1 else if fmtWidth c = 4 then 4 else 2

/-- The sparsity group: positions, stored values, metadata bits (R157). -/
def MmaF.grp (f : MmaF) : Nat × Nat × Nat := if f.pat8 then (8, 4, 12) else (4, 2, 4)

/-- Stored positions of an operand (side 1 A, 2 B). -/
def MmaF.stored (f : MmaF) (side : Nat) : Nat := if f.sparse = side then f.k / f.grp.1 * f.grp.2.1 else f.k

/-- Elements that an operand's stream supplies: whole steps of `rows` lines (R193). -/
def MmaF.elemCount (f : MmaF) (side rows : Nat) : Nat :=
  ceilDiv (f.stored side) (posPerStep f.fmt) * posPerStep f.fmt * rows

/-- Metadata bits of the sparse operand. -/
def MmaF.metaBits (f : MmaF) : Nat :=
  if f.sparse = 0 then 0 else (if f.sparse = 1 then 64 else 32) * (f.k / f.grp.1) * f.grp.2.2

/-- The frame of a contribution (R312). -/
def frameBytes : Nat := 8512

/-- Stream uses of the MXE slot in a repeat. LOAD_C reads in repeat 0 alone (R192). -/
def mxeUses (s : Pkg) (k : Nat) (w : CWord) (rep : Nat) : List Use :=
  if !w.has 4 then [] else
  let x := w.slot 4
  match w.op 4 with
  | 1 =>
    let f := mmaF x
    let wd := fmtWidth f.fmt
    let n := ceilDiv f.k 32
    [{ slot := 4, stream := f.aSt, bytes := ceilDiv (f.elemCount 1 64 * wd) 8, width := wd, write := false, side := 80 * n, group := 64 },
     { slot := 4, stream := f.bSt, bytes := ceilDiv (f.elemCount 2 32 * wd) 8, width := wd, write := false, side := 48 * n, group := 32 }] ++
    (if f.sparse ≠ 0 then
      [{ slot := 4, stream := f.mSt, bytes := ceilDiv f.metaBits 8, width := 8, write := false : Use }] else []) ++
    (if f.init = 2 ∧ rep = 0 then
      let cw := match (s.task k).tensor f.cT with
        | some t => fmtWidth t.fmt
        | none => 32
      [{ slot := 4, stream := f.cSt, bytes := 256 * cw, width := cw, write := false, side := 2 : Use }] else [])
  | 2 =>
    let f := outF x
    [{ slot := 4, stream := f.st, bytes := if f.dest = 2 then 2 * frameBytes else 256 * fmtWidth f.fmt,
       width := fmtWidth f.fmt, write := true, side := if fmtBlock f.fmt && f.dest != 2 then 64 else 0 }]
  | _ => []

/-! ### Checks -/

/-- rne_acc(S_a × S_b) as an accumulator encoding, with its flags (R105, R114, R140). -/
def scaleProd (a b : TensorRef) : Nat × Sticky :=
  let r := a.scaleNum.mul b.scaleNum
  accFmt.out .rne r.1 r.2

/-- The rules of the MXE slot (R109, R139, R140, R191 to R195, R211). -/
def Pkg.checkMxe (s : Pkg) (c k : Nat) (w : CWord) (rep : Nat) : Why :=
  if !w.has 4 then [] else
  let x := w.slot 4
  let t := s.task k
  match w.op 4 with
  | 0 => whyIf 4 1 (x != 0)
  | 1 =>
    let f := mmaF x
    let a := (s.core c).acc.get {} f.acc
    let loadC := f.init == 2
    let keep := decide (rep > 0) || f.init == 1
    whyIf 4 1 (fld x 3 0 != 0 || (!loadC && f.cT != 0)) ++ whyIf 4 2 (f.init == 3 || f.sparse == 3) ++
    whyIf 4 3 (!mxeOperand f.fmt) ++
    whyIf 4 5 (f.aSt == 3 || f.bSt == 3 || (f.sparse != 0 && f.mSt == 3) || (loadC && f.cSt == 3)) ++
    whyIf 4 0xE (!t.tensorOk f.aT || !t.tensorOk f.bT || (loadC && !t.tensorOk f.cT)) ++
    whyIf 4 7 ([f.aT, f.bT].any fun i => match t.tensor i with
      | some r => r.fmt != f.fmt
      | none => false) ++
    whyIf 4 8 (f.sparse != 0 && f.k % f.grp.1 != 0) ++
    whyIf 4 8 (keep && (!a.filled || a.written || a.kRagged || a.sideRagged || a.fmt != f.fmt || a.a != f.aT || a.b != f.bT)) ++
    whyIf 4 9 (loadC && !keep && (match t.tensor f.cT with
      | some cr => !(cr.fmt == 2 || cr.fmt == 4 || cr.fmt == 5)
      | none => false)) ++
    whyIf 4 9 (loadC && !keep && (match t.tensor f.cT, t.tensor f.aT, t.tensor f.bT with
      | some cr, some ar, some br => (accFmt.decode (scaleProd ar br).1).cmp cr.scaleNum != .eq
      | _, _, _ => false)) ++
    whyIf 4 0xF (fmtBlock f.fmt && ((f.aSt < 3 && (w.stream f.aSt).isSome && !s.sideOn c w f.aSt) ||
      (f.bSt < 3 && (w.stream f.bSt).isSome && !s.sideOn c w f.bSt)))
  | 2 =>
    let f := outF x
    let a := (s.core c).acc.get {} f.acc
    whyIf 4 1 (fld x 27 0 != 0) ++ whyIf 4 2 (f.dest == 3) ++
    whyIf 4 3 (!fmtValid f.fmt || f.fmt == 1 || f.rmode == 7 || (cmodeOf f.fmt f.cmode).isNone) ++
    whyIf 4 5 (f.st == 3) ++ whyIf 4 7 (f.dest == 2 && f.fmt != 0xE) ++ whyIf 4 0xE (!t.tensorOk f.ten) ++
    (match t.tensor f.ten with
      | some r => whyIf 4 7 (r.fmt != f.fmt) ++
          whyIf 4 3 ((r.rm f.rmode).isNone || (r.sat f.cmode).isNone)
      | none => []) ++
    whyIf 4 4 ((s.sreg c f.rowR).toNat % 32 != 0 || (s.sreg c f.colR).toNat % 32 != 0) ++
    whyIf 4 4 (match w.stream f.st with
      | some (g, off) =>
        let n := if f.dest = 2 then 266 else 4 * fmtWidth f.fmt
        ((s.ag c g).units off n).any fun ad =>
          if f.dest = 0 then !inPalette ad 64 else !inCluster ad 64
      | none => false) ++
    whyIf 4 8 (!a.filled || a.written) ++
    whyIf 4 0xF (fmtBlock f.fmt && f.dest != 2 && (w.stream f.st).isSome && !s.sideOn c w f.st)
  | _ => [(4, 2)]

/-! ### Operands -/

/-- One decoded operand line: for each dense position the value, or none where no stored value occupies it; and whether the line is poisoned. -/
abbrev OpLine := List (Option Num) × Bool

/-- A side record's exponents (R182): per line the block exponent (none: NaN) and the line's tile offset; its invalid tile offsets; 1 where a format without block scales finds a block-scale byte other than 0x7F; and per line whether either byte is poisoned (R451). -/
structure SideRec where
  scale : List (Option Int)
  offs  : List Int
  bad   : Nat
  badSc : Nat
  poison : List Bool
  deriving DecidableEq, Repr

/-- One side record from its bytes, `bad` saying which of them are poisoned. -/
def sideRec (c rows : Nat) (bs : Bytes) (bad : Nat → Bool) : SideRec :=
  let sb := bs.take rows
  let blk := fmtBlock c
  let os := ((bs.drop rows).take (rows / 32)).map fun b => tileOffset b.toNat
  { scale := sb.map fun b => if blk then e8m0 b.toNat else some 0
    offs := os.map (·.1)
    bad := (os.filter (·.2)).length
    badSc := (!blk && sb.any fun b => b.toNat != 0x7F).toNat
    poison := (List.range rows).map fun r => (blk && bad r) || bad (rows + r / 32) }

/-- The side records of an operand, one per 32 contraction positions; none where side_en is 0. -/
def Pkg.sideRecs (s : Pkg) (c : Nat) (w : CWord) (st fmt k rows size : Nat) : List SideRec :=
  if s.sideOn c w st then
    let n := ceilDiv k 32
    (chunk n size (s.sideBytes c w st (size * n))).zipIdx.map fun (b, i) =>
      sideRec fmt rows b fun o => s.sidePoison c w st (size * i + o) 1
  else []

/-- The metadata positions of one group, and whether they are strictly ascending (R157, R159). -/
def metaGroup (f : MmaF) (bits : Nat) : List Nat × Bool :=
  let ps := if f.pat8 then (List.range 4).map fun i => nbits bits (3 * i + 2) (3 * i)
    else (List.range 2).map fun i => nbits bits (2 * i + 1) (2 * i)
  (ps, (ps.zip (ps.drop 1)).all fun (a, b) => decide (a < b))

/-- Whether a stream's generator is in the transposing mode (R181). -/
def Pkg.transposing (s : Pkg) (c : Nat) (w : CWord) (st : Nat) : Bool :=
  match w.stream st with
  | some (g, _) => (s.ag c g).transpose
  | none => false

/-- The first `m` elements of each of the next `n` palette lines of a stream, line after line, each with its poison. -/
def Pkg.lineElems (s : Pkg) (c : Nat) (w : CWord) (st wd m n : Nat) : List (Nat × Bool) :=
  match w.stream st with
  | some (g, off) => ((s.ag c g).units off n).flatMap fun ad =>
      let bs := s.lRead c ad 64
      (List.range m).map fun i => (bitsAt bs (i * wd) wd,
        s.lPoison c (ad + i * wd / 8) 1 || s.lPoison c (ad + (i * wd + wd - 1) / 8) 1)
  | none => []

/-- The lines of one operand (side 1 A of 64 rows, 2 B of 32 columns), and its invalid metadata groups. In the transposing mode each palette line of a group of 64 (32) belongs to one row (column), so that the product is that of the matrix held row by row (R181, R275; DEDUCED, log entry 13). -/
def Pkg.operand (s : Pkg) (c : Nat) (w : CWord) (f : MmaF) (side : Nat) : List OpLine × Nat × Nat × Nat :=
  let rows := if side = 1 then 64 else 32
  let st := if side = 1 then f.aSt else f.bSt
  let p := posPerStep f.fmt
  let tr := s.transposing c w st
  let m := if fmtWidth f.fmt = 6 then 64 else 512 / fmtWidth f.fmt
  let es := if tr then s.lineElems c w st (fmtWidth f.fmt) m (rows * ceilDiv (f.stored side) m)
    else s.elems c w st (fmtWidth f.fmt) (f.elemCount side rows)
  let recs := s.sideRecs c w st f.fmt f.k rows (if side = 1 then 80 else 48)
  let at_ (r i : Nat) : Nat × Bool :=
    if tr then es.getD ((i / m * rows + r) * m + i % m) (0, false)
    else es.getD (i / p * (rows * p) + r * p + i % p) (0, false)
  let sideBad (r : Nat) : Bool := recs.any fun q => q.poison.getD r false
  let value (r pos e : Nat) : Num :=
    let v := fmtDecode f.fmt e
    match recs[pos / 32]? with
    | none => v
    | some q =>
      match q.scale.getD r (some 0) with
      | none => .nan false
      | some b => v.scale (b + q.offs.getD (r / 32) 0)
  let mb := if f.sparse = side then leNat ((s.streamBytes c w f.mSt (ceilDiv f.metaBits 8)).map fun b => BitVec.ofNat 8 b.1) else 0
  let mbad : Bool := f.sparse = side && (s.streamBytes c w f.mSt (ceilDiv f.metaBits 8)).any (·.2)
  let (gp, gs, gb) := f.grp
  let lines := (List.range rows).map fun r =>
    if f.sparse = side then
      let groups := (List.range (f.k / gp)).map fun g =>
        let n := r * (f.k / gp) + g
        let (ps, ok) := metaGroup f (nbits mb (n * gb + gb - 1) (n * gb))
        let vs := (List.range gp).map fun d =>
          match ps.idxOf? d with
          | some i => some (value r (g * gp + d) (at_ r (g * gs + i)).1)
          | none => none
        (vs, !ok)
      let bad := (groups.filter (·.2)).length
      ((groups.flatMap (·.1), mbad || sideBad r || decide (bad > 0) || (List.range (f.stored side)).any fun i => (at_ r i).2), bad)
    else
      (((List.range f.k).map fun i => some (value r i (at_ r i).1), sideBad r || (List.range f.k).any fun i => (at_ r i).2), 0)
  (lines.map (·.1), (lines.map (·.2)).sum, (recs.map (·.bad)).sum, (recs.map (·.badSc)).sum)

/-- The groups of four positions of A whose elements all decode to ±0 (R160). -/
def zeroGroups (a : List OpLine) (k : Nat) : List Nat :=
  (List.range (ceilDiv k 4)).filter fun g => a.all fun l => ((l.1.drop (4 * g)).take 4).all fun v =>
    match v with
    | some x => x.isZero
    | none => true

/-- One product in its place: +0 where either side stores nothing there, or its group is skipped (R111, R113). -/
def product (skip : Bool) (a b : Option Num) : Num × Bool :=
  match a, b with
  | some x, some y => if skip then (.zero, false) else x.mul y
  | _, _ => (.zero, false)

/-- The values of LOAD_C: exact C elements with the tile offsets of the two halves, their poison and flags; and the invalid tile offsets (R105, R138, R140, R193). -/
def Pkg.loadC (s : Pkg) (c : Nat) (w : CWord) (f : MmaF) (t : TensorRef) : List (Nat × Bool × Sticky) × Nat :=
  let es := s.elems c w f.cSt (fmtWidth t.fmt) 2048
  let os := if s.sideOn c w f.cSt then (s.sideBytes c w f.cSt 2).map fun b => tileOffset b.toNat else []
  let side (h : Nat) : Bool := s.sideOn c w f.cSt && s.sidePoison c w f.cSt h 1
  (es.zipIdx.map fun ((e, p), i) =>
    let r := accFmt.conv .rne false 0 ((fmtDecode t.fmt e).scale ((os.getD (i / 1024) (0, false)).1))
    (r.bits, p || side (i / 1024), r.fl),
   (os.filter (·.2)).length)

/-- Reports of block-scale bytes other than 0x7F in a format without block scales: TILE_OFFSET_INVALID for each record (R182). -/
def Pkg.scaleReports (s : Pkg) (k unit : Nat) : Nat → Pkg
  | 0 => s
  | n + 1 => Pkg.scaleReports (s.taskEvent k Ev.tileOffsetInvalid unit 0 []) k unit n

/-- Reports of invalid tile offsets: the invalid flag and TILE_OFFSET_INVALID for each (R103). -/
def Pkg.offsetReports (s : Pkg) (k unit : Nat) : Nat → Pkg
  | 0 => s
  | n + 1 => Pkg.offsetReports ((s.taskFlags k (.invIf true)).taskEvent k Ev.tileOffsetInvalid unit 0 []) k unit n

/-- Reports of invalid metadata groups (R159). -/
def Pkg.metaReports (s : Pkg) (c k unit : Nat) : Nat → Pkg
  | 0 => s
  | n + 1 => Pkg.metaReports ((s.coreCount c 0x28 1).taskEvent k Ev.sparseMetaInvalid unit Code.poisonedInput []) c k unit n

/-- What an MMA gives: the accumulator set, its flags, the steps and zero groups counted, and the reports it makes. -/
structure MmaOut where
  acc   : AccSet
  fl    : Sticky
  steps : Nat
  zeros : Nat
  metas : Nat
  offs  : Nat
  scs   : Nat
  deriving DecidableEq, Repr

/-- One cell of an MMA: its accumulator encoding, flags and poison (R136 to R140, R157 to R160). -/
def mmaCell (as bs : List OpLine) (zg : List Nat) (start : Nat → Nat) (old : Nat → Bool) (n : Nat) : Nat × Sticky × Bool :=
  let la := as.getD (n / 32) ([], false)
  let lb := bs.getD (n % 32) ([], false)
  let ps := (la.1.zip lb.1).zipIdx.map fun ((x, y), i) => product (zg.contains (i / 4)) x y
  let (r, fl) := accumulate (start n) (ps.map (·.1))
  (r, fl.or (.invIf (ps.any (·.2))), la.2 || lb.2 || old n)

/-- The result of an MMA (R136 to R140, R157 to R160, R191 to R193). -/
def Pkg.mmaOut (pre : Pkg) (c k : Nat) (w : CWord) (rep : Nat) : MmaOut :=
  let f := mmaF (w.slot 4)
  let (as, aBad, aOff, aSc) := pre.operand c w f 1
  let (bs, bBad, bOff, bSc) := pre.operand c w f 2
  let old := (pre.core c).acc.get {} f.acc
  let keep := decide (rep > 0) || f.init == 1
  let (cs, cOff) := if f.init = 2 ∧ rep = 0 then
      (match (pre.task k).tensor f.cT with
        | some t => pre.loadC c w f t
        | none => ([], 0))
    else ([], 0)
  let start (n : Nat) : Nat := if keep then old.elems.get 0 n else (cs.getD n (0, false, {})).1
  let bad (n : Nat) : Bool := (keep && old.poison.mem n) || (cs.getD n (0, false, {})).2.1
  let zg := if f.zskip then zeroGroups as f.k else []
  let rs := (List.range 2048).map (mmaCell as bs zg start bad)
  let left := f.k - (zg.map fun g => min 4 (f.k - 4 * g)).sum
  { acc :=
      { elems := rs.zipIdx.filterMap fun (r, n) => if r.1 = 0 then none else some (n, r.1)
        poison := rs.zipIdx.filterMap fun (r, n) => if r.2.2 then some n else none
        filled := true, written := false, kRagged := f.k % 4 != 0
        sideRagged := (pre.sideOn c w f.aSt || pre.sideOn c w f.bSt) && f.k % 32 != 0
        fmt := f.fmt, a := f.aT, b := f.bT }
    fl := rs.foldl (fun fl r => fl.or r.2.1) (cs.foldl (fun fl r => fl.or r.2.2) {})
    steps := ceilDiv left (posPerStep f.fmt * (if f.sparse = 0 then 1 else 2))
    zeros := zg.length
    metas := aBad + bBad
    offs := aOff + bOff + cOff
    scs := aSc + bSc }

/-- MMA: its result put into the accumulator set, counted and reported. -/
def Pkg.mma (pre s : Pkg) (c k : Nat) (w : CWord) (rep : Nat) : Pkg :=
  let unit := Unit.engine c 0
  let r := pre.mmaOut c k w rep
  let s := s.updCore c fun x => { x with acc := x.acc.set (mmaF (w.slot 4)).acc r.acc }
  let s := (s.coreCount c 0x00 r.steps).coreCount c 0x20 r.zeros
  let s := s.taskFlags k r.fl
  let s := ((s.metaReports c k unit r.metas).offsetReports k unit r.offs).scaleReports k unit r.scs
  if r.acc.poison.isEmpty then s else s.taskCode k Code.poisonedInput

/-! ### Write-out (R114, R141 to R143, R194, R195, R260 to R263) -/

/-- Elements per row of scale tiles. -/
def TensorRef.tilesWide (t : TensorRef) : Nat := ceilDiv (t.extent 0) 32

/-- A tensor of a single dimension, whose tiles are 1,024 consecutive elements (R103). -/
def TensorRef.flat (t : TensorRef) : Bool := decide (t.extent 1 ≤ 1 ∧ t.extent 2 ≤ 1 ∧ t.extent 3 ≤ 1)

/-- Scale tiles of the whole tensor (R103, R310). -/
def TensorRef.tileCount (t : TensorRef) : Nat :=
  if t.flat then ceilDiv (t.extent 0) 1024
  else t.tilesWide * ceilDiv (t.extent 1) 32 * t.extent 2 * t.extent 3

/-- The scale tile at a row and column of the whole tensor, rows counted through the outer dimensions in turn: row-major over tile coordinates (R103). -/
def TensorRef.tileAt (t : TensorRef) (row col : Nat) : Nat :=
  if t.flat then (row * t.extent 0 + col) / 1024
  else
    let n := max 1 (t.extent 1)
    (row / n * ceilDiv n 32 + row % n / 32) * t.tilesWide + col / 32

/-- The whole-tensor row and column of an origin given within the shard, and the logical index of element 0 (R126, R194, R195).
DESIGN CHOICE, log entry 98: of a tensor of more than two dimensions the row counts through dimensions 1 to 3 with the full extents, also where dimension 1 is sharded; R194 says only 'the tile's first row in the tensor'. -/
def TensorRef.origin (t : TensorRef) (row col : Nat) : Nat × Nat × Nat :=
  let o := t.shardOff t.shardDim
  let lin := (List.range t.shardDim).foldl (fun a d => a * t.extent d) o
  (row + (if t.shardDim = 0 then 0 else lin / max 1 (t.extent 0)), col + (if t.shardDim = 0 then o else 0),
    row * t.extent 0 + col + lin)

/-- rne_acc(rne_acc(S_a × S_b) / S_c), with the flags of both roundings (R105, R114). -/
def outScale (a b t : TensorRef) : Num × Sticky :=
  let p := scaleProd a b
  let q := (accFmt.decode p.1).div t.scaleNum
  let r := accFmt.out .rne q.1 q.2.1
  (accFmt.decode r.1, p.2.or r.2)

/-- One conversion attempt of a scale tile at offset `off`: conversions and block scales of its 32 rows. -/
def tileConv (fmt : Nat) (rm : Rm) (sat : Bool) (u : Nat → Nat) (off : Int) (vs : List Num) : List Conv × List Nat :=
  let xs := vs.map fun v => v.scale (-off)
  if fmtBlock fmt then
    let bl := (chunk 32 32 xs).zipIdx.map fun (b, j) => blockConv fmt rm sat (fun i => u (32 * j + i)) b
    (bl.flatMap (·.2), bl.map (·.1))
  else (xs.zipIdx.map fun (x, i) => fmtConv fmt rm sat (u i) x, [])

/-- Whether a finite exact value overflowed in an attempt under R118, which its overflow flag says; the marking of a block of scale 0xFF is none (R261). -/
def attemptOverflows (vs : List Num) (cs : List Conv) : Bool := (vs.zip cs).any fun (v, r) => v.isFin && r.fl.of

/-- The attempts of an overflow recompute (R261): the stored offset, its conversions, whether it is exhausted. `n`: attempts left. -/
def recompute (conv : Int → List Conv × List Nat) (vs : List Num) (step : Nat) : Nat → Nat → Nat × (List Conv × List Nat) × Bool
  | 0, off => (off, conv off, attemptOverflows vs (conv off).1)
  | n + 1, off =>
    let r := conv off
    if attemptOverflows vs r.1 then
      (if off + step > 63 then (off, r, true) else recompute conv vs step n (off + step))
    else (off, r, false)

def Reg.tilesRecomputed : Nat := 0x050110
def Reg.tilesExhausted : Nat := 0x050118

/-- What a scale tile's write-out gives. -/
structure TileOut where
  off : Nat
  convs : List Conv
  scales : List Nat
  retried : Bool
  exhausted : Bool
  poison : Bool := false   -- the offset that its conversions use reads as poisoned (R451)
  deriving DecidableEq, Repr

/-- m of a write-out and its flags (R114). -/
def Pkg.outM (pre : Pkg) (c k : Nat) (f : OutF) (t : TensorRef) : Num × Sticky :=
  let a := (pre.core c).acc.get {} f.acc
  let task := pre.task k
  outScale ((task.tensor a.a).getD {}) ((task.tensor a.b).getD {}) t

/-- The products acc × m of a write-out, each with whether it is an invalid operation (R106, R114). -/
def Pkg.outProds (pre : Pkg) (c k : Nat) (f : OutF) (t : TensorRef) : List (Num × Bool) :=
  let a := (pre.core c).acc.get {} f.acc
  let m := pre.outM c k f t
  (List.range 2048).map fun n => (accFmt.decode (a.elems.get 0 n)).mul m.1

/-- The exact values that a write-out converts, before the tensor scale (R114). -/
def Pkg.outValues (pre : Pkg) (c k : Nat) (f : OutF) (t : TensorRef) : List Num := (pre.outProds c k f t).map (·.1)

/-- The flags of a write-out before its conversions: those of m and of the products (R105, R106). -/
def Pkg.outFlags (pre : Pkg) (c k : Nat) (f : OutF) (t : TensorRef) : Sticky :=
  (pre.outM c k f t).2.or (.invIf ((pre.outProds c k f t).any (·.2)))

/-- One scale tile of a write-out: half `h` of the values. A tensor of policy 1 with offsets recomputes and stores its tile offset, poisoned where a value of the tile is (R451); another with offsets reads it (R261, R263). -/
def Pkg.halfOut (pre : Pkg) (c k : Nat) (f : OutF) (t : TensorRef) (vs : List Num) (s : Pkg) (h : Nat) : Pkg × TileOut :=
  let unit := Unit.engine c 0
  let rm := (t.rm f.rmode).getD .rne
  let sat := (t.sat f.cmode).getD true
  let (row, col, i0) := t.origin (pre.sreg c f.rowR).toNat (pre.sreg c f.colR).toNat
  let draw (n : Nat) : Nat := if rm = .sr then pre.draw k t.id (i0 + n / 32 * t.extent 0 + n % 32) else 0
  let part := (vs.drop (1024 * h)).take 1024
  let bad := ((pre.core c).acc.get {} f.acc).poison.any fun n => n / 1024 == h
  let u (i : Nat) : Nat := draw (1024 * h + i)
  let addr := t.offsetAddr + t.tileAt (row + 32 * h) col
  let cfg := (pre.ctx (pre.task k).ctx).recompute
  if t.policy == 1 && t.offsetAddr != 0 then
    let (off, r, ex) := recompute (fun o => tileConv f.fmt rm sat u o part) part (fld cfg 3 0) (fld cfg 9 8) 0
    let s := s.taskWrite k unit addr [BitVec.ofNat 8 off] bad
    let s := if off > 0 then s.bump Reg.tilesRecomputed else s
    let s := if ex then
        (s.bump Reg.tilesExhausted).taskEvent k Code.recomputeExhausted unit Code.recomputeExhausted []
      else s
    (s, { off := off, convs := r.1, scales := r.2, retried := decide (off > 0), exhausted := ex })
  else if t.offsetAddr = 0 then
    let r := tileConv f.fmt rm sat u 0 part
    (s, { off := 0, convs := r.1, scales := r.2, retried := false, exhausted := false })
  else
    let (rd, s) := s.taskRead k unit addr 1
    let (off, bad) := tileOffset (le rd.bytes 0 1)
    let s := if bad then s.offsetReports k unit 1 else s
    let r := tileConv f.fmt rm sat u off part
    (s, { off := ofInt 8 off, convs := r.1, scales := r.2, retried := false, exhausted := false, poison := rd.poison })

/-- Whether element `n` of a write-out is poisoned: its value; in a block-scaled tensor a value of its row, whose scale depends on them all; in a recompute tensor a value of its scale tile, whose offset does (R451). -/
def outPoison (p : NatSet) (t : TensorRef) (n : Nat) : Bool :=
  if t.policy == 1 && t.offsetAddr != 0 then p.any fun m => m / 1024 == n / 1024
  else if fmtBlock t.fmt then p.any fun m => m / 32 == n / 32
  else p.mem n

/-- The packed rows, or the packed and side bytes of a write-out with dest 0 or 1. -/
def Pkg.writeout (pre s : Pkg) (c k : Nat) (w : CWord) (f : OutF) (t : TensorRef) : Pkg × List LWrite :=
  let a := (pre.core c).acc.get {} f.acc
  let vs := pre.outValues c k f t
  let full := vs.map fun v => (v.mul t.scaleNum).1
  let s := if t.policy == 1 && t.offsetAddr == 0 && !(pre.task k).noOffsets.contains f.ten then
      (s.updTask k fun x => { x with noOffsets := f.ten :: x.noOffsets }).taskEvent k Ev.recomputeNoOffsets (Unit.engine c 0) 0 []
    else s
  let s := s.taskFlags k (pre.outFlags c k f t)
  let (s, h0) := pre.halfOut c k f t vs s 0
  let (s, h1) := pre.halfOut c k f t vs s 1
  let signed (h : TileOut) : Int := sext 8 h.off
  let s := s.converted k f.ten t (signed h0) (full.take 1024) h0.convs h0.retried.toNat h0.exhausted.toNat
  let s := s.converted k f.ten t (signed h1) (full.drop 1024) h1.convs h1.retried.toNat h1.exhausted.toNat
  let wd := fmtWidth f.fmt
  let data := packBytes wd ((h0.convs ++ h1.convs).map (·.bits))
  let badElem (n : Nat) : Bool := outPoison a.poison t n || (if n < 1024 then h0.poison else h1.poison)
  let bad (b : Nat) : Bool := (upto (8 * b / wd) ((8 * b + 7) / wd - 8 * b / wd + 1)).any badElem
  let ws := pre.streamWrites c w 4 f.st data bad
  let side := match w.stream f.st with
    | some (g, _) =>
      sideWrites 4 (pre.ag c g).side ((h0.scales ++ h1.scales).map (BitVec.ofNat 8)) fun j => badElem (32 * j)
    | none => []
  (if a.poison.isEmpty then s else s.taskCode k Code.poisonedInput, ws ++ side)

/-! ### Contribution frames (R312 to R315) -/

/-- The smallest power of two, as its exponent, that is at least a magnitude; `n` bounds the search. -/
def pow2AtLeast (m : Nat) (e : Int) : Nat → Nat → Nat
  | 0, k => k
  | n + 1, k => if magLe m e 1 k then k else pow2AtLeast m e n (k + 1)

/-- A contributor's bound over the magnitudes of a frame's elements of mask 00 (R315). A retained value that rounded to infinity is above the limit. -/
def contribBound (vs : List Num) : Nat :=
  let (m, e) := amaxOf vs
  if vs.any Num.isInf then 2 ^ 47
  else if m = 0 then 0 else 2 ^ pow2AtLeast m e 47 0

/-- One element of a frame (R314): mask code, q, r, conversion flags, and its events (overflow, vanish). -/
structure FrameElem where
  mask : Nat
  q : Nat
  r : Nat
  fl : Sticky
  ovf : Bool
  vanish : Bool
  nonfin : Bool
  deriving DecidableEq, Repr

def frameElem (rm : Rm) (u : Nat) (v : Num) : FrameElem :=
  match v with
  | .nan _ => ⟨3, 0, fp32.nanBits, {}, false, false, true⟩
  | .inf s => ⟨if s then 2 else 1, 0, fp32.infBits s, {}, false, false, true⟩
  | .fin s m e =>
    if !magLe m e 1 128 || (m != 0 && magLe 1 128 m e) then
      ⟨if s then 2 else 1, 0, fp32.infBits s, { of := true, nx := true }, true, false, false⟩
    else
      let q := fmtConv 0xE rm true u v
      let r := fp32.conv .rne false 0 v
      ⟨0, q.bits, r.bits, q.fl.or r.fl, q.ovf, q.vanish, false⟩

/-- The bytes of a tile descriptor (R313). -/
structure FrameHdr where
  bound : Nat
  tile : Nat
  tensor : Nat
  step : Nat
  index0 : Nat
  pitch : Nat
  stream : Nat
  t : Nat
  attempt : Nat
  rmode : Nat
  state : Nat
  gen : Nat
  ctx : Nat
  deriving DecidableEq, Repr

def FrameHdr.bytes (h : FrameHdr) : Bytes :=
  leBytes 8 h.bound ++ leBytes 4 h.tile ++ leBytes 4 h.tensor ++ leBytes 8 h.step ++ leBytes 8 h.index0 ++
  leBytes 4 h.pitch ++ leBytes 2 h.stream ++ leBytes 1 h.t ++ leBytes 1 h.attempt ++ leBytes 1 h.rmode ++
  leBytes 1 h.state ++ leBytes 2 h.gen ++ leBytes 2 (h.ctx % 4096) ++ leBytes 18 0

def FrameHdr.ofBytes (b : Bytes) : FrameHdr :=
  ⟨le b 0 8, le b 8 4, le b 12 4, le b 16 8, le b 24 8, le b 32 4, le b 36 2, le b 38 1, le b 39 1, le b 40 1,
    le b 41 1, le b 42 2, le b 44 2 % 4096⟩

/-- A resolved rounding mode's code (R313 byte 40). -/
def Rm.code : Rm → Nat
  | .rne => 1
  | .rna => 2
  | .rtz => 3
  | .rup => 4
  | .rdn => 5
  | .sr => 6

/-- A frame's bytes from its descriptor and elements (R312). -/
def frameImage (h : FrameHdr) (es : List FrameElem) : Bytes :=
  h.bytes ++ es.flatMap (fun e => leBytes 4 e.q) ++ es.flatMap (fun e => leBytes 4 e.r) ++ packBytes 2 (es.map (·.mask))

/-- One frame of a write-out with dest 2: its bytes and elements (R312 to R315). -/
def Pkg.contribFrame (pre : Pkg) (c k : Nat) (f : OutF) (t : TensorRef) (vs : List Num) (h : Nat) : Bytes × List FrameElem :=
  let task := pre.task k
  let rm := (t.rm f.rmode).getD .rne
  let (row, col, i0) := t.origin (pre.sreg c f.rowR).toNat (pre.sreg c f.colR).toNat
  let vs := (vs.drop (1024 * h)).take 1024
  let base := i0 + 32 * h * t.extent 0
  let es := vs.zipIdx.map fun (v, n) =>
    frameElem rm (if rm = .sr then pre.draw k t.id (base + n / 32 * t.extent 0 + n % 32) else 0) v
  let fin := (vs.zip es).filterMap fun (v, e) => if e.mask = 0 then some v else none
  let bound := contribBound fin + (if es.any (fun e => e.mask ≠ 0) then 2 ^ 63 else 0)
  (frameImage ⟨bound, t.tileAt (row + 32 * h) col, t.id, task.step, base, t.extent 0, task.rstream, 0, 0, rm.code, 1,
    (pre.ctx task.ctx).gen, task.ctx⟩ es, es)

/-- WRITEOUT with dest 2: two frames, one per scale tile (R142, R312 to R315). -/
def Pkg.writeFrames (pre s : Pkg) (c k : Nat) (w : CWord) (f : OutF) (t : TensorRef) : Pkg × List LWrite :=
  let a := (pre.core c).acc.get {} f.acc
  let task := pre.task k
  let vs := pre.outValues c k f t
  let (b0, e0) := pre.contribFrame c k f t vs 0
  let (b1, e1) := pre.contribFrame c k f t vs 1
  let s := s.taskFlags k ((e0 ++ e1).foldl (fun fl e => fl.or e.fl) (pre.outFlags c k f t))
  let nf := (e0 ++ e1).any (·.nonfin)
  let s := if nf && t.grad && !(s.ctx task.ctx).herdEn then s.localNonfin k f.ten t else s
  let ev (es : List FrameElem) : Nat × Nat := ((es.filter (·.ovf)).length, (es.filter (·.vanish)).length)
  let s := match (w.stream f.st).map fun x => ((pre.ag c x.1).units x.2 266) with
    | some us => s.updCluster (clusterOf c) fun x => { x with
        frameEv := (x.frameEv.set (us.getD 0 0 - clusterBase) (ev e0)).set (us.getD 133 0 - clusterBase) (ev e1) }
    | none => s
  let bad (b : Nat) : Bool :=
    let h := b / frameBytes
    let o := b % frameBytes
    if o < 8 then a.poison.any fun n => n / 1024 == h
    else if o < 64 then false
    else if o < 8256 then a.poison.mem (1024 * h + (o - 64) / 4 % 1024)
    else (upto (1024 * h + 4 * (o - 8256)) 4).any a.poison.mem
  (if a.poison.isEmpty then s else s.taskCode k Code.poisonedInput, pre.streamWrites c w 4 f.st (b0 ++ b1) bad)

/-- WRITEOUT as issued: the accumulator set is written out, as rows or as frames (R142, R194). -/
def Pkg.outIssue (pre s : Pkg) (c k : Nat) (w : CWord) (f : OutF) : Pkg × List LWrite :=
  match (pre.task k).tensor f.ten with
  | some t =>
    let s := s.updCore c fun x => { x with acc := x.acc.upd {} f.acc fun a => { a with written := true } }
    if f.dest = 2 then pre.writeFrames s c k w f t else pre.writeout s c k w f t
  | none => (s, [])

/-- The MXE slot's effect in a repeat. -/
def Pkg.mxeIssue (pre s : Pkg) (c k : Nat) (w : CWord) (rep : Nat) : Pkg × List LWrite :=
  if !w.has 4 then (s, []) else
  match w.op 4 with
  | 1 => (pre.mma s c k w rep, [])
  | 2 => pre.outIssue s c k w (outF (w.slot 4))
  | _ => (s, [])

end Sys2Proof.Machine
end

