-- ==== Sys2Proof/Machine/Txe.lean ====
section
/-! DEFINITION. The transfer engine: COPY_IN, COPY_OUT, RELAY and REDUCE as issued, deposits into tensors, adder windows, arrival counters and shard versions (R202, R203, R238, R239, R316, R380 to R384, R390 to R399, R438 to R442, R452). -/

namespace Sys2Proof.Machine

/-! ### The slot (R202) -/

structure TxeF where
  op : Nat
  group : Nat
  ten : Nat
  st : Nat
  len : Nat
  offR : Nat
  deriving DecidableEq, Repr

def txeF (x : BitVec 96) : TxeF := ⟨fld x 63 60, fld x 59 56, fld x 55 48, fld x 47 46, fld x 43 24, fld x 23 20⟩

/-- The peer selector of S[offset_reg] (R380). -/
def TxeF.sel (f : TxeF) (v : Word) : Nat := if f.ten < 252 then fld v 63 48 else 0

/-- Whether the transfer names a slot tensor of the task (R230). -/
def TxeF.slotTen (f : TxeF) (t : Task) : Bool := t.hasSlot && decide (252 ≤ f.ten ∧ f.ten ≤ 255)

/-- The byte offset of S[offset_reg]: its low 48 bits where the high bits are a peer selector or a route index (R230, R380). -/
def TxeF.off (f : TxeF) (t : Task) (v : Word) : Nat := if f.ten < 252 || f.slotTen t then fld v 47 0 else v.toNat

/-- The tensor that the transfer names: a slot tensor by its route index, which is below slot_span (R230), or one of the task's own. -/
def TxeF.ref (f : TxeF) (t : Task) (v : Word) : Option TensorRef :=
  if f.slotTen t then
    if fld v 63 48 < t.span then t.slotRefs.find (4 * fld v 63 48 + (f.ten - 252)) else none
  else t.tensor f.ten

/-- The element width of a transfer's reads: that of its tensor, which a transposing generator needs (R181; DEDUCED, log entry 105). -/
def Pkg.txeWidth (s : Pkg) (c k : Nat) (f : TxeF) : Nat :=
  match f.ref (s.task k) (s.sreg c f.offR) with
  | some t => fmtWidth t.fmt
  | none => 8

def txeUses (s : Pkg) (c k : Nat) (w : CWord) : List Use :=
  if !w.has 8 then [] else
  let f := txeF (w.slot 8)
  if f.op = 0 ∨ f.op > 4 then []
  else [{ slot := 8, stream := f.st, bytes := 64 * f.len, width := s.txeWidth c k f, write := f.op == 1 }]

/-- The rules of the TXE slot (R202, R316, R380, R382). -/
def Pkg.checkTxe (s : Pkg) (c k : Nat) (w : CWord) : Why :=
  if !w.has 8 then [] else
  let x := w.slot 8
  let f := txeF x
  if f.op = 0 then whyIf 8 1 (x != 0)
  else if f.op > 4 then whyIf 8 1 (fld x 45 44 != 0 || fld x 19 0 != 0) ++ [(8, 2)]
  else
    let t := s.task k
    let v := s.sreg c f.offR
    let m := if (s.ctx t.ctx).herdEn then s.taskMap k else none
    whyIf 8 1 (fld x 45 44 != 0 || fld x 19 0 != 0) ++ whyIf 8 5 (f.st == 3) ++ whyIf 8 4 (f.len == 0) ++
    whyIf 8 0xE (f.ref t v).isNone ++
    (if f.op = 3 then
      (match f.ref t v with
        | some r => whyIf 8 7 (r.fmt != 0xE)
        | none => []) ++ whyIf 8 4 (f.len % 133 != 0 || decide (f.len / 133 > 64) || v != 0)
    else
      whyIf 8 4 (f.off t v % 64 != 0) ++
      (if f.op = 4 then whyIf 8 4 (relaySel m (f.sel v)).isNone
       else whyIf 8 4 (f.sel v != 0 && (copyPeer m (f.sel v)).isNone)))

/-- The tracked transfers that a repeat's slot takes (R203, R316). -/
def CWord.txeSlots (w : CWord) : Nat :=
  if !w.has 8 then 0 else
  let f := txeF (w.slot 8)
  if f.op = 0 then 0 else if f.op = 3 then f.len / 133 else 1

/-- The free transfer indices that `n` new transfers of a cluster take. DESIGN CHOICE, log entry 123: the lowest ones, since the spec does not say which. -/
def ClusterSt.freeXfers (k : ClusterSt) (n : Nat) : List Nat :=
  ((List.range 1024).filter fun i => !k.xfers.any fun x => x.id == i).take n

/-- Transfers of a task that have not been acknowledged; of one group where one is given. -/
def Pkg.taskXfers (s : Pkg) (k : Nat) (group : Option Nat) : List Xfer :=
  s.clusters.vals.flatMap fun c => c.xfers.filter fun x => x.task == k && (match group with
    | some g => x.group == g
    | none => true)

/-- A transfer's key in the list of tracked packets. -/
def Xfer.key (x : Xfer) : Nat := x.cluster * 1024 + x.id

/-- A transfer's record changed. -/
def Pkg.updXfer (s : Pkg) (key : Nat) (f : Xfer → Xfer) : Pkg :=
  s.updCluster (key / 1024) fun c => { c with xfers := c.xfers.map fun x => if x.id = key % 1024 then f x else x }

def Pkg.findXfer (s : Pkg) (key : Nat) : Option Xfer :=
  if key ≥ 65536 then none else (s.cluster (key / 1024)).xfers.find? fun x => x.id == key % 1024

/-- A transfer acknowledged: its index is free, and no packet of it is waited for. -/
def Pkg.dropXfer (s : Pkg) (key : Nat) : Pkg :=
  let s := { s with fab := { s.fab with pending := s.fab.pending.filter fun q => q.xfer ≠ key } }
  s.updCluster (key / 1024) fun c => { c with xfers := c.xfers.filter fun x => x.id ≠ key % 1024 }

/-! ### Deposits (R239, R440 to R442) -/

/-- Units of one granule landed by this package's transfer engine for the owning context: an adder operation inside a window, else a store; arrival counted as they land. Whether they faulted, and the flags (R239, R389, R440, R442). -/
def Pkg.deposit (s : Pkg) (k unit c va : Nat) (bs : Bytes) (bad : Bool) : Pkg × Bool × Sticky :=
  (s.txeMoved (unit % 4096)).vWriteAs { task := some (k, unit), op := (s.ctx c).adderAt va bs.length, arrives := true } c va bs bad

/-! ### Shard versions (R398, R399) -/

def Reg.verRecords : Nat := 0x0A0418
def Reg.verMismatch : Nat := 0x0A0420
def Reg.verReplaced : Nat := 0x0A0428
def Reg.relaySent : Nat := 0x0A0400
def Reg.relayFwd : Nat := 0x0A0408
def Reg.relayDep : Nat := 0x0A0410

/-- The context's vector raised where its irq_en is set (R214). -/
def Pkg.ctxIrq (s : Pkg) (c : Nat) : Pkg :=
  let v := (s.ctx c).sched
  if bitAt v 43 then s.raise (fld v 42 32) else s

/-- A block's version mode applied under its key (R398, R399). -/
def Pkg.versionMode (s : Pkg) (mode c tensor step origin version : Nat) : Pkg :=
  let vs := s.fab.versions
  let hit (e : VersionEntry) : Bool := e.ctx == c && e.tensor == tensor && e.step == step && e.origin == origin
  match mode with
  | 1 =>
    let e : VersionEntry := { ctx := c, tensor := tensor, step := step, origin := origin, version := version }
    let s := s.bump Reg.verRecords
    if vs.any hit then { s with fab := { s.fab with versions := vs.map fun x => if hit x then e else x } }
    else if vs.length < 16384 then { s with fab := { s.fab with versions := vs ++ [e] } }
    else
      let low := vs.foldl (fun (b : Option VersionEntry) x => match b with
        | none => some x
        | some y => if x.step < y.step then some x else some y) none
      let s := s.bump Reg.verReplaced
      match low with
      | some y => { s with fab := { s.fab with versions := vs.erase y ++ [e] } }
      | none => s
  | 2 =>
    let found := (vs.find? fun e => hit e && !e.poison).map (·.version)
    if found = some version then s
    else
      let s := (s.bump Reg.verMismatch).raiseFlag none c step false
      let s := s.updCtx c fun x => { x with cur := { x.cur with flags := x.cur.flags.mapV fun _ e =>
        if e.step == step && e.invalid && !(e.tensors.contains tensor) then (e.withTensor tensor) else e } }
      let s := s.logWith Code.shardVersionMismatch Unit.controlDie (some c) Code.shardVersionMismatch false
        (leBytes 4 tensor ++ leBytes 4 origin ++ leBytes 4 version ++ leBytes 4 (found.getD 0))
      s.ctxIrq c
  | _ => s

/-! ### Issue -/

/-- The device-virtual address of a tile's row `i` in a shard (R325). -/
def TensorRef.tileRow (t : TensorRef) (tile i : Nat) : Nat :=
  if t.flat then t.base + 4 * (1024 * tile + 32 * i - t.shardOff 0)
  else
    let row := tile / max 1 t.tilesWide * 32 + i
    let col := tile % max 1 t.tilesWide * 32 - t.shardOff 0
    let i1 := row % max 1 (t.extent 1) - t.shardOff 1
    let i2 := row / max 1 (t.extent 1) % max 1 (t.extent 2) - t.shardOff 2
    let i3 := row / max 1 (t.extent 1) / max 1 (t.extent 2) - t.shardOff 3
    t.base + 4 * col + i1 * t.stride 1 + i2 * t.stride 2 + i3 * t.stride 3

/-- The bound and mask arrays of a side region (R310). -/
def TensorRef.boundArr (t : TensorRef) : Nat := t.offsetAddr + ceilDiv t.tileCount 64 * 64
def TensorRef.maskArr (t : TensorRef) : Nat := t.boundArr + 8 * t.tileCount

/-- The addresses that a completed tile is written to (R310, R325). -/
def TensorRef.tileTargets (t : TensorRef) (tile : Nat) : List Nat :=
  (upto 0 32).map (t.tileRow tile) ++ [t.offsetAddr + tile, t.boundArr + 8 * tile, t.maskArr + 256 * tile]

/-- The translations that a transfer will write through looked up as it starts, each page once (R597). -/
def Pkg.translate (s : Pkg) (c : Nat) (vas : List Nat) : Pkg :=
  (vas.map (· / 0x10000)).eraseDups.foldl (fun s p =>
    s.took ⟨[], false, false, (s.leafAt c (p * 0x10000)).2, [(c, p * 0x10000)]⟩) s

/-- The unit addresses of a slot's stream at issue. -/
def Pkg.txeUnits (s : Pkg) (c : Nat) (w : CWord) (f : TxeF) : List Nat :=
  match w.stream f.st with
  | some (g, off) => (s.ag c g).units off f.len
  | none => []

/-- The 64 B units that a slot's stream gives, each with its poison; through a transposing generator the elements of the tensor's width, transposed (R132, R181). -/
def Pkg.txeData (s : Pkg) (c k : Nat) (w : CWord) (f : TxeF) : List (Bytes × Bool) :=
  if s.transposing c w f.st then
    let wd := s.txeWidth c k f
    let es := s.elems c w f.st wd (512 * f.len / wd)
    (chunk f.len 64 (packBytes wd (es.map (·.1)))).zipIdx.map fun (b, i) =>
      (b, (upto (512 * i / wd) ((512 * i + 511) / wd - 512 * i / wd + 1)).any fun e => (es.getD e (0, false)).2)
  else (s.txeUnits c w f).map fun a => (s.lRead c a 64, s.lPoison c a 64)

/-- Whether a destination package is absent (R424). -/
def Pkg.isAbsent (s : Pkg) (pkg : Nat) : Bool := s.fab.absent.contains pkg

/-- COPY_IN from a local tensor (R202). -/
def Pkg.copyInLocal (s : Pkg) (c k : Nat) (us : List Nat) (va : Nat) : Pkg :=
  let cx := (s.task k).ctx
  let unit := Unit.cluster (clusterOf c)
  let rs := us.zipIdx.map fun (ad, i) => (ad, s.vRead cx (va + 64 * i) 64 .read true)
  let s := ((s.tookAll (rs.map (·.2))).txeMoved (clusterOf c)).credit cx us.length
  let s := if rs.any (·.2.fault) then s.taskFault k unit else s
  let s := if rs.any (·.2.poison) then s.taskCode k Code.poisonedInput else s
  rs.foldl (fun s r => s.lWrite c { slot := 8, addr := r.1, data := r.2.bytes, poison := r.2.poison }) s

/-- The units of a transfer to [va, …) that lie in one granule together: the memory die merges them into one write (R434). -/
def byGranule {α : Type} (va : Nat) (us : List α) : List (Nat × List α) :=
  us.zipIdx.foldr (fun (u, i) acc =>
    let a := va + 64 * i
    match acc with
    | (b, vs) :: rest => if a / 256 = b / 256 then (a, u :: vs) :: rest else (a, [u]) :: acc
    | [] => [(a, [u])]) []

/-- COPY_OUT into a local tensor (R202, R239, R434, R440). -/
def Pkg.copyOutLocal (s : Pkg) (c k : Nat) (us : List (Bytes × Bool)) (va : Nat) : Pkg :=
  let cx := (s.task k).ctx
  let unit := Unit.cluster (clusterOf c)
  let r := (byGranule va us).foldl (fun (acc : Pkg × Bool × Sticky × Bool) g =>
    let bad := g.2.any (·.2)
    let (s, f, fl) := acc.1.deposit k unit cx g.1 (g.2.flatMap (·.1)) bad
    (s, acc.2.1 || f, acc.2.2.1.or fl, acc.2.2.2 || bad)) (s, false, {}, false)
  let s := (r.1.credit cx us.length).taskFlags k r.2.2.1
  let s := if r.2.1 then s.taskFault k unit else s
  if r.2.2.2 then s.taskCode k Code.poisonedInput else s

/-- Units read for a remote destination: poisoned ones as zero bytes, counted (R452). -/
def Pkg.readForWire (s : Pkg) (k : Nat) (us : List (Bytes × Bool)) : Bytes × Pkg :=
  let bad := (us.filter (·.2)).length
  let bs := us.flatMap fun u => if u.2 then List.replicate 64 0 else u.1
  (bs, if bad > 0 then (s.bumpBy Reg.poisonZeroed bad).taskCode k Code.poisonedInput else s)

/-- A READ of a copy-in issued for its next part (R202, R351): at most 16,383 units. -/
def Pkg.askRead (s : Pkg) (x : Xfer) : Pkg :=
  let n := min 16383 (x.units - x.done)
  let s := s.updXfer x.key fun y => { y with asked := n }
  s.injectTracked x.key
    { op := opREAD, cls := 0, src := eidOf s.self x.cluster, dst := x.dst, ctx := x.ctx, gen := x.gen, layout := x.layout,
      addr := x.addr + 64 * x.done, aux := x.id + n * 1024 } []

/-- A new tracked transfer recorded, with the peak of those in use (R651). -/
def Pkg.addXfer (s : Pkg) (x : Xfer) : Pkg := s.updCluster x.cluster fun c => { c with
  xfers := c.xfers ++ [x]
  ctr := c.ctr.upd 0 0x08 (max · (c.xfers.length + 1)) }

/-- The bytes that this package's copy of a tensor takes (R390). -/
def TensorRef.size (t : TensorRef) : Nat :=
  [1, 2, 3].foldl (fun n d => if t.extent d > 1 then max n (t.shardExt d * t.stride d) else n)
    (ceilDiv (t.shardExt 0 * fmtWidth t.fmt) 8)

/-- A relay block's packets: header and up to 480 B first, then 512 B each, with their landing addresses. -/
def relayPackets (hdr data : Bytes) (va : Nat) : List (Nat × Bytes) :=
  let first := data.take 480
  let rest := chunk (data.length / 512 + 1) 512 (data.drop 480)
  (va, hdr ++ first) :: rest.zipIdx.map fun (d, i) => (va + 480 + 512 * i, d)

/-- The relay header (R391). -/
def relayHdr (tensor version step stroke origin axis dir vmode left units : Nat) : Bytes :=
  leBytes 4 tensor ++ leBytes 4 version ++ leBytes 8 step ++ leBytes 6 stroke ++ leBytes 1 origin ++
  leBytes 1 (axis + 4 * dir + 8 * vmode) ++ leBytes 1 left ++ leBytes 1 0 ++ leBytes 3 units ++ leBytes 3 0

/-- Packets of a write transfer sent, each tracked; the last carries the last flag. -/
def Pkg.sendAll (s : Pkg) (key : Nat) (h : Hd) : List (Nat × Bytes) → Pkg
  | [] => s
  | (va, d) :: rest =>
    Pkg.sendAll (s.injectTracked key { h with addr := va, aux := if rest.isEmpty then 1 else 0 } d) key h rest

/-- A transfer of a slot as it is issued, on transfer index `id`. -/
def Pkg.newXfer (s : Pkg) (c k : Nat) (f : TxeF) (id : Nat) (kind : XferKind) : Xfer :=
  let ctx := (s.task k).ctx
  { id := id, cluster := clusterOf c, task := k, core := c, ctx := ctx, gen := (s.ctx ctx).gen, group := f.group,
    kind := kind, stroke := s.stroke.number, left := 0 }

/-- The package of a copy's other end, where it is not this one (R380). -/
def Pkg.remoteOf (s : Pkg) (m : Option AxMap) (sel : Nat) : Option Nat :=
  match (if sel = 0 then none else copyPeer m sel) with
  | some p => if p.pkg ≠ s.self then some p.pkg else none
  | none => none

/-- COPY_IN as issued: a local tensor's bytes land at once; a peer's are asked for (R202). -/
def Pkg.copyInIssue (pre s : Pkg) (c k : Nat) (w : CWord) (f : TxeF) (t : TensorRef) (m : Option AxMap) (id : Nat) : Pkg :=
  let us := pre.txeUnits c w f
  let v := pre.sreg c f.offR
  let va := t.base + f.off (pre.task k) v
  match s.remoteOf m (f.sel v) with
  | none => s.copyInLocal c k us va
  | some pkg =>
    if s.isAbsent pkg then s.taskCode k Code.peerAbsent
    else
      let (g, off) := (w.stream f.st).getD (0, 0)
      let xf : Xfer :=
        { s.newXfer c k f id .copyIn with
          dst := eidOf pkg (clusterOf c), addr := va, ag := pre.ag c g, agOff := off, units := f.len, layout := t.epoch, left := 1 }
      (s.addXfer xf).askRead xf

/-- COPY_OUT as issued (R202). -/
def Pkg.copyOutIssue (pre s : Pkg) (c k : Nat) (w : CWord) (f : TxeF) (t : TensorRef) (m : Option AxMap) (id : Nat) : Pkg :=
  let us := pre.txeData c k w f
  let v := pre.sreg c f.offR
  let va := t.base + f.off (pre.task k) v
  let cl := clusterOf c
  match s.remoteOf m (f.sel v) with
  | none => s.copyOutLocal c k us va
  | some pkg =>
    if s.isAbsent pkg then s.taskCode k Code.peerAbsent
    else
      let (bs, s) := (s.credit (pre.task k).ctx us.length).readForWire k us
      let ps := (chunk (bs.length / 512 + 1) 512 bs).zipIdx.map fun (d, i) => (va + 512 * i, d)
      let xf : Xfer := { s.newXfer c k f id .copyOut with dst := eidOf pkg cl, left := ps.length }
      (s.addXfer xf).sendAll xf.key
        { op := opWRITE, cls := 0, src := eidOf s.self cl, dst := eidOf pkg cl, ctx := xf.ctx, gen := xf.gen, layout := t.epoch } ps

/-- RELAY as issued: the block's own deposit, and its packets to the next member of the line (R390 to R393). -/
def Pkg.relayIssue (pre s : Pkg) (c k : Nat) (w : CWord) (f : TxeF) (t : TensorRef) (m : Option AxMap) (id : Nat) : Pkg :=
  let us := pre.txeData c k w f
  let v := pre.sreg c f.offR
  let cl := clusterOf c
  let task := pre.task k
  match relaySel m (f.sel v), m with
  | some r, some mp =>
    let va := t.base + f.off task v % max 1 t.size
    let origin := mp.pos r.axis
    let s := s.versionMode r.vmode task.ctx t.id task.step origin t.version
    let s := if r.self then (s.copyOutLocal c k us va).bump Reg.relayDep else s
    let s := s.bump Reg.relaySent
    match mp.neighbour r.axis r.dir with
    | some q =>
      if s.isAbsent q then s.taskCode k Code.peerAbsent
      else
        let (bs, s) := (if r.self then s else s.credit task.ctx us.length).readForWire k us
        let ps := relayPackets (relayHdr t.id t.version task.step s.stroke.number origin r.axis r.dir r.vmode (r.hops - 1) f.len) bs va
        let xf : Xfer := { s.newXfer c k f id .relay with dst := eidOf q cl, left := ps.length }
        (s.addXfer xf).sendAll xf.key
          { op := opRELAY, cls := 2, src := eidOf s.self cl, dst := eidOf q cl, ctx := xf.ctx, gen := xf.gen, layout := t.epoch } ps
    | none => s
  | _, _ => s

/-- REDUCE as issued: one tracked transfer for each contribution frame of the stream (R316). -/
def Pkg.reduceIssue (pre s : Pkg) (c k : Nat) (w : CWord) (f : TxeF) (t : TensorRef) (ids : List Nat) : Pkg :=
  let us := pre.txeUnits c w f
  let task := pre.task k
  (List.range (f.len / 133)).foldl (fun s i =>
    let (g, off) := (w.stream f.st).getD (0, 0)
    let h := FrameHdr.ofBytes (pre.lRead c (us.getD (133 * i) 0) 64)
    (s.translate task.ctx (t.tileTargets h.tile)).addXfer
      { s.newXfer c k f (ids.getD i 0) .reduce with
        frame := 133 * i, ag := pre.ag c g, agOff := off, map := if (s.ctx task.ctx).herdEn then task.map else none,
        tensor := t, tile := h.tile, step := task.step, layout := t.epoch, left := 1 }) s

/-- The TXE slot's effect in a repeat: transfers issued; a local copy lands and is acknowledged at once. The engine has checked that enough transfer indices are free. -/
def Pkg.txeIssue (pre s : Pkg) (c k : Nat) (w : CWord) : Pkg :=
  if !w.has 8 then s else
  let f := txeF (w.slot 8)
  if f.op = 0 then s else
  let cl := clusterOf c
  let s := s.clusterCount cl 0x00 w.txeSlots
  let ctx := (pre.task k).ctx
  let m := if (s.ctx ctx).herdEn then pre.taskMap k else none
  let ids := (s.cluster cl).freeXfers w.txeSlots
  match f.ref (pre.task k) (pre.sreg c f.offR) with
  | none => s
  | some t =>
    if f.op = 1 then pre.copyInIssue s c k w f t m (ids.getD 0 0)
    else if f.op = 2 then pre.copyOutIssue s c k w f t m (ids.getD 0 0)
    else if f.op = 4 then pre.relayIssue s c k w f t m (ids.getD 0 0)
    else pre.reduceIssue s c k w f t ids

end Sys2Proof.Machine
end

