-- ==== Sys2Proof/Machine/Records.lean ====
section
/-! DEFINITION. Completion records, held records, and sketches that fail as a whole (R231 to R236, R491 step 6). -/

namespace Sys2Proof.Machine

/-! ### Completion records (R231 to R234) -/

/-- The 63 B of a record before its phase byte (R231). -/
def recBytes (code kind ieee sched index tag stroke seq cycles events : Nat) : Bytes :=
  leBytes 1 code ++ leBytes 1 kind ++ leBytes 1 ieee ++ leBytes 1 sched ++ leBytes 4 index ++ leBytes 8 tag ++
  leBytes 6 stroke ++ leBytes 2 0 ++ leBytes 4 seq ++ leBytes 4 (min cycles 0xFFFFFFFF) ++ leBytes 4 events ++ leBytes 27 0

def Reg.doorbellBase : Nat := 0x060008
def Reg.tasksAdmitted : Nat := 0x060100
def Reg.tasksDispatched : Nat := 0x060108
def Reg.tasksReported : Nat := 0x060110
def Reg.admitFail : Nat := 0x060118
def Reg.admitWait : Nat := 0x060120
def Reg.cqFullCount : Nat := 0x060128
def Reg.ringIndexInvalid : Nat := 0x060130

/-- The doorbell area (R218). -/
def Pkg.doorbell (s : Pkg) : Nat := fld (s.reg Reg.doorbellBase) 63 12 * 4096

/-- A record's 63 bytes as they are written: one that no window commits carries the stroke of its writing (R231). -/
def HeldRec.out (r : HeldRec) (stroke : Nat) : Bytes :=
  if r.late then slice r.bytes 0 16 ++ leBytes 6 stroke ++ r.bytes.drop 22 else r.bytes

/-- Records written while the completion ring has room; the records still held, and whether one that asks for the vector was written (fuel: the list). -/
def Pkg.writeRecs (s : Pkg) (c : Nat) : List HeldRec → Bool → Pkg × List HeldRec × Bool
  | [], irq => (s, [], irq)
  | r :: rs, irq =>
    let x := s.ctx c
    let k := fld x.cq 4 0
    if x.cqProd ≥ x.cqCons + 2 ^ k then (s, r :: rs, irq)
    else
      let ph := (x.cqProd >>> k) % 2
      let s := s.hostW (fld x.cq 63 12 * 4096 + 64 * (x.cqProd % 2 ^ k)) (r.out s.stroke.number ++ leBytes 1 ph)
      let s := s.setCtx c { x with cqProd := x.cqProd + 1 }
      let s := { s with tasks := s.tasks.filter fun t => !r.slots.contains t.1 }
      Pkg.writeRecs s c rs (irq || r.irq)

/-- A context whose teardown has ended is free: its registers and its attributed energy stay (R491 step 6). -/
def Ctx.freed (x : Ctx) : Ctx :=
  { phase := .free, openError := x.openError, sq := x.sq, cq := x.cq, herd := x.herd, seed := x.seed, root := x.root,
    sched := x.sched, gen := x.gen, genCfg := x.genCfg, recompute := x.recompute, ledgerCfg := x.ledgerCfg,
    proposal := x.proposal, energy := x.energy, reshard := x.reshard.kept }

/-- A context whose context record has been written becomes free (R491 step 6; DEDUCED, log entry 83: a full completion ring keeps it closing until then, since no record is lost). -/
def Pkg.freeIfDone (s : Pkg) (c : Nat) : Pkg :=
  let x := s.ctx c
  if x.phase = .closing ∧ x.teardown = .record ∧ x.cqHeld = [] then (s.uncache c).setCtx c x.freed else s

/-- The held records of a context written as far as the ring allows: then the CQ producer index, then the vector (R231, R233, R234, R504). A ring that becomes full is counted and logged once, until none waits any longer (R233). In D3hot they stay held (R507). -/
def Pkg.flush (s : Pkg) (c : Nat) : Pkg :=
  if s.host.d3 || (s.ctx c).cqHeld.isEmpty then s else
  let before := (s.ctx c).cqProd
  let (s, rest, irq) := s.writeRecs c (s.ctx c).cqHeld false
  let first := !rest.isEmpty && !(s.ctx c).cqFull
  let s := s.updCtx c fun x => { x with cqHeld := rest, cqFull := !rest.isEmpty }
  let s := if (s.ctx c).cqProd = before then s
    else s.hostW (s.doorbell + 0x18000 + 8 * c) (leBytes 8 (s.ctx c).cqProd)
  let s := (if irq then s.ctxIrq c else s).freeIfDone c
  if first then (s.bump Reg.cqFullCount).logEv Ev.cqFull Unit.controlDie (some c) [] else s

/-- A batch of records added behind those held (R233). -/
def Pkg.putRecs (s : Pkg) (c : Nat) (rs : List HeldRec) : Pkg :=
  (s.updCtx c fun x => { x with cqHeld := x.cqHeld ++ rs }).flush c

/-- The sketch of a task. -/
def Ctx.sketch (x : Ctx) (seq : Nat) : Option Sketch := x.sketches.find? fun q => q.seq == seq

def Pkg.setSketch (s : Pkg) (c : Nat) (q : Sketch) : Pkg :=
  s.updCtx c fun x => { x with sketches := x.sketches.map fun y => if y.seq = q.seq then q else y }

/-- The record of one reported task, and its sketch's summary where it is the last (R231, R232). `failed`: it had no effect. DESIGN CHOICE, log entry 113: where the sketch has a summary, a failed task's own record frees no slot; the summary does (R233 names either). -/
def Pkg.taskRecs (s : Pkg) (k : Nat) (failed : Bool) : Pkg × List HeldRec :=
  let t := s.task k
  let st := if t.atCompletion then s.stroke.number else t.window
  let late := t.atCompletion
  let sched := min t.overran 2 + 4 * t.replay.toNat + 8 * t.atCompletion.toNat
  let bytes := recBytes t.code 0 t.ieee.toNat sched t.idx t.tag st t.seq t.cycles t.events
  let s := (s.bump Reg.tasksReported).setTask k { t with phase := .reported }
  let fs := if failed then some t.seq else none
  match (s.ctx t.ctx).sketch t.seq with
  | none => (s, [{ bytes := bytes, irq := t.irq, slots := [k], failSeq := fs, late := late }])
  | some q =>
    let q := { q with unreported := q.unreported - 1, code := Code.worst q.code t.code, events := q.events + t.events,
                      stroke := max q.stroke st, ieee := q.ieee.or t.ieee, cycles := q.cycles + t.cycles }
    let last := q.unreported == 0
    let s := if last then s.updCtx t.ctx fun x => { x with sketches := x.sketches.filter fun y => y.seq ≠ q.seq }
      else s.setSketch t.ctx q
    if q.summary then
      let own : List HeldRec := if t.code > Code.okEvents then [{ bytes := bytes, irq := t.irq, failSeq := fs, late := late }] else []
      let mine := (s.tasks.filter fun y => y.2.ctx == t.ctx && y.2.seq == t.seq).map (·.1)
      (s, own ++ if last then [{
        bytes := recBytes q.code 1 q.ieee.toNat 0 0xFFFFFFFF q.tag q.stroke q.seq q.cycles q.events
        irq := q.irq, slots := mine, failSeq := fs }] else [])
    else (s, [{ bytes := bytes, irq := t.irq || (last && q.irq), slots := [k], failSeq := fs, late := late }])

/-- Tasks of one context reported in one batch, in the order given (R75, R232). -/
def Pkg.report (s : Pkg) (c : Nat) (ks : List Nat) (failed : Bool) : Pkg :=
  let r := ks.foldl (fun (a : Pkg × List HeldRec) k =>
    let (s, rs) := a.1.taskRecs k failed
    (s, a.2 ++ rs)) (s, [])
  if r.2.isEmpty then r.1 else r.1.putRecs c r.2

/-- An entry or context record (R231). -/
def Pkg.plainRec (s : Pkg) (c code kind tag : Nat) : Pkg :=
  s.putRecs c [{ bytes := recBytes code kind 0 0 0xFFFFFFFF tag 0 0 0 0, irq := kind == 3, late := true }]

/-! ### Structures read at admission (R236) -/

/-- A structure read from a context's memory: its bytes, or the offset of its first unreadable byte; and the accounting of the read. -/
def Pkg.rdStruct (s : Pkg) (c a n : Nat) : (Except Nat Bytes) × Pkg :=
  let r := s.vRead c a n .read true
  let s := s.took r
  if !r.fault && !r.poison then (.ok (overlay (s.ctx c).stagedWrites a r.bytes), s)
  else (.error (((List.range n).find? fun i => let q := s.vRead c (a + i) 1 .read true; q.fault || q.poison).getD 0), s)

/-- A failed check: the code, the offset of the failing field, the structure, the tensor index, and whether it was unreadable (R236). -/
structure AdmFail where
  code : Nat
  off  : Nat
  str  : Nat
  ten  : Nat := 0
  unread : Bool := false
  deriving DecidableEq, Repr

/-- The worst of a task's own failures, the first of them on a tie (R21, R236). -/
def worstFail : List AdmFail → Option AdmFail
  | [] => none
  | f :: fs => match worstFail fs with
    | none => some f
    | some g => if g.code > f.code then some g else some f

def failIf (b : Bool) (code off str ten : Nat) : List AdmFail := if b then [{ code := code, off := off, str := str, ten := ten }] else []

/-- The detail of ADMIT_FAILED (R236). -/
def AdmFail.detail (f : AdmFail) (seq task : Nat) : Bytes :=
  leBytes 4 seq ++ leBytes 4 task ++ leBytes 4 f.off ++ leBytes 1 f.str ++ leBytes 1 f.ten ++ leBytes 1 f.code ++ leBytes 1 f.unread.toNat

/-! ### Sketches that fail as a whole (R231 to R236) -/

/-- The sketch of an entry. -/
def sketchOf (e : Bytes) (seq : Nat) : Sketch :=
  { seq := seq, tag := le e 4 4, summary := (le e 1 1).testBit 0, irq := (le e 1 1).testBit 1, waitBack := le e 2 2,
    count := le e 16 4, unreported := le e 16 4 }

/-- The tags and irq flags of a sketch's tasks, which their records carry also where the sketch fails before its descriptors are checked (R231, R234): 0 and false where a descriptor cannot be read. -/
def Pkg.readTags (s : Pkg) (c : Nat) (e : Bytes) (n : Nat) : List (Nat × Bool) × Pkg :=
  (List.range n).foldl (fun (a : List (Nat × Bool) × Pkg) i =>
    match a.2.rdStruct c (le e 8 8 + 128 * i) 128 with
    | (.ok b, s) => (a.1 ++ [(le b 80 8, (le b 58 1).testBit 3)], s)
    | (.error _, s) => (a.1 ++ [(0, false)], s)) ([], s)

/-- A sketch failed as a whole: one event record, and a record for every task (R236). The event counts in the record of task 0 and in the summary (DESIGN CHOICE, log entry 84). `slots`: the task slots that the sketch has taken, which its records hold (R233, R235). -/
def Pkg.sketchFail (s : Pkg) (c : Nat) (q : Sketch) (f : AdmFail) (tags : List (Nat × Bool)) (slots : List Nat) : Pkg :=
  let s := (s.bumpBy Reg.admitFail q.count).logWith Ev.admitFailed Unit.controlDie (some c) f.code false (f.detail q.seq 0xFFFFFFFF)
  let s := s.bumpBy Reg.tasksReported q.count
  let s := { s with tasks := slots.zipIdx.foldl (fun (tb : Tbl Task) (p : Nat × Nat) =>
    tb.set p.1 { ctx := c, seq := q.seq, idx := p.2, phase := .reported }) s.tasks }
  let rs := tags.zipIdx.map fun (tg, i) =>
    ({ bytes := recBytes f.code 0 0 8 i tg.1 0 q.seq 0 (if i = 0 then 1 else 0), irq := tg.2 || (!q.summary && q.irq && i + 1 == q.count)
       slots := if q.summary then [] else (slots[i]?).toList, failSeq := some q.seq, late := true } : HeldRec)
  let sum : List HeldRec := if q.summary then
    [{ bytes := recBytes f.code 1 0 0 0xFFFFFFFF q.tag 0 q.seq 0 1, irq := q.irq, slots := slots, failSeq := some q.seq, late := true }] else []
  s.putRecs c (rs ++ sum)

end Sys2Proof.Machine
end

