-- ==== Sys2Proof/Machine/Rwe.lean ====
section
/-! DEFINITION. The row engine and the statistics store (R149 to R156, R198, R199). -/

namespace Sys2Proof.Machine

/-! ### The slot (R198) -/

structure RweF where
  op : Nat
  inS : Nat
  outS : Nat
  gS : Nat
  consume : Bool
  empty : Bool
  tagR : Nat
  epsR : Nat
  lenR : Nat
  rowR : Nat
  inF : Nat
  outF : Nat
  rmode : Nat
  cmode : Nat
  rows : Nat
  deriving DecidableEq, Repr

def rweF (x : BitVec 96) : RweF :=
  ⟨fld x 47 44, fld x 43 42, fld x 41 40, fld x 39 38, bitAt x 37, bitAt x 36, fld x 35 32, fld x 31 28,
    fld x 27 24, fld x 23 20, fld x 19 15, fld x 14 10, fld x 9 7, fld x 6 5, fld x 4 0 + 1⟩

/-- Whether the op is a backward one. -/
def RweF.bwd (f : RweF) : Bool := decide (4 ≤ f.op ∧ f.op ≤ 6)

/-- The resolved rounding mode: DEFAULT is RNE forward and SR backward (R116, R198). -/
def RweF.rm (f : RweF) : Option Rm := Rm.ofCode f.bwd f.rmode

/-- Codes that the RWE accepts (R91). -/
def rweFmt (c : Nat) : Bool :=
  c == 2 || c == 4 || c == 5 || c == 6 || c == 7 || c == 0x16 || c == 0x17

/-- The row length of an operation. -/
def Pkg.rweLen (s : Pkg) (c : Nat) (f : RweF) : Nat := fld (s.sreg c f.lenR) 20 0

/-- Units of one row (R199). -/
def rowUnits (fmt n : Nat) : Nat := ceilDiv (n * fmtWidth fmt) 512

def rweUses (s : Pkg) (c : Nat) (w : CWord) : List Use :=
  if !w.has 6 then [] else
  let f := rweF (w.slot 6)
  let n := s.rweLen c f
  let use (st fmt : Nat) (wr : Bool) : Use :=
    { slot := 6, stream := st, bytes := f.rows * rowUnits fmt n * 64, width := fmtWidth fmt, write := wr,
      side := if fmtBlock fmt then f.rows * ceilDiv n 32 else 0 }
  if f.op = 0 ∨ f.op > 7 then []
  else if f.op = 7 then [{ slot := 6, stream := f.inS, bytes := 32, width := 8, write := false }]
  else [use f.inS f.inF false, use f.outS f.outF true] ++ (if f.bwd then [use f.gS f.inF false] else [])

/-- A spill descriptor's fields (R153). -/
structure SpillDesc where
  ctx : Nat
  used : Nat
  cap : Nat
  base : Nat
  ok : Bool
  deriving DecidableEq, Repr

def SpillDesc.ofBytes (b : Bytes) : SpillDesc :=
  let lo := le b 0 16
  ⟨nbits lo 127 116, nbits lo 95 64, nbits lo 63 32, nbits lo 24 0,
    zeros b 16 16 && nbits lo 115 96 == 0 && nbits lo 31 25 == 0 && nbits lo 3 0 == 0 &&
      decide (nbits lo 24 0 + 16 * nbits lo 63 32 ≤ 0x2000000)⟩

/-- The rules of the RWE slot (R151, R154, R198, R199). -/
def Pkg.checkRwe (s : Pkg) (c : Nat) (w : CWord) : Why :=
  if !w.has 6 then [] else
  let x := w.slot 6
  let f := rweF x
  if f.op = 0 then whyIf 6 1 (x != 0)
  else if f.op > 7 then [(6, 2)]
  else if f.op = 7 then
    whyIf 6 5 (f.inS == 3) ++
    whyIf 6 0x11 (f.inS < 3 && (w.stream f.inS).isSome &&
      !(SpillDesc.ofBytes ((s.streamBytes c w f.inS 32).map fun b => BitVec.ofNat 8 b.1)).ok)
  else
    let n := s.rweLen c f
    whyIf 6 3 (!rweFmt f.inF || !rweFmt f.outF) ++
    whyIf 6 3 (f.rm.isNone || (cmodeOf f.outF f.cmode).isNone || (f.rm == some .sr && f.outF == 2)) ++
    whyIf 6 5 (f.inS == 3 || f.outS == 3 || (f.bwd && f.gS == 3)) ++
    whyIf 6 0xA (f.rm == some .sr && !w.has 11) ++
    whyIf 6 0xF ((fmtBlock f.inF && f.inS < 3 && (w.stream f.inS).isSome && !s.sideOn c w f.inS) ||
      (fmtBlock f.inF && f.bwd && f.gS < 3 && (w.stream f.gS).isSome && !s.sideOn c w f.gS) ||
      (fmtBlock f.outF && f.outS < 3 && (w.stream f.outS).isSome && !s.sideOn c w f.outS)) ++
    whyIf 6 0x11 (n == 0 || decide (n > 2 ^ 20))

/-! ### Row arithmetic (R149, R150): FP32 encodings under RNE -/

/-- A value with the flags raised so far. -/
abbrev FV := Nat × Sticky

def fAdd (a b : FV) : FV := let r := fp32.add .rne a.1 b.1; (r.1, (a.2.or b.2).or r.2)
def fSub (a b : FV) : FV := let r := fp32.sub .rne a.1 b.1; (r.1, (a.2.or b.2).or r.2)
def fMul (a b : FV) : FV := let r := fp32.mul .rne a.1 b.1; (r.1, (a.2.or b.2).or r.2)
def fDiv (a b : FV) : FV := let r := fp32.div .rne a.1 b.1; (r.1, (a.2.or b.2).or r.2)
def fSqrt (a : FV) : FV := let r := fp32.sqrt .rne a.1; (r.1, a.2.or r.2)
def fFn (fn : Nat) (a : FV) : FV := let r := builtin fn a.1; (r.1, a.2.or r.2)
def fMax (a b : FV) : FV := let r := fp32.max a.1 b.1; (r.1, (a.2.or b.2).or r.2)
def fOne : FV := (0x3F800000, {})
def fNat (n : Nat) : FV := ((fp32.conv .rne false 0 (.ofInt n)).bits, {})

/-- Folds one half of the lanes onto the other, by fuel (R149). -/
def laneFold : Nat → List FV → FV
  | 0, ls => ls.getD 0 (0, {})
  | n + 1, ls =>
    let h := 2 ^ n
    laneFold n ((ls.take h).zip ((ls.drop h).take h) |>.map fun (a, b) => fAdd a b)

/-- row_sum (R149): 64 lanes in ascending order, then a tree. -/
def rowSum (v : List FV) : FV :=
  let lanes := (List.range 64).map fun l =>
    (v.zipIdx.filter fun x => x.2 % 64 == l).foldl (fun a x => fAdd a x.1) ((0, {}) : FV)
  laneFold 6 lanes

/-- The result of a row: outputs, and the saved statistics. -/
structure RowRes where
  out  : List FV
  s0   : FV
  s1   : FV
  deriving DecidableEq, Repr

/-- A forward operation on a row (R150, R151). -/
def rowFwd (op : Nat) (empty : Bool) (eps : Nat) (x : List FV) : RowRes :=
  let n := fNat x.length
  match op with
  | 1 =>
    let mean := fDiv (rowSum x) n
    let var := fDiv (rowSum (x.map fun v => let d := fSub v mean; fMul d d)) n
    let rstd := fDiv fOne (fSqrt (fAdd var (eps, {})))
    ⟨x.map fun v => fMul (fSub v mean) rstd, mean, rstd⟩
  | 2 =>
    let ms := fDiv (rowSum (x.map fun v => fMul v v)) n
    let rstd := fDiv fOne (fSqrt (fAdd ms (eps, {})))
    ⟨x.map fun v => fMul v rstd, (0, {}), rstd⟩
  | _ =>
    let ninf := fp32.infBits true
    let m := match x with
      | [] => (ninf, {})
      | v :: vs => vs.foldl fMax v
    if empty && m.1 == ninf then ⟨x.map fun _ => (0, {}), (ninf, {}), (ninf, {})⟩
    else
      let sm := rowSum (x.map fun v => fFn 0 (fSub v m))
      let lse := fAdd m (fFn 2 sm)
      ⟨x.map fun v => fFn 0 (fSub v lse), m, lse⟩

/-- A backward operation on a row with its saved statistics (R150, R151). -/
def rowBwd (op : Nat) (empty : Bool) (s0 s1 : Nat) (x g : List FV) : List FV :=
  let n := fNat x.length
  let st0 : FV := (s0, {})
  let st1 : FV := (s1, {})
  match op with
  | 4 =>
    let xh := x.map fun v => fMul (fSub v st0) st1
    let a := fDiv (rowSum g) n
    let b := rowSum ((g.zip xh).map fun (u, v) => fMul u v)
    (g.zip xh).map fun (u, v) => fMul st1 (fSub (fSub u a) (fDiv (fMul v b) n))
  | 5 =>
    let xh := x.map fun v => fMul v st1
    let b := rowSum ((g.zip xh).map fun (u, v) => fMul u v)
    (g.zip xh).map fun (u, v) => fMul st1 (fSub u (fDiv (fMul v b) n))
  | _ =>
    if empty && s1 == fp32.infBits true then x.map fun _ => (0, {})
    else
      let p := x.map fun v => fFn 0 (fSub v st1)
      let b := rowSum ((g.zip p).map fun (u, v) => fMul u v)
      (g.zip p).map fun (u, v) => fMul v (fSub u b)

/-! ### The statistics store (R152 to R156) -/

/-- An entry's 16 B (R152). -/
def StatEntry.bytes (e : StatEntry) : Bytes :=
  leBytes 16 ((e.stat1 % 2 ^ 32) <<< 96 + (e.stat0 % 2 ^ 32) <<< 64 + (e.ctx % 4096) <<< 52 + (e.tag % 2 ^ 32) <<< 20 + e.row % 2 ^ 20)

def StatEntry.ofBytes (b : Bytes) : StatEntry :=
  let n := le b 0 16
  let c := nbits n 63 52
  let tag := nbits n 51 20
  let row := nbits n 19 0
  ⟨(Config.statSet c tag row).toNat, c, tag, row, nbits n 95 64, nbits n 127 96, []⟩

/-- The spill descriptor that a core has selected: its address and fields (R153). -/
def Pkg.spillDesc (s : Pkg) (c : Nat) : Option (Nat × SpillDesc) :=
  (s.core c).spill.map fun a => (a, SpillDesc.ofBytes (s.lRead c a 32))

/-- The index of a key's entry in a core's spill region (R155). -/
def Pkg.spillFind (s : Pkg) (c ctx tag row : Nat) : Option (Nat × SpillDesc × Nat) :=
  match s.spillDesc c with
  | none => none
  | some (a, d) =>
    if d.ctx ≠ ctx then none
    else ((List.range (min d.used d.cap)).find? fun i =>
      let e := StatEntry.ofBytes (s.lRead c (clusterBase + d.base + 16 * i) 16)
      e.ctx == ctx && e.tag == tag && e.row == row).map fun i => (a, d, i)

/-- A displaced entry put into the spill region with the marks of its readers, or discarded (R153, R154, R156). -/
def Pkg.spillOut (s : Pkg) (c k : Nat) (e : StatEntry) : Pkg :=
  let s := s.coreCount c 0x30 1
  match s.spillDesc c with
  | some (a, d) =>
    if d.ctx = (s.task k).ctx ∧ d.used < d.cap then
      let s := s.lWrite c { slot := 6, addr := clusterBase + d.base + 16 * d.used, data := e.bytes }
      let s := s.lWrite c { slot := 6, addr := a + 8, data := leBytes 4 (d.used + 1) }
      s.updCore c fun x => { x with spillMarks := e.marks.map (fun m => (a, e.ctx, e.tag, e.row, m)) ++ x.spillMarks }
    else s.taskEvent k Ev.rowStatsDropped (Unit.engine c 2) 0 []
  | none => s.taskEvent k Ev.rowStatsDropped (Unit.engine c 2) 0 []

/-- A forward operation's entry for one row (R152, R153). DESIGN CHOICE, log entry 103: an entry whose values are replaced keeps its age in the set, and the marks of readers whose windows have not ended; R152 and R156 say neither. -/
def Pkg.statWrite (s : Pkg) (c k tag row s0 s1 : Nat) : Pkg :=
  let ctx := (s.task k).ctx
  let set := (Config.statSet ctx tag row).toNat
  let e : StatEntry := ⟨set, ctx, tag, row, s0, s1, []⟩
  let hit (x : StatEntry) : Bool := x.ctx == ctx && x.tag == tag && x.row == row
  let st := (s.core c).stats
  if st.any hit then
    s.updCore c fun x => { x with stats := st.map fun y => if hit y then { y with stat0 := s0, stat1 := s1 } else y }
  else
    match s.spillFind c ctx tag row with
    | some (_, d, i) => s.lWrite c { slot := 6, addr := clusterBase + d.base + 16 * i, data := e.bytes }
    | none =>
      let mates := st.filter fun x => x.set == set
      if mates.length < 8 then s.updCore c fun x => { x with stats := st ++ [e] }
      else
        match mates with
        | old :: _ => (s.updCore c fun x => { x with stats := st.erase old ++ [e] }).spillOut c k old
        | [] => s

/-- A backward operation's lookup: the statistics, with whether the spill descriptor or an entry that the lookup reads is poisoned (R451), and the entry marked for release where the operation consumes (R155, R156). -/
def Pkg.statRead (s : Pkg) (c k tag row : Nat) (consume : Bool) : Option (Nat × Nat × Bool) × Pkg :=
  let ctx := (s.task k).ctx
  let hit (x : StatEntry) : Bool := x.ctx == ctx && x.tag == tag && x.row == row
  match (s.core c).stats.find? hit with
  | some e =>
    (some (e.stat0, e.stat1, false),
      if consume then s.updCore c fun x => { x with stats := x.stats.map fun y => if hit y then { y with marks := NatSet.ins y.marks k } else y }
      else s)
  | none =>
    match s.spillFind c ctx tag row with
    | some (a, d, i) =>
      let e := StatEntry.ofBytes (s.lRead c (clusterBase + d.base + 16 * i) 16)
      (some (e.stat0, e.stat1, s.lPoison c a 32 || s.lPoison c (clusterBase + d.base) (16 * (i + 1))),
        if consume then s.updCore c fun x => { x with spillMarks := (a, ctx, tag, row, k) :: x.spillMarks } else s)
    | none => (none, s)

/-- One spilled entry released: the last entry of its region takes its place (R156). -/
def Pkg.spillRelease (s : Pkg) (c a ctx tag row : Nat) : Pkg :=
  let d := SpillDesc.ofBytes (s.lRead c a 32)
  let n := min d.used d.cap
  match (List.range n).find? fun i =>
      let e := StatEntry.ofBytes (s.lRead c (clusterBase + d.base + 16 * i) 16)
      e.ctx == ctx && e.tag == tag && e.row == row with
  | some i =>
    let from_ := clusterBase + d.base + 16 * (n - 1)
    let s := s.lWrite c { slot := 6, addr := clusterBase + d.base + 16 * i, data := s.lRead c from_ 16, poison := s.lPoison c from_ 16 }
    s.lWrite c { slot := 6, addr := a + 8, data := leBytes 4 (n - 1) }
  | none => s

/-- The entries of a context in one region of a core removed, the others moved down (R156). -/
def Pkg.spillPurge (s : Pkg) (c a ctx : Nat) : Pkg :=
  let d := SpillDesc.ofBytes (s.lRead c a 32)
  if d.ctx ≠ ctx ∨ !d.ok then s
  else
    let es := (List.range (min d.used d.cap)).map fun i =>
      (s.lRead c (clusterBase + d.base + 16 * i) 16, s.lPoison c (clusterBase + d.base + 16 * i) 16)
    let kept := es.filter fun b => (StatEntry.ofBytes b.1).ctx ≠ ctx
    let s := kept.zipIdx.foldl (fun s (b, i) => s.lWrite c { slot := 6, addr := clusterBase + d.base + 16 * i, data := b.1, poison := b.2 }) s
    s.lWrite c { slot := 6, addr := a + 8, data := leBytes 4 kept.length }

/-- Every entry of a context removed from the regions that the package knows in use for it (R156). -/
def Pkg.spillPurgeAll (s : Pkg) (ctx : Nat) : Pkg :=
  (s.ctx ctx).spills.foldl (fun s r => s.spillPurge r.1 r.2.1 ctx) s

/-- Marks of a task released (its window commits) or cleared (a void): over every core (R156). -/
def Pkg.statMarks (s : Pkg) (k : Nat) (release : Bool) : Pkg :=
  s.cores.keys.foldl (fun s c =>
    let x := s.core c
    let mine := x.spillMarks.filter fun m => m.2.2.2.2 == k
    let stats := if release then x.stats.filter fun e => !e.marks.contains k
      else x.stats.map fun e => { e with marks := NatSet.del e.marks k }
    let s := s.setCore c { x with stats := stats, spillMarks := x.spillMarks.filter fun m => m.2.2.2.2 != k }
    if release then mine.foldl (fun s m => s.spillRelease c m.1 m.2.1 m.2.2.1 m.2.2.2.1) s else s) s

/-! ### Issue -/

/-- The rows of a stream: FP32 values with the flags of their conversion, and whether the row is poisoned, its block scales included (R106, R451). -/
def Pkg.rweRows (s : Pkg) (c : Nat) (w : CWord) (st fmt n rows : Nat) : List (List FV × Bool) :=
  let per := rowUnits fmt n * 512 / fmtWidth fmt
  let es := s.elems c w st (fmtWidth fmt) (rows * per)
  let sb := if fmtBlock fmt then s.sideBytes c w st (rows * ceilDiv n 32) else []
  (chunk rows per es).zipIdx.map fun (row, r) =>
    let xs := (row.take n).zipIdx.map fun ((e, _), i) =>
      let v := fmtDecode fmt e
      let v := if fmtBlock fmt then
          (match e8m0 (sb.getD (r * ceilDiv n 32 + i / 32) 0).toNat with
            | some b => v.scale b
            | none => .nan false)
        else v
      fp32.out .rne v false
    (xs, (row.take n).any (·.2) || (fmtBlock fmt && s.sidePoison c w st (r * ceilDiv n 32) (ceilDiv n 32)))

/-- A row's conversions and its packed bytes and block scales. `base`: the logical index of its first element (R199). -/
def rweStore (s : Pkg) (k : Nat) (f : RweF) (id base : Nat) (out : List FV) : List Num × List Conv × Bytes × List Nat :=
  let rm := f.rm.getD .rne
  let sat := (cmodeOf f.outF f.cmode).getD true
  let vs := out.map fun v => fp32.decode v.1
  let u (i : Nat) : Nat := if rm = .sr then s.draw k id (base + i) else 0
  let (cs, sb) :=
    if fmtBlock f.outF then
      let bl := (chunk (vs.length + 1) 32 vs).zipIdx.map fun (b, j) => blockConv f.outF rm sat (fun i => u (32 * j + i)) b
      (bl.flatMap (·.2), bl.map (·.1))
    else (vs.zipIdx.map fun (x, i) => (fmtConv f.outF rm sat (u i) x).held (f.outF == 2), [])
  (vs, cs, packBytes (fmtWidth f.outF) (cs.map (·.bits)), sb)

/-- Writes of rows to their units of a stream: each row's bytes and poison (R199). -/
def Pkg.rowWrites (s : Pkg) (c : Nat) (w : CWord) (st ru : Nat) (rows : List (Bytes × Bool)) : List LWrite :=
  match w.stream st with
  | none => []
  | some (g, off) =>
    let us := (s.ag c g).units off (rows.length * ru)
    rows.zipIdx.flatMap fun ((bs, p), r) =>
      (chunk ru 64 bs).zipIdx.map fun (d, i) =>
        { slot := 6, addr := us.getD (r * ru + i) 0, data := d, poison := p }

/-- What the rows of an operation have given so far: the package, each row's output and poison, and the lookups that failed. -/
structure RweAcc where
  s    : Pkg
  outs : List (List FV × Bool) := []
  miss : Nat := 0
  deriving DecidableEq, Repr

/-- One row of a row operation (R150 to R155). `x`, `g`: the row's input and gradient, each with its poison. -/
def Pkg.rweRow (pre : Pkg) (c k : Nat) (f : RweF) (r : Nat) (x g : List FV × Bool) (a : RweAcc) : RweAcc :=
  let tag := fld (pre.sreg c f.tagR) 31 0
  let eps := fld (pre.sreg c f.epsR) 31 0
  let row := (fld (pre.sreg c f.rowR) 19 0 + r) % 2 ^ 20
  if f.bwd then
    let (st, s) := a.s.statRead c k tag row f.consume
    match st with
    | some (s0, s1, bad) => { s := s, outs := a.outs ++ [(rowBwd f.op f.empty s0 s1 x.1 g.1, x.2 || g.2 || bad)], miss := a.miss }
    | none => { s := s, outs := a.outs ++ [(x.1.map fun _ => (0, {}), true)], miss := a.miss + 1 }
  else
    let q := rowFwd f.op f.empty eps x.1
    let s := a.s.taskFlags k ((q.s0.2).or q.s1.2)
    { s := s.statWrite c k tag row q.s0.1 q.s1.1, outs := a.outs ++ [(q.out, x.2)], miss := a.miss }

/-- The rows of a row operation, in order (R199). -/
def Pkg.rweRun (pre s : Pkg) (c k : Nat) (w : CWord) (f : RweF) : RweAcc :=
  let n := pre.rweLen c f
  let xs := pre.rweRows c w f.inS f.inF n f.rows
  let gs := if f.bwd then pre.rweRows c w f.gS f.inF n f.rows else []
  let s := s.taskFlags k (((xs ++ gs).flatMap (·.1)).foldl (fun fl v => fl.or v.2) {})
  (List.range f.rows).foldl (fun a r => pre.rweRow c k f r (xs.getD r ([], false)) (gs.getD r ([], false)) a) { s := s }

/-- SPILL_SET (R153): the core's spill region is the descriptor at the stream's address. -/
def Pkg.spillSet (pre s : Pkg) (c k : Nat) (w : CWord) (f : RweF) : Pkg :=
  match w.stream f.inS with
  | some (g, off) =>
    let a := (pre.ag c g).addr off
    let d := SpillDesc.ofBytes (pre.lRead c a 32)
    let s := s.updCore c fun x => { x with spill := some a }
    s.updCtx (s.task k).ctx fun x => { x with spills := (c, a, d.base) :: x.spills.filter (· ≠ (c, a, d.base)) }
  | none => s

/-- Where no tensor of the task is named, the NaN results of a softmax that R151 counts: under the identifier of IMM[31:0], 0 without that slot (DESIGN CHOICE, log entry 36). -/
def Pkg.rweNans (s : Pkg) (k id : Nat) (f : RweF) (vs : List Num) : Pkg :=
  let n := (vs.filter (·.isNan)).length
  if n = 0 ∨ f.empty ∨ (f.op ≠ 3 ∧ f.op ≠ 6) then s
  else s.ledgerAdd (s.task k).ctx id (s.task k).step f.outF fun l => { l with elements := l.elements + n, nonfin := l.nonfin + n }

/-- The RWE slot's effect in a repeat (R150 to R156, R198, R199). Row r of the operation has row index j = S[row_reg] + r, and its elements the logical indices from j × n on. -/
def Pkg.rweIssue (pre s : Pkg) (c k : Nat) (w : CWord) : Pkg × List LWrite :=
  if !w.has 6 then (s, []) else
  let f := rweF (w.slot 6)
  if f.op = 0 ∨ f.op > 7 then (s, [])
  else if f.op = 7 then (pre.spillSet s c k w f, [])
  else
    let n := pre.rweLen c f
    let id := fld (w.slot 11) 31 0
    let a := pre.rweRun s c k w f
    let st := a.outs.zipIdx.map fun ((o, p), j) => (rweStore pre k f id ((fld (pre.sreg c f.rowR) 19 0 + j) * n) o, p)
    let s := a.s.taskFlags k ((a.outs.flatMap (·.1)).foldl (fun fl v => fl.or v.2) {})
    let vs := st.flatMap fun x => x.1.1
    let cs := st.flatMap fun x => x.1.2.1
    let i := if w.has 11 then (pre.task k).tensors.findIdx? (fun t => t.id == id) else none
    let s := match i with
      | some i => s.converted k i ((pre.task k).tensors.getD i {}) 0 vs cs 0 0
      | none => (s.taskFlags k (cs.foldl (fun fl r => fl.or r.fl) {})).rweNans k id f vs
    let s := if a.miss > 0 then
        (s.coreCount c 0x38 a.miss).taskEvent k Ev.rowStatsMissing (Unit.engine c 2) Code.poisonedInput []
      else s
    let s := if a.outs.any (·.2) then s.taskCode k Code.poisonedInput else s
    let ws := pre.rowWrites c w f.outS (rowUnits f.outF n) (st.map fun x => (x.1.2.2.1, x.2))
    let sb := st.flatMap fun x => x.1.2.2.2.map fun b => (b, x.2)
    let side := match w.stream f.outS with
      | some (g, _) => sideWrites 6 (pre.ag c g).side (sb.map fun b => BitVec.ofNat 8 b.1) fun i => (sb.getD i (0, false)).2
      | none => []
    (s, ws ++ side)

end Sys2Proof.Machine
end

