-- ==== Sys2Proof/Machine/Window.lean ====
section
/-! DEFINITION. The windows of a context: how they commit, merge, and are voided, and what is aborted and replayed (R65 to R80, R208, R264 to R270, R474). -/

namespace Sys2Proof.Machine

/-! ### Tasks that end -/

/-- A task and every task of its sketch that depends on it, directly or transitively (fuel: the sketch's size). -/
def Pkg.dependants (s : Pkg) (c seq : Nat) : Nat → List Nat → List Nat
  | 0, ks => ks
  | n + 1, ks =>
    let next := ks.flatMap fun k => (s.task k).succs
    let more := (s.tasks.filter fun t => t.2.ctx == c && t.2.seq == seq && next.contains t.2.idx && !ks.contains t.1).map (·.1)
    if more.isEmpty then ks else Pkg.dependants s c seq n (ks ++ more)

/-- A task failed with no effect after admission, and those that depend on it, each with an event record of the code, reported at once (R21, R75). -/
def Pkg.failTask (s : Pkg) (k code : Nat) : Pkg :=
  let t := s.task k
  let ks := (s.dependants t.ctx t.seq s.tasks.length [k]).filter fun j => (s.task j).phase == .waiting
  let s := ks.foldl (fun s j => (s.taskCode j code).updTask j fun x => { x with atCompletion := true }) s
  s.report t.ctx ks true

/-- The transfers of a context dropped, with what the fabric holds of them (R81, R474, R488). -/
def Pkg.dropTransfers (s : Pkg) (p : Xfer → Bool) : Pkg :=
  let keys := s.clusters.vals.flatMap fun c => (c.xfers.filter p).map Xfer.key
  { s with
    clusters := s.clusters.mapV fun _ c => { c with xfers := c.xfers.filter fun x => !p x }
    fab := { s.fab with pending := s.fab.pending.filter fun q => !keys.contains q.xfer } }

/-- The cycles that a running task has spent in the current stroke, credited to its context (R583). -/
def Pkg.creditRun (s : Pkg) (k : Nat) : Pkg :=
  let t := s.task k
  s.credit t.ctx ((s.now - max t.at0 s.stroke.openedAt) * s.dieMhz (if t.update then t.core / 4 else t.core / 32) / 1000)

/-- A task stopped where it runs (R208): its unit is free, its operations are discarded. -/
def Pkg.stopTask (s : Pkg) (k : Nat) : Pkg :=
  let t := s.task k
  if t.phase ≠ .running then s else
  let s := (s.creditRun k).updCtx t.ctx fun x => { x with replayAfter := x.replayAfter.filter (· ≠ k) }
  if t.update then s.updCluster t.core fun c => if c.upe.task = some k then { c with upe := {} } else c
  else s.updCore t.core fun c => if c.task = some k then
      { c with task := none, ended := false, busy := [], hold := .none, loops := [], rep := 0 } else c

/-- What of a run goes when the task is to run again (R78, R242): its slot, events and arrival requirements stay. -/
def Task.rewind (t : Task) : Task :=
  { t with phase := .waiting, code := 0, conds := [], ieee := {}, cycles := 0, overruns := 0, overran := 0,
           replay := true, window := 0, order := 0, maxima := [], noOffsets := [], stranded := 0, budgetHeld := false }

/-- How often a task's successor list names an index: each listing is one of the dependences that dep_count counts (R236). -/
def Task.listed (t : Task) (i : Nat) : Nat := (t.succs.filter (· == i)).length

/-- The dependence counts of a context's waiting tasks, from what stands completed (R237). -/
def Pkg.recount (s : Pkg) (c : Nat) : Pkg :=
  let done (t : Task) : Bool := t.phase == .completed || t.phase == .reported
  { s with tasks := s.tasks.mapV fun _ t =>
      if t.ctx = c ∧ t.phase = .waiting then
        { t with deps := ((s.tasks.filter fun u => u.2.ctx == c && u.2.seq == t.seq && !done u.2).map fun u => u.2.listed t.idx).sum }
      else t }

/-! ### The ledger at commit (R264 to R270) -/

def Reg.ledgerDrop : Nat := 0x050138

/-- A saturating sum. -/
def satAdd (w a b : Nat) : Nat := min (a + b) (2 ^ w - 1)

/-- The proposed format of a record (R270), `get` reading the record of an earlier step where it is present and uncollided. -/
def proposal (cfg : Word) (depth fmt step : Nat) (get : Nat → Option (Nat × Nat × Nat)) : Nat :=
  let w := min (fld cfg 7 0) depth
  let rs := (List.range w).map fun i => if i > step then none else get (step - i)
  if rs.any (·.isNone) then fmt
  else
    let s := rs.foldl (fun (a : Nat × Nat × Nat) r => match r with
      | some (l, sh, e) => (a.1 + l, a.2.1 + sh, a.2.2 + e)
      | none => a) (0, 0, 0)
    let up := s.1 * 2 ^ 24 / max 1 s.2.2
    let down := s.2.1 * 2 ^ 24 / max 1 s.2.2
    if up > fld cfg 55 32 ∧ fmt ≠ 4 then (if fmt = 6 then 7 else 4)
    else if down ≤ fld cfg 31 8 ∧ fmt ≠ 6 then (if fmt = 4 then 7 else 6)
    else fmt

/-- One window's counts of a tensor and step added to its ledger record (R266, R267, R270). -/
def Pkg.ledgerCommit (s : Pkg) (c : Nat) (l : LedgerCount) : Pkg :=
  let x := s.ctx c
  let cfg := x.ledgerCfg
  let n := 2 ^ fld cfg 7 4
  let depth := fld cfg 13 8 + 1
  let addr (step : Nat) : Nat := fld cfg 59 24 * 4096 + ((step % depth) * n + l.tensor % n) * 64
  let a := addr l.step
  if !(s.vMapped c a 64 .write && s.classAt c a == some false) then
    (s.bump Reg.ledgerDrop).logEv Ev.ledgerUnmapped Unit.controlDie (some c) []
  else
    let r := s.vRead c a 64 .write true
    let s := s.took r
    let b := r.bytes
    let valid := (le b 5 1).testBit 0
    if valid && decide (le b 8 8 > l.step) then
      (s.bump Reg.ledgerDrop).logEv Ev.ledgerStale Unit.controlDie (some c) []
    else
      let fresh := !valid || decide (le b 8 8 < l.step)
      let b := if fresh then List.replicate 64 0 else b
      let other := !fresh && le b 0 4 != l.tensor
      let was := (le b 5 1).testBit 1
      let coll := was || other
      let id := if fresh then l.tensor else le b 0 4
      let fl := 1 + 2 * coll.toNat + 4 * ((le b 5 1).testBit 2 || l.flagExh).toNat + 8 * ((le b 5 1).testBit 3 || l.flagStep).toNat
      let el := le b 16 8 + l.elements
      let ov := le b 24 8 + l.overflow
      let va := le b 32 8 + l.vanish
      let sh := le b 40 8 + l.shadow
      let get (st : Nat) : Option (Nat × Nat × Nat) :=
        if st = l.step then (if coll then none else some (ov + va, sh, el))
        else
          let r := s.vRead c (addr st) 64 .write true
          let b := r.bytes
          if !r.fault && (le b 5 1).testBit 0 && !(le b 5 1).testBit 1 && le b 8 8 == st && le b 0 4 == l.tensor then
            some (le b 24 8 + le b 32 8, le b 40 8, le b 16 8)
          else none
      let prop := if l.propose then proposal x.proposal depth l.format l.step get else 0
      let new := leBytes 4 id ++ leBytes 1 l.format ++ leBytes 1 fl ++ leBytes 1 prop ++ leBytes 1 0 ++ leBytes 8 l.step ++
        leBytes 8 el ++ leBytes 8 ov ++ leBytes 8 va ++ leBytes 8 sh ++ leBytes 4 (satAdd 32 (le b 48 4) l.nonfin) ++
        leBytes 4 (satAdd 32 (le b 52 4) l.recomputed) ++ leBytes 4 (satAdd 32 (le b 56 4) l.exhausted) ++ leBytes 4 0
      let s := (s.vWrite c a new l.poison).1
      if other && !was then s.logEv Ev.ledgerCollision Unit.controlDie (some c) [] else s

/-! ### Commit and merge (R66, R67, R70, R73) -/

def Reg.commitCount : Nat := 0x040100
def Reg.deferCount : Nat := 0x040108
def Reg.voidCount : Nat := 0x040110
def Reg.overrunCount : Nat := 0x040118
def Reg.budgetHold : Nat := 0x040120
def Reg.agedDrops : Nat := 0x040128
def Reg.reshardCompleted : Nat := 0x0A0438
def Reg.reshardFailed : Nat := 0x0A0440
def Reg.reshardBytes : Nat := 0x0A0448

/-- A context's tasks, in a phase. -/
def Pkg.ctxTasks (s : Pkg) (c : Nat) (p : Task → Bool) : List Nat := (s.tasks.filter fun t => t.2.ctx == c && p t.2).map (·.1)

/-- Completed tasks in the order in which they completed. -/
def Pkg.byOrder (s : Pkg) (ks : List Nat) : List Nat :=
  ks.foldl (fun (acc : List Nat) k =>
    let (a, b) := acc.span fun j => decide ((s.task j).order ≤ (s.task k).order)
    a ++ k :: b) []

/-- A context commits through a stroke (R66): one update of its committed-through stroke; ledger, statistics and records follow. -/
def Pkg.commit (s : Pkg) (c w : Nat) : Pkg :=
  let x := s.ctx c
  let st := (((x.closed.filter fun y => decide (y.1 ≤ w)).getLast?).map (·.2)).getD x.com
  let due := x.ledger.filter fun l => decide (l.window ≤ w)
  let s := (s.bump Reg.commitCount).setCtx c { x with
    committed := max x.committed w, com := st, defers := 0
    closed := x.closed.filter fun y => !decide (y.1 ≤ w)
    ledger := x.ledger.filter fun l => !decide (l.window ≤ w) }
  let s := due.foldl (fun s l => s.ledgerCommit c l) s
  let ks := s.byOrder (s.ctxTasks c fun t => t.phase == .completed && decide (t.window ≤ w))
  let s := ks.foldl (fun s k => s.statMarks k true) s
  s.report c ks false

/-- A page's frame of window `w` merged into window `n` (R67): recycled where `n` has its own, else relabelled. -/
def VRec.merge (v : VRec) (w n : Nat) : VRec × List Nat :=
  let ps := v.pending
  match ps.find? (·.1 == w) with
  | none => (v, [])
  | some p =>
    let rest := ps.filter (·.1 ≠ w)
    if rest.any (·.1 == n) then (VRec.make v.committed rest, [p.2])
    else (VRec.make v.committed ((n, p.2) :: rest), [])

/-- A window merged into the one that follows (R67). -/
def Pkg.mergeWin (s : Pkg) (c w n : Nat) : Pkg :=
  let s := s.eachRecord c fun v => if v.pending.any fun p => p.1 == w then some (v.merge w n) else none
  (s.bump Reg.deferCount).updCtx c fun x => { x with
    defers := x.defers + 1
    closed := x.closed.filter (·.1 ≠ w)
    ledger := x.ledger.foldl (fun (acc : List LedgerCount) l =>
      let l := if l.window = w then { l with window := n } else l
      if acc.any fun m => m.window == l.window && m.tensor == l.tensor && m.step == l.step then
        acc.map fun m => if m.window = l.window ∧ m.tensor = l.tensor ∧ m.step = l.step then
          { m with format := l.format, elements := m.elements + l.elements, overflow := m.overflow + l.overflow,
                   vanish := m.vanish + l.vanish, shadow := m.shadow + l.shadow, nonfin := m.nonfin + l.nonfin,
                   recomputed := m.recomputed + l.recomputed, exhausted := m.exhausted + l.exhausted,
                   flagExh := m.flagExh || l.flagExh, flagStep := m.flagStep || l.flagStep, propose := l.propose
                   poison := m.poison || l.poison } else m
      else acc ++ [l]) [] }

/-! ### Voiding (R76 to R80) -/

/-- The pending frames of windows from `w` on discarded (R76). -/
def Pkg.dropFrames (s : Pkg) (c w : Nat) : Pkg :=
  (s.fillCtx c).eachRecord c fun v =>
    let gone := v.pending.filter fun p => decide (w ≤ p.1)
    if gone.isEmpty then none
    else some (VRec.make v.committed (v.pending.filter fun p => !decide (w ≤ p.1)), gone.map (·.2))

/-- The first stroke whose work a void from stroke `w` on discards: a window into which earlier ones were merged goes whole (R67, R76). -/
def Ctx.firstIn (x : Ctx) (w : Nat) : Nat := ((x.closed.map (·.1)).filter (· < w)).foldl max x.committed + 1

/-- The state of a context's uncommitted windows from `w` on discarded; what has committed stays: counters, flags, groups, epoch, ledger, statistics marks (R76, R156, R239). -/
def Pkg.dropWindows (s : Pkg) (c w : Nat) : Pkg :=
  let w := max w ((s.ctx c).committed + 1)
  let w0 := (s.ctx c).firstIn w
  let s := s.dropFrames c w
  let s := s.updCtx c fun x =>
    let kept := x.closed.filter fun y => !decide (w ≤ y.1)
    { x with
      closed := kept
      cur := ((kept.getLast?).map (·.2)).getD x.com
      stagedWrites := []
      ledger := x.ledger.filter fun l => !decide (w ≤ l.window) }
  let s := (s.ctxTasks c fun t => t.phase == .completed && decide (w0 ≤ t.window)).foldl (fun s k => s.statMarks k false) s
  (s.ctxTasks c fun t => t.phase == .running).foldl (fun s k => s.statMarks k false) s

/-- A re-sharding after a void from stroke `w` on (R410): its pulls restart, or its third void ends it. -/
def Pkg.reshardVoid (s : Pkg) (c w : Nat) : Pkg :=
  let r := (s.ctx c).reshard
  if r.phase ≠ .moving ∨ r.window < w then s
  else if r.voids + 1 ≥ 3 then
    ((s.bump Reg.reshardFailed).logWith Ev.reshardFailed Unit.controlDie (some c) Code.timeout false []).updCtx c fun x =>
      { x with reshard := { desc := r.desc, stroke := r.stroke, voids := r.voids + 1, error := Code.timeout } }
  else s.updCtx c fun x => { x with reshard := { r with phase := .holding, voids := r.voids + 1, toIssue := [], pulls := [] } }

/-- What a void of a context from stroke `w` on takes back (R76, R78, R79): its windows, its replayable tasks that run or completed in them, its transfers but those of tasks that run on; the work that a suspect under test has shown in them (R482); and the consecutive deferrals, which start anew. The non-replayable tasks that run are the ones that replay waits for. -/
def Pkg.voidRest (s : Pkg) (c w : Nat) : Pkg :=
  let w0 := (s.ctx c).firstIn w
  let s := (s.dropWindows c w).reshardVoid c w0
  let s := (s.ctxTasks c fun t => t.phase == .running && t.replayable).foldl (fun s k => (s.stopTask k).updTask k Task.rewind) s
  let s := (s.ctxTasks c fun t => t.phase == .completed && decide (w0 ≤ t.window) && t.replayable).foldl (fun s k => s.updTask k Task.rewind) s
  let keep := s.ctxTasks c fun t => t.phase == .running
  let s := s.dropTransfers fun x => x.ctx == c && !keep.contains x.task
  let tests := s.rst.tests.map fun (t : SuspectTest) => if t.current = some c then { t with worked := t.worked.filter (· < w0), idle := 0 } else t
  ({ s with rst := { s.rst with tests := tests } }.recount c).updCtx c fun x => { x with defers := 0, voidFrom := none, replayAfter := keep }

/-- A void of a context from stroke `w` on, its tag becoming `gen` (R76, R78, R79): its tasks are dispatched again from the dispatch window after the slot in which it is applied, the next slot where it is applied in none (DEDUCED, log entry 85). -/
def Pkg.voidTo (s : Pkg) (c w gen : Nat) : Pkg :=
  let s := s.voidRest c w
  let s := Pkg.freeRooms { s with fab := { s.fab with
    redSlots := s.fab.redSlots.filter fun r => r.ctx ≠ c || r.gen == gen
    redWait := s.fab.redWait.filter fun w => w.ctx ≠ c || w.gen == gen } }
  let s := (s.bump Reg.voidCount).logEv Ev.strokeVoided Unit.controlDie (some c) []
  let from_ := if s.stroke.inSlot then s.stroke.number else s.stroke.number + 1
  s.updCtx c fun x => { x with gen := gen, replayFrom := from_ }

/-- The first stroke of a context's uncommitted windows: at the latest the current one. -/
def Pkg.uncommitted (s : Pkg) (c : Nat) : Nat := min ((s.ctx c).committed + 1) s.stroke.number

/-- The first stroke that a void of a context may name (R77): past the windows that its package has voted to commit. -/
def Pkg.voidBase (s : Pkg) (c : Nat) : Nat :=
  let x := s.ctx c
  if !x.herdEn then s.uncommitted c
  else s.fab.votes.foldl (fun n v => if v.herd = x.herdId ∧ v.own = some true then max n (v.stroke + 1) else n) (s.uncommitted c)

def genNext (g : Nat) : Nat := (g + 1) % 65536

/-- The contexts of a herd on this package. -/
def Pkg.herdCtxs (s : Pkg) (h : Nat) : List Nat := (s.ctxs.filter fun x => x.2.phase != .free && x.2.herdEn && x.2.herdId == h).map (·.1)

/-- The neighbours of this package in a herd's vote tree (R379). -/
def Pkg.voteNeighbours (s : Pkg) (h : Nat) : List Nat :=
  match (s.activeMap h).bind s.axMap with
  | none => []
  | some m => (m.voteParent.toList.map (·.2)) ++ (m.voteKids.map (·.2))

def noteBytes (n : VoidNote) : Bytes := leBytes 2 n.herd ++ leBytes 6 n.stroke ++ leBytes 2 0 ++ leBytes 2 n.gen ++ leBytes 20 0

/-- A management packet to another package's control die (R351, R363). -/
def Pkg.sendMgmt (s : Pkg) (op dst : Nat) (payload : Bytes) : Pkg :=
  (s.inject { op := op, cls := 3, src := eidOf s.self 80, dst := eidOf dst 80 } payload).2

/-- A void notice sent to the vote-tree neighbours but one; each notice goes out once (R77). -/
def Pkg.sendVoid (s : Pkg) (n : VoidNote) (but : Option Nat) : Pkg :=
  if s.fab.voidSent.contains n then s
  else
    let s := { s with fab := { s.fab with voidSent := n :: s.fab.voidSent } }
    ((s.voteNeighbours n.herd).filter fun q => some q ≠ but).foldl (fun s q => s.sendMgmt opVOID q (noteBytes n)) s

/-- A void found on this package: the context's own, at once; for a herd context a notice goes out, which the herd's other contexts here follow in the next slot (R76, R77). -/
def Pkg.voidCtx (s : Pkg) (c w : Nat) : Pkg :=
  let x := s.ctx c
  let s := s.voidTo c w (genNext x.gen)
  if x.herdEn then
    let n : VoidNote := ⟨x.herdId, w, genNext x.gen⟩
    let s := { s with fab := { s.fab with voidNew := s.fab.voidNew ++ [(c, n)] } }
    s.sendVoid n none
  else s

end Sys2Proof.Machine
end

