-- ==== Sys2Proof/Machine/Reset.lean ====
section
/-! DEFINITION. Teardown, domain resets, the package reset, OUT_OF_SERVICE and the crash dump: what every fault and every commander shares (R471 to R474, R484 to R499, R658). -/

namespace Sys2Proof.Machine

def Reg.resetCfg : Nat := 0x100008
def Reg.dumpCfg : Nat := 0x100180
def Reg.dumpBase : Nat := 0x100188
def Reg.dumpSize : Nat := 0x100190
def Reg.domainResets : Nat := 0x100200
def Reg.packageResets : Nat := 0x100208
def Reg.hangsDetected : Nat := 0x100210
def Reg.suspectsTested : Nat := 0x100218
def Reg.convictions : Nat := 0x100220
def Reg.dumpsIgnored : Nat := 0x100240

/-- The value of a register whose reset value is not zero. -/
def Pkg.regOr (s : Pkg) (off : Nat) (d : Word) : Word := s.regs.get d off

def Pkg.resetCfg (s : Pkg) : Word := s.regOr Reg.resetCfg 0x3C040A0320
def Pkg.hangStrokes (s : Pkg) : Nat := fld s.resetCfg 7 4

/-! ### Teardown (R216, R491) -/

/-- A waiting ring entry of a closing context: a sketch fails as a whole, a slot entry takes no effect (R230, R236, R245). -/
def Pkg.closeRing (s : Pkg) (c : Nat) : Pkg :=
  let x := s.ctx c
  let e := x.ringEntry
  let s := s.updCtx c fun x => { x with ringHeld := .none, ringEntry := [], waitNoted := false }
  match x.ringHeld with
  | .none => s
  | .slotTasks => s.plainRec c Code.contextClosed 2 (le e 0 1)
  | .sketchSlots =>
    let q := sketchOf e x.sketchSeq
    let (tags, s) := s.readTags c e q.count
    s.sketchFail c q { code := Code.contextClosed, off := 0, str := 0 } tags []

/-- Task slots of a closing context that no record still to be written holds: those of tasks whose records are never written, and those that a summary never to be written would have freed (R233, R491 step 3). -/
def Pkg.dropDead (s : Pkg) (c : Nat) : Pkg :=
  let held := (s.ctx c).cqHeld.flatMap (·.slots)
  { s with tasks := s.tasks.filterV fun k t => !(t.ctx == c && (t.phase == .completed || (t.phase == .reported && !held.contains k))) }

/-- Teardown begun (R491 steps 1 to 3), which ends a re-sharding without error (R411): every task that ends has an event record of its code (R21). A herd member's notice names the first stroke that it has not voted to commit, and the herd's other contexts here follow it in the next slot (R77, R82). `code`: of the context record; `hung`: non-replayable tasks whose abort by a reset started it. -/
def Pkg.teardown (s : Pkg) (c code : Nat) (hung : List Nat) : Pkg :=
  let x := s.ctx c
  if x.phase ≠ .open then s
  else
    let w := s.uncommitted c
    let n : VoidNote := ⟨x.herdId, s.voidBase c, genNext x.gen⟩
    let waiting := s.byOrder (s.ctxTasks c fun t => t.phase == .waiting)
    let running := s.ctxTasks c fun t => t.phase == .running
    let s := s.updCtx c fun x => { x with phase := .closing, closeCode := code, teardown := .waiting 2, gen := n.gen }
    let s := running.foldl (fun s k => s.stopTask k) s
    let s := (waiting ++ running).foldl (fun s k =>
      (s.taskCode k (if hung.contains k then Code.hangReset else Code.contextClosed)).updTask k fun t => { t with atCompletion := true }) s
    let s := s.report c (waiting ++ running) true
    let s := s.closeRing c
    let s := (s.dropWindows c w).updCtx c fun x => { x with reshard := x.reshard.kept }
    let s := s.dropDead c
    let s := s.dropTransfers fun t => t.ctx == c
    let s := Pkg.freeRooms { s with fab := { s.fab with redSlots := s.fab.redSlots.filter (·.ctx ≠ c)
                                                        redWait := s.fab.redWait.filter (·.ctx ≠ c) } }
    if x.herdEn then { s with fab := { s.fab with voidNew := s.fab.voidNew ++ [(c, n)] } }.sendVoid n none else s

/-- The valid entries of a table of `n`. -/
def Pkg.entries (s : Pkg) (n table : Nat) : List Word := (List.range n).filterMap fun i => s.pte (table + 8 * i)

/-- The tables of the three upper levels under a root, and those of the last, which hold 32 entries (R594). -/
def Pkg.tables (s : Pkg) (root : Word) : List Nat × List Nat :=
  let sub (t : Nat) : List Nat := (s.entries 512 t).filterMap s.nextTable
  let t2 := sub (fld root 47 12 * 4096)
  let t3 := t2.flatMap sub
  (fld root 47 12 * 4096 :: (t2 ++ t3), t3.flatMap sub)

/-- The leaves that a context's tables map: entry, and whether of 2 MiB (R594). -/
def Pkg.leaves (s : Pkg) (root : Word) : List (Word × Bool) :=
  let (up, last) := s.tables root
  ((up.drop 1).flatMap fun t => ((s.entries 512 t).filter (bitAt · 1)).map (·, true)) ++
    last.flatMap fun t => ((s.entries 32 t).filter (bitAt · 1)).map (·, false)

/-- The granules of those tables. -/
def Pkg.tableReads (s : Pkg) (root : Word) : List Nat :=
  let (up, last) := s.tables root
  (up.flatMap fun t => unitsOf 256 t 4096) ++ last.flatMap fun t => unitsOf 256 t 256

/-- A device range filled with a repeated 64-bit pattern, with valid checks (R455); an armed MEM_INJECT acts as at any write (R464). -/
def Pkg.fill (s : Pkg) (a n : Nat) (pat : Word) : Pkg :=
  if s.memStopped then s else
  let gs := unitsOf 256 a n
  let m := (s.mem.cover gs).serve gs
  let m := { m with
      bytes := if pat = 0 then m.bytes.clear a (a + n) else
        m.bytes.writeN a ((List.range (n / 8)).flatMap fun _ => leBytes 8 pat.toNat)
      valid := m.valid.insAll gs, poison := m.poison.delAll gs, single := m.single.delAll gs, double := m.double.delAll gs }
  { s with mem := m.injected fun g => decide (a / 256 ≤ g ∧ 256 * g + 256 ≤ a + n) }

/-- The release zero-fill: every page that the tables map and do not mark as shared (R491 step 5). The tables and version records that it reads are accounted for (R448, R449); a record that breaks the rules of R595 names no frame. -/
def Pkg.zeroRelease (s : Pkg) (c : Nat) : Pkg :=
  let root := (s.ctx c).root
  (s.leaves root).foldl (fun s (e, big) =>
    if bitAt e 5 then s
    else if bitAt e 4 then
      (upto 0 8).foldl (fun s i =>
        let r := pteAddr e + 32 * i
        let s := s.touch 0 (unitsOf 256 r 32)
        if s.recordOk r then s.fill ((s.vrec r).committed * 0x40000) 0x40000 0 else s) s
    else s.fill (pteAddr e) (if big then 0x200000 else 0x10000) 0) (s.touch 0 (s.tableReads root))

/-- What a context owns released at the second boundary (R491 step 4, R298); packets of its flows that wait in the reorder store are dropped and counted (R372). -/
def Pkg.releaseOwned (s : Pkg) (c : Nat) : Pkg :=
  let s := (s.foldCommitted c).spillPurgeAll c
  let waits (f : RxFlow) : Nat := if f.ctx = c then f.early.length else 0
  let s := s.bumpBy Reg.genDrops ((s.fab.rxFlows.map waits).sum)
  let s := { s with
    slots := s.slots.filterV fun _ m => m.owner != c
    groups := s.groups.filterV fun _ g => !(g.isOpen && g.owner == c)
    cores := s.cores.mapV fun _ k => { k with
      tps := k.tps.filterV fun _ t => t.ctx != c, stats := k.stats.filter (·.ctx ≠ c), store := k.store.filter (·.ctx ≠ c)
      spillMarks := k.spillMarks.filter fun m => m.2.1 ≠ c }
    fab := { s.fab with
      rxFlows := s.fab.rxFlows.filter (·.ctx ≠ c), txFlows := s.fab.txFlows.filter (·.ctx ≠ c)
      versions := s.fab.versions.filter (·.ctx ≠ c), relays := s.fab.relays.filter (·.ctx ≠ c)
      seen := s.fab.seen.filter (·.ctx ≠ c) } }
  s.updCtx c fun x => { x with arrWin := [], arrDirect := [], adders := [], dirty := [], ledger := [], spills := [], cur := {}, com := {}, closed := [] }

/-- CONTEXT_RELEASED and the context record are written, and the context becomes free with the record's writing (R491 step 6, R492). -/
def Pkg.freeCtx (s : Pkg) (c : Nat) : Pkg :=
  let x := s.ctx c
  let s := s.logWith Ev.contextReleased Unit.controlDie (some c) x.closeCode false []
  (s.updCtx c fun x => { x with teardown := .record }).plainRec c x.closeCode 3 0

/-- CONTEXT_RELEASE (R491). -/
def Pkg.contextRelease (s : Pkg) (c : Nat) : Pkg :=
  let x := s.ctx c
  if x.phase = .closing ∧ x.teardown = .waiting 0 then
    let s := s.releaseOwned c
    if x.zeroFill then s.updCtx c fun x => { x with teardown := .filling } else s.freeCtx c
  else s

/-- RELEASE_ZERO_FILL_DONE (R491). -/
def Pkg.zeroFillDone (s : Pkg) (c : Nat) : Pkg :=
  if (s.ctx c).phase = .closing ∧ (s.ctx c).teardown = .filling then (s.zeroRelease c).freeCtx c else s

/-! ### The crash dump (R495 to R499) -/

/-- A dump begun: `part` a domain's unit code for a hang's dump, 0 for a whole one. A trigger while one runs is ignored (R495). -/
def Pkg.dumpStart (s : Pkg) (trigger unit : Nat) : Pkg :=
  let d := s.rst.dump
  if d.running.isSome then s.bump Reg.dumpsIgnored
  else { s with rst := { s.rst with dump := { d with
    running := some trigger, at_ := s.now, stroke := s.stroke.number, unit := unit, seq := s.log.nextSeq - 1, sections := [], bodies := [] } } }

/-! ### Domains (R471, R472) -/

/-- The domain that a unit code requests; none where the code names none or an absent unit (R471, R472). -/
def Pkg.domainOf (s : Pkg) (unit : Nat) : Option Nat :=
  let i := unit % 4096
  let ok (b : Bool) (u : Nat) : Option Nat := if b then some u else none
  match unit / 4096 with
  | 0 | 9 | 0xA => ok (i == 0) Unit.package
  | 1 => ok (decide (i < 16)) unit
  | 2 => ok (decide (i < 64)) unit
  | 3 => ok (s.corePresent i) unit
  | 4 => ok (s.corePresent (i / 8) && decide (i % 8 < 5)) (Unit.computeDie (i / 256))
  | 5 => ok (decide (i < 4)) unit
  | 6 => ok (decide (i < 32)) unit
  | 7 => if i = 0 then some Unit.package else ok (decide (i < 4)) unit
  | 8 => ok (s.portPresent i) unit
  | 0xC => ok (decide (i < 128)) (Unit.cluster (i / 2))
  | _ => none

/-- Whether domain `a` holds domain `b` (R471). -/
def domIn (a b : Nat) : Bool := a == Unit.package || inTree [a] b

/-- The cores of a domain. -/
def domCores (d : Nat) : List Nat := (List.range 512).filter fun c => domIn d (Unit.core c)
def domClusters (d : Nat) : List Nat := (List.range 64).filter fun c => domIn d (Unit.cluster c)
def domPorts (d : Nat) : List Nat := (List.range 24).filter fun n => domIn d (Unit.port n)
def domMemPorts (d : Nat) : List Nat := (List.range 32).filter fun n => domIn d (Unit.memPort n)

/-! ### OUT_OF_SERVICE (R485, R486) -/

/-- A port that leaves the up state otherwise than by failing (R340, R358, R418): one notice, and its traffic moves. -/
def Pkg.portDown (s : Pkg) (n state reason : Nat) : Pkg :=
  let p := s.port n
  let p' := { p with state := state, reason := reason }
  let s := s.setPort n p'
  if p.state = 4 then (s.notice 0x01 Code.timeout (Unit.port n) (p'.tail n reason)).evacuate n else s

/-- Whether the plan marks a port absent (R414). -/
def Pkg.planAbsent (s : Pkg) (n : Nat) : Bool := (le s.fab.plan (64 + 32 * n) 1).testBit 1

/-- Whether a port can train: it is present, it and the package are in service, and REFCLK_LINK runs (R485, R486, R541). -/
def Pkg.canTrain (s : Pkg) (n : Nat) : Bool := s.portPresent n && !s.unitOos (Unit.port n) && !s.rst.pkgOos && s.clk.present.mem 1

/-- A training attempt of a port begins (R342, R421, R427): its peer registers are cleared. -/
def Pkg.trainStart (s : Pkg) (n : Nat) : Pkg :=
  if !s.canTrain n then s
  else (s.portDown n 2 0).updPort n fun p => { p with
    listening := s.planAbsent n, trainFrom := s.now, identity := none, trained := false, check := 0 }

/-- An Easel operation's end: results and code written, the vector raised (R517). -/
def Pkg.easelEnd (s : Pkg) (code : Nat) (results : List Nat) : Pkg :=
  match s.easel.run with
  | none => s
  | some _ =>
    let s := { s with easel := { s.easel with run := none, code := code, results := (results ++ [0, 0, 0, 0]).take 4 } }
    let s := s.bump 0x010028
    let cfg := s.reg 0x010018
    if bitAt cfg 11 then s.raise (fld cfg 10 0) else s

/-- The tail of a notice of kinds 0x05 to 0x0C (R501): cause, count, context. -/
def causeTail (cause count ctx : Nat) : NoticeTail :=
  { port := cause % 256, state := count % 256, reason := ctx % 256, peerSerial := ctx / 256 % 256 }

/-- The 64 B of a notice of kinds 0x05 to 0x0C: the cause fields in place of the port fields (R422, R501). -/
def Pkg.causeNotice (s : Pkg) (kind code unit cause count ctx : Nat) : Bytes :=
  slice (s.noticeBytes kind code unit {}) 0 32 ++ leBytes 1 cause ++ leBytes 1 count ++ leBytes 2 ctx ++ leBytes 28 0

/-- Resets of a domain in its trailing window (R484). -/
def Pkg.resetCount (s : Pkg) (d : Nat) : Nat :=
  let w := fld s.resetCfg 21 16 * 60000000000
  ((s.rst.history.get [] d).filter fun t => decide (s.now ≤ t + w)).length

def Pkg.pkgResetCount (s : Pkg) : Nat :=
  let w := fld s.resetCfg 42 32 * 60000000000
  (s.rst.pkgHistory.filter fun t => decide (s.now ≤ t + w)).length

/-- The cause behind what happens to a unit (R472, R501): that of the reset that runs in its domain, the package reset's while bring-up runs; 0 where no reset led to it. -/
def Pkg.causeFor (s : Pkg) (unit : Nat) : Nat :=
  match s.rst.running.find? fun r => !r.fenced && domIn r.unit unit with
  | some r => r.cause
  | none => if s.power.step.isSome then s.rst.pkgCause else 0

/-- The package enters OUT_OF_SERVICE (R486). -/
def Pkg.enterOos (s : Pkg) (cause : Nat) : Pkg :=
  if s.rst.pkgOos then s
  else
    let s := { s with rst := { s.rst with pkgOos := true } }
    let s := s.logWith Code.outOfService Unit.package none Code.outOfService (s.noticeFree Unit.package 0x0A) []
    let s := s.noticeRaw 0x0A Unit.package Code.outOfService (s.causeNotice 0x0A Code.outOfService Unit.package cause (min 255 s.pkgResetCount) 0xFFFF)
    let s := (s.ctxs.filter fun x => x.2.phase == .open).foldl (fun s x => s.teardown x.1 Code.outOfService []) s
    let s := (List.range 24).foldl (fun s n => if (s.port n).state = 0 ∨ !s.portPresent n then s else s.portDown n 1 (s.port n).reason) s
    let s := match s.easel.run with
      | some r => if r.op = 8 then s else s.easelEnd Code.outOfService []
      | none => s
    let s := { s with power := { s.power with ready := false } }
    let s := s.emit (.pin 0 false)
    if bitAt (s.reg Reg.dumpCfg) 2 then s.dumpStart 6 Unit.package else s

/-- A domain out of service (R484, R485). -/
def Pkg.domainOos (s : Pkg) (d cause count : Nat) : Pkg :=
  let s := { s with rst := { s.rst with oos := s.rst.oos.ins d, tests := s.rst.tests.filter fun t => !domIn d t.unit } }
  let freed := ((s.ctxs.filter fun x => x.2.suspectHeld).map (·.1)).filter fun c =>
    !(s.rst.tests.any fun t => t.waiting.contains c || t.current == some c)
  let s := freed.foldl (fun s c => s.updCtx c fun x => { x with suspectHeld := false }) s
  let s := s.logWith Ev.domainOutOfService d none Code.outOfService (s.noticeFree d 0x08) []
  let s := s.noticeRaw 0x08 d Code.outOfService (s.causeNotice 0x08 Code.outOfService d cause count 0xFFFF)
  (domPorts d).foldl (fun s n => if s.portPresent n then s.portDown n 1 (s.port n).reason else s) s

/-! ### Resets (R471 to R474) -/

/-- The contents that a domain loses (R471, R474). The reset of a core or a cluster keeps the table slots, as R471 says, where R147 ends a slot at its core's reset: DEDUCED, log entry 104. -/
def Pkg.clearUnits (s : Pkg) (d : Nat) : Pkg :=
  let die := d / 4096 == 1
  let s := (domCores d).foldl (fun s c => if (s.cores.find c).isNone then s else s.updCore c fun x =>
    { ctr := x.ctr, spill := if die then none else x.spill
      tps := if die then [] else x.tps, stats := if die then [] else x.stats, spillMarks := if die then [] else x.spillMarks }) s
  (domClusters d).foldl (fun s c => if (s.clusters.find c).isNone then s else s.updCluster c fun x =>
    if die then { ctr := x.ctr } else { x with xfers := [], upe := {}, frameEv := [] }) s

/-- The tasks that run in a domain. -/
def Pkg.domTasks (s : Pkg) (d : Nat) : List Nat :=
  (s.tasks.filter fun t => t.2.phase == .running && domIn d (if t.2.update then Unit.cluster t.2.core else Unit.core t.2.core)).map (·.1)

/-- The work that a reset of a core, cluster or compute die takes with it: contexts of aborted non-replayable tasks end with HANG_RESET, the others' windows are voided and replayed (R474). -/
def Pkg.abortDomain (s : Pkg) (d : Nat) : Pkg :=
  let ks := s.domTasks d
  let hung := ks.filter fun k => !(s.task k).replayable
  let ends := (hung.map fun k => (s.task k).ctx).eraseDups
  let lost := s.clusters.vals.flatMap fun c => c.xfers.filter fun x => domIn d (Unit.cluster x.cluster) || domIn d (Unit.core x.core)
  let voids := ((ks.map fun k => (s.task k).ctx) ++ lost.map (·.ctx)).eraseDups.filter fun c => !ends.contains c
  let s := ends.foldl (fun s c => s.teardown c Code.hangReset (hung.filter fun k => (s.task k).ctx == c)) s
  let s := voids.foldl (fun s c => if (s.ctx c).phase = .open then s.voidCtx c (s.voidBase c) else s) s
  s.dropTransfers fun x => domIn d (Unit.cluster x.cluster) || domIn d (Unit.core x.core)

/-- What a domain's reset does when it begins (R471, R474). -/
def Pkg.resetEffect (s : Pkg) (d : Nat) : Pkg :=
  match d / 4096 with
  | 1 | 2 | 3 => ((s.abortDomain d).clearUnits d)
  | 5 =>
    let i := d % 4096
    let s := (s.ctxs.filter fun x => x.2.phase == .open).foldl (fun s x => s.voidCtx x.1 (s.voidBase x.1)) s
    Pkg.freeRooms { s with
      fab := { s.fab with
        redSlots := s.fab.redSlots.filter fun r => r.tile % 4 ≠ i
        redWait := s.fab.redWait.filter fun w => w.tile % 4 ≠ i
        rxFlows := s.fab.rxFlows.filter fun f => flowBucket f.dst f.src f.ctx f.gen f.cls % 4 ≠ i
        versions := [] }
      msys := { s.msys with ports := (upto (8 * i) 8).foldl (fun m n => m.upd {} n fun p => { p with state := 1 }) s.msys.ports } }
  | 6 => { s with msys := { s.msys with ports := s.msys.ports.upd {} (d % 4096) fun p => { p with state := 1 } } }
  | 7 | 8 => (domPorts d).foldl (fun s n => if s.portPresent n then s.portFail n 1 else s) s
  | _ => s

/-- DIE_RESETS counts (R650). -/
def Pkg.countDie (s : Pkg) (d : Nat) : Pkg :=
  let i := d % 4096
  let sat (n : Nat) : Nat := min (n + 1) 0xFFFF
  let put (die : Nat) (f : Nat × Nat × Nat → Nat × Nat × Nat) : Pkg :=
    { s with rst := { s.rst with dieResets := s.rst.dieResets.upd (0, 0, 0) die f } }
  match d / 4096 with
  | 1 => put i fun x => (sat x.1, x.2)
  | 2 => put (i / 4) fun x => (x.1, sat x.2.1, x.2.2)
  | 3 => put (i / 32) fun x => (x.1, x.2.1, sat x.2.2)
  | _ => s

/-- A domain reset begun: recorded, noticed, counted; inner resets are taken over, what follows their end with the outer one's, and a containing one merges it (R472, R473, R484). -/
def Pkg.resetDomain (s : Pkg) (d cause ctx : Nat) : Pkg :=
  if s.rst.running.any fun r => domIn r.unit d && !r.fenced then s
  else
    let inner := (s.rst.running.filter fun r => domIn d r.unit).flatMap fun r => r.unit :: r.inner
    let s := { s with rst := { s.rst with
      running := { unit := d, cause := cause, ctx := ctx, inner := inner.eraseDups.filter (· ≠ d) } :: s.rst.running.filter fun r => !domIn d r.unit
      history := s.rst.history.upd [] d (s.now :: ·), lastUnit := d, lastCause := cause } }
    let n := min 255 (s.resetCount d)
    let s := (s.bump Reg.domainResets).countDie d
    let s := s.logWith Ev.domainReset d (if ctx < 4096 then some ctx else none) 0 (s.noticeFree d 0x05)
      (leBytes 1 cause ++ leBytes 1 n ++ leBytes 2 ctx)
    let s := s.noticeRaw 0x05 d 0 (s.causeNotice 0x05 0 d cause n ctx)
    s.resetEffect d

/-! ### The package reset (R471, R474, R620, R658) -/

/-- The registers that a package reset keeps: DUMP_CFG and the count of package resets (R500). -/
def stickyRegs (t : Tbl Word) : Tbl Word := t.filterV fun k _ => k == Reg.dumpCfg || k == Reg.packageResets

/-- The slot marked for the next bring-up, where a package reset ends what was being written: the inactive slot is unmarked unless its write had completed (R522, R526). -/
def Pkg.markKept (s : Pkg) : Nat :=
  let loading := match s.easel.run with
    | some r => r.op == 1 && !r.waits
    | none => false
  if loading || s.side.fw then s.sec.slot % 2 else s.sec.mark

/-- Everything a package reset sets back, and what it keeps: the log, the retained dump and a dump that runs, the escalation state, package time, the meter, flash and fuses (R471, R498); the regulators hold their setpoints (R619). The mirror is stale until the first snapshot after the reset (R585). -/
def Pkg.cleared (s : Pkg) : Pkg :=
  { fuses := s.fuses, now := s.now, out := s.out, regs := stickyRegs s.regs
    stroke := { freeNo := s.stroke.freeNo }
    log := s.log, meter := s.meter
    power := { s.power with step := none, ready := false, risen := false, warned := [], alert := false, resetSince := true, hold10 := false }
    clk := { present := s.clk.present, setpoint := s.clk.setpoint, reached := s.clk.reached }
    rst := { history := s.rst.history, pkgHistory := s.rst.pkgHistory, pkgOos := s.rst.pkgOos, oosDue := s.rst.oosDue, pkgCause := s.rst.pkgCause, dump := { s.rst.dump with begins := none } }
    mirror := { lastAt := s.mirror.lastAt, history := s.mirror.history, used := s.mirror.used, stale := true }
    sec := { flash := s.sec.flash, mark := s.markKept, nonceNo := s.sec.nonceNo + 1 } }

/-- PACKAGE_RESET's notice bytes (R501). -/
def Pkg.resetNotice (s : Pkg) : Bytes := s.causeNotice 0x09 0 Unit.package s.rst.pkgCause (min 255 s.pkgResetCount) 0xFFFF

/-- The codes of R19 that report a failure. -/
def failureCodes : List Nat :=
  [0x10, 0x11, 0x12, 0x13, 0x20, 0x21, 0x30, 0x31, 0x32, 0x33, 0x40, 0x41, 0x42, 0x43, 0x50, 0x51, 0x52, 0x60, 0x61]

/-- The status code of a failed step whose code no rule gives: a free one of R19's (log entry 10). -/
def stepCode (n : Nat) : Nat := failureCodes.getD (Config.stepChoice n % failureCodes.length) 0x61

/-- A failed step stops bring-up (R556). -/
def Pkg.stepFail (s : Pkg) (n code unit : Nat) : Pkg :=
  let s := { s with power := { s.power with step := none, waiting := false, failStep := n, failCode := code, stopped := true } }
  let s := s.logWith Ev.bringupFailed unit none code false (leBytes 1 n ++ leBytes 1 code ++ leBytes 2 unit)
  if s.power.resetSince then ({ s with power := { s.power with resetSince := false } }).sideNotice s.resetNotice else s

/-- Bring-up begins at step 2 where nothing holds it, and samples the straps (R471, R531, R536, R622, R623); with THERM_TRIP_N asserted step 1 fails (R538, R555). BRINGUP_STATUS is sticky (R16, R553). -/
def Pkg.beginBringup (s : Pkg) : Pkg :=
  if s.power.pwrGood && s.power.trip then s.stepFail 1 (stepCode 1) Unit.package
  else if s.power.pwrGood && !s.power.perst && !s.power.supplyHold && !s.power.halted then
    { s with power := { s.power with
      step := some 2, waiting := false, from_ := s.now, stopped := false, shadow := none
      bootSrc := s.power.strapPins % 4, pkgPos := s.power.strapPins / 16 % 8 } }
  else { s with power := { s.power with waiting := true, stopped := false } }

/-- Bring-up that waits begins where nothing holds it any longer. -/
def Pkg.resumeBringup (s : Pkg) : Pkg := if s.power.waiting then s.beginBringup else s

/-- The package reset itself. From a failed step of bring-up, only the sideband's starts it again (R556). -/
def Pkg.resetNow (s : Pkg) (cause ctx : Nat) : Pkg :=
  let s := { s with rst := { s.rst with pkgHistory := s.now :: s.rst.pkgHistory, pkgCause := cause } }
  let n := min 255 s.pkgResetCount
  let s := s.bump Reg.packageResets
  let s := s.logWith Ev.packageReset Unit.package (if ctx < 4096 then some ctx else none) 0 true (leBytes 1 cause ++ leBytes 1 n ++ leBytes 2 ctx)
  let limit := fld s.resetCfg 27 24
  let s := s.logEv Ev.debugLocked Unit.controlDie none []
  let s := (s.cleared.emit (.pin 0 false)).emit (.pin 1 false)
  let s : Pkg := if n ≥ limit then { s with rst := { s.rst with oosDue := true } } else s
  if s.power.stopped = true ∧ cause ≠ 2 then s else s.beginBringup

/-- A package reset requested (R472, R494, R495): one that the host did not command waits for a dump where DUMP_CFG asks for it. -/
def Pkg.packageReset (s : Pkg) (cause ctx : Nat) : Pkg :=
  if cause ≠ 1 ∧ bitAt (s.reg Reg.dumpCfg) 1 then
    let busy := s.rst.dump.running.isSome
    let s := s.dumpStart 5 Unit.package
    if busy then s.resetNow cause ctx
    else { s with rst := { s.rst with dump := { s.rst.dump with begins := some (cause, ctx) } } }
  else s.resetNow cause ctx

/-! ### Requests and fences (R472, R489) -/

/-- Whether a domain is preceded by a fence in compatibility mode. -/
def domFences (d : Nat) : Bool := decide (1 ≤ d / 4096 ∧ d / 4096 ≤ 7)

/-- A fence asserted (R489). -/
def Pkg.fence (s : Pkg) (d : Nat) : Pkg :=
  ({ s with rst := { s.rst with fences := s.rst.fences.ins d } }).logEv Ev.fenceAsserted d none []

/-- A reset by any route: a domain in compatibility mode is fenced first. -/
def Pkg.resetUnit (s : Pkg) (d cause ctx : Nat) : Pkg :=
  if d = Unit.package then s.packageReset cause ctx
  else if bitAt s.resetCfg 0 && domFences d then
    if s.rst.running.any fun r => domIn r.unit d then s
    else
      let s := s.fence d
      { s with rst := { s.rst with running := s.rst.running ++ [{ unit := d, cause := cause, ctx := ctx, fenced := true }] } }
  else s.resetDomain d cause ctx

/-- A commanded reset (R472): refused where the domain is out of service; `bad`: what a code that names none comes to. -/
def Pkg.resetRequest (s : Pkg) (unit cause : Nat) (bad : Pkg → Pkg) : Pkg :=
  match s.domainOf unit with
  | none => bad s
  | some d =>
    if d ≠ Unit.package ∧ s.unitOos d then { s with rst := { s.rst with refused := Code.outOfService } }
    else s.resetUnit d cause 0xFFFF

/-- The next suspect of a test that is still open released, or the test ended (R482). -/
def Pkg.nextSuspect (s : Pkg) (unit : Nat) : Pkg :=
  match s.rst.tests.find? (·.unit == unit) with
  | none => s
  | some t =>
    match t.waiting.filter fun c => (s.ctx c).phase == .open with
    | [] => { s with rst := { s.rst with tests := s.rst.tests.filter (·.unit ≠ unit) } }
    | c :: cs =>
      let u : SuspectTest := { unit := unit, waiting := cs, current := some c }
      let tests := s.rst.tests.map fun (x : SuspectTest) => if x.unit = unit then u else x
      let s := { s with rst := { s.rst with tests := tests } }
      (s.updCtx c fun x => { x with suspectHeld := false }).bump Reg.suspectsTested

/-- What the end of a domain's reset brings (R482, R484, R489): the fence lifts; the escalation count is checked; where a test waits for its first suspect, or its suspect has been convicted, the next one is released. -/
def Pkg.resetOver (s : Pkg) (cause d : Nat) : Pkg :=
  let s := { s with rst := { s.rst with fences := s.rst.fences.del d } }
  let n := s.resetCount d
  let full := decide (n ≥ fld s.resetCfg 11 8) && !s.rst.oos.mem d
  let memory := d / 4096 == 5 || d / 4096 == 6
  let tested := (s.rst.tests.find? (·.unit == d)).bind (·.current)
  if full && memory then s.enterOos cause
  else if full then s.domainOos d cause n
  else match tested with
    | some c => if (s.ctx c).phase = .open then s else s.nextSuspect d
    | none => s.nextSuspect d

/-- DOMAIN_RESET_DONE (R471, R473): units are back, ports train, and the reset's outcome and those of the resets that it took over take effect. -/
def Pkg.resetDone (s : Pkg) (d : Nat) : Pkg :=
  match s.rst.running.find? fun r => r.unit == d && !r.fenced with
  | none => s
  | some r =>
    let s := { s with
      rst := { s.rst with running := s.rst.running.filter (· ≠ r) }
      msys := { s.msys with ports := (domMemPorts d).foldl (fun m n => m.upd {} n fun p =>
        { p with state := 2, lastAt := s.now, tempAt := p.temp, abandoned := 0 }) s.msys.ports } }
    let s := if d / 4096 = 1 then { s with clk := { s.clk with core := s.clk.core.upd {} (d % 4096) fun x =>
      { x with stopped := false, phase := .idle, held := none } } } else s
    let s := (d :: r.inner).foldl (fun s u => s.resetOver r.cause u) s
    (domPorts d).foldl (fun s n => s.trainStart n) s

end Sys2Proof.Machine
end

