-- ==== Sys2Proof/Machine/Eir.lean ====
section
/-! DEFINITION. The exact integer reduction: frames contributed, tiles combined, decided, redone, exhausted and completed (R316 to R327). -/

namespace Sys2Proof.Machine

def Reg.eirCompleted : Nat := 0x050180
def Reg.eirRedone : Nat := 0x050188
def Reg.eirRounds : Nat := 0x050190
def Reg.eirExhausted : Nat := 0x050198
def Reg.eirNonfinite : Nat := 0x0501A0
def Reg.eirStale : Nat := 0x0501A8
def Reg.eirSlotWaits : Nat := 0x0501B0
def Reg.eirCountErrors : Nat := 0x0501B8

/-- The name of a tile of a reduction (R319), its attempt apart. `step`: the low 12 bits of the step, which every packet of the tile carries (R351); no two steps that share them are in work at once, since a transfer lives two boundaries at most (R81). -/
structure TileKey where
  ctx : Nat
  gen : Nat
  tensor : Nat
  tile : Nat
  step : Nat
  deriving DecidableEq, Repr

def RedSlot.key (r : RedSlot) : TileKey := ⟨r.ctx, r.gen, r.tensor, r.tile, r.step % 4096⟩
def TileSeen.key (r : TileSeen) : TileKey := ⟨r.ctx, r.gen, r.tensor, r.tile, r.step % 4096⟩
def Xfer.tileKey (x : Xfer) : TileKey := ⟨x.ctx, x.gen, x.tensor.id, x.tile, x.step % 4096⟩

/-- What a tile carries (R318): step, offset, attempt, values, bound word, mask, contributions. -/
structure TileMsg where
  step : Nat := 0
  t : Nat := 0
  attempt : Nat := 0
  q : List Nat := []
  bound : Nat := 0
  nonfin : Bool := false
  mask : List Nat := []
  count : Nat := 0
  deriving DecidableEq, Repr

/-- The bound word (R315). -/
def TileMsg.word (m : TileMsg) : Nat := m.bound % 2 ^ 62 + (if m.nonfin then 2 ^ 63 else 0)

/-! ### Frames of a transfer (R312, R316, R323) -/

/-- The unit addresses of a REDUCE's frame. -/
def Xfer.frameUnits (x : Xfer) : List Nat :=
  (upto x.frame 133).map fun i => (x.ag.at (x.ag.pos + i)).addr x.agOff

def Pkg.frameBytesOf (s : Pkg) (x : Xfer) : Bytes := x.frameUnits.flatMap fun a => s.lRead x.core a 64

/-- Whether a unit of the frame reads as poisoned (R452). -/
def Pkg.frameBad (s : Pkg) (x : Xfer) (i : Nat) : Bool := s.lPoison x.core (x.frameUnits.getD i 0) 64

/-- The frame with its poisoned units read as zero bytes, the descriptor apart (R452). -/
def Pkg.frameClean (s : Pkg) (x : Xfer) : Bytes :=
  let b := s.frameBytesOf x
  slice b 0 64 ++ (upto 1 132).flatMap fun i => if s.frameBad x i then List.replicate 64 0 else slice b (64 * i) 64

/-- The frame's elements: q, r and mask code. -/
def frameElems (b : Bytes) : List (Nat × Nat × Nat) :=
  let q := unpack 32 1024 (slice b 64 4096)
  let r := unpack 32 1024 (slice b 4160 4096)
  let m := unpack 2 1024 (slice b 8256 256)
  (q.zip (r.zip m))

/-- What a frame contributes, and how many of the units that it is read from are poisoned (R452): those of q as NaN elements with q = 0, those of the mask as zero bytes. DESIGN CHOICE, log entry 124: a frame whose descriptor reads as poisoned contributes zeros, as one never written does, at the offset and attempt that the engine keeps for it. -/
def Pkg.frameMsg (s : Pkg) (x : Xfer) : TileMsg × Nat :=
  let h := FrameHdr.ofBytes (s.frameBytesOf x)
  let bad := (List.range 64).filter fun i => s.frameBad x (1 + i)
  let n := bad.length + ((0 :: upto 129 4).filter (s.frameBad x)).length
  if s.frameBad x 0 then ({ step := x.step, t := h.t, attempt := h.attempt, count := 1 }, n)
  else
    let es := (frameElems (s.frameClean x)).zipIdx.map fun ((q, _, m), i) => if bad.contains (i / 16) then (0, 3) else (q, m)
    ({ step := x.step, t := h.t, attempt := h.attempt, q := es.map (·.1), bound := h.bound % 2 ^ 62,
       nonfin := decide (h.bound ≥ 2 ^ 63) || !bad.isEmpty, mask := es.map (·.2), count := 1 }, n)

/-- One byte of a frame's descriptor written. -/
def Pkg.frameByte (s : Pkg) (x : Xfer) (o v : Nat) : Pkg :=
  s.lWrite x.core { slot := 8, addr := x.frameUnits.getD 0 0 + o, data := [BitVec.ofNat 8 v] }

/-- The rounding of a retained value at an offset (R323). -/
def redoElem (s : Pkg) (h : FrameHdr) (t i r m : Nat) : Conv :=
  if m ≠ 0 then ⟨0, {}, false, false, true⟩
  else
    let rm := (Rm.ofCode true h.rmode).getD .sr
    let u := srU (s.ctx h.ctx).seed.toNat h.step h.tensor h.stream (h.index0 + i / 32 * h.pitch + i % 32)
    fmtConv 0xE rm true u ((fp32.decode r).scale (-(t : Int)))

/-- The frame rewritten at a new offset and attempt (R323); the conversions' flags are the issuing task's (R105). The elements of a poisoned unit of retained values take no part: their q is written as poison, which the contribution then meets (R452). -/
def Pkg.redoFrame (s : Pkg) (x : Xfer) (t attempt : Nat) : Pkg :=
  let us := x.frameUnits
  let h := FrameHdr.ofBytes (s.frameBytesOf x)
  let es := (frameElems (s.frameClean x)).zipIdx.map fun ((_, r, m), i) =>
    let m := if s.frameBad x (65 + i / 16) then 3 else m
    (redoElem s h t i r m, r, m)
  let fin := es.filterMap fun e => if e.2.2 = 0 then some ((fp32.decode e.2.1).scale (-(t : Int))) else none
  let h' : FrameHdr := { h with t := t, attempt := attempt, bound := contribBound fin + (if h.bound ≥ 2 ^ 63 then 2 ^ 63 else 0) }
  let s := s.taskFlags x.task (es.foldl (fun fl e => fl.or e.1.fl) {})
  let s := s.lWrite x.core { slot := 8, addr := us.getD 0 0, data := h'.bytes, poison := s.frameBad x 0 }
  (chunk 64 16 es).zipIdx.foldl (fun s (c, i) =>
    s.lWrite x.core { slot := 8, addr := us.getD (1 + i) 0, data := c.flatMap fun e => leBytes 4 e.1.bits,
                      poison := s.frameBad x (65 + i) }) s

/-! ### Trees -/

/-- The map that a tile's reduction runs on: that of this package's own transfer, else the active map of the context's herd (R317, R375). -/
def Pkg.redMap (s : Pkg) (k : TileKey) : Option AxMap :=
  match s.clusters.vals.findSome? fun c => c.xfers.find? fun x => x.kind == .reduce && x.tileKey == k with
  | some x => x.map.bind s.axMap
  | none => if (s.ctx k.ctx).herdEn then (s.activeMap (s.ctx k.ctx).herdId).bind s.axMap else none

/-- This package's own transfer for a tile. -/
def Pkg.redXfer (s : Pkg) (k : TileKey) : Option Xfer :=
  s.clusters.vals.findSome? fun c => c.xfers.find? fun x => x.kind == .reduce && x.sent && x.tileKey == k

/-! ### Packets of a tile (R318, R351, R363) -/

/-- The header fields that name a tile's packet. -/
def Pkg.eirHd (s : Pkg) (k : TileKey) (op piece attempt srcEp dstPkg : Nat) : Hd :=
  { op := op, cls := 2, src := eidOf s.self srcEp, dst := eidOf dstPkg (64 + k.tile % 4), ctx := k.ctx, gen := k.gen,
    layout := (s.ctx k.ctx).cur.epoch, addr := (k.tensor % 2 ^ 32) * 65536 + k.tile % 65536, ext := k.tile / 65536 % 65536,
    aux := piece + (attempt % 256) * 16 + k.step % 4096 * 4096 }

/-- A tail's payload (R318). -/
def tailBytes (k : TileKey) (m : TileMsg) : Bytes :=
  leBytes 8 m.word ++ leBytes 4 k.tile ++ leBytes 4 k.tensor ++ leBytes 8 m.step ++ leBytes 1 m.t ++ leBytes 1 m.attempt ++
  leBytes 2 m.count ++ leBytes 4 0 ++ (if m.nonfin then packBytes 2 m.mask else [])

/-- A reduction's packet sent: a contribution is waited for by this package's own transfer of the tile, so that a refusal of it reaches the task (R384). -/
def Pkg.eirSend (s : Pkg) (k : TileKey) (final : Bool) (h : Hd) (b : Bytes) : Pkg :=
  match if final then none else s.redXfer k with
  | some x => s.injectTracked x.key h b
  | none => (s.inject h b).2

/-- A tile sent as nine packets to the next member. -/
def Pkg.sendTile (s : Pkg) (k : TileKey) (m : TileMsg) (final : Bool) (srcEp dstPkg : Nat) : Pkg :=
  let od := if final then opEIRFDATA else opEIRDATA
  let ot := if final then opEIRFTAIL else opEIRTAIL
  let s := (chunk 8 128 m.q).zipIdx.foldl (fun s (c, j) =>
    s.eirSend k final (s.eirHd k od j m.attempt srcEp dstPkg) (packBytes 32 c)) s
  s.eirSend k final (s.eirHd k ot 8 m.attempt srcEp dstPkg) (tailBytes k m)

/-- A redo notice sent (R322, R351). -/
def Pkg.sendRedo (s : Pkg) (k : TileKey) (step t attempt dstPkg : Nat) : Pkg :=
  (s.inject (s.eirHd k opEIRREDO 8 attempt (64 + k.tile % 4) dstPkg)
    (leBytes 8 0 ++ leBytes 4 k.tile ++ leBytes 4 k.tensor ++ leBytes 8 step ++ leBytes 1 t ++ leBytes 1 attempt ++ leBytes 6 0)).2

/-! ### Attempts and slots (R319, R320, R323) -/

/-- Whether a note of an attempt may still be of a reduction in work: no packet outlives the second boundary after its stroke (R81). -/
def Pkg.seenLive (s : Pkg) (e : TileSeen) : Bool := decide (s.stroke.number ≤ e.stroke + 2)

/-- The attempt that the package has seen of a tile. -/
def Pkg.attemptSeen (s : Pkg) (k : TileKey) : Nat :=
  ((s.fab.seen.find? fun e => e.key == k && s.seenLive e).map (·.attempt)).getD 0

/-- A tile's attempt noted: slots of lower attempts are freed. -/
def Pkg.noteAttempt (s : Pkg) (k : TileKey) (a : Nat) : Pkg :=
  let f := s.fab
  let e : TileSeen := ⟨k.ctx, k.gen, k.tensor, k.tile, k.step, max a (s.attemptSeen k), s.stroke.number⟩
  let seen := (f.seen.filter fun x => s.seenLive x && x.key != k) ++ [e]
  { s with fab := { f with seen := seen, redSlots := f.redSlots.filter fun r => !(r.key == k && decide (r.attempt < a)) } }

def Pkg.redSlot (s : Pkg) (k : TileKey) (a : Nat) : Option RedSlot := s.fab.redSlots.find? fun r => r.key == k && r.attempt == a

/-- Whether a tile's attempt has a slot, or one is free for it in its memory die (R320, R436). -/
def Pkg.slotFree (s : Pkg) (k : TileKey) (a : Nat) : Bool :=
  (s.redSlot k a).isSome || decide ((s.fab.redSlots.filter fun r => r.tile % 4 == k.tile % 4).length < 4096)

/-- A slot's record changed, or made. -/
def Pkg.updSlot (s : Pkg) (k : TileKey) (a : Nat) (f : RedSlot → RedSlot) : Pkg :=
  let rs := s.fab.redSlots
  let new : RedSlot := { ctx := k.ctx, gen := k.gen, tensor := k.tensor, tile := k.tile, step := k.step, attempt := a }
  let rs' := if rs.any fun r => r.key == k && r.attempt == a then rs.map fun r => if r.key = k ∧ r.attempt = a then f r else r
    else rs ++ [f new]
  { s with fab := { s.fab with redSlots := rs' } }

def Pkg.freeSlot (s : Pkg) (k : TileKey) (a : Nat) : Pkg :=
  { s with fab := { s.fab with redSlots := s.fab.redSlots.filter fun r => !(r.key == k && r.attempt == a) } }

/-- A tile combined into a slot (R319): wrapping sums, OR of masks, exact sum of bounds. -/
def RedSlot.merge (r : RedSlot) (m : TileMsg) : RedSlot :=
  let q := m.q.zipIdx.foldl (fun (q : Tbl (BitVec 32)) (v, i) => if v = 0 then q else q.set i (q.get 0 i + BitVec.ofNat 32 v)) r.q
  let mk := m.mask.zipIdx.foldl (fun (k : Tbl Nat) (v, i) => if v = 0 then k else k.set i (k.get 0 i ||| v)) r.mask
  { r with step := m.step, known := true, t := m.t, q := q, bound := r.bound + m.bound, nonfin := r.nonfin || m.nonfin, mask := mk, count := r.count + m.count }

/-- Whether an element of a slot reads as poisoned: a word of its unit of q is, or the word of its mask code, or one of the header (R451, R452, R457). -/
def RedSlot.bad (r : RedSlot) (i : Nat) : Bool :=
  r.poison.any fun w => w / 8 == i / 16 || w == 512 + i / 32 || decide (544 ≤ w)

/-- The combined tile of a slot: an element that reads as poisoned goes on as NaN (R452). -/
def RedSlot.msg (r : RedSlot) : TileMsg :=
  { step := r.step, t := r.t, attempt := r.attempt, q := (List.range 1024).map fun i => if r.bad i then 0 else (r.q.get 0 i).toNat, bound := r.bound,
    nonfin := r.nonfin || !r.poison.isEmpty, mask := (List.range 1024).map fun i => if r.bad i then 3 else r.mask.get 0 i, count := r.count }

/-- What a slot's result reads of it accounted for where it is poisoned: the units of q are counted, and the task of this package's contribution has read poison (R452). -/
def Pkg.slotPoison (s : Pkg) (r : RedSlot) : Pkg :=
  if r.poison.isEmpty then s
  else
    let s := s.bumpBy Reg.poisonZeroed ((List.range 64).filter fun u => r.bad (16 * u)).length
    if r.own then s.taskCode r.task Code.poisonedInput else s

/-! ### Completion on a member (R325, R327) -/

/-- The ledger's counts of an own frame at its final attempt (R327). -/
def Pkg.frameLedger (s : Pkg) (x : Xfer) (m : TileMsg) (exhausted flagged : Bool) : Pkg :=
  let b := s.frameBytesOf x
  let h := FrameHdr.ofBytes b
  let es := (frameElems b).zipIdx
  let (ov, va) :=
    if h.attempt = 0 then (s.cluster (clusterOf x.core)).frameEv.get (0, 0) (x.frameUnits.getD 0 0 - clusterBase)
    else
      let cs := es.map fun ((_, r, k), i) => redoElem s h h.t i r k
      ((cs.filter fun c => c.ovf).length, (cs.filter fun c => c.vanish).length)
  let nf := (es.filter fun e => e.1.2.2 ≠ 0).length
  s.ledgerAdd x.ctx x.tensor.id x.step 0xE fun l => { l with
    elements := l.elements + 1024, overflow := l.overflow + ov, vanish := l.vanish + va, nonfin := l.nonfin + nf
    recomputed := l.recomputed + (if m.attempt > 0 then 1 else 0)
    exhausted := l.exhausted + exhausted.toNat, flagExh := l.flagExh || exhausted, flagStep := l.flagStep || flagged }

/-- The tile's completion noted in its digest entry (R332). -/
def Pkg.digestTile (s : Pkg) (k : TileKey) (step total : Nat) : Pkg :=
  { s with fab := { s.fab with digests := s.fab.digests.mapV fun _ e =>
      if e.ctx = k.ctx ∧ e.tensor = k.tensor ∧ e.gen = k.gen ∧ (if e.known then e.step = step else e.step % 4096 = k.step) then
        { e with tiles := e.tiles + 1, complete := e.complete || decide (e.tiles + 1 ≥ total) }
      else e } }

/-- A final tile taken by this package (R324, R325): all that completes it here. Its rows are the issuing task's writes and count in the arrival windows that they touch (R239); a faulting one is discarded and faults the task (R596). -/
def Pkg.completeTile (s : Pkg) (k : TileKey) (m : TileMsg) (exhausted : Bool) : Pkg :=
  match s.redXfer k with
  | none => s
  | some x =>
    let t := x.tensor
    let c := k.ctx
    let unit := Unit.clusterEngine x.cluster 0
    let wr (s : Pkg) (va : Nat) (bs : Bytes) : Pkg := s.under c x.old fun s =>
      let r := s.vWriteAs { task := some (x.task, unit), arrives := true } c va bs false
      if r.2.1 then r.1.taskFault x.task unit else r.1
    let s := (chunk 32 32 m.q).zipIdx.foldl (fun s (r, i) => wr s (t.tileRow k.tile i) (packBytes 32 r)) s
    let s := wr s (t.offsetAddr + k.tile) [BitVec.ofNat 8 m.t]
    let s := wr s (t.boundArr + 8 * k.tile) (leBytes 8 m.word)
    let s := if m.nonfin then wr s (t.maskArr + 256 * k.tile) (packBytes 2 m.mask) else s
    let s := s.frameLedger x m exhausted m.nonfin
    let s := s.frameByte x 41 3
    let s := if t.auto then
        (match (Num.fin false m.bound m.t).mul t.scaleNum with
          | (.fin _ a e, _) => if a = 0 then s.recordMax none c t x.step 0 else s.recordMax none c t x.step (magF32 (a, e))
          | _ => s)
      else s
    let s := if m.nonfin then
        let s := s.raiseFlag none c x.step true
        if (s.ctx c).guarded x.step && t.auto then s.recordMax none c t x.step (magF32 t.backoff) else s
      else s
    let s := s.bump Reg.eirCompleted
    let s := if m.attempt > 0 then s.bump Reg.eirRedone else s
    let s := if m.nonfin then s.bump Reg.eirNonfinite else s
    let s := if exhausted then
        (s.bump Reg.eirExhausted).taskEvent x.task Ev.eirTileExhausted unit 0 []
      else s
    ((s.freeSlot k m.attempt).dropXfer x.key).digestTile k x.step (t.tileCount / max 1 t.shards)

/-- Whether a final tile of a group of `g` is that of an exhausted reduction (R324): every value 0, every mask code 11, and a bound or a count that no accepted tile has. -/
def TileMsg.isExhausted (m : TileMsg) (g : Nat) : Bool :=
  m.nonfin && (m.mask.all (· == 3)) && m.q.all (· == 0) && (decide (m.bound ≥ 2 ^ 31) || decide (m.count > g))

/-! ### The home's decision (R322, R324) -/

/-- The smallest even shift from `sh` up that R322 takes, by fuel. -/
def evenShift (b : Nat) : Nat → Nat → Nat
  | 0, sh => sh
  | n + 1, sh => if sh < 62 ∧ b > 2 ^ (30 + sh) then evenShift b n (sh + 2) else sh

/-- eir_decide (R322): the shift for the next attempt, 0 to accept, none if exhausted. -/
def eirDecide (b t : Nat) : Option Nat :=
  if b < 2 ^ 31 then some 0
  else if t ≥ 63 then none
  else
    let sh := evenShift b 40 2
    some (if t + sh > 63 then 63 - t else sh)

/-- A final tile sent along the distribution paths and taken here (R325). -/
def Pkg.distribute (s : Pkg) (k : TileKey) (m : TileMsg) (exhausted : Bool) : Pkg :=
  let (pos, _) := redTree (s.redMap k) k.tile
  let s := pos.kids.foldl (fun s q => s.sendTile k m true (64 + k.tile % 4) q) s
  (s.freeSlot k m.attempt).completeTile k m exhausted

/-- The exhausted final tile of an attempt (R324). -/
def exhaustedMsg (m : TileMsg) : TileMsg :=
  { m with q := List.replicate 1024 0, mask := List.replicate 1024 3, nonfin := true }

/-- A contribution's tile combined into a slot: the memory-side adders sum its 1,024 values in 64 sectors (R319, R320, R463; DESIGN CHOICE, log entry 120: the first contribution of a slot counts too). -/
def Pkg.combine (s : Pkg) (k : TileKey) (a : Nat) (m : TileMsg) (f : RedSlot → RedSlot) : Pkg :=
  (s.bumpBy Reg.adderOps 64).updSlot k a fun r => f (r.merge m)

/-- This package's frame combined into the tile's slot: its contribution (R316, R323, R452). DEDUCED, log entry 125: each contribution moves the 133 units of the frame (R583). -/
def Pkg.ownInto (s : Pkg) (x : Xfer) (zero : Bool) : Pkg :=
  let (m, bad) := s.frameMsg x
  let m : TileMsg := if zero then { step := x.step, q := [], mask := [], count := 1 } else m
  let s := if bad > 0 && !zero then (s.bumpBy Reg.poisonZeroed bad).taskCode x.task Code.poisonedInput else s
  let s := s.noteAttempt x.tileKey m.attempt
  ((s.txeMoved x.cluster).credit x.ctx 133).combine x.tileKey m.attempt m fun r => { r with own := true, task := x.task }

/-- Whether this package's contribution of a tile takes no slot: the farthest member of its chain sends it straight from its frame (R363). -/
def Pkg.sentStraight (s : Pkg) (k : TileKey) : Bool :=
  let (pos, _) := redTree (s.redMap k) k.tile
  pos.next.isSome && pos.count == 1

/-- A slot settled as far as it goes (R321, R322, R386): forwarded when its chain is whole, decided at the home, redone here where the home says so. `n` bounds the attempts. -/
def Pkg.settle : Nat → Pkg → TileKey → Nat → Pkg
  | 0, s, _, _ => s
  | n + 1, s, k, a =>
    match s.redSlot k a with
    | none => s
    | some r =>
      let (pos, g) := redTree (s.redMap k) k.tile
      match pos.next with
      | some q =>
        if r.count ≥ pos.count then
          let s := s.slotPoison r
          let ep := if pos.count = 1 ∧ a = 0 then
              (match s.redXfer k with
                | some x => x.cluster
                | none => 64 + k.tile % 4)
            else 64 + k.tile % 4
          (s.freeSlot k a).sendTile k r.msg false ep q
        else s
      | none =>
        if r.count > g then
          let s := (s.bump Reg.eirCountErrors).logEv Ev.eirCountMismatch (Unit.memDie (k.tile % 4)) (some k.ctx) []
          s.distribute k (exhaustedMsg r.msg) true
        else if r.count = g then
          match eirDecide r.bound r.t with
          | some 0 => (s.slotPoison r).distribute k r.msg false
          | none => s.distribute k (exhaustedMsg r.msg) true
          | some sh =>
            let t := r.t + sh
            let s := (s.bump Reg.eirRounds).logEv Ev.eirTileRedone (Unit.memDie (k.tile % 4)) (some k.ctx) []
            let s := pos.kids.foldl (fun s q => s.sendRedo k r.step t (a + 1) q) s
            let s := (s.freeSlot k a).noteAttempt k (a + 1)
            match s.redXfer k with
            | some x =>
              let x := { x with zero := false }
              Pkg.settle n (((s.updXfer x.key fun _ => x).redoFrame x t (a + 1)).ownInto x false) k (a + 1)
            | none => s
        else s

/-- The attempt that a transfer's frame stands at; that of a frame sent as zeros is 0. -/
def Pkg.frameAttempt (s : Pkg) (x : Xfer) : Nat := if x.zero then 0 else (FrameHdr.ofBytes (s.frameBytesOf x)).attempt

/-- This package's frame, at the attempt that it holds, contributed, or waiting for a reduction slot (R320). -/
def Pkg.contribute (s : Pkg) (x : Xfer) : Pkg :=
  let k := x.tileKey
  let a := s.frameAttempt x
  let waits := s.fab.redWait.any fun w => w == .own x.key x.ctx x.gen x.tile
  if s.slotFree k a || s.sentStraight k then Pkg.settle 70 (s.ownInto x x.zero) k a
  else if waits then s
  else
    let s := s.bump Reg.eirSlotWaits
    { s with fab := { s.fab with redWait := s.fab.redWait ++ [.own x.key x.ctx x.gen x.tile] } }

/-- REDUCE_FRAME_SEND (R316): a frame whose write-out has landed is contributed and its state set to 2; a frame never written is contributed as zeros. -/
def Pkg.frameSend (s : Pkg) (x : Xfer) : Pkg :=
  let h := FrameHdr.ofBytes (s.frameBytesOf x)
  let unit := Unit.clusterEngine x.cluster 0
  let zero := h.state != 1
  let x := { x with sent := true, tile := h.tile, zero := zero }
  let s := s.updXfer x.key fun _ => x
  let s := if zero then s.taskEvent x.task Ev.eirFrameNotWritten unit 0 [] else s
  (s.frameByte x 41 2).contribute x

/-- The same of the transfer that holds an index of a cluster, where it is a REDUCE that has yet to send. -/
def Pkg.frameSendAt (s : Pkg) (cl id : Nat) : Pkg :=
  if s.dieStopped (cl / 4) then s else
  match (s.cluster cl).xfers.find? fun x => x.id == id && x.kind == .reduce && !x.sent with
  | some x => s.frameSend x
  | none => s

/-! ### Packets taken (R319 to R325) -/

/-- The key of an EIR packet. -/
def Pkg.keyOf (_ : Pkg) (h : Hd) : TileKey := ⟨h.ctx, h.gen, h.eirTensor, h.eirTile, h.eirStepLow⟩

/-- A tail's fields (R318). -/
def tailMsg (b : Bytes) (q : List Nat) : TileMsg :=
  let w := le b 0 8
  { step := le b 16 8, t := le b 24 1, attempt := le b 25 1, q := q, bound := w % 2 ^ 62, nonfin := decide (w ≥ 2 ^ 63),
    mask := if w ≥ 2 ^ 63 then unpack 2 1024 (slice b 32 256) else [], count := le b 26 2 }

/-- The values of a tile's pieces that have arrived from a source. -/
def RedSlot.pieces (r : RedSlot) (src : Nat) : List Nat :=
  (List.range 8).flatMap fun j => ((r.data.find? fun d => d.1 == src && d.2.1 == j).map (·.2.2)).getD (List.replicate 128 0)

/-- The pieces of a tile that a slot holds from a source; zeros where it has none. -/
def Pkg.tilePieces (s : Pkg) (k : TileKey) (a src : Nat) : List Nat :=
  ((s.redSlot k a).map fun r => r.pieces src).getD (List.replicate 1024 0)

/-- An EIR_DATA or EIR_TAIL taken into its slot; the tail combines the tile (R319). -/
def Pkg.takePartial (s : Pkg) (p : Packet) : Pkg :=
  let h := p.hd
  let k := s.keyOf h
  let a := h.eirAttempt
  let s := s.noteAttempt k a
  if h.op = opEIRTAIL then
    let m := tailMsg p.payload (s.tilePieces k a h.src)
    let s := s.combine k a m fun r => { r with data := r.data.filter fun d => d.1 ≠ h.src }
    Pkg.settle 70 s k a
  else s.updSlot k a fun r => { r with data := r.data ++ [(h.src, h.eirPiece, unpack 32 128 p.payload)] }

/-- A final tile's packet taken (R325): pieces are kept in the tile's slot; the tail forwards the tile and completes it here. -/
def Pkg.takeFinal (s : Pkg) (p : Packet) : Pkg :=
  let h := p.hd
  let k := s.keyOf h
  let a := h.eirAttempt
  if h.op = opEIRFTAIL then
    let m := tailMsg p.payload (s.tilePieces k a h.src)
    let m := { m with mask := if m.nonfin then m.mask else List.replicate 1024 0 }
    (s.noteAttempt k a).distribute k m (m.isExhausted (redTree (s.redMap k) k.tile).2)
  else s.updSlot k a fun r => { r with data := r.data ++ [(h.src, h.eirPiece, unpack 32 128 p.payload)] }

/-- A reduction packet taken: dropped where its attempt is stale (R323). -/
def Pkg.takeTile (s : Pkg) (p : Packet) : Pkg :=
  let h := p.hd
  if h.eirAttempt < s.attemptSeen (s.keyOf h) then s.bump Reg.eirStale
  else if h.op = opEIRDATA ∨ h.op = opEIRTAIL then s.takePartial p
  else s.takeFinal p

/-- Whether what waits for a slot is of a tile's attempt. -/
def Pkg.waitsFor (s : Pkg) (k : TileKey) (a : Nat) (w : RedWait) : Bool :=
  match w with
  | .packet p => s.keyOf p.hd == k && p.hd.eirAttempt == a
  | .own .. => false

/-- A packet of a contribution, a partial or a final tile (R319 to R325): it waits where no slot is free, or where packets of its tile wait before it. A tile that waits is counted once (R320). -/
def Pkg.eirTile (s : Pkg) (p : Packet) : Pkg :=
  let h := p.hd
  let k := s.keyOf h
  if h.eirAttempt < s.attemptSeen k then s.bump Reg.eirStale
  else
    let waits := s.fab.redWait.any (s.waitsFor k h.eirAttempt)
    if waits || !s.slotFree k h.eirAttempt then
      let s := if waits then s else s.bump Reg.eirSlotWaits
      { s with fab := { s.fab with redWait := s.fab.redWait ++ [.packet p] } }
    else s.takeTile p

/-- What waits for a slot taken, where one is free for it; else it waits on, behind those in `kept`. -/
def Pkg.drainRed (s : Pkg) (kept : List RedWait) : List RedWait → Pkg
  | [] => { s with fab := { s.fab with redWait := kept ++ s.fab.redWait } }
  | w :: rest =>
    match w with
    | .packet p =>
      let k := s.keyOf p.hd
      if s.slotFree k p.hd.eirAttempt && !kept.any (s.waitsFor k p.hd.eirAttempt) then Pkg.drainRed (s.takeTile p) kept rest
      else Pkg.drainRed s (kept ++ [w]) rest
    | .own key .. =>
      match s.findXfer key with
      | none => Pkg.drainRed s kept rest
      | some x =>
        if s.slotFree x.tileKey (s.frameAttempt x) then Pkg.drainRed (s.contribute x) kept rest
        else Pkg.drainRed s (kept ++ [w]) rest

/-- REDUCTION_SLOT_FREE: what waits for a reduction slot is taken, oldest first, while slots are free (R320). -/
def Pkg.slotsFreed (s : Pkg) : Pkg := (Pkg.drainRed { s with fab := { s.fab with redWait := [] } } [] s.fab.redWait).freeRooms

/-- A redo notice (R323): forwarded, the own frame rewritten and contributed again. -/
def Pkg.eirRedo (s : Pkg) (p : Packet) : Pkg :=
  let k := s.keyOf p.hd
  let a := le p.payload 25 1
  let t := le p.payload 24 1
  if a < s.attemptSeen k then s.bump Reg.eirStale
  else
    let s := s.noteAttempt k a
    let (pos, _) := redTree (s.redMap k) k.tile
    let s := pos.kids.foldl (fun s q => s.sendRedo k (le p.payload 16 8) t a q) s
    match s.redXfer k with
    | some x => let x := { x with zero := false }
      ((s.updXfer x.key fun y => { y with zero := false }).redoFrame x t a).contribute x
    | none => s

end Sys2Proof.Machine
end

