-- ==== Sys2Proof/Machine/Upe.lean ====
section
/-! DEFINITION. The update engine: update programs, group parameters in force, the advance of groups, masking and the sixteen operations (R282 to R306, R328, R400). -/

namespace Sys2Proof.Machine

/-! ### Operations and programs (R289 to R295) -/

/-- The fields of an operation (R290). -/
structure UpeF where
  op : Nat
  d : Nat
  a : Nat
  b : Nat
  c : Nat
  rmode : Nat
  cmode : Nat
  sel : Nat
  rsv : Nat
  imm : Nat
  deriving DecidableEq, Repr

def upeF (x : Word) : UpeF :=
  ⟨fld x 63 59, fld x 58 55, fld x 54 51, fld x 50 47, fld x 46 43, fld x 42 40, fld x 39 38, fld x 37 34, fld x 33 32, fld x 31 0⟩

/-- Which of d, a, b, c, modes, sel and imm an operation uses (R290, R291). -/
def upeUses (f : UpeF) : List Bool :=
  match f.op with
  | 1 => [true, false, false, false, false, true, f.sel == 15]
  | 2 => [false, true, false, false, true, true, false]
  | 3 | 4 | 5 | 7 | 0xA | 0xB => [true, true, true, false, false, false, false]
  | 6 | 0xD | 0x10 => [true, true, true, true, false, false, false]
  | 8 | 9 | 0xC => [true, true, false, false, false, false, false]
  | 0xE => [true, true, true, false, false, true, false]
  | 0xF => [true, true, false, false, true, false, true]
  | _ => []

/-- One operation of a program checked: `wr` the temporaries written so far, `rw` those that are raw, `st` the operands stored. Answers the three after it, or none where the program is invalid (R295). -/
def upeCheck (cls raw0 : Bool) (f : UpeF) (wr rw st : List Nat) : Option (List Nat × List Nat × List Nat) :=
  let u (i : Nat) : Bool := (upeUses f).getD i false
  let unused := (u 0 || f.d == 0) && (u 1 || f.a == 0) && (u 2 || f.b == 0) && (u 3 || f.c == 0) &&
    (u 4 || (f.rmode == 0 && f.cmode == 0)) && (u 5 || f.sel == 0) && (u 6 || f.imm == 0) && f.rsv == 0
  let reads := (if u 1 then [f.a] else []) ++ (if u 2 then [f.b] else []) ++ (if u 3 then [f.c] else [])
  let ok := !(upeUses f).isEmpty && unused && f.rmode != 7 && f.cmode != 3 && reads.all (wr.contains ·) &&
    (f.op == 0xF || reads.all fun t => !rw.contains t) &&
    !(decide (f.op = 1 ∨ f.op = 2) && (if cls then f.sel == 1 || f.sel == 2 else f.sel == 5)) &&
    (f.op != 2 || (decide (1 ≤ f.sel ∧ f.sel ≤ 5) && !st.contains f.sel)) &&
    (f.op != 0xE || decide (f.sel < 14)) &&
    (f.op != 0xF || ([2, 4, 5, 6, 7].contains f.imm && !(f.rmode == 6 && f.imm == 2 && !rw.contains f.a)))
  if !ok then none
  else if f.op = 2 then some (wr, rw, f.sel :: st)
  else some (f.d :: wr, (if f.op = 1 ∧ f.sel = 0 ∧ raw0 then f.d :: rw else rw.filter (· ≠ f.d)), st)

/-- The operations of a program image. -/
def progOps (b : Bytes) : List UpeF :=
  (List.range (le b 2 1 % 64)).map fun i => upeF (BitVec.ofNat 64 (le b (32 + 8 * i) 8))

/-- The header of a program image (R289). -/
def progHdrOk (b : Bytes) (cls : Bool) : Bool :=
  le b 0 2 == 1 && le b 2 1 / 64 == 0 && decide (1 ≤ le b 2 1 ∧ le b 2 1 ≤ 32) && le b 3 1 == cls.toNat && zeros b 8 24

/-- Whether a program's operations are in order, `raw0` saying whether the gradient is EIR32 (R295). -/
def progOpsOk (cls raw0 : Bool) (ops : List UpeF) : Bool :=
  (ops.foldl (fun (acc : Option (List Nat × List Nat × List Nat)) f => acc.bind fun (w, r, t) => upeCheck cls raw0 f w r t)
    (some ([], [], []))).isSome

/-- A valid program: in order for one kind of gradient at least. -/
def progOk (b : Bytes) (cls : Bool) : Bool :=
  progHdrOk b cls && (progOpsOk cls true (progOps b) || progOpsOk cls false (progOps b))

/-- The slot tensors that a program loads or stores: 0 weights, 1 wide, 2 avg1, 3 avg2 (R284). -/
def progTensors (b : Bytes) : List Nat :=
  (progOps b).flatMap fun f =>
    if f.op = 1 ∨ f.op = 2 then
      (if f.sel = 5 then [0, 1] else if 1 ≤ f.sel ∧ f.sel ≤ 4 then [f.sel - 1] else [])
    else []

/-! ### Parameters in force and the advance (R296, R300) -/

/-- The parameters of a group in force for a step (R296). -/
def Group.inForce (g : Group) (step : Nat) : GroupParams := if step < g.switch then g.before else g.after

def Reg.updTasks : Nat := 0x050140
def Reg.updElements : Nat := 0x050148
def Reg.nfMasked : Nat := 0x050150
def Reg.frozenSkips : Nat := 0x050158
def Reg.groupBehind : Nat := 0x050160
def Reg.guardSkips : Nat := 0x050100

/-- The group of the slot at a route index of a task. -/
def Pkg.slotGroup (s : Pkg) (k r : Nat) : Nat :=
  match s.slots.find ((s.task k).modelSlot + r) with
  | some m => m.group
  | none => 0

/-- A group's advance for a step: its new counter and powers, whether it was behind, and the flags of the products (R105, R300). -/
def GroupAdv.advance (a : GroupAdv) (p : GroupParams) (step : Nat) : GroupAdv × Bool × Sticky :=
  if !a.valid || decide (a.last < step) then
    let q1 := fp32.mul .rne a.p1.toNat p.b1.toNat
    let q2 := fp32.mul .rne a.p2.toNat p.b2.toNat
    ({ t := min (a.t + 1) (2 ^ 32 - 1), p1 := BitVec.ofNat 32 q1.1, p2 := BitVec.ofNat 32 q2.1, last := step, valid := true },
      false, q1.2.or q2.2)
  else (a, decide (a.last > step), {})

/-- The slots of a task's span, their groups advanced and their parameters taken (R288 step 3, R300, R302); the flags say whether a group was behind. -/
def Pkg.upeAdvance (s : Pkg) (k : Nat) : List Nat → Tbl (List Nat) → Bool → Pkg × Tbl (List Nat) × Bool
  | [], ps, b => (s, ps, b)
  | r :: rs, ps, b =>
    let t := s.task k
    let g := s.slotGroup k r
    let p := (s.group g).inForce t.step
    if p.frozen then Pkg.upeAdvance s k rs ps b
    else
      let (a, behind, fl) := ((s.ctx t.ctx).cur.grp.get {} g).advance p t.step
      let s := (s.taskFlags k fl).updCtx t.ctx fun x => { x with cur := { x.cur with grp := x.cur.grp.set g a } }
      Pkg.upeAdvance s k rs (ps.set r [p.lr.toNat, p.decay.toNat, p.b1.toNat, p.b2.toNat, p.eps.toNat, a.p1.toNat, a.p2.toNat])
        (b || behind)

/-- The first route index from `r` on that has parameters: a slot to update. -/
def nextSlot (ps : Tbl (List Nat)) (r : Nat) : Option Nat := (ps.keys.filter (r ≤ ·)).head?

/-- An update task begins on a cluster's engine (R288, R257, R302, R400). Its slot tensors have been read. -/
def Pkg.upeStart (s : Pkg) (cl k : Nat) : Pkg :=
  let t := s.task k
  let unit := Unit.clusterEngine cl 1
  let x := s.ctx t.ctx
  let s := s.bump Reg.updTasks
  let frozen := ((List.range t.span).filter fun r => ((s.group (s.slotGroup k r)).inForce t.step).frozen).length
  let s := if frozen > 0 then (s.bumpBy Reg.frozenSkips frozen).taskEvent k Ev.frozenSkip unit 0 [] else s
  let put (s : Pkg) (u : UpeSt) : Pkg := s.updCluster cl fun c => { c with upe := u }
  if x.flagSet t.step false then put (s.taskCode k Code.shardVersionMismatch) { task := some k, done := true }
  else if x.guarded t.step && x.flagSet t.step true then
    let s := (s.bump Reg.guardSkips).taskCode k Code.nonfiniteSkipped
    put s { task := some k, done := true }
  else
    let (s, ps, behind) := s.upeAdvance k (List.range t.span) [] false
    let s := if behind then (s.bump Reg.groupBehind).taskEvent k Ev.groupStepBehind unit 0 [] else s
    match nextSlot ps 0 with
    | some r => put s { task := some k, slot := r, params := ps }
    | none => put s { task := some k, done := true }

/-! ### Elements (R285, R286, R103, R328) -/

/-- The place of an element of a shard: indices within the shard. -/
def TensorRef.local (t : TensorRef) (e : Nat) : Nat × Nat × Nat × Nat :=
  let n0 := max 1 (t.shardExt 0)
  let n1 := max 1 (t.shardExt 1)
  let n2 := max 1 (t.shardExt 2)
  (e % n0, e / n0 % n1, e / n0 / n1 % n2, e / n0 / n1 / n2)

/-- Elements of a shard. -/
def TensorRef.count (t : TensorRef) : Nat := t.shardExt 0 * t.shardExt 1 * t.shardExt 2 * t.shardExt 3

/-- An element of a tensor: the byte address and bit of its encoding, its logical index, its scale tile, and its place in the tile. -/
structure ElemAt where
  addr : Nat
  bit  : Nat
  index : Nat
  tile : Nat
  pos  : Nat
  deriving DecidableEq, Repr

def TensorRef.at (t : TensorRef) (l : Nat × Nat × Nat × Nat) : ElemAt :=
  let (l0, l1, l2, l3) := l
  let g0 := l0 + t.shardOff 0
  let g1 := l1 + t.shardOff 1
  let g2 := l2 + t.shardOff 2
  let g3 := l3 + t.shardOff 3
  let b := l0 * fmtWidth t.fmt
  let row := g1 + t.extent 1 * (g2 + t.extent 2 * g3)
  { addr := t.base + l1 * t.stride 1 + l2 * t.stride 2 + l3 * t.stride 3 + b / 8
    bit := b % 8
    index := t.logical g0 g1 g2 g3
    tile := if t.flat then g0 / 1024 else t.tileAt row g0
    pos := if t.flat then g0 % 1024 else row % 32 * 32 + g0 % 32 }

/-- What a read of one element gives: the encoding, the tile offset, the value with every scale, and whether it is poisoned. -/
structure ElemRd where
  bits : Nat
  t    : Int
  val  : Num
  poison : Bool
  badOff : Option Nat := none   -- the tile whose offset is out of range
  deriving DecidableEq, Repr

/-- The tile offset of an element: the read, its value, and whether it is out of range (R103). -/
def Pkg.offsetOf (s : Pkg) (c : Nat) (t : TensorRef) (e : ElemAt) : Option Rd × Int × Bool :=
  if t.offsetAddr = 0 then (none, 0, false)
  else
    let r := s.vRead c (t.offsetAddr + e.tile) 1 .read true
    (some r, tileOffset (le r.bytes 0 1))

/-- An element of a tensor read, with its offset and block scale, and the reads that it takes (R100, R103). -/
def Pkg.elemRead (s : Pkg) (c : Nat) (t : TensorRef) (e : ElemAt) : ElemRd × List Rd :=
  let w := fmtWidth t.fmt
  let r := s.vRead c e.addr ((e.bit + w + 7) / 8) .read true
  let (o, off, bad) := s.offsetOf c t e
  let b := if fmtBlock t.fmt then some (s.vRead c (t.blockAddr + e.index / 32) 1 .read true) else none
  let bits := bitsAt r.bytes e.bit w
  let v := fmtDecode t.fmt bits
  let v := match b with
    | some x => (match e8m0 (le x.bytes 0 1) with
      | some k => v.scale k
      | none => .nan false)
    | none => v
  let all := [some r, o, b].filterMap id
  ({ bits := bits, t := off, val := (v.scale off).scaled t.scaleNum, poison := all.any (·.poison), badOff := if bad then some e.tile else none }, all)

/-- Reads that an operation of a task makes, accounted for: each granule once, faults and poison recorded for the task (R448, R451, R596). -/
def Pkg.taskReads (s : Pkg) (k unit : Nat) (rs : List Rd) : Pkg :=
  let s := s.tookOnce rs
  let s := if rs.any (·.fault) then s.taskFault k unit else s
  if rs.any (·.poison) then s.taskCode k Code.poisonedInput else s

/-- Elements of a tensor read for a task, bad offsets reported (R103, R451, R596). -/
def Pkg.elemsRead (s : Pkg) (k unit : Nat) (t : TensorRef) (es : List ElemAt) : List ElemRd × Pkg :=
  let rs := es.map fun e => s.elemRead (s.task k).ctx t e
  let bad := (rs.filterMap (·.1.badOff)).eraseDups
  (rs.map (·.1), (s.taskReads k unit (rs.flatMap (·.2))).offsetReports k unit bad.length)

/-- The tile offsets under which elements are stored, read for a task: each with its poison (R103, R269, R451). -/
def Pkg.storeOffsets (s : Pkg) (k unit : Nat) (t : TensorRef) (es : List ElemAt) : List (Int × Bool) × Pkg :=
  let rs := es.map fun e => s.offsetOf (s.task k).ctx t e
  let bad := ((rs.zip es).filterMap fun x => if x.1.2.2 then some x.2.tile else none).eraseDups
  (rs.map fun x => (x.2.1, (x.1.map (·.poison)).getD false), (s.taskReads k unit (rs.filterMap (·.1))).offsetReports k unit bad.length)

/-- An element's encoding written. -/
def Pkg.elemWrite (s : Pkg) (k unit : Nat) (t : TensorRef) (e : ElemAt) (bits : Nat) (bad : Bool) : Pkg :=
  let w := fmtWidth t.fmt
  if w % 8 = 0 then s.taskWrite k unit e.addr (leBytes (w / 8) bits) bad
  else
    let n := (e.bit + w + 7) / 8
    let r := s.vRead (s.task k).ctx e.addr n .read true
    let old : BitVec 24 := BitVec.ofNat 24 (leNat r.bytes)
    s.taskWrite k unit e.addr (leBytes n (setFld old (e.bit + w - 1) e.bit bits).toNat) bad

/-! ### A block -/

/-- Lanes of the block in work. -/
def UpeSt.lanes (u : UpeSt) (n : Nat) : Nat := min 256 (n - u.elem)

def UpeSt.lane (u : UpeSt) (t i : Nat) : Nat := fld (u.temps.get 0 t) (64 * i + 63) (64 * i)

/-- The slot tensor of the slot in work: 0 weights, 1 wide, 2 avg1, 3 avg2. -/
def Pkg.slotTensor (s : Pkg) (k r j : Nat) : TensorRef := ((s.task k).slotRefs.find (4 * r + j)).getD {}

/-- The gradient tensor, and its element that corresponds to a weight element at route index `r` (R285). -/
def Pkg.gradient (s : Pkg) (k : Nat) : TensorRef := (s.task k).tensors.getD 0 {}

def gradAt (g w : TensorRef) (r : Nat) (l : Nat × Nat × Nat × Nat) : ElemAt :=
  g.at (l.1, l.2.1, l.2.2.1, r * w.extent 3 + l.2.2.2)

/-- The mask value of a gradient element, and the reads it takes: its EIR mask code, or the class of its value (R303, R305, R328). -/
def Pkg.maskValue (s : Pkg) (c : Nat) (g : TensorRef) (e : ElemAt) (v : Num) : Nat × List Rd :=
  if g.fmt = 0xE then
    let r := s.vRead c (g.boundArr + 8 * e.tile) 8 .read true
    if le r.bytes 0 8 ≥ 2 ^ 63 then
      let m := s.vRead c (g.maskArr + 256 * e.tile + e.pos / 4) 1 .read true
      (nbits (le m.bytes 0 1) (2 * (e.pos % 4) + 1) (2 * (e.pos % 4)), [r, m])
    else (0, [r])
  else (match v with
    | .inf false => 1
    | .inf true => 2
    | .nan _ => 3
    | _ => 0, [])

/-- The block's masked lanes found, counted and recorded (R303, R305). -/
def Pkg.upeBegin (s : Pkg) (cl k : Nat) : Pkg :=
  let u := (s.cluster cl).upe
  let c := (s.task k).ctx
  let unit := Unit.clusterEngine cl 1
  let w := s.slotTensor k u.slot 0
  let g := s.gradient k
  let es := (List.range (u.lanes w.count)).map fun i => gradAt g w u.slot (w.local (u.elem + i))
  let (rs, s) := s.elemsRead k unit g es
  let ms := (es.zip rs).map fun (e, r) => s.maskValue c g e r.val
  let s := s.taskReads k unit (ms.flatMap (·.2))
  let bad := ((rs.zip ms).zipIdx.filter fun x => x.1.2.2.any (·.poison) || (g.fmt != 0xE && x.1.1.poison)).map (·.2)
  let hit := ((ms.map (·.1)).zip es).zipIdx.filter fun x => x.1.1 ≠ 0
  let low := hit.foldl (fun (b : Option Nat) x => match b with
    | none => some x.1.2.index
    | some y => some (min y x.1.2.index)) (if u.masked = 0 then none else some u.maskLow)
  let grp := s.slotGroup k u.slot
  let detail (n idx m form : Nat) : Bytes :=
    leBytes 8 n ++ leBytes 8 idx ++ leBytes 2 ((s.task k).modelSlot + u.slot) ++ leBytes 2 grp ++ leBytes 1 m ++ leBytes 1 form
  let shown := if (s.group grp).policy = 1 then hit.take (16 - u.details) else []
  let s := shown.foldl (fun s x => s.taskEvent k Ev.nonfiniteMasked unit 0 (detail 1 x.1.2.index x.1.1 1)) s
  let s := if hit.isEmpty then s else (s.bumpBy Reg.nfMasked hit.length).taskCode k Code.okEvents
  s.updCluster cl fun x => { x with upe := { u with
    began := true
    mask := hit.map fun x => (x.2, x.1.1), maskPoison := bad
    masked := u.masked + hit.length
    maskLow := low.getD 0
    details := u.details + shown.length } }

/-- A temporary written: lanes, flags of unmasked lanes, poison. -/
def Pkg.upePut (s : Pkg) (cl k d : Nat) (raw : Bool) (ls : List (Nat × Sticky × Bool)) : Pkg :=
  let u := (s.cluster cl).upe
  let fl := ls.zipIdx.foldl (fun (f : Sticky) (l, i) => if (u.mask.find i).isSome then f else f.or l.2.1) {}
  let pz := ls.zipIdx.foldl (fun (p : NatSet) (l, i) => if l.2.2 then p.ins (256 * d + i) else p)
    (u.poison.filter fun x => x / 256 ≠ d)
  (s.taskFlags k fl).updCluster cl fun x => { x with upe := { u with
    temps := u.temps.set d (BitVec.ofNat 16384 (packNat 64 (ls.map (·.1))))
    raw := if raw then u.raw.ins d else u.raw.del d
    poison := pz } }

/-- A value rounded once to FP32 under RNE. -/
def toF32 (v : Num) : Nat × Sticky := fp32.out .rne v false

/-- LOAD (R292, R328). -/
def Pkg.upeLoad (s : Pkg) (cl k : Nat) (f : UpeF) : Pkg :=
  let u := (s.cluster cl).upe
  let unit := Unit.clusterEngine cl 1
  let w := s.slotTensor k u.slot 0
  let n := u.lanes w.count
  let lo (i : Nat) := w.local (u.elem + i)
  let ps := u.params.get [] u.slot
  let one := 0x3F800000
  let bc (v : Nat × Sticky) : Pkg := s.upePut cl k f.d false (List.replicate n (v.1, v.2, false))
  let one' (r : ElemRd) : Nat × Sticky × Bool := ((toF32 r.val).1, (toF32 r.val).2, r.poison)
  if f.sel = 0 then
    let g := s.gradient k
    let (rs, s) := s.elemsRead k unit g ((List.range n).map fun i => gradAt g w u.slot (lo i))
    if g.fmt = 0xE then s.upePut cl k f.d true (rs.map fun r => (r.bits + ofInt 8 r.t * 2 ^ 32, {}, r.poison))
    else s.upePut cl k f.d false (rs.map one')
  else if f.sel ≤ 4 then
    let t := s.slotTensor k u.slot (f.sel - 1)
    let (rs, s) := s.elemsRead k unit t ((List.range n).map fun i => t.at (lo i))
    s.upePut cl k f.d false (rs.map one')
  else if f.sel = 5 then
    let t := s.slotTensor k u.slot 1
    let (hs, s) := s.elemsRead k unit w ((List.range n).map fun i => w.at (lo i))
    let (ls, s) := s.elemsRead k unit t ((List.range n).map fun i => t.at (lo i))
    s.upePut cl k f.d false ((hs.zip ls).map fun (h, l) => (h.bits * 65536 + l.bits, {}, h.poison || l.poison))
  else match f.sel with
    | 6 => bc (ps.getD 5 0, {})
    | 7 => bc (ps.getD 6 0, {})
    | 8 => bc (ps.getD 0 0, {})
    | 9 => bc (ps.getD 1 0, {})
    | 10 => bc (ps.getD 2 0, {})
    | 11 => bc (ps.getD 3 0, {})
    | 12 => bc (ps.getD 4 0, {})
    | 13 => bc (fp32.sub .rne one (ps.getD 5 0))
    | 14 => bc (fp32.sub .rne one (ps.getD 6 0))
    | _ => bc (f.imm, {})

/-- The rounding mode of a STORE: DEFAULT is to nearest even, slot tensors being no gradients (R116, R293). -/
def UpeF.rm (f : UpeF) : Rm := (Rm.ofCode false f.rmode).getD .rne

/-- Whether every element of a tensor's format is that of an FP32 source and its value stays as it is (R122). -/
def TensorRef.holdsF32 (t : TensorRef) (off : Int) : Bool := t.fmt == 2 && off == 0 && t.scaleNum.isOne

/-- The conversion mode of a STORE: that of the slot's field, 0 the format's default (R117, R293). -/
def UpeF.sat (f : UpeF) (t : TensorRef) : Bool := (cmodeOf t.fmt f.cmode).getD true

/-- Elements converted into a slot tensor, and written: lanes with their places, values and poison, which a poisoned tile offset adds to; events counted under each element's own tile offset (R269, R293, R451). -/
def Pkg.upeStoreTo (s : Pkg) (cl k j : Nat) (f : UpeF) (ls : List (ElemAt × Nat × Bool)) : Pkg :=
  let u := (s.cluster cl).upe
  let unit := Unit.clusterEngine cl 1
  let t := s.slotTensor k u.slot j
  let sat := f.sat t
  let (offs, s) := s.storeOffsets k unit t (ls.map (·.1))
  let vs := ls.map fun l => fp32.decode l.2.1
  let cs := (ls.zip offs).map fun (l, o) =>
    (fmtConv t.fmt f.rm sat (s.draw k t.id l.1.index) ((fp32.decode l.2.1).over (t.scaleNum.scale o.1))).held (t.holdsF32 o.1)
  let s := ((offs.map (·.1)).eraseDups).foldl (fun s off =>
    let mine := (offs.zip (vs.zip cs)).filter fun x => x.1.1 == off
    s.converted k (252 + j) t off (mine.map (·.2.1)) (mine.map (·.2.2)) 0 0) s
  (ls.zip (cs.zip offs)).foldl (fun s (l, r, o) => s.elemWrite k unit t l.1 r.bits (l.2.2 || o.2)) s

/-- A block-scaled working copy written by whole 32-element blocks, masked elements from their masters; a poisoned lane poisons its block, whose scale depends on it (R103, R304, R451). -/
def Pkg.upeStoreBlocks (s : Pkg) (cl k : Nat) (f : UpeF) (ls : List (ElemAt × ElemAt × Nat × Bool × Bool)) : Pkg :=
  let u := (s.cluster cl).upe
  let unit := Unit.clusterEngine cl 1
  let t := s.slotTensor k u.slot 0
  let sat := f.sat t
  let (offs, s) := s.storeOffsets k unit t (ls.map (·.1))
  let (ms, s) := s.elemsRead k unit (s.slotTensor k u.slot 1)
    ((ls.filter fun l => l.2.2.2.2).map (·.2.1))
  let masters := ((ls.filter fun l => l.2.2.2.2).map (·.1.index)).zip ms
  let val (l : ElemAt × ElemAt × Nat × Bool × Bool) : Num × Bool :=
    if l.2.2.2.2 then
      (match masters.find? fun m => m.1 == l.1.index with
        | some m => (m.2.val, m.2.poison)
        | none => (.zero, false))
    else (fp32.decode l.2.2.1, l.2.2.2.1)
  ((ls.map fun l => l.1.index / 32).eraseDups).foldl (fun s blk =>
    let here := (ls.zip offs).filter fun l => l.1.1.index / 32 == blk
    let mine := here.map (·.1)
    let off : Int := ((here.head?).map (·.2.1)).getD 0
    let vs := mine.map fun l => (val l).1
    let xs := vs.map fun v => v.over (t.scaleNum.scale off)
    let (e, cs) := blockConv t.fmt f.rm sat (fun i => match mine[i]? with
      | some l => s.draw k t.id l.1.index
      | none => 0) xs
    let live := (mine.zip (vs.zip cs)).filter fun x => !x.1.2.2.2.2
    let s := s.converted k 252 t off (live.map (·.2.1)) (live.map (·.2.2)) 0 0
    let bad := here.any fun l => (val l.1).2 || l.1.2.2.2.1 || l.2.2
    let s := (mine.zip cs).foldl (fun s (l, r) => s.elemWrite k unit t l.1 r.bits bad) s
    s.taskWrite k unit (t.blockAddr + blk) [BitVec.ofNat 8 e] bad) s

/-- STORE (R293, R303, R304); a lane whose mask value depends on poisoned data stores poison (R451). -/
def Pkg.upeStore (s : Pkg) (cl k : Nat) (f : UpeF) : Pkg :=
  let u := (s.cluster cl).upe
  let w := s.slotTensor k u.slot 0
  let unit := Unit.clusterEngine cl 1
  let n := u.lanes w.count
  let isMask (i : Nat) : Bool := (u.mask.find i).isSome
  let live := (List.range n).filter fun i => !isMask i
  let lane (t : TensorRef) (i : Nat) : ElemAt × Nat × Bool :=
    (t.at (w.local (u.elem + i)), u.lane f.a i % 2 ^ 32, u.maskPoison.mem i || (!isMask i && u.poison.mem (256 * f.a + i)))
  if f.sel = 5 then
    let t := s.slotTensor k u.slot 1
    let vs := live.map fun i => (fp32.decode (lane w i).2.1)
    let cs := vs.map fun v => (⟨0, {}, false, false, !v.isFin⟩ : Conv)
    let s := s.converted k 252 w 0 vs cs 0 0
    live.foldl (fun s i =>
      let (e, v, p) := lane w i
      (s.elemWrite k unit w e (v / 65536) p).elemWrite k unit t (lane t i).1 (v % 65536) p) s
  else if f.sel = 1 ∧ fmtBlock w.fmt then
    let m := s.slotTensor k u.slot 1
    s.upeStoreBlocks cl k f ((List.range n).map fun i => ((lane w i).1, (lane m i).1, (lane w i).2.1, (lane w i).2.2, isMask i))
  else
    let t := s.slotTensor k u.slot (f.sel - 1)
    s.upeStoreTo cl k (f.sel - 1) f (live.map (lane t))

/-- RSQRT (R291). -/
def rsqrt32 (a : Nat) : Nat × Sticky :=
  match fp32.decode a with
  | .nan sg => (fp32.nanBits, .invIf sg)
  | .inf s => if s then (fp32.nanBits, .invIf true) else (0, {})
  | .fin s m e =>
    if m = 0 then (fp32.infBits s, { dz := true })
    else if s then (fp32.nanBits, .invIf true)
    else fp32.out .rne ((Num.div (.fin false 1 0) (.fin false m e)).1.sqrt).1 false

/-- One lane of an arithmetic operation (R291). -/
def upeLane (f : UpeF) (a b c : Nat) : Nat × Sticky :=
  match f.op with
  | 3 => fp32.add .rne a b
  | 4 => fp32.sub .rne a b
  | 5 => fp32.mul .rne a b
  | 6 => fp32.fma .rne a b c
  | 7 => fp32.div .rne a b
  | 8 => fp32.sqrt .rne a
  | 9 => rsqrt32 a
  | 0xA => fp32.max a b
  | 0xB => fp32.min a b
  | 0xC => (fp32.abs a, {})
  | 0xD => (if c = 0 then b else a, {})
  | 0xE =>
    match cmpPred f.sel (fp32.decode a) (fp32.decode b) with
    | some (r, i) => (if r then 0xFFFFFFFF else 0, .invIf i)
    | none => (0, {})
  | _ => let (x, f1) := fp32.max a b
    let (y, f2) := fp32.min x c
    (y, f1.or f2)

/-- CONV of one lane (R294): `v` the exact value. -/
def convLane (f : UpeF) (raw : Bool) (u : Nat) (v : Num) : Nat × Sticky :=
  let rm := (Rm.ofCode raw f.rmode).getD .rne
  let r := fmtConv f.imm rm ((cmodeOf f.imm f.cmode).getD false) u v
  ((fp32.out .rne (fmtDecode f.imm r.bits) false).1, r.fl)

/-- The exact value of a raw lane: q × 2^t × S (R294). -/
def rawValue (g : TensorRef) (x : Nat) : Num :=
  (((Num.ofInt (sext 32 x)).scale (sext 8 (x / 2 ^ 32))).mul g.scaleNum).1

/-- An operation between temporaries. -/
def Pkg.upeArith (s : Pkg) (cl k : Nat) (f : UpeF) : Pkg :=
  let u := (s.cluster cl).upe
  let w := s.slotTensor k u.slot 0
  let g := s.gradient k
  let t := s.task k
  let bad (x i : Nat) : Bool := u.poison.mem (256 * x + i)
  let use (i : Nat) : Bool := (upeUses f).getD i false
  s.upePut cl k f.d false ((List.range (u.lanes w.count)).map fun i =>
    let a := u.lane f.a i
    let r : Nat × Sticky :=
      if f.op = 0xF then
        let idx := (gradAt g w u.slot (w.local (u.elem + i))).index
        let draw := srU (s.ctx t.ctx).seed.toNat t.step g.id ((1 + u.pc) * 65536 + t.rstream % 65536) idx
        if u.raw.mem f.a then convLane f true draw (rawValue g a) else convLane f false draw (fp32.decode a)
      else upeLane f a (u.lane f.b i) (u.lane f.c i)
    (r.1, r.2, bad f.a i || (use 2 && bad f.b i) || (use 3 && bad f.c i)))

/-- The block's last operation is done: the next block, the next slot, or the end (R286, R305). -/
def Pkg.upeBlockEnd (s : Pkg) (cl k : Nat) : Pkg :=
  let u := (s.cluster cl).upe
  let w := s.slotTensor k u.slot 0
  let s := (s.bumpBy Reg.updElements (u.lanes w.count)).clusterCount cl 0x20 1
  let s := s.updTask k fun t => { t with progress := some s.stroke.number }
  let fresh : UpeSt := { u with pc := 0, temps := [], raw := [], mask := [], began := false, poison := [], maskPoison := [] }
  let put (s : Pkg) (v : UpeSt) : Pkg := s.updCluster cl fun c => { c with upe := v }
  if u.elem + 256 < w.count then put s { fresh with elem := u.elem + 256 }
  else
    let s := if u.masked = 0 then s else
      s.taskEvent k Ev.nonfiniteMasked (Unit.clusterEngine cl 1) 0
        (leBytes 8 u.masked ++ leBytes 8 u.maskLow ++ leBytes 2 ((s.task k).modelSlot + u.slot) ++ leBytes 2 (s.slotGroup k u.slot) ++ [0, 0])
    let fresh := { fresh with elem := 0, masked := 0, maskLow := 0 }
    match nextSlot u.params (u.slot + 1) with
    | some r => put s { fresh with slot := r }
    | none => put s { fresh with done := true }

/-- One operation of an update program, if it is the next of a cluster's engine. -/
def Pkg.upeOp (s : Pkg) (cl op : Nat) : Pkg :=
  let u := (s.cluster cl).upe
  match u.task with
  | none => s
  | some k =>
    let ops := progOps (s.group (s.slotGroup k u.slot)).prog
    match ops[u.pc]? with
    | none => s
    | some f =>
      if u.done || f.op ≠ op || s.dieStopped (cl / 4) then s
      else
        let s := if u.began then s else s.upeBegin cl k
        let s := if op = 1 then s.upeLoad cl k f else if op = 2 then s.upeStore cl k f else s.upeArith cl k f
        let s := s.clusterCount cl 0x18 4
        let s := s.updTask k fun t => { t with cycles := t.cycles + 4 }
        if u.pc + 1 < ops.length then
          s.updCluster cl fun c => { c with upe := { c.upe with pc := u.pc + 1 } }
        else s.upeBlockEnd cl k

end Sys2Proof.Machine
end

