-- ==== Sys2Proof/Machine/Admit.lean ====
section
/-! DEFINITION. Rings and admission: doorbells, submission entries, the checks of sketches, tasks, tensors, images and slots, and the entries that act at once (R218 to R230, R235, R236, R238, R271, R282, R284, R298, R299, R309). -/

namespace Sys2Proof.Machine

/-! ### Tensor descriptors (R90, R96, R98, R101, R116, R117, R227, R63, R68) -/

/-- The rows of a shard: start address and bytes of each run of dimension 0. -/
def TensorRef.rows (t : TensorRef) : List (Nat × Nat) :=
  let n := ceilDiv (t.shardExt 0 * fmtWidth t.fmt) 8
  (List.range (t.shardExt 3)).flatMap fun i3 => (List.range (t.shardExt 2)).flatMap fun i2 => (List.range (t.shardExt 1)).map fun i1 =>
    (t.base + i1 * t.stride 1 + i2 * t.stride 2 + i3 * t.stride 3, n)

/-- Whether every page that a range touches is mapped in a class (R63). -/
def Pkg.classIs (s : Pkg) (c a n : Nat) (cls : Bool) : Bool := (piecesOf a n).all fun p => s.classAt c p.1 == some cls

/-- The failed checks of a tensor descriptor, in the order of their fields (R236, R309). -/
def Pkg.tensorFails (s : Pkg) (c i : Nat) (t : TensorRef) : List AdmFail :=
  let inv := Code.invalidDescriptor
  let d := t.desc
  let f (b : Bool) (off : Nat) : List AdmFail := failIf b inv off 2 i
  let fmtOk := fmtValid t.fmt
  let cntOk := decide (1 ≤ t.shards) && t.extent t.shardDim % max 1 t.shards == 0
  let idxOk := decide (t.shardIdx < t.shards)
  let w := fmtWidth t.fmt
  let eir := t.fmt == 0x0E
  let exts := (List.range 4).all fun k => decide (1 ≤ t.extent k)
  f (fmtOk && cntOk && idxOk && exts && !(t.rows.all fun r => s.classIs c r.1 r.2 t.buffered)) 0 ++
  f (!fmtOk) 6 ++ failIf (decide (t.fmt = 1) && s.fuses.grade == 3) Code.engineAbsent 6 2 i ++
  f (fld d 63 60 != 0 || decide (t.policy ≥ 2) || (t.buffered && !bitAt s.stroke.spareCfg 0) ||
    (eir && !(t.buffered && t.grad))) 7 ++
  f (fld d 71 69 != 0 || t.rmode == 7 || (t.fmt == 1 && (t.rmode == 6 || (t.rmode == 0 && t.grad))) ||
    (fmtOk && (cmodeOf t.fmt t.cmode).isNone)) 8 ++
  f (fld d 87 82 != 0) 10 ++ f (fld d 95 88 != 0) 11 ++
  ((List.range 4).flatMap fun k => f (t.extent k == 0 ||
    (k == 0 && fmtOk && ((w == 6 && t.extent 0 % 4 != 0) || (w == 4 && t.extent 0 % 2 != 0) || (fmtBlock t.fmt && t.extent 0 % 32 != 0))) ||
    (eir && decide (k < 2) && (t.extent k % 32 != 0 || (t.shardDim == k && cntOk && t.shardExt k % 32 != 0)))) (16 + 4 * k)) ++
  f (t.scalePtr == 0 || t.scalePtr % 32 != 0) 50 ++ f (!cntOk) 60 ++ f (!idxOk) 62

/-- A tensor descriptor read at an address. -/
def Pkg.rdTensor (s : Pkg) (c a i : Nat) : (Except AdmFail TensorRef) × Pkg :=
  match s.rdStruct c a 64 with
  | (.ok b, s) => (.ok { desc := BitVec.ofNat 512 (leNat b) }, s)
  | (.error o, s) => (.error { code := Code.invalidDescriptor, off := o, str := 2, ten := i, unread := true }, s)

/-! ### Image headers (R168, R169) -/

def imageFails (s : Pkg) (h : BitVec 512) : List AdmFail :=
  let inv := Code.invalidDescriptor
  let f (b : Bool) (code off : Nat) : List AdmFail := failIf b code off 3 0
  let p := fld h 22 16
  let n := fld h 95 64
  f (fld h 15 0 != 1) inv 0 ++ f (decide (p > 64)) inv 2 ++ f (fld h 31 24 != 0) inv 3 ++
  f (bitAt h 23 && s.fuses.grade == 3) Code.engineAbsent 2 ++
  f (decide (fld h 48 32 ≥ n)) inv 4 ++ f (fld h 63 49 != 0) inv 6 ++
  f (!decide (2 ≤ n ∧ n ≤ 131040) || decide (64 + 32 * p + 2 * n > 0x40000)) inv 8 ++ f (fld h 127 96 != 0) inv 12 ++
  f (fld h 511 192 != 0) inv 24

/-! ### Placement (R27, R30, R236) -/

/-- The physical core of a logical index (R27). -/
def Pkg.logicalCore (s : Pkg) (i : Nat) : Option Nat := s.presentCores[i]?

/-- The logical index of a physical core. -/
def Pkg.logicalOf (s : Pkg) (c : Nat) : Nat := (s.presentCores.takeWhile (· ≠ c)).length

/-- The units that a task's placement allows: cores, or clusters for an update task. -/
def Pkg.allowed (s : Pkg) (t : Task) : List Nat :=
  if t.update then (List.range 64).filter fun c => bitAt t.mask c
  else if t.placement = 0 then s.presentCores.filter fun c => bitAt t.mask (c / 8)
  else if t.placement = 1 then (s.logicalCore t.coreField).toList
  else [t.coreField]

/-- The compute die of a task's unit. -/
def Task.dieOf (t : Task) (u : Nat) : Nat := if t.update then u / 4 else u / 32

/-- Whether a budget exceeds the whole dispatch window at every allowed unit's clock (R58). -/
def Pkg.neverFits (s : Pkg) (t : Task) : Bool :=
  (s.allowed t).all fun u => decide (t.budget > (s.stroke.curPeriod - s.stroke.curSlot) * s.dieMhz (t.dieOf u))

/-! ### Task descriptors (R225, R236, R282, R284) -/

/-- The failed checks of a task descriptor's own fields, in the order of their offsets (R236). DESIGN CHOICE, log entry 114: a core field of kind 2 that names no core at all, 512 or more, is INVALID_DESCRIPTOR; a succ_count above 4,096 fails the task alone. -/
def Pkg.taskFails (s : Pkg) (t : Task) : List AdmFail :=
  let inv := Code.invalidDescriptor
  let d := t.desc
  let f (b : Bool) (code off : Nat) : List AdmFail := failIf b code off 1 0
  let x := s.ctx t.ctx
  let slotOk := !t.hasSlot || decide (t.modelSlot < 16384 ∧ 1 ≤ t.span ∧ t.modelSlot + t.span ≤ 16384)
  f (fld d 63 48 != 0 || (!t.update && t.image % 64 != 0)) inv 0 ++ f (t.tensorArr % 64 != 0) inv 8 ++
  f (t.succList % 4 != 0 || (t.succCount == 0 && t.succList != 0)) inv 16 ++ f (t.budget == 0 || (!(s.allowed t).isEmpty && s.neverFits t)) inv 24 ++
  f (decide (t.succCount > 4096)) inv 28 ++ f (decide (t.depCount > 4096)) inv 30 ++
  f ((t.hasSlot && (decide (t.modelSlot ≥ 16384) || (slotOk && !((List.range t.span).all fun r => match s.slots.find (t.modelSlot + r) with
    | some m => m.owner == t.ctx
    | none => false)))) || (t.update && !t.hasSlot)) inv 42 ++
  f ((!t.hasSlot && t.span != 0) || !slotOk) inv 44 ++
  f (!decide (1 ≤ t.tensorCount ∧ t.tensorCount ≤ (if t.hasSlot then 252 else 256)) || (t.update && t.tensorCount != 1)) inv 46 ++
  f ((t.placement == 0 && t.mask == 0) || (t.placement != 0 && t.mask != 0)) inv 48 ++
  f ((t.placement == 0 && t.coreField != 0) || (t.placement == 1 && decide (t.coreField ≥ s.presentCores.length)) ||
    (t.placement == 2 && decide (t.coreField ≥ 512))) inv 56 ++
  f (t.placement == 2 && decide (t.coreField < 512) && !s.corePresent t.coreField) Code.engineAbsent 56 ++
  f (t.placement == 3 || fld d 471 468 != 0 || (t.update && t.placement != 0)) inv 58 ++ f (fld d 479 474 != 0) inv 59 ++
  (List.range 2).flatMap (fun n => f (t.awaitEn n && (x.arrWin.find (t.awaitCtr n)).isNone) inv (60 + n)) ++
  f (fld d 511 496 != 0) inv 62 ++ f (fld d 1023 704 != 0) inv 88

/-- Whether two tensors have the same extents and shard fields. -/
def TensorRef.sameShape (a b : TensorRef) : Bool :=
  ((List.range 4).all fun i => a.extent i == b.extent i) && a.shardDim == b.shardDim && a.shards == b.shards && a.shardIdx == b.shardIdx

/-- Whether the modes of a STORE are ones that its slot tensor's format takes: no SR into FP32 from the FP32 temporary, and a conversion mode that the format allows (R90, R116, R117, R128). -/
def storeOk (m : ModelSlot) (f : UpeF) : Bool :=
  let d := match f.sel with
    | 1 => some m.weights
    | 2 => m.wide
    | 3 => m.avg1
    | 4 => m.avg2
    | _ => none
  f.op != 2 || (match d with
    | some d =>
      let t : TensorRef := { desc := d }
      (t.sat f.cmode).isSome && !(f.rmode == 6 && t.fmt == 2)
    | none => true)

/-- The failed rules of an update task's gradient (structure 2) and of its slots (structure 5), in the order of their fields (R284). -/
def Pkg.updateFails (s : Pkg) (t : Task) (g : TensorRef) : List AdmFail :=
  let f (b : Bool) (off str : Nat) : List AdmFail := failIf b Code.invalidDescriptor off str 0
  let ms := (List.range t.span).filterMap fun r => s.slots.find (t.modelSlot + r)
  match ms with
  | [] => f true 42 1
  | m :: _ =>
    let w : TensorRef := { desc := m.weights }
    f (!([0x0E, 2, 4, 5] : List Nat).contains g.fmt) 6 2 ++ f (!g.grad) 7 2 ++
    f (g.shardDim != w.shardDim || (decide (t.span > 1) && g.shardDim == 3 && g.shards != 1)) 10 2 ++
    ((List.range 4).flatMap fun i => f (g.extent i != (if i = 3 then t.span else 1) * w.extent i) (16 + 4 * i) 2) ++
    f (g.shards != w.shards) 60 2 ++ f (g.shardIdx != w.shardIdx) 62 2 ++
    ms.flatMap fun m =>
      let gr := s.group m.group
      let opn := gr.isOpen && gr.owner == t.ctx
      f (!({ desc := m.weights : TensorRef }).sameShape w) 0 5 ++
      (if opn then (progTensors gr.prog).flatMap fun i => match i with
        | 0 => []
        | 1 => f m.wide.isNone 8 5
        | 2 => f m.avg1.isNone 16 5
        | _ => f m.avg2.isNone 24 5
      else []) ++
      f (!opn || !progOpsOk gr.cls (g.fmt == 0x0E) (progOps gr.prog) || !(progOps gr.prog).all (storeOk m)) 32 5

/-- A task with what admission reads for it: tensors, image header, successors; and its own failures. -/
def Pkg.readTask (s : Pkg) (t : Task) : Task × List AdmFail × Pkg :=
  let own := s.taskFails t
  let cnt := if t.tensorCount ≤ 256 then t.tensorCount else 0
  let (ts, fs, s) := (List.range cnt).foldl (fun (a : List TensorRef × List AdmFail × Pkg) i =>
    match a.2.2.rdTensor t.ctx (t.tensorArr + 64 * i) i with
    | (.ok r, s) => (a.1 ++ [r], a.2.1 ++ s.tensorFails t.ctx i r, s)
    | (.error f, s) => (a.1 ++ [{}], a.2.1 ++ [f], s)) ([], [], s)
  let t := { t with tensors := ts }
  if t.update then
    let g := ts.getD 0 {}
    (t, own ++ fs ++ (if own.isEmpty && fs.isEmpty then s.updateFails t g else []), s)
  else
    match s.rdStruct t.ctx t.image 64 with
    | (.ok b, s) => ({ t with imageHdr := BitVec.ofNat 512 (leNat b) }, own ++ fs ++ imageFails s (BitVec.ofNat 512 (leNat b)), s)
    | (.error o, s) => (t, own ++ fs ++ [{ code := Code.invalidDescriptor, off := o, str := 3, unread := true }], s)

/-! ### Sketches (R224, R235, R236) -/

/-- The tasks in an order in which every predecessor comes first; shorter than the sketch where the dependences form a cycle (fuel: the tasks). -/
def topo (succs : Nat → List Nat) : Nat → List Nat → Tbl Nat → List Nat
  | 0, _, _ => []
  | _, [], _ => []
  | n + 1, k :: ks, deps =>
    let (deps, ready) := (succs k).foldl (fun (a : Tbl Nat × List Nat) j =>
      let d := a.1.get 0 j - 1
      (a.1.set j d, if d = 0 then a.2 ++ [j] else a.2)) (deps, [])
    k :: topo succs n (ks ++ ready) deps

/-- Free task slots, lowest first. -/
def Pkg.freeSlots (s : Pkg) (n : Nat) : List Nat := ((List.range 32768).filter fun i => (s.tasks.find i).isNone).take n

/-- Task slots that a context holds. -/
def Pkg.inFlight (s : Pkg) (c : Nat) : Nat := (s.tasks.filter fun t => t.2.ctx == c).length

/-- The task of a sketch read from its array. -/
def taskOf (c seq i : Nat) (b : Bytes) : Task :=
  let t : Task := { ctx := c, seq := seq, idx := i, desc := BitVec.ofNat 1024 (leNat b) }
  let t := { t with update := fld t.desc 63 0 == 0 }
  { t with deps := t.depCount }

/-- The first field of a sketch descriptor that breaks a rule of its own (R224, R236): flags, task_array, reserved bytes. -/
def sketchBad (e : Bytes) : Option Nat :=
  if le e 1 1 ≥ 4 then some 1
  else if le e 8 8 % 128 ≠ 0 then some 8
  else ((List.range 44).find? fun i => le e (20 + i) 1 ≠ 0).map (20 + ·)

/-- The offset that a sketch failed for its task_count reports: the first failing field (R236). -/
def countOff (e : Bytes) : Nat := if le e 1 1 ≥ 4 then 1 else if le e 8 8 % 128 ≠ 0 then 8 else 16

/-- A sketch validated and admitted (R236): its task slots are free, and taken here whether it fails or not (R235). DESIGN CHOICE, log entry 114: a cycle is reported at offset 0 of structure 4, and a successor list of a succ_count above 4,096 is not read. -/
def Pkg.admitSketch (s : Pkg) (c : Nat) (e : Bytes) (q : Sketch) : Pkg :=
  let inv := Code.invalidDescriptor
  let n := q.count
  let arr := le e 8 8
  let slots := s.freeSlots n
  match sketchBad e with
  | some o =>
    let (tags, s) := s.readTags c e n
    s.sketchFail c q { code := inv, off := o, str := 0 } tags slots
  | none =>
    -- the task array: an unreadable byte of it fails the sketch
    let (ts, bad, s) := (List.range n).foldl (fun (a : List Task × Option AdmFail × Pkg) i =>
      match a.2.2.rdStruct c (arr + 128 * i) 128 with
      | (.ok b, s) => (a.1 ++ [taskOf c q.seq i b], a.2.1, s)
      | (.error o, s) => (a.1 ++ [taskOf c q.seq i []], a.2.1.orElse fun _ => some { code := inv, off := o, str := 1, unread := true }, s)) ([], none, s)
    let tags := ts.map fun t => (t.tag, t.irq)
    -- successor lists: a failure of one fails the sketch
    let (ts, sf, s) := ts.foldl (fun (a : List Task × Option AdmFail × Pkg) t =>
      if t.succCount = 0 ∨ t.succCount > 4096 then (a.1 ++ [t], a.2.1, a.2.2)
      else match a.2.2.rdStruct c t.succList (4 * t.succCount) with
        | (.ok b, s) =>
          let xs := (List.range t.succCount).map fun j => le b (4 * j) 4
          let f := (xs.zipIdx.find? fun (v, _) => decide (v ≥ n) || v == t.idx).map fun (_, j) =>
            ({ code := inv, off := 4 * j, str := 4 } : AdmFail)
          (a.1 ++ [{ t with succs := xs }], a.2.1.orElse fun _ => f, s)
        | (.error o, s) => (a.1 ++ [t], a.2.1.orElse fun _ => some { code := inv, off := o, str := 4, unread := true }, s)) ([], none, s)
    let count (i : Nat) : Nat := (ts.map fun t => (t.succs.filter (· == i)).length).sum
    let depBad := ts.find? fun t => t.depCount != count t.idx
    let succs (i : Nat) : List Nat := ((ts[i]?).map (·.succs)).getD []
    let deps : Tbl Nat := (List.range n).map fun i => (i, count i)
    let order := topo succs n ((List.range n).filter fun i => count i == 0) deps
    let whole := (bad.orElse fun _ => sf).orElse fun _ => match depBad with
      | some _ => some { code := inv, off := 30, str := 1 }
      | none => if order.length < n then some { code := inv, off := 0, str := 4 } else none
    match whole with
    | some f => s.sketchFail c q f tags slots
    | none =>
      let (rs, s) := ts.foldl (fun (a : List (Task × Option AdmFail) × Pkg) t =>
        let (t, fs, s) := a.2.readTask t
        (a.1 ++ [(t, worstFail fs)], s)) ([], s)
      let own (i : Nat) : Nat := ((rs[i]?).bind (·.2)).elim 0 (·.code)
      let codes := order.foldl (fun (cs : Tbl Nat) i => (succs i).foldl (fun cs j => cs.upd 0 j (max (cs.get 0 i))) cs)
        ((List.range n).map fun i => (i, own i))
      let s := { s with tasks := rs.zipIdx.foldl (fun (tb : Tbl Task) (p : (Task × Option AdmFail) × Nat) => tb.set (slots.getD p.2 0)
          { p.1.1 with code := codes.get 0 p.2, atCompletion := codes.get 0 p.2 ≠ 0 }) s.tasks }
      let s := s.updCtx c fun x => { x with sketches := x.sketches ++ [q] }
      let failed := (List.range n).filter fun i => codes.get 0 i ≠ 0
      let s := (s.bumpBy Reg.tasksAdmitted (n - failed.length)).bumpBy Reg.admitFail failed.length
      let s := rs.foldl (fun s r => match r.2 with
        | some f => (s.logWith Ev.admitFailed Unit.controlDie (some c) f.code false (f.detail q.seq r.1.idx)).updTask
            (slots.getD r.1.idx 0) fun t => { t with events := t.events + 1 }
        | none => s) s
      if failed.isEmpty then s else s.report c (failed.map fun i => slots.getD i 0) true

/-- Whether the package processes rings (R512, R507). -/
def Pkg.ringsOn (s : Pkg) : Bool := s.power.ready && !s.host.d3 && !s.power.halted

/-- The submission entry at the front of a context's ring taken: the index advances here and in host memory (R222). -/
def Pkg.takeEntry (s : Pkg) (c : Nat) : Pkg :=
  let s := s.updCtx c fun x => { x with sqCons := x.sqCons + 1 }
  s.hostW (s.doorbell + 0x10000 + 8 * c) (leBytes 8 (s.ctx c).sqCons)

/-- Whether a context's ring has an entry to take. -/
def Pkg.entryReady (s : Pkg) (c : Nat) : Bool :=
  let x := s.ctx c
  s.ringsOn && x.phase == .open && decide (x.sqCons < x.sqProd) && x.ringHeld == .none

/-- A sketch begun, or left waiting for task slots; one that its quota can never admit fails and holds its ring no longer (R235). -/
def Pkg.startSketch (s : Pkg) (c : Nat) (e : Bytes) : Pkg :=
  let x := s.ctx c
  let q := sketchOf e x.sketchSeq
  let f : AdmFail := { code := Code.invalidDescriptor, off := countOff e, str := 0 }
  let on := s.updCtx c fun x => { x with ringHeld := .none, ringEntry := [], waitNoted := false }
  if q.count = 0 ∨ q.count > 32768 then
    (on.logWith Ev.admitFailed Unit.controlDie (some c) f.code false (f.detail q.seq 0xFFFFFFFF)).putRecs c
      [{ bytes := recBytes f.code 1 0 0 0xFFFFFFFF q.tag 0 q.seq 0 1, irq := q.irq, failSeq := some q.seq, late := true }]
  else if q.count > fld x.sched 15 0 then
    let (tags, s) := on.readTags c e q.count
    s.sketchFail c q f tags []
  else if s.inFlight c + q.count ≤ fld x.sched 15 0 ∧ s.tasks.length + q.count ≤ 32768 then on.admitSketch c e q
  else
    let s := if x.waitNoted then s else s.bump Reg.admitWait
    s.updCtx c fun x => { x with ringHeld := .sketchSlots, ringEntry := e, waitNoted := true }

/-- SKETCH (R224, R235). -/
def Pkg.sketch (s : Pkg) (c : Nat) (e : Bytes) : Pkg :=
  if !s.entryReady c then s
  else
    let s := s.takeEntry c
    (s.updCtx c fun x => { x with sketchSeq := x.sketchSeq + 1 }).startSketch c e

/-- SKETCH_ADMIT_RESUME (R235). -/
def Pkg.sketchResume (s : Pkg) (c : Nat) : Pkg :=
  let x := s.ctx c
  if s.ringsOn && x.phase == .open && x.ringHeld == .sketchSlots then s.startSketch c x.ringEntry else s

/-! ### Model slots (R229, R230, R271, R299) -/

/-- The scale record of a tensor as it stands. -/
def Pkg.scaleRec (s : Pkg) (c : Nat) (t : TensorRef) : Option (BitVec 256) :=
  let r := s.vRead c t.scalePtr 32 .read true
  if r.fault || r.poison then none else some (BitVec.ofNat 256 (leNat r.bytes))

/-- The rules of a slot's tensors by precision class (R271, R304). -/
def Pkg.slotClassOk (s : Pkg) (c : Nat) (g : Group) (m : ModelSlot) : Bool :=
  let rec_ (d : BitVec 512) : TensorRef := { desc := d }
  let w := rec_ m.weights
  let shaped := (([m.wide, m.avg1, m.avg2].filterMap id).map rec_).all w.sameShape
  let auto (t : TensorRef) : Bool := ((s.scaleRec c t).map (bitAt · 40)).getD true
  let unit (t : TensorRef) : Bool := ((s.scaleRec c t).map fun r => fld r 31 0 == 0x3F800000 && fld r 111 64 == 0).getD false
  let avgOk (o : Option (BitVec 512)) : Bool := match o with
    | none => true
    | some d => let t := rec_ d
      t.fmt == 2 || t.fmt == 4
  let usesWide := (progOps g.prog).any fun f => decide (f.op = 1 ∨ f.op = 2) && f.sel == 2
  shaped && !auto w && avgOk m.avg1 && avgOk m.avg2 &&
  (if g.cls then
    w.fmt == 4 && unit w && (match m.wide with
      | some d => (rec_ d).fmt == 4 && unit (rec_ d)
      | none => false)
  else
    mxeOperand w.fmt && (match m.wide with
      | some d => (rec_ d).fmt == 2
      | none => !usesWide && !fmtBlock w.fmt))

/-- Whether an admitted, unreported task names a slot (R230). -/
def Pkg.slotBusy (s : Pkg) (i : Nat) : Bool :=
  s.tasks.any fun t => t.2.phase != .reported && t.2.hasSlot && decide (t.2.modelSlot ≤ i ∧ i < t.2.modelSlot + t.2.span)

/-- The slot that a descriptor describes, where every check holds. -/
def Pkg.readSlot (s : Pkg) (c a : Nat) : Option ModelSlot × Pkg :=
  match s.rdStruct c a 64 with
  | (.error _, s) => (none, s)
  | (.ok b, s) =>
    let g := le b 32 2
    let gr := s.group g
    if !zeros b 34 30 || decide (g ≥ 4096) || !gr.isOpen || gr.owner != c || le b 0 8 == 0 then (none, s)
    else
      let rd (s : Pkg) (a i : Nat) : Option (Option (BitVec 512)) × Pkg :=
        if a = 0 then (some none, s)
        else match s.rdTensor c a i with
          | (.error _, s) => (none, s)
          | (.ok t, s) => (if (s.tensorFails c i t).isEmpty then some (some t.desc) else none, s)
      let (w, s) := rd s (le b 0 8) 0
      let (wd, s) := rd s (le b 8 8) 1
      let (a1, s) := rd s (le b 16 8) 2
      let (a2, s) := rd s (le b 24 8) 3
      match w, wd, a1, a2 with
      | some (some w), some wd, some a1, some a2 =>
        let m : ModelSlot := ⟨c, w, wd, a1, a2, g⟩
        (if s.slotClassOk c gr m then some m else none, s)
      | _, _, _, _ => (none, s)

/-- A SLOT_SET or SLOT_CLEAR entry carried out, or left waiting for the slot's tasks (R230). -/
def Pkg.slotEntry (s : Pkg) (c : Nat) (e : Bytes) : Pkg :=
  let i := le e 4 2
  let set := le e 0 1 == 2
  let bad := !zeros e 1 3 || !zeros e 6 2 || (if set then !zeros e 16 48 else !zeros e 8 56) || decide (i ≥ 16384)
  let kind := le e 0 1
  let owner := (s.slots.find i).map (·.owner)
  let done (s : Pkg) (code : Nat) : Pkg := (s.updCtx c fun x => { x with ringHeld := .none, ringEntry := [] }).plainRec c code 2 kind
  if bad then done s Code.invalidDescriptor
  else if set && owner.isSome && owner != some c then done s Code.invalidDescriptor
  else if !set && owner != some c then done s Code.invalidDescriptor
  else if s.slotBusy i then s.updCtx c fun x => { x with ringHeld := .slotTasks, ringEntry := e }
  else if set then
    match s.readSlot c (le e 8 8) with
    | (some m, s) => done { s with slots := s.slots.set i m } Code.ok
    | (none, s) => done s Code.invalidDescriptor
  else done { s with slots := s.slots.erase i } Code.ok

def Pkg.slotOp (s : Pkg) (c kind : Nat) (e : Bytes) : Pkg :=
  if s.entryReady c && le e 0 1 == kind then (s.takeEntry c).slotEntry c e else s

/-- SLOT_ENTRY_RESUME (R230). -/
def Pkg.slotResume (s : Pkg) (c : Nat) : Pkg :=
  let x := s.ctx c
  if s.ringsOn && x.phase == .open && x.ringHeld == .slotTasks then s.slotEntry c x.ringEntry else s

/-! ### ARRIVAL_SET (R238) -/

/-- Whether an admitted, unreported task of a context awaits under a counter key. -/
def Pkg.awaited (s : Pkg) (c key : Nat) : Bool :=
  s.tasks.vals.any fun t => t.ctx == c && t.phase != .reported && (List.range 2).any fun n => t.awaitEn n && t.awaitKey n == key

/-- A counter's value moved to another key, or dropped. -/
def moveArr (a : Tbl Nat) (n : Nat) (m : Option Nat) : Tbl Nat :=
  match m, a.find n with
  | some k, some v => (a.erase n).set k v
  | _, _ => a.erase n

/-- Counter `n` of a context taken from the tasks of earlier entries: where one of them still awaits it, its window and its values stay, under a key from 256 on that those tasks await from now on; they are dropped when none does any longer (R84). Its committed value and those of closed windows go with it (DESIGN CHOICE, log entry 88). -/
def Pkg.retireCounter (s : Pkg) (c n : Nat) : Pkg :=
  let old := (s.ctx c).arrWin.keys.filter fun k => decide (256 ≤ k) && !s.awaited c k
  let s := s.updCtx c fun x =>
    let z (w : WinState) : WinState := { w with arr := w.arr.filterV fun k _ => !old.contains k }
    { x with arrWin := x.arrWin.filterV fun k _ => !old.contains k, arrDirect := x.arrDirect.filterV fun k _ => !old.contains k
             cur := z x.cur, com := z x.com, closed := x.closed.map fun w => (w.1, z w.2) }
  let m := if s.awaited c n then some (256 + (((s.ctx c).arrWin.keys.filter (256 ≤ ·)).map (· - 255)).foldl max 0) else none
  let z (w : WinState) : WinState := { w with arr := moveArr w.arr n m }
  let win := (s.ctx c).arrWin.find n
  let s := s.updCtx c fun x => { x with
    arrWin := match m, win with
      | some k, some w => (x.arrWin.erase n).set k w
      | _, _ => x.arrWin.erase n
    cur := z x.cur, com := z x.com, closed := x.closed.map fun w => (w.1, z w.2)
    arrDirect := moveArr x.arrDirect n m }
  match m with
  | none => s
  | some k => { s with tasks := s.tasks.mapV fun _ t =>
      if t.ctx = c ∧ t.phase ≠ .reported ∧ ((List.range 2).any fun i => t.awaitEn i && t.awaitKey i == n) = true then
        { t with awaits := t.awaits.set n k } else t }

/-- ARRIVAL_SET (R238): the counter is reset for the entries after it (R84). -/
def Pkg.arrivalSet (s : Pkg) (c : Nat) (e : Bytes) : Pkg :=
  if !(s.entryReady c && le e 0 1 == 4) then s
  else
    let s := s.takeEntry c
    let x := s.ctx c
    let n := le e 1 1
    let en := (le e 2 1).testBit 0
    let base := le e 8 8
    let len := le e 16 8
    let clash := x.arrWin.any fun w => w.1 != n && decide (w.1 < 256) && decide (base < w.2.base + w.2.len ∧ w.2.base < base + len)
    let bad := decide (le e 2 1 ≥ 4) || !zeros e 3 5 || !zeros e 24 40 ||
      (en && (base % 64 != 0 || len == 0 || len % 64 != 0 || clash))
    if bad then s.plainRec c Code.invalidDescriptor 2 4
    else
      let s := s.retireCounter c n
      if en then s.updCtx c fun x => { x with arrWin := x.arrWin.set n ⟨base, len, (le e 2 1).testBit 1, false⟩ } else s

/-! ### Doorbells (R218 to R222) -/

/-- A ring index ignored, counted and logged once for each distinct invalid value (R219). -/
def Pkg.badIndex (s : Pkg) (c arr v last : Nat) : Pkg :=
  (s.bump Reg.ringIndexInvalid).logEv Ev.ringIndexInvalid Unit.controlDie (some c)
    (leBytes 2 c ++ leBytes 1 arr ++ leBytes 5 0 ++ leBytes 8 v ++ leBytes 8 last)

/-- An SQ producer index read (R219). -/
def Pkg.readSq (s : Pkg) (c v : Nat) : Pkg :=
  let x := s.ctx c
  if x.phase ≠ .open then s
  else if v < x.sqProd ∨ v > x.sqCons + 2 ^ fld x.sq 4 0 then
    if x.badSq.contains v then s else (s.badIndex c 0 v x.sqProd).updCtx c fun x => { x with badSq := NatSet.ins x.badSq v }
  else s.setCtx c { x with sqProd := v }

/-- A CQ consumer index read (R219). -/
def Pkg.readCq (s : Pkg) (c v : Nat) : Pkg :=
  let x := s.ctx c
  if x.phase = .free then s
  else if v < x.cqCons ∨ v > x.cqProd then
    if x.badCq.contains v then s else (s.badIndex c 1 v x.cqCons).updCtx c fun x => { x with badCq := NatSet.ins x.badCq v }
  else s.setCtx c { x with cqCons := v }

/-- Entries that no other command takes: a NOP has no effect, a reserved kind is answered (R223). -/
def Pkg.otherEntry (s : Pkg) (c : Nat) (e : Bytes) : Pkg :=
  let k := le e 0 1
  if !s.entryReady c || decide (1 ≤ k ∧ k ≤ 4) then s
  else
    let s := s.takeEntry c
    if k = 0 then s else s.plainRec c Code.invalidDescriptor 2 k

/-- DOORBELL_POLL (R221): producer indices, and the NOP and reserved entries that come up. -/
def Pkg.poll (s : Pkg) (sq : List (Nat × Nat)) (others : List (Nat × Bytes)) : Pkg :=
  if !s.ringsOn then s
  else others.foldl (fun s o => s.otherEntry o.1 o.2) (sq.foldl (fun s p => s.readSq p.1 p.2) s)

/-- CQ_RECORDS_RELEASE (R233): a consumer index read shows room. -/
def Pkg.cqRelease (s : Pkg) (c v : Nat) : Pkg := if !s.ringsOn then s else (s.readCq c v).flush c

end Sys2Proof.Machine
end

