-- ==== Sys2Proof/Machine/Complete.lean ====
section
/-! DEFINITION. How a task completes, and the FENCED refusal of its requests (R75, R79, R190, R237, R250, R489, R490). -/

namespace Sys2Proof.Machine

/-- A task completes: maxima recorded, its unit freed, its successors released; one that is not replayable is reported at once (R75, R79, R237, R250). -/
def Pkg.complete (s : Pkg) (k : Nat) : Pkg :=
  let t := s.task k
  let mhz := s.dieMhz (t.dieOf t.core)
  let s := (s.task k).maxima.foldl (fun s m => match (s.task k).tensor m.tensor with
    | some r => s.recordMax (some k) t.ctx r t.step (magF32 (m.m, m.e))
    | none => s) s
  let s := s.stopTask k
  let s := { s with stroke := { s.stroke with completeNo := s.stroke.completeNo + 1 } }
  let s := s.updTask k fun x => { x with
    phase := .completed, cycles := (s.now - t.at0) * mhz / 1000, window := s.stroke.number, order := s.stroke.completeNo
    atCompletion := !t.replayable }
  let s := { s with tasks := s.tasks.mapV fun _ u =>
    if u.ctx = t.ctx ∧ u.seq = t.seq ∧ t.succs.contains u.idx then { u with deps := u.deps - t.listed u.idx } else u }
  let buffered := (s.tasks.any fun u => u.2.ctx == t.ctx && u.2.tensors.any (·.buffered)) || s.slots.any fun m => m.2.owner == t.ctx
  let s := if buffered then s else s.statMarks k true
  if t.replayable then s else s.report t.ctx [k] false

/-- An error in a register file, or in what a core runs from its control store (R458): the task is aborted and its context voided and replayed; one that is not replayable completes with POISONED_INPUT. -/
def Pkg.parityAbort (s : Pkg) (task : Option Nat) (unit : Nat) : Pkg :=
  match task with
  | none => s.logEv Ev.regfileParity unit none []
  | some k =>
    let c := (s.task k).ctx
    let s := s.taskEvent k Ev.regfileParity unit 0 []
    let s := if (s.task k).replayable then s else (s.taskCode k Code.poisonedInput).complete k
    if (s.ctx c).phase = .open then s.voidCtx c (s.voidBase c) else s

/-- A control-store copy discarded, and the task that runs it aborted (R458). -/
def Pkg.dropCopy (s : Pkg) (c ctx a : Nat) : Pkg :=
  let s := s.updCore c fun x => { x with store := x.store.filter fun i => !(i.ctx == ctx && i.addr == a) }
  match (s.core c).task with
  | some k => if (s.task k).ctx = ctx ∧ (s.core c).image = a then s.parityAbort (some k) (Unit.engine c 4) else s
  | none => s

/-- A FENCED refusal met by a task (R490). -/
def Pkg.fencedTask (s : Pkg) (k : Nat) : Pkg :=
  let t := s.task k
  if t.phase ≠ .running then s
  else if t.replayable then
    (s.logWith Code.fenced t.unit (some t.ctx) Code.fenced false []).voidCtx t.ctx (max s.stroke.number (s.voidBase t.ctx))
  else (s.taskCode k Code.fenced).complete k

/-- Whether a fence refuses new requests of a unit's domain (R489): one that holds the unit, or one on a memory port or memory die, which fences every GDDR request of the package. -/
def Pkg.fencedFrom (s : Pkg) (unit : Nat) : Bool :=
  inTree s.rst.fences unit || s.rst.fences.any fun u => u / 4096 == 5 || u / 4096 == 6

/-- A local refusal of a request with FENCED (R489, R490). -/
def Pkg.fencedHere (s : Pkg) (k : Nat) : Pkg := (s.bump Reg.fenceRefusals).fencedTask k

/-- Whether an operation is the next of a cluster's engine. -/
def Pkg.upeNext (s : Pkg) (cl k op : Nat) : Bool :=
  let u := (s.cluster cl).upe
  !u.done && !s.dieStopped (cl / 4) && ((progOps (s.group (s.slotGroup k u.slot)).prog)[u.pc]?).any fun f => f.op == op

/-- An update engine's access to memory, refused where a fence stands (R489). -/
def Pkg.upeAccess (s : Pkg) (cl op : Nat) : Pkg :=
  match (s.cluster cl).upe.task with
  | some k => if s.fencedFrom (Unit.clusterEngine cl 1) && s.upeNext cl k op then s.fencedHere k else s.upeOp cl op
  | none => s.upeOp cl op

end Sys2Proof.Machine
end

