-- ==== Sys2Proof/Machine/Sde.lean ====
section
/-! DEFINITION. The sparsity and dispatch engine: GATHER and SCATTER (R161 to R164, R200, R201). -/

namespace Sys2Proof.Machine

/-- The SDE slot (R200). -/
structure SdeF where
  op : Nat
  st : Nat
  defer : Bool
  k : Nat
  groups : Nat
  cap : Nat
  deriving DecidableEq, Repr

def sdeF (x : BitVec 96) : SdeF :=
  ⟨fld x 47 44, fld x 43 42, bitAt x 41, fld x 40 38 + 1, fld x 37 24 + 1, fld x 23 8⟩

/-- The parameter block (R201). -/
structure SdeP where
  rows : Nat
  rowBytes : Nat
  route : Nat
  weight : Nat
  rowsA : Nat
  grouped : Nat
  table : Nat
  deferA : Nat
  deferCap : Nat
  ok : Bool
  deriving DecidableEq, Repr

def SdeP.ofBytes (b : Bytes) : SdeP :=
  let rows := le b 0 4
  let rb := le b 4 4
  ⟨rows, rb, le b 8 8, le b 16 8, le b 24 8, le b 32 8, le b 40 8, le b 48 8, le b 56 4,
    decide (1 ≤ rows ∧ rows ≤ 65536) && decide (64 ≤ rb ∧ rb ≤ 65536 ∧ rb % 64 = 0) &&
      ([8, 16, 24, 32, 40, 48].all fun o => decide (le b o 8 < 2 ^ 40)) && zeros b 60 4⟩

def sdeUses (w : CWord) : List Use :=
  if !w.has 7 then [] else
  let f := sdeF (w.slot 7)
  if f.op = 1 ∨ f.op = 2 then [{ slot := 7, stream := f.st, bytes := 64, width := 8, write := false }] else []

def Pkg.sdeParams (s : Pkg) (c : Nat) (w : CWord) (f : SdeF) : SdeP :=
  SdeP.ofBytes ((s.streamBytes c w f.st 64).map fun b => BitVec.ofNat 8 b.1)

/-- The route entries in use: row, position, route index (R161). -/
def Pkg.routes (s : Pkg) (c : Nat) (f : SdeF) (p : SdeP) : List (Nat × Nat × Nat) × Nat :=
  let es := unpack 32 (p.rows * f.k) (s.lRead c p.route (4 * p.rows * f.k))
  let vs := es.zipIdx.filterMap fun (e, i) =>
    if e.testBit 31 then some (i / f.k, i % f.k, nbits e 13 0) else none
  (vs.filter fun x => decide (x.2.2 < f.groups), (vs.filter fun x => !decide (x.2.2 < f.groups)).length)

/-- The entries of one route index in order: position, then row (R162). -/
def groupOf (f : SdeF) (vs : List (Nat × Nat × Nat)) (g : Nat) : List (Nat × Nat × Nat) :=
  (List.range f.k).flatMap fun j => vs.filter fun x => x.2.1 == j && x.2.2 == g

/-- Admitted and refused entries of every route index, in order (R162). -/
def groupsOf (f : SdeF) (vs : List (Nat × Nat × Nat)) : List (List (Nat × Nat × Nat) × List (Nat × Nat × Nat)) :=
  (List.range f.groups).map fun g =>
    let l := groupOf f vs g
    if f.cap = 0 then (l, []) else (l.take f.cap, l.drop f.cap)

/-- The core-local ranges that an operation reads, and those it writes: address and length. -/
def Pkg.sdeRanges (s : Pkg) (c : Nat) (f : SdeF) (p : SdeP) : List (Nat × Nat) × List (Nat × Nat) :=
  let gs := groupsOf f (s.routes c f p).1
  let adm := (gs.map fun g => g.1.length).sum
  if f.op = 1 then
    ([(p.route, 4 * p.rows * f.k), (p.rowsA, p.rows * p.rowBytes)],
     [(p.grouped, adm * p.rowBytes), (p.table, 8 * f.groups)] ++ (if f.defer then [(p.deferA, 8 * p.deferCap)] else []))
  else
    ([(p.route, 4 * p.rows * f.k), (p.weight, 4 * p.rows * f.k), (p.grouped, adm * p.rowBytes)], [(p.rowsA, p.rows * p.rowBytes)])

/-- The rules of the SDE slot (R200, R201). -/
def Pkg.checkSde (s : Pkg) (c : Nat) (w : CWord) : Why :=
  if !w.has 7 then [] else
  let x := w.slot 7
  let f := sdeF x
  if f.op = 0 then whyIf 7 1 (x != 0)
  else if f.op > 2 then whyIf 7 1 (fld x 7 0 != 0) ++ [(7, 2)]
  else
    let live := f.st < 3 && (w.stream f.st).isSome
    let p := s.sdeParams c w f
    whyIf 7 1 (fld x 7 0 != 0) ++ whyIf 7 5 (f.st == 3) ++ whyIf 7 0x11 (live && !p.ok) ++
    whyIf 7 4 (live && p.ok &&
      (!inWindow p.route (4 * p.rows * f.k) ||
        (let (r, wr) := s.sdeRanges c f p
         (r ++ wr).any (fun x => !inWindow x.1 x.2) || (f.op == 1 && f.defer && !inCluster p.deferA (8 * p.deferCap)))))

/-- A deferral record (R163). -/
def deferRec (e : Nat × Nat × Nat) : Bytes := leBytes 8 (e.1 % 2 ^ 24 + (e.2.1 % 8) <<< 24 + (e.2.2 % 2 ^ 14) <<< 32)

/-- Reports of route entries whose index is out of range (R161). -/
def Pkg.rangeReports (s : Pkg) (c k : Nat) : Nat → Pkg
  | 0 => s
  | n + 1 => Pkg.rangeReports ((s.coreCount c 0x40 1).taskEvent k Ev.routeIndexRange (Unit.engine c 3) 0 []) c k n

/-- GATHER (R161 to R163). DESIGN CHOICE, log entry 106: the deferral list holds its records by route index, then position, then row, and each GATHER starts it anew at defer_addr; R163 says neither. -/
def Pkg.gather (pre s : Pkg) (c k : Nat) (f : SdeF) (p : SdeP) : Pkg × List LWrite :=
  let (vs, out) := pre.routes c f p
  let bad := pre.lPoison c p.route (4 * p.rows * f.k)
  let gs := groupsOf f vs
  let adm := gs.flatMap (·.1)
  let ref := gs.flatMap (·.2)
  let firsts := gs.foldl (fun (a : List Nat × Nat) g => (a.1 ++ [a.2], a.2 + g.1.length)) ([], 0)
  let tbl := (gs.zip firsts.1).flatMap fun (g, n) => leBytes 4 n ++ leBytes 2 g.1.length ++ leBytes 2 g.2.length
  let rows : List LWrite := adm.zipIdx.map fun (e, i) =>
    { slot := 7, addr := p.grouped + i * p.rowBytes, data := pre.lRead c (p.rowsA + e.1 * p.rowBytes) p.rowBytes,
      poison := bad || pre.lPoison c (p.rowsA + e.1 * p.rowBytes) p.rowBytes }
  let kept := if f.defer then ref.take p.deferCap else []
  let dropped := if f.defer then ref.length - p.deferCap else ref.length
  let recs : List LWrite := kept.zipIdx.map fun (e, i) =>
    { slot := 7, addr := p.deferA + 8 * i, data := deferRec e, poison := bad }
  let s := (s.rangeReports c k out).coreCount c 0x40 dropped
  let s := s.coreCount c 0x48 kept.length
  let s := if f.defer && dropped > 0 then s.taskEvent k Ev.routeDeferFull (Unit.engine c 3) 0 [] else s
  let s := if bad || rows.any (·.poison) then s.taskCode k Code.poisonedInput else s
  (s, rows ++ [{ slot := 7, addr := p.table, data := tbl, poison := bad }] ++ recs)

/-- SCATTER (R164). -/
def Pkg.scatter (pre s : Pkg) (c k : Nat) (f : SdeF) (p : SdeP) : Pkg × List LWrite :=
  let (vs, _) := pre.routes c f p
  let adm := ((groupsOf f vs).flatMap (·.1)).zipIdx
  let wts := unpack 32 (p.rows * f.k) (pre.lRead c p.weight (4 * p.rows * f.k))
  let idx := pre.lPoison c p.route (4 * p.rows * f.k) || pre.lPoison c p.weight (4 * p.rows * f.k)
  let n := p.rowBytes / 4
  let rows := (List.range p.rows).map fun r =>
    let mine := (List.range f.k).filterMap fun j => adm.find? fun x => x.1.1 == r && x.1.2.1 == j
    let terms := mine.map fun x =>
      ((wts.getD (r * f.k + x.1.2.1) 0), unpack 32 n (pre.lRead c (p.grouped + x.2 * p.rowBytes) p.rowBytes))
    let val (i : Nat) : FV :=
      let ps := terms.map fun t => fMul (t.1, {}) (t.2.getD i 0, {})
      match ps with
      | [] => (0, {})
      | q :: qs => qs.foldl fAdd q
    ((List.range n).map val, idx || mine.any fun x => pre.lPoison c (p.grouped + x.2 * p.rowBytes) p.rowBytes)
  let s := s.taskFlags k ((rows.flatMap (·.1)).foldl (fun fl v => fl.or v.2) {})
  let s := if rows.any (·.2) then s.taskCode k Code.poisonedInput else s
  (s, rows.zipIdx.map fun (x, r) =>
    { slot := 7, addr := p.rowsA + r * p.rowBytes, data := packBytes 32 (x.1.map (·.1)), poison := x.2 })

/-- The SDE slot's effect in a repeat. -/
def Pkg.sdeIssue (pre s : Pkg) (c k : Nat) (w : CWord) : Pkg × List LWrite :=
  if !w.has 7 then (s, []) else
  let f := sdeF (w.slot 7)
  let p := pre.sdeParams c w f
  if f.op = 1 then pre.gather s c k f p
  else if f.op = 2 then pre.scatter s c k f p
  else (s, [])

end Sys2Proof.Machine
end

