-- ==== Sys2Proof/Machine/Issue.lean ====
section
/-! DEFINITION. Issue: the check of a repeat, its holds, its slots' effects, skips, and the sequencer's way from word to word (R133, R190, R204 to R213). -/

namespace Sys2Proof.Machine

/-- The image that a core runs. -/
def Pkg.curImage (s : Pkg) (c k : Nat) : Image :=
  ((s.core c).store.find? fun i => i.ctx == (s.task k).ctx && i.addr == (s.core c).image).getD { ctx := 0, addr := 0, hdr := 0, presets := [], words := [] }

/-- Every stream use of a repeat. -/
def Pkg.uses (s : Pkg) (c k : Nat) (w : CWord) (rep : Nat) : List Use :=
  mxeUses s k w rep ++ vxeUses w ++ rweUses s c w ++ sdeUses w ++ txeUses s c k w

/-- The streams that an engine slot's operation names: each of its stream fields but those of value 3 (R180, R193, R194, R196, R198, R200, R202). DEDUCED, log entry 107: a field that the operation does not read names its stream too. -/
def CWord.names (w : CWord) (j : Nat) : List Nat :=
  if !w.has j || w.op j == 0 then [] else
  (match j with
    | 4 => if w.op 4 = 1 then (let f := mmaF (w.slot 4); [f.aSt, f.bSt, f.mSt, f.cSt]) else if w.op 4 = 2 then [(outF (w.slot 4)).st] else []
    | 5 => [(vxeF (w.slot 5)).stream]
    | 6 => let f := rweF (w.slot 6); [f.inS, f.outS, f.gS]
    | 7 => [(sdeF (w.slot 7)).st]
    | 8 => [(txeF (w.slot 8)).st]
    | _ => []).filter (· < 3)

/-- The rules about streams that the engine slots name: none twice in a word, and each by an AG slot that drives it (R180). -/
def checkNames (w : CWord) : Why :=
  let js := [4, 5, 6, 7, 8]
  js.flatMap fun j =>
    let mine := w.names j
    whyIf j 5 (!mine.Nodup || mine.any fun t => (w.stream t).isNone || js.any fun i => i ≠ j && (w.names i).contains t)

/-- Every rule of a repeat that is broken (R175 to R211). -/
def Pkg.checkWord (s : Pkg) (c k : Nat) (img : Image) (w : CWord) : Why :=
  let x := s.core c
  let us := s.uses c k w x.rep
  checkAg w img.presets.length ++ checkScl w (x.loops.map (·.level)) ++ checkFlow img.words w x.pc x.loops ++ checkSync w ++
  s.checkMxe c k w x.rep ++ s.checkVxe c k w (bitAt img.hdr 23) ++ s.checkRwe c w ++ s.checkSde c w ++ s.checkTxe c k w ++
  us.flatMap (s.checkUse c w) ++ checkNames w

/-! ### Holds (R203 to R206) -/

/-- Palette ranges of a repeat's engine operations: by slot, what it reads and what it writes. -/
def Pkg.ranges (s : Pkg) (c : Nat) (w : CWord) (us : List Use) (slot : Nat) : List (Nat × Nat) × List (Nat × Nat) :=
  let rng (u : Use) : List (Nat × Nat) :=
    (s.useUnits c w u).map (fun a => (a, 64)) ++
    (match w.stream u.stream with
      | some (g, _) => if (s.ag c g).sideEn && u.side > 0 then [((s.ag c g).side, u.side)] else []
      | none => [])
  let mine := us.filter fun u => u.slot == slot
  let sde := if slot = 7 ∧ w.has 7 ∧ w.op 7 ≠ 0 then s.sdeRanges c (sdeF (w.slot 7)) (s.sdeParams c w (sdeF (w.slot 7))) else ([], [])
  ((mine.filter fun u => !u.write).flatMap rng ++ sde.1, (mine.filter fun u => u.write).flatMap rng ++ sde.2)

/-- Whether two lists of ranges share a byte of the palette. -/
def touching (a b : List (Nat × Nat)) : Bool :=
  a.any fun x => b.any fun y => decide (x.1 < y.1 + y.2 ∧ y.1 < x.1 + x.2 ∧ x.1 < clusterBase)

/-- The accumulator set that an MXE slot names; whether the slot is a write-out. -/
def CWord.accOf (w : CWord) : Option Nat := if w.has 4 && w.op 4 != 0 then some (fld (w.slot 4) 59 58) else none
def CWord.isOut (w : CWord) : Bool := w.has 4 && w.op 4 == 2

/-- What a repeat's operations read and write of the palette, and the accumulator sets that they name (R206). -/
def Pkg.busyOf (s : Pkg) (c : Nat) (w : CWord) (us : List Use) : List BusyOp :=
  [4, 5, 6, 7, 8].filterMap fun e =>
    if w.has e && w.op e != 0 then
      let (r, wr) := s.ranges c w us e
      some { slot := e, reads := r, writes := wr, acc := if e = 4 then w.accOf else none, isOut := decide (e = 4) && w.isOut }
    else none

/-- Whether an interlock of R206 holds the repeat: palette bytes, or its accumulator set. -/
def interlocked (busy new : List BusyOp) : Bool :=
  new.any fun n => busy.any fun b =>
    touching n.reads b.writes || touching n.writes b.reads ||
    (n.acc.isSome && n.acc == b.acc && (b.isOut || n.isOut))

/-- Whether a WAIT's conditions on engines select an operation's slot (R204). -/
def waitSelects (x : BitVec 96) (b : BusyOp) : Bool :=
  (bitAt x 22 && b.isOut) || (bitAt x 23 && b.slot == 5) || (bitAt x 24 && b.slot == 6) || (bitAt x 25 && b.slot == 7)

/-- Whether a WAIT's conditions on transfers hold (R204). -/
def Pkg.waitXfers (s : Pkg) (k : Nat) (x : BitVec 96) : Bool :=
  (!bitAt x 26 || (s.taskXfers k none).isEmpty) && (!bitAt x 27 || (s.taskXfers k (some (fld x 21 18))).isEmpty)

/-- What holds the repeat in hand, if anything. -/
def Pkg.holdOf (s : Pkg) (c k : Nat) (w : CWord) (us : List Use) : Hold :=
  let x := s.core c
  let sy := w.slot 10
  if interlocked x.busy (s.busyOf c w us) then .interlock
  else if w.has 10 && w.op 10 == 1 && (x.busy.any (waitSelects sy) || !s.waitXfers k sy) then .wait
  else if ((s.cluster (clusterOf c)).freeXfers w.txeSlots).length < w.txeSlots then .txe
  else .none

/-! ### Issue and skip -/

/-- Bytes of the palette that two slots of a word write. -/
def clashes (ws : List LWrite) : Bool :=
  ws.any fun a => ws.any fun b => a.slot < b.slot && decide (a.addr < b.addr + b.data.length ∧ b.addr < a.addr + a.data.length ∧
    a.addr < clusterBase)

/-- The clash of a repeat counted, and logged once for the word (R133). DESIGN CHOICE, log entry 121: a COPY_IN of the same word is no party to it, since R133 does not give the cycles in which a transfer writes. -/
def Pkg.noteClash (s : Pkg) (c k : Nat) (ws : List LWrite) : Pkg :=
  if !clashes ws then s else
  let (n, s) := s.fresh
  let s := s.coreCount c 0x10 (1 + Config.clashCycles n)
  if (s.core c).clashLogged then s
  else (s.updCore c fun x => { x with clashLogged := true }).taskEvent k Ev.paletteWriteClash (Unit.core c) 0 []

/-- Line reads of unwritten lines that a repeat makes (R135). -/
def Pkg.unwrittenReads (s : Pkg) (c : Nat) (w : CWord) (us : List Use) : Nat :=
  (([4, 5, 6, 7, 8].flatMap fun e => (s.ranges c w us e).1).map fun r => s.unwrittenLines c r.1 r.2).sum

/-- The engine accepts one operation while its previous one still runs: with two outstanding, the older has ended. -/
def acceptOps (busy new : List BusyOp) : List BusyOp :=
  new.foldl (fun bs n =>
    let mine := bs.filter fun b => b.slot == n.slot
    match mine with
    | o :: _ :: _ => bs.erase o ++ [n]
    | _ => bs ++ [n]) busy

/-- The stall of units read together: none where each lies at one pitch from the one before, of those that R131 allows, else one for each extra access to the busiest bank. -/
def groupStall (us : List Nat) : Nat :=
  let ds := (us.zip (us.drop 1)).map fun p => (p.2 : Int) - p.1
  if ds.all fun d => pitchOk d && some d == ds.head? then 0 else bankStall us

/-- The bank stalls of a stream read: those of each 16 units read together (DEDUCED, log entry 5: the 16 rows of R131 are the units in stream order). -/
def Pkg.useStall (s : Pkg) (c : Nat) (w : CWord) (u : Use) : Nat :=
  match w.stream u.stream with
  | some _ =>
    if u.write then 0
    else
      let us := (s.useUnits c w u).filter (· < clusterBase)
      ((chunk (us.length / 16 + 1) 16 us).map groupStall).sum
  | none => 0

/-- A repeat counted as it issues: stalls, reads of unwritten lines, repeats (R131, R135, R212). -/
def Pkg.issueStart (pre : Pkg) (c k : Nat) (w : CWord) : Pkg :=
  let us := pre.uses c k w (pre.core c).rep
  let s := pre.coreCount c 0x08 ((us.map (pre.useStall c w)).sum)
  (s.coreCount c 0x18 (pre.unwrittenReads c w us)).coreCount c 0x60 1

/-- Whether a repeat's transfers are refused locally with FENCED (R489). -/
def Pkg.refused (s : Pkg) (c : Nat) (w : CWord) : Bool := decide (0 < w.txeSlots) && s.fencedFrom (Unit.core c)

/-- The engines' part of a repeat: every slot reads the state before it, writes land after all reads in slot order, transfers into the palette last (R133). -/
def Pkg.issueEngines (pre : Pkg) (c k : Nat) (w : CWord) : Pkg :=
  let x := pre.core c
  let s := pre.issueStart c k w
  let (s, w4) := pre.mxeIssue s c k w x.rep
  let s := s.credit (s.task k).ctx (3 * ((s.core c).ctr.get 0 0 - x.ctr.get 0 0))
  let (s, w5) := pre.vxeIssue s c k w
  let (s, w6) := pre.rweIssue s c k w
  let (s, w7) := pre.sdeIssue s c k w
  let ws := w4 ++ w5 ++ w6 ++ w7
  let copyIn := w.has 8 && w.op 8 == 1
  let fenced := pre.refused c w
  let s := if copyIn || fenced then s else pre.txeIssue s c k w
  let s := ws.foldl (fun s l => s.lWrite c l) s
  let s := if copyIn && !fenced then pre.txeIssue s c k w else s
  s.noteClash c k ws

/-- The sequencer's part of a repeat: address generators and scalars change, and its operations are outstanding (R179, R184, R185, R206). -/
def Pkg.issueSeq (pre s : Pkg) (c k : Nat) (img : Image) (w : CWord) : Pkg :=
  let us := pre.uses c k w (pre.core c).rep
  let busy := (pre.busyOf c w us).filter (·.slot < 8)
  let s := [1, 2, 3].foldl (fun s j => pre.agAfter s c w img us j) s
  let s := pre.sclAfter s c w
  let s := s.updCore c fun y => { y with busy := acceptOps y.busy busy, hold := .none }
  s.updTask k fun t => { t with progress := some s.stroke.number }

/-- One repeat issued, and the next repeat or word in hand (R133, R185, R209); a transfer that a fence refuses acts on its task (R490). -/
def Pkg.issueRepeat (pre : Pkg) (c k : Nat) (img : Image) (w : CWord) : Pkg :=
  let x := pre.core c
  let s := pre.issueSeq (pre.issueEngines c k w) c k img w
  let s := if x.rep + 1 < w.repeats then s.updCore c fun y => { y with rep := x.rep + 1 }
    else s.advance c (s.flowAfter c img.words w x.pc)
  if pre.refused c w then s.fencedHere k else s

/-- The detail of CW_SKIPPED (R210). -/
def skipDetail (pc rep reason slot image idx : Nat) : Bytes :=
  leBytes 4 pc ++ leBytes 2 rep ++ leBytes 1 reason ++ leBytes 1 slot ++ leBytes 8 image ++ leBytes 4 idx

/-- A word skipped from the repeat in hand on (R209): counted, logged, its flow op not performed, but a LOOP continues after its body. -/
def Pkg.skipWord (s : Pkg) (c k : Nat) (img : Image) (w : CWord) (slot reason : Nat) : Pkg :=
  let x := s.core c
  let unit := Unit.engine c 4
  let s := s.coreCount c 0x58 1
  let s := if reason = 0xD then (s.coreCount c 0x50 1).taskEvent k Ev.tableNotOwned (Unit.engine c 1) 0 [] else s
  let s := s.taskEvent k Ev.cwSkipped unit 0 (skipDetail x.pc x.rep reason slot x.image (s.task k).idx)
  let next := x.pc + w.len
  let dest := if w.has 0 && w.op 0 == 1 then skipWords img.words (fld (w.slot 0) 24 12) next else next
  (s.updCore c fun y => { y with hold := .none }).advance c (x.loops, dest, false)

/-- The repeat in hand taken as far as it goes: skipped, held, or issued. -/
def Pkg.tryWord (s : Pkg) (c k : Nat) (img : Image) (w : CWord) : Pkg :=
  match (s.checkWord c k img w).first with
  | some (slot, reason) => s.skipWord c k img w slot reason
  | none =>
    match s.holdOf c k w (s.uses c k w (s.core c).rep) with
    | .none => s.issueRepeat c k img w
    | h => s.updCore c fun y => { y with hold := h }

/-! ### From word to word -/

/-- Whether a slot holds an op that has a command of its own. -/
def slotNamed (w : CWord) (k : Nat) : Bool :=
  let o := w.op k
  w.has k && (if k = 0 then decide (1 ≤ o ∧ o ≤ 4) else if k ≤ 3 then decide (1 ≤ o ∧ o ≤ 6) else if k = 4 then decide (1 ≤ o ∧ o ≤ 2)
    else if k = 5 then decide (1 ≤ o ∧ o ≤ 0x1B) else if k = 6 then decide (1 ≤ o ∧ o ≤ 7) else if k = 7 then decide (1 ≤ o ∧ o ≤ 2)
    else if k = 8 then decide (1 ≤ o ∧ o ≤ 4) else if k = 9 then decide (1 ≤ o ∧ o ≤ 9) else if k = 10 then o == 1 else false)

/-- Whether a word holds any such op. -/
def CWord.named (w : CWord) : Bool := (List.range 12).any (slotNamed w)

/-- Whether a core has a word to run: its task, and the word; a fetch beyond the word area is the program's end (R189). `bad`: the control store's copy of the word, or of a preset that it loads, is poisoned (R457). -/
inductive Ready where
  | no
  | pastEnd (k : Nat)
  | bad (k : Nat) (img : Image)
  | word (k : Nat) (img : Image) (w : CWord)
  deriving DecidableEq, Repr

/-- Whether a 64-bit word of a copy that bytes [a, a + n) lie in is poisoned. -/
def Image.badAt (i : Image) (a n : Nat) : Bool := i.poison.any fun w => decide (a / 8 ≤ w ∧ w ≤ (a + n - 1) / 8)

/-- Whether a control word of a copy, or a preset that it loads, reads as poisoned. -/
def Image.wordBad (i : Image) (pc : Nat) (w : CWord) : Bool :=
  i.badAt (64 + 32 * i.presets.length + 2 * pc) (2 * w.len) ||
  [1, 2, 3].any fun j => w.has j && w.op j == 3 && i.badAt (64 + 32 * fld (w.slot j) 39 34) 32

def Pkg.ready (s : Pkg) (c : Nat) : Ready :=
  let x := s.core c
  match x.task with
  | none => .no
  | some k =>
    if x.ended || x.hold != .none || s.dieStopped (c / 32) then .no
    else
      let img := s.curImage c k
      match fetchWord img.words x.pc with
      | none => .pastEnd k
      | some w => if img.wordBad x.pc w then .bad k img else .word k img w

/-- Words that no command names pass by themselves: idle ones issue, illegal ones are skipped; a program without END ends (R189). DEDUCED, log entry 126: a fetch that reads poison from the control store is handled as an error of the copy (R457, R458). -/
def Pkg.passIdle : Nat → Pkg → Nat → Pkg
  | 0, s, _ => s
  | n + 1, s, c =>
    match s.ready c with
    | .no => s
    | .pastEnd k =>
      (s.taskEvent k Ev.programEndMissing (Unit.engine c 4) 0 []).updCore c fun y => { y with ended := true }
    | .bad _ img => s.dropCopy c img.ctx img.addr
    | .word k img w => if w.named then s else Pkg.passIdle n (s.tryWord c k img w) c

/-- The idle words that may lie before the next named one. -/
def Pkg.idleFuel (s : Pkg) (c : Nat) : Nat :=
  match s.ready c with
  | .word _ img _ => 65536 + img.words.length
  | .pastEnd _ => 1
  | .bad _ _ => 1
  | .no => 0

/-- A sequencer op's command: the core's next repeat whose word holds `op` in one of `slots` goes as far as it can; any other repeat is left where it is. -/
def Pkg.coreOp (s : Pkg) (c : Nat) (slots : List Nat) (op : Nat) : Pkg :=
  let s := Pkg.passIdle (s.idleFuel c) s c
  match s.ready c with
  | .word k img w => if slots.any fun j => w.has j && w.op j == op then s.tryWord c k img w else s
  | _ => s

/-- The operations still outstanding when those that `hit` names have ended: an engine ends its operations in their order. -/
def stillBusy (busy : List BusyOp) (hit : BusyOp → Bool) : List BusyOp :=
  busy.zipIdx.filterMap fun (b, i) => if (busy.drop i).any fun o => o.slot == b.slot && hit o then none else some b

/-- A held repeat tried again, `hit` saying which outstanding operations have ended, and `cycles` how long it was held. The core of a die whose clock has stopped changes nothing (R550). -/
def Pkg.release (s : Pkg) (c : Nat) (h : Hold) (cycles : Nat) (hit : Pkg → Nat → CWord → BusyOp → Bool) : Pkg :=
  let x := s.core c
  if x.hold ≠ h ∨ h = .none ∨ s.dieStopped (c / 32) then s
  else
    let s := s.coreCount c 0x68 cycles
    let s := s.updCore c fun y => { y with hold := .none }
    match s.ready c with
    | .word k img w => (s.updCore c fun y => { y with busy := stillBusy y.busy (hit s k w) }).tryWord c k img w
    | _ => s

/-- INTERLOCK_RELEASE (R206): the earlier operations that held the repeat have ended. -/
def Pkg.interlockRelease (s : Pkg) (c cycles : Nat) : Pkg :=
  s.release c .interlock cycles fun s k w b => interlocked [b] (s.busyOf c w (s.uses c k w (s.core c).rep))

/-- SYNC_WAIT_RELEASE (R204): the engine operations selected have ended. -/
def Pkg.waitRelease (s : Pkg) (c cycles : Nat) : Pkg := s.release c .wait cycles fun _ _ w b => waitSelects (w.slot 10) b

/-- TXE_SLOT_FREE (R203). -/
def Pkg.txeRelease (s : Pkg) (c cycles : Nat) : Pkg :=
  let s := if (s.core c).hold = .txe ∧ !s.dieStopped (c / 32) then s.clusterCount (clusterOf c) 0x10 cycles else s
  s.release c .txe cycles fun _ _ _ _ => false

end Sys2Proof.Machine
end

