-- ==== Sys2Proof/Machine/Sched.lean ====
section
/-! DEFINITION. Readiness, dispatch and completion of tasks (R57, R58, R102, R170, R183, R190, R237 to R242, R249, R252, R253, R283, R288, R310, R378, R383, R482). -/

namespace Sys2Proof.Machine

/-! ### Readiness (R237) -/

/-- Whether every task of a sketch has completed; one that failed with no effect counts once its record is written. -/
def Pkg.sketchDone (s : Pkg) (c seq : Nat) : Bool :=
  !(s.tasks.any fun t => t.2.ctx == c && t.2.seq == seq && (t.2.phase == .waiting || t.2.phase == .running)) &&
  !((s.ctx c).cqHeld.any fun r => r.failSeq == some seq)

/-- Whether the preceding sketches that a task waits for have completed (R224). -/
def Pkg.waitBackMet (s : Pkg) (t : Task) : Bool :=
  match (s.ctx t.ctx).sketch t.seq with
  | none => true
  | some q => (List.range q.waitBack).all fun i => decide (t.seq ≤ i + 1) || s.sketchDone t.ctx (t.seq - 1 - i)

/-- The value of an arrival counter as it stands (R239). -/
def Ctx.arrival (x : Ctx) (n : Nat) : Nat :=
  match x.arrWin.find n with
  | some w => if w.buffered then x.cur.arr.get 0 n else x.arrDirect.get 0 n
  | none => 0

/-- Whether a context is held (R74, R424, R482). -/
def Ctx.held (x : Ctx) : Bool := x.herdHeld || x.suspectHeld || x.peerHeld

/-- Whether a task is ready; after a void, not before the dispatch window that follows it (R78), nor, where it runs again, before the non-replayable tasks have ended that ran when the void was applied (R79). Tasks of an enabled await whose counter has no window are not. -/
def Pkg.isReady (s : Pkg) (k : Nat) : Bool :=
  let t := s.task k
  let x := s.ctx t.ctx
  t.phase == .waiting && (s.tasks.find k).isSome && t.deps == 0 && s.waitBackMet t &&
  ((List.range 2).all fun n => !t.awaitEn n || decide (t.awaitMin n ≤ x.arrival (t.awaitKey n))) &&
  x.phase == .open && !x.held && decide (x.replayFrom ≤ s.stroke.number) && (t.replay || !(x.reshard.phase == .holding || x.reshard.phase == .moving)) && !(t.replay && !x.replayAfter.isEmpty) &&
  !(s.stroke.sync == .lost && x.herdEn)

/-! ### Placement (R240, R482, R551) -/

/-- Whether a unit may take a new task now. -/
def Pkg.unitFree (s : Pkg) (update : Bool) (u : Nat) : Bool :=
  let code := if update then Unit.cluster u else Unit.core u
  !s.unitOos code && !s.gated code && !s.inReset code && !(inTree s.rst.fences code) &&
  !(s.clk.core.get {} (if update then u / 4 else u / 32)).stopped &&
  (if update then (s.cluster u).upe.task.isNone else s.corePresent u && (s.core u).task.isNone)

/-- Whether a unit lies in a domain, cores in clusters and dies included. -/
def unitIn (domain update : Nat) : Bool := inTree [domain] update

/-- What the suspect tests allow (R482): a domain under test runs only the suspect's tasks, and those of its kind-0 tasks that the domain can run are placed only there. -/
def Pkg.testAllows (s : Pkg) (t : Task) (u : Nat) : Bool :=
  let code (v : Nat) : Nat := if t.update then Unit.cluster v else Unit.core v
  s.rst.tests.all fun x =>
    match x.current with
    | none => !unitIn x.unit (code u)
    | some c =>
      if t.ctx = c then
        unitIn x.unit (code u) || t.placement != 0 || !(s.allowed t).any fun v => unitIn x.unit (code v)
      else !unitIn x.unit (code u)

/-- Whether a task can be placed on a unit: allowed, free, and for kind 0 in the lowest-numbered allowed cluster that has a free one. -/
def Pkg.canPlace (s : Pkg) (t : Task) (u : Nat) : Bool :=
  let ok (v : Nat) : Bool := s.unitFree t.update v && s.testAllows t v
  (s.allowed t).contains u && ok u &&
  (t.placement != 0 || (s.allowed t).all fun v => !ok v || decide ((if t.update then u else u / 8) ≤ (if t.update then v else v / 8)))

/-- Whether a task's budget fits the cycles left to the expected next boundary at a unit's clock (R57). -/
def Pkg.fits (s : Pkg) (t : Task) (u : Nat) : Bool :=
  decide (t.budget * 1000 ≤ (s.stroke.nextAt - s.now) * s.dieMhz (t.dieOf u))

/-! ### The choice among ready tasks (R240, R242) -/

/-- Whether a task is ready and can be placed now; one that is held for its budget only where it fits (R57), or where it can fit no longer, which its dispatch finds (R58). -/
def Pkg.canRun (s : Pkg) (k : Nat) : Bool :=
  let t := s.task k
  s.isReady k && ((s.allowed t).any fun u => s.unitFree t.update u && s.testAllows t u) &&
  (!t.budgetHeld || s.neverFits t || (s.allowed t).any fun u => s.canPlace t u && s.fits t u)

/-- The weight of a context (R214). -/
def Ctx.weight (x : Ctx) : Nat := fld x.sched 23 16

/-- The context whose turn it is among those of `cs`, which have a task that can run: the one in turn while its weight lasts, then the next by number (R240; DESIGN CHOICE, log entry 86: the order of the round). -/
def Pkg.turn (s : Pkg) (cs : List Nat) : Option Nat :=
  let k := s.stroke
  if cs.contains k.turnCtx && decide (k.turnUsed < (s.ctx k.turnCtx).weight) then some k.turnCtx
  else (cs.find? fun c => decide (k.turnCtx < c)).orElse fun _ => cs.head?

/-- Whether a task comes before another of its context: a lower sketch sequence, then a lower index (R240). -/
def Task.before (a b : Task) : Bool := decide (a.seq < b.seq ∨ (a.seq = b.seq ∧ a.idx < b.idx))

/-- The task that is dispatched next (R240): in its context the ready one of lowest sketch sequence, then lowest index, so that a replay keeps the original order (R78, R88, R242). -/
def Pkg.nextTask (s : Pkg) : Option Nat :=
  let can := s.tasks.keys.filter s.canRun
  match s.turn (s.ctxs.keys.filter fun c => can.any fun k => (s.task k).ctx == c) with
  | none => none
  | some c => bestOf (fun a b => (s.task a).before (s.task b)) (can.filter fun k => (s.task k).ctx == c)

/-! ### What dispatch reads and checks (R102, R249, R252, R253, R310, R383) -/

/-- The reserved fields and limits of a history block (R249). -/
def histOk (h : Bytes) : Bool :=
  decide (le h 0 1 ≤ 15) && decide (1 ≤ le h 1 1 ∧ le h 1 1 ≤ 8) && decide (le h 2 1 < 2) && zeros h 3 1 && zeros h 6 2 && zeros h 16 16 &&
  (List.range 16).all fun j => zeros h (44 + 16 * j) 4

/-- A history block in order; one of all zeros is an empty history (R249). -/
def histValid (h : Bytes) : Bool := zeros h 0 288 || histOk h

/-- A tensor's scale record, and history where auto-scaled, read and checked: the roll made where one is due; none where the task fails (R102, R249, R252, R310). The scale that R102 tests is the one that the task would use, so that of a record rolled here is tested after the roll (DEDUCED, log entry 87). -/
def Pkg.readScale (s : Pkg) (k : Nat) (t : TensorRef) (roll : Bool) : Option TensorRef × Pkg :=
  let c := (s.task k).ctx
  let step := (s.task k).step
  match s.rdStruct c t.scalePtr 32 with
  | (.error _, s) => (none, s)
  | (.ok b, s) =>
    let r := BitVec.ofNat 256 (leNat b)
    let t := { t with scale := r }
    let rsv := fld r 255 176 == 0 && fld r 127 112 == 0 && fld r 63 41 == 0 && fld r 39 32 == 0 &&
      ((t.blockAddr != 0) == fmtBlock t.fmt)
    let side := t.fmt != 0x0E || (t.offsetAddr != 0 && s.classIs c t.offsetAddr (ceilDiv t.tileCount 64 * 64 + 264 * t.tileCount) true)
    let scaleOk (S : Nat) : Bool := decide (0x00800000 ≤ S ∧ S < 0x7F800000)
    if !rsv || !side then (none, s)
    else if !t.auto then (if scaleOk t.S then some t else none, s)
    else
      match s.rdStruct c (t.scalePtr + 32) 288 with
      | (.error _, s) => (none, s)
      | (.ok h, s) =>
        if t.fmt == 1 || t.fmt == 2 || !histValid h || !s.classIs c t.scalePtr 320 t.buffered then (none, s)
        else
          let t := { t with hist := h }
          if roll && decide (step > le h 8 8) then
            let s' := s.scaleRoll c t step
            let r' := BitVec.ofNat 256 (leNat (s'.readOwn c t.scalePtr 32))
            let t' := { t with scale := r', hist := s'.readOwn c (t.scalePtr + 32) 288 }
            if scaleOk t'.S then (some t', s') else (none, s)
          else (if scaleOk t.S then some t else none, s)

/-- Several tensors read so; none where one fails. -/
def Pkg.readScales (s : Pkg) (k : Nat) (roll : Bool) : List TensorRef → Option (List TensorRef) × Pkg
  | [] => (some [], s)
  | t :: ts =>
    match s.readScale k t roll with
    | (none, s) => (none, s)
    | (some t, s) =>
      match Pkg.readScales s k roll ts with
      | (none, s) => (none, s)
      | (some ts, s) => (some (t :: ts), s)

/-- The slot tensors of a task, by key 4 × route index + tensor (R230). -/
def Pkg.slotDescs (s : Pkg) (t : Task) : Tbl TensorRef :=
  if !t.hasSlot then [] else
  (List.range t.span).flatMap fun r => match s.slots.find (t.modelSlot + r) with
    | none => []
    | some m =>
      [(0, some m.weights), (1, m.wide), (2, m.avg1), (3, m.avg2)].filterMap fun (j, o) =>
        o.map fun d => (4 * r + j, ({ desc := d } : TensorRef))

/-- A task's image copied into a core's control store, where no clean copy of it is there already: none where it is poisoned (some true) or faults (some false) (R170). -/
def Pkg.copyImage (s : Pkg) (c k : Nat) : Except Bool Image × Pkg :=
  let t := s.task k
  let p := fld t.imageHdr 22 16
  let n := fld t.imageHdr 95 64
  let len := 64 + 32 * p + 2 * n
  match (s.core c).store.find? fun i => i.ctx == t.ctx && i.addr == t.image && i.hdr == t.imageHdr && i.poison.isEmpty with
  | some i => (.ok i, s)
  | none =>
    let r := s.vRead t.ctx t.image len .read true
    let s := s.took r
    if r.fault then (.error false, s)
    else if r.poison then (.error true, s)
    else
      let img : Image :=
        { ctx := t.ctx, addr := t.image, hdr := BitVec.ofNat 512 (le r.bytes 0 64)
          presets := (List.range p).map fun j => BitVec.ofNat 256 (le r.bytes (64 + 32 * j) 32)
          words := (List.range n).map fun j => BitVec.ofNat 16 (le r.bytes (64 + 32 * p + 2 * j) 2) }
      (.ok img, (s.updCore c fun x => { x with store := img :: x.store.filter fun i => !(i.ctx == img.ctx && i.addr == img.addr) }).coreCount c 0x70 (ceilDiv len 256))

/-- The bytes of a control-store copy. -/
def Image.size (i : Image) : Nat := 64 + 32 * i.presets.length + 2 * i.words.length

/-- The newest copies that fit 256 KiB: the first that does not fit goes, and every older one (DESIGN CHOICE, log entry 112: R170 does not say which copies go). -/
def fitStore : List Image → Nat → List Image
  | [], _ => []
  | i :: is, room => if i.size ≤ room then i :: fitStore is (room - i.size) else []

/-- A core made ready for a task (R135, R177, R183): what outlives a task stays. -/
def Pkg.startCore (s : Pkg) (c k : Nat) (img : Image) : Pkg :=
  let t := s.task k
  let x := s.core c
  s.setCore c
    { task := some k, store := fitStore x.store 0x40000, image := t.image, pc := fld img.hdr 48 32
      ags := img.presets.zipIdx.map fun (d, n) => (n, ({ desc := d, side := fld d 253 232 } : Ag))
      sreg := [(0, BitVec.ofNat 64 (s.logicalOf c)), (1, BitVec.ofNat 64 t.idx), (2, BitVec.ofNat 64 t.step), (3, BitVec.ofNat 64 t.tensorArr)]
      tps := x.tps, stats := x.stats, spillMarks := x.spillMarks, ctr := x.ctr }

/-! ### Dispatch -/

def Reg.layoutStaleTasks : Nat := 0x0A0430

/-- The round robin after a dispatch of a context's task (R240). -/
def StrokeSt.served (k : StrokeSt) (c weight : Nat) : StrokeSt :=
  { k with turnCtx := c, turnUsed := if k.turnCtx = c ∧ k.turnUsed < weight then k.turnUsed + 1 else 1 }

/-- What a task's dispatch finds out about it (R253, R400): a tensor whose scale is of a later step counts the task once, and a tensor whose blocks mismatched in its step gives it SHARD_VERSION_MISMATCH. -/
def Pkg.dispatchNotes (s : Pkg) (k : Nat) : Pkg :=
  let t := s.task k
  let s := if t.tensors.any fun r => r.auto && decide (t.step < le r.hist 8 8) then
      (s.bump Reg.stepBehind).taskEvent k Ev.scaleStepBehind Unit.controlDie 0 [] else s
  let bad := (s.ctx t.ctx).badTensors t.step
  let s := if (t.tensors ++ t.slotRefs.vals).any fun r => bad.contains r.id then s.taskCode k Code.shardVersionMismatch else s
  -- the window state that the task's dispatch reads (R457)
  let arr := (List.range 2).any fun n => t.awaitEn n && (((s.ctx t.ctx).arrWin.find (t.awaitKey n)).map (·.poison)).getD false
  let flag := t.update && (((s.ctx t.ctx).cur.flags.find (t.step % 4)).map (·.poison)).getD false
  if arr || flag then s.taskCode k Code.poisonedInput else s

/-- A task begins to run on a unit. -/
def Pkg.run (s : Pkg) (k u : Nat) : Pkg :=
  let t := s.task k
  let m := if t.replay then t.map else if (s.ctx t.ctx).herdEn then s.activeMap (s.ctx t.ctx).herdId else none
  let s := (s.bump Reg.tasksDispatched).setTask k { t with
    phase := .running, core := u, at0 := s.now, map := m, overruns := 0, progress := none }
  let here (x : SuspectTest) : Bool := x.current == some t.ctx && unitIn x.unit (if t.update then Unit.cluster u else Unit.core u)
  let tests := s.rst.tests.map fun x => if here x then { x with worked := x.worked.orElse fun _ => some s.stroke.number, idle := 0 } else x
  { s with rst := { s.rst with tests := tests }, stroke := s.stroke.served t.ctx (s.ctx t.ctx).weight }

/-- A dispatch of the task whose turn it is (R240) on a free unit that it allows. A task that does not fit stays ready, counted once however many strokes it waits (R57; DESIGN CHOICE, log entry 111); one that can never fit, or fails what dispatch checks, completes at once with its dependants. -/
def Pkg.dispatch (s : Pkg) (k u : Nat) (update : Bool) : Pkg :=
  let t := s.task k
  if !(s.power.ready && !s.frozen && !s.stroke.inSlot && t.update == update && s.nextTask == some k && s.canPlace t u) then s
  else if s.neverFits t then s.failTask k Code.invalidDescriptor
  else if !s.fits t u then
    if t.budgetHeld then s else (s.bump Reg.budgetHold).setTask k { t with budgetHeld := true }
  else if t.tensors.any fun r => r.epoch != (s.ctx t.ctx).cur.epoch then
    let n := ((s.dependants t.ctx t.seq s.tasks.length [k]).filter fun j => (s.task j).phase == .waiting).length
    (s.bumpBy Reg.layoutStaleTasks n).failTask k Code.layoutEpochStale
  else
    let slots := s.slotDescs t
    -- what has been read without any roll: a task that fails leaves no roll behind (R22, R170)
    let read := (s.readScales k false t.tensors).2
    let fail := read.failTask k Code.invalidDescriptor
    match s.readScales k true t.tensors with
    | (none, _) => fail
    | (some ts, s) =>
      match s.readScales k false slots.vals with
      | (none, _) => fail
      | (some ss, s) =>
        let s := s.updTask k fun x => { x with tensors := ts, slotRefs := slots.keys.zip ss }
        if update then ((s.run k u).dispatchNotes k).upeStart u k
        else
          match s.copyImage u k with
          | (.error bad, _) => ((read.copyImage u k).2).failTask k (if bad then Code.poisonedInput else Code.invalidDescriptor)
          | (.ok img, s) => ((s.run k u).startCore u k img).dispatchNotes k

/-! ### Completion (R190, R250, R283) -/

/-- TASK_COMPLETE: the core has reached END, its operations have finished, its transfers are acknowledged and its writes have landed (R60, R85, R190). -/
def Pkg.taskComplete (s : Pkg) (c : Nat) : Pkg :=
  match (s.core c).task with
  | none => s
  | some k => if !s.dieStopped (c / 32) && (s.core c).ended && (s.taskXfers k none).isEmpty && !s.stagedFor k && (s.task k).phase == .running then s.complete k else s

/-- UPDATE_TASK_COMPLETE (R283): every write of an update task has landed, which acknowledges it. -/
def Pkg.updateComplete (s : Pkg) (cl : Nat) : Pkg :=
  let u := (s.cluster cl).upe
  match u.task with
  | none => s
  | some k => if !s.dieStopped (cl / 4) && u.done && !s.stagedFor k && (s.task k).phase == .running then s.complete k else s

end Sys2Proof.Machine
end

