-- ==== Sys2Proof/Machine/MemProt.lean ====
section
/-! DEFINITION. Memory ports, retraining, the patrol scrub, on-die storage errors and error injection (R429 to R431, R443 to R447, R456 to R464). -/

namespace Sys2Proof.Machine

def Reg.memCfg : Nat := 0x0C8000
def Reg.scrubCe : Nat := 0x0C8100
def Reg.scrubUe : Nat := 0x0C8108
def Reg.sramCe : Nat := 0x0C8110
def Reg.sramUe : Nat := 0x0C8118
def Reg.parityErrors : Nat := 0x0C8120
def Reg.tmrCorrected : Nat := 0x0C8128
def Reg.mpCfg (n : Nat) : Nat := Reg.mpBlock n + 0x008

def Pkg.memCfg (s : Pkg) : Word := s.regOr Reg.memCfg 0x3C00506418

def Pkg.memPort (s : Pkg) (n : Nat) : MemPort := s.msys.ports.get {} n
def Pkg.updMemPort (s : Pkg) (n : Nat) (f : MemPort → MemPort) : Pkg :=
  { s with msys := { s.msys with ports := s.msys.ports.upd {} n f } }

/-! ### Lost ports (R447) -/

/-- A port taken out of use: logged, noticed, and the package OUT_OF_SERVICE. Causes as MP_STATUS: 1 training, 2 retrains abandoned, 3 corrected errors. -/
def Pkg.memPortLost (s : Pkg) (n cause : Nat) : Pkg :=
  if (s.memPort n).state = 4 then s
  else
    let u := Unit.memPort n
    let s := s.updMemPort n fun p => { p with state := 4, cause := cause }
    let s := s.logWith Ev.memoryPortLost u none Code.outOfService (s.noticeFree u 0x0B) (leBytes 2 u ++ leBytes 1 cause)
    let why := s.causeFor u
    (s.noticeRaw 0x0B u Code.outOfService (s.causeNotice 0x0B Code.outOfService u why (min 255 (s.resetCount u)) 0xFFFF)).enterOos why

/-- A corrected count past the port's threshold in the window (R447). -/
def Pkg.ceThreshold (s : Pkg) (n : Nat) : Pkg :=
  if n < 32 ∧ (s.memPort n).window > fld (s.regOr (Reg.mpCfg n) 0x100) 15 0 then s.memPortLost n 3 else s

/-- A window of ce_window_s ends and a new count starts (R447). -/
def Pkg.ceWindow (s : Pkg) (n : Nat) : Pkg := if n < 32 then s.updMemPort n fun p => { p with window := 0 } else s

/-! ### Retraining (R431, R443 to R446) -/

/-- An access that failed its first `failed` attempts for a CRC error, 1 to 5 (R431): each retry counted; after the fifth failure, the access held and an out-of-turn retrain scheduled. -/
def Pkg.crcExhausted (s : Pkg) (n failed : Nat) : Pkg :=
  if n < 32 then
    let s := s.bumpBy (Reg.mpBlock n + 0x118) (min failed 4)
    if failed < 5 then s else s.updMemPort n fun p => { p with turn := true, waiting := p.waiting + 1 }
  else s

/-- How far a port's temperature has moved since its last training. -/
def MemPort.drift (p : MemPort) : Nat := max (p.temp - p.tempAt) (p.tempAt - p.temp)

/-- The port that a slot retrains (R443): an out-of-turn request, then the largest drift beyond drift_c, then the oldest training, then the lowest number. -/
def Pkg.retrainPick (s : Pkg) : Option Nat :=
  let up := (List.range 32).filter fun n => (s.memPort n).state == 2
  let cfg := s.memCfg
  let due := up.filter fun n => decide ((s.memPort n).lastAt + fld cfg 19 8 * 1000000 ≤ s.now)
  match up.find? fun n => (s.memPort n).turn with
  | some n => some n
  | none =>
    match bestOf (fun a b => decide ((s.memPort b).drift < (s.memPort a).drift))
        (due.filter fun n => decide ((s.memPort n).drift > fld cfg 27 20)) with
    | some n => some n
    | none => bestOf (fun a b => decide ((s.memPort a).lastAt < (s.memPort b).lastAt)) due

/-- A retrain begun. -/
def Pkg.retrainStart (s : Pkg) (n : Nat) : Pkg := s.updMemPort n fun p => { p with state := 3 }

/-- Step 4 of a slot of at least 4 µs (R443). -/
def Pkg.slotRetrain (s : Pkg) : Pkg :=
  if s.power.ready && !s.frozen && decide (s.stroke.curSlot ≥ 4) then match s.retrainPick with
    | some n => s.retrainStart n
    | none => s
  else s

/-- A retrain that has converged: the port is back, its held accesses complete. -/
def Pkg.retrainEnd (s : Pkg) (n : Nat) : Pkg :=
  if (s.memPort n).state ≠ 3 then s
  else (s.bump (Reg.mpBlock n + 0x120)).updMemPort n fun p => { p with
    state := 2, turn := false, waiting := 0, abandoned := 0, last := s.stroke.number, lastAt := s.now, tempAt := p.temp }

/-- A retrain abandoned at 2 µs (R445): old settings, an out-of-turn request; the third in a row loses the port. -/
def Pkg.retrainAbandoned (s : Pkg) (n : Nat) : Pkg :=
  if (s.memPort n).state ≠ 3 then s
  else
    let s := (s.bump (Reg.mpBlock n + 0x128)).logEv Ev.memRetrainAbandoned (Unit.memPort n) none []
    let s := s.updMemPort n fun p => { p with state := 2, turn := true, abandoned := p.abandoned + 1 }
    if (s.memPort n).abandoned ≥ 3 then s.memPortLost n 2 else s

/-! ### The scrub (R456) -/

/-- One granule scrubbed: corrected, poisoned, or left. `finder`: 1 the patrol scrub, 2 SCRUB_SWEEP (R657). -/
def Pkg.scrubGranule (s : Pkg) (finder g : Nat) : Pkg :=
  if s.mem.poison.mem g then s
  else if s.mem.double.mem g || !s.mem.valid.mem g then (s.bump Reg.scrubUe).poisonGranule g finder
  else if s.mem.single.mem g then (s.bump Reg.scrubCe).correct g
  else s

/-- Granules that a slot's step 5 can read: the time left before 0.2 µs of the slot's end, at the grade's bandwidth (R38, R55). -/
def Pkg.slotRoom (s : Pkg) (retrained : Bool) : Nat :=
  (s.stroke.curSlot * 1000 - 200 - 1000 - (if retrained then 2000 else 0)) * (if s.fuses.grade = 1 then 4608 else 4096) / 256

/-- Whether the Easel self-test runs: it holds the patrol scrub and every OPEN (R524). -/
def Pkg.selfTesting (s : Pkg) : Bool := (s.easel.run.map (·.op)) == some 7

/-- Step 5: the patrol scrub goes on to where its rate has it, as far as the slot allows; a sweep that runs late is logged once. -/
def Pkg.slotScrub (s : Pkg) (retrained : Bool) : Pkg :=
  let total := s.mem.usable / 256
  if total = 0 ∨ !s.power.ready ∨ s.frozen ∨ s.selfTesting then s
  else
    let m := s.msys
    let period := fld s.memCfg 7 0 * 3600000000000
    let target := min total ((s.now - m.sweepAt) * total / max 1 period)
    let n := min (target - m.granule) (s.slotRoom retrained)
    let s := (upto m.granule n).foldl (fun s g => s.scrubGranule 1 g) s
    let s := { s with msys := { s.msys with granule := m.granule + n } }
    let s := if m.granule + n < target && !m.behind then
        { s.logEv Ev.scrubBehind Unit.controlDie none [] with msys := { s.msys with behind := true } }
      else s
    if s.msys.granule ≥ total then { s with msys := { s.msys with granule := 0, sweeps := s.msys.sweeps + 1, sweepAt := s.now, behind := false } }
    else s

/-! ### On-die storage (R457 to R460) -/

/-- A staged write whose 64-bit word `word` is poisoned: the part that lands in that word's granule carries poison, the rest does not (R457). -/
def StagedWrite.poisonWord (w : StagedWrite) (word : Nat) : List StagedWrite :=
  if w.data.length ≤ 8 * word then [w]
  else
    let g := (w.addr + 8 * word) / 256 * 256
    let lo := g - w.addr
    let hi := min w.data.length (g + 256 - w.addr)
    [{ w with data := w.data.take lo },
     { w with addr := w.addr + lo, data := (w.data.drop lo).take (hi - lo), bad := true },
     { w with addr := w.addr + hi, data := w.data.drop hi }].filter fun x => !x.data.isEmpty

/-- The entry of a list at a place changed, where there is one. -/
def markAt {α : Type} (xs : List α) (i : Nat) (f : α → α) : List α := xs.zipIdx.map fun x => if x.2 = i then f x.1 else x.1

/-- A context that is not free changed. -/
def Pkg.updOpen (s : Pkg) (c : Nat) (f : Ctx → Ctx) : Pkg := if (s.ctx c).phase = .free then s else s.updCtx c f

/-- The flow entry at a place among a memory die's changed (R436). -/
def Pkg.updFlowAt (s : Pkg) (d i : Nat) (g : RxFlow → RxFlow) : Pkg :=
  match (s.dieFlows d)[i]? with
  | some f => { s with fab := { s.fab with rxFlows := s.fab.rxFlows.map fun x => if x = f then g x else x } }
  | none => s

/-- The three copies of a critical word all differ (R460). -/
def Pkg.voteLost (s : Pkg) (w : Nat) : Pkg := (s.logEv Ev.tmrLost Unit.controlDie none [BitVec.ofNat 8 w]).enterOos 0

/-- Step 5 of a maintenance slot: every critical word is voted again, and a copy that disagrees is rewritten and counted (R459). -/
def Pkg.revote (s : Pkg) : Pkg :=
  let n := (s.rst.copies.vals.map (·.length)).sum
  if n = 0 then s else { s.bumpBy Reg.tmrCorrected n with rst := { s.rst with copies := [] } }

/-- A double error in a SEC-DED word (R457). -/
def Pkg.sramDouble (s : Pkg) (unit : Nat) : Pkg := (s.bump Reg.sramUe).logEv Ev.sramUncorrectable unit none []

/-- An error found in on-die storage by the background scrub, a checker or the vote (R457 to R460). -/
def Pkg.sramFound (s : Pkg) (f : SramFault) : Pkg :=
  let par (s : Pkg) : Pkg := s.bump Reg.parityErrors
  match f with
  | .clean => s
  | .single => s.bump Reg.sramCe
  | .palette c w =>
    if s.corePresent c then (s.sramDouble (Unit.core c)).updCore c fun x => { x with palPoison := x.palPoison.ins w } else s
  | .clusterMem c w =>
    if c < 64 then (s.sramDouble (Unit.cluster c)).updCluster c fun x => { x with poison := x.poison.ins w } else s
  | .staging d c i w =>
    let s := s.sramDouble (Unit.memDie (d % 4))
    if i < (s.ctx c).stagedWrites.length then
      s.updCtx c fun x => { x with stagedWrites := x.stagedWrites.zipIdx.flatMap fun y => if y.2 = i then y.1.poisonWord w else [y.1] }
    else s
  | .redSlot d i w =>
    let s := s.sramDouble (Unit.memDie (d % 4))
    match (s.fab.redSlots.filter fun r => r.tile % 4 == d)[i]? with
    | some r => s.updSlot r.key r.attempt fun x => { x with poison := x.poison.ins w }
    | none => s
  | .flow d i => (s.sramDouble (Unit.memDie (d % 4))).updFlowAt d i fun f => { f with poison := true }
  | .reorder d i j w => (s.sramDouble (Unit.memDie (d % 4))).updFlowAt d i fun f =>
      match f.early[j]? with
      | some p => { f with bad := f.bad ++ [(p.hd.seq, w)] }
      | none => f
  | .version i => { s.sramDouble (Unit.memDie 0) with fab := { s.fab with versions := markAt s.fab.versions i fun e => { e with poison := true } } }
  | .ledger c i => (s.sramDouble (Unit.memDie 0)).updOpen c fun x => { x with ledger := markAt x.ledger i fun l => { l with poison := true } }
  | .arrival c n => (s.sramDouble (Unit.memDie 0)).updOpen c fun x => { x with arrWin := x.arrWin.mapV fun k w => if k = n then { w with poison := true } else w }
  | .stepFlag c n => (s.sramDouble (Unit.memDie 0)).updOpen c fun x =>
      { x with cur := { x.cur with flags := x.cur.flags.mapV fun k e => if k = n then { e with poison := true } else e } }
  | .storeSram c ctx a w =>
    if s.corePresent c then (s.sramDouble (Unit.core c)).updCore c fun x => { x with store := x.store.map fun i =>
        if i.ctx = ctx ∧ i.addr = a then { i with poison := i.poison.ins w } else i }
    else s
  | .coreRegs c e => if s.corePresent c then (par s).parityAbort (s.core c).task (Unit.engine c e) else s
  | .upeTemps c => if c < 64 then (par s).parityAbort (s.cluster c).upe.task (Unit.clusterEngine c 1) else s
  | .stat c ctx tag row =>
    (par s).updCore c fun x => { x with stats := x.stats.filter fun e => !(e.ctx == ctx && e.tag == tag && e.row == row) }
  | .table c i => (par s).updCore c fun x => { x with tps := x.tps.erase i }
  | .storeCopy c ctx a => (par s).dropCopy c ctx a
  | .route b i => (par s).setBank (b % 2) { s.bank (b % 2) with entries := (s.bank (b % 2)).entries.erase i }
  | .vote w c =>
    let bad := NatSet.ins (s.rst.copies.get [] w) c
    if bad.length ≥ 2 then s.voteLost w else { s with rst := { s.rst with copies := s.rst.copies.set w bad } }
  | .voteLost w => s.voteLost w

/-- MEM_INJECT (R464, R592): writable only while the debug scope that opens error injection is unlocked. -/
def Pkg.memInject (s : Pkg) (v : Word) : Pkg :=
  if !s.sec.scope.testBit 0 then s.discard 0x0C8018 v
  else { s with mem := { s.mem with inject := v &&& 0xC0007F7F1FFFFFFF } }

end Sys2Proof.Machine
end

