-- ==== Sys2Proof/Machine/Readout.lean ====
section
/-! DEFINITION. What a unit shows of itself: its register block, and the body of its section of a crash dump (R338, R340, R371, R427, R462, R495 to R498). -/

namespace Sys2Proof.Machine

/-- The 64-bit word at byte `o` of a structure. -/
def word8 (b : Bytes) (o : Nat) : Nat := le b o 8

/-! ### Ports (R338, R340, R371, R416, R418, R427) -/

/-- The quarantine reason of a check. -/
def quarReason (check : Nat) : Nat :=
  if check = 1 then 1 else if check = 2 then 2 else if check = 4 then 3 else if check = 5 ∨ check = 6 then 4 else 0

/-- The state that a check sets (R416). -/
def checkState (check : Nat) : Nat := if check = 3 ∨ check = 7 then 3 else if check = 8 then 4 else 5

def Port.status (p : Port) : Nat := p.state + 256 * p.reason + 65536 * p.delay + 2 ^ 32 * p.revision

/-- PORT_PEER_INFO: the latest identity frame, and the port's own quarantine reason. -/
def Port.peerInfo (p : Port) : Nat :=
  let f := p.identity.getD []
  let label := le f 17 1
  label / 4 % 2 + 2 * (label % 4) + 8 * (le f 16 1 % 32) + 256 * le f 6 1 + 65536 * le f 5 1 + 2 ^ 24 * le f 18 2 + 2 ^ 40 * le f 20 1 +
    2 ^ 48 * (if p.check ≠ 0 ∧ checkState p.check = 5 then quarReason p.check else 0) +
    2 ^ 62 * ((le f 7 1).testBit 0).toNat + 2 ^ 63 * ((le f 7 1).testBit 1).toNat

def Pkg.readPort (s : Pkg) (off : Nat) : Nat :=
  let n := (off - 0x080000) / 0x1000
  let p := s.port n
  let f := p.identity.getD []
  if !s.portPresent n then 0
  else match off % 0x1000 with
    | 0x00 => p.cfg.toNat
    | 0x08 => p.status
    | 0x18 => word8 f 8
    | 0x20 => p.peerInfo
    | 0x28 => word8 f 24
    | _ => 0

/-- A register of a port's telemetry block: the occupancy is that of packets that wait to go on, or for a reduction slot (R348, R371). -/
def Port.readTele (p : Port) (o : Nat) : Nat :=
  if 0x80 ≤ o ∧ o < 0xD0 then 2 ^ 32 * p.peak.get 0 ((o - 0x80) / 8) + p.occupancy ((o - 0x80) / 8)
  else if o = 0xF8 then 0
  else p.ctr.get 0 o

/-! ### Memory ports (R462) -/

def Pkg.readMemPort (s : Pkg) (off : Nat) : Nat :=
  let n := (off - 0x0C0000) / 0x400
  let p := s.memPort n
  match off % 0x400 with
  | 0x000 => p.state + 256 * p.cause + 65536 * min 3 p.abandoned
  | 0x008 => (s.regOr off 0x100).toNat
  | 0x010 => p.last
  | 0x018 => p.temp + 256 * p.tempAt
  | 0x110 => p.window
  | _ => (s.reg off).toNat

/-! ### The sections of a crash dump (R495 to R498) -/

/-- The sections of a dump in order: kind, unit code, body length (R497). -/
def dumpSections : List (Nat × Nat × Nat) :=
  [(1, Unit.controlDie, 40960), (2, Unit.controlDie, 262144)] ++
  (List.range 24).map (fun n => (3, Unit.port n, 512)) ++ (List.range 32).map (fun n => (4, Unit.memPort n, 1024)) ++
  (List.range 4).map (fun n => (5, Unit.memDie n, 4096)) ++ (List.range 512).map (fun n => (6, Unit.core n, 1024)) ++
  (List.range 64).map (fun n => (7, Unit.cluster n, 33792))

/-- Whether a section's unit is fused off. -/
def Pkg.fusedOff (s : Pkg) (unit : Nat) : Bool :=
  (unit / 4096 == 3 && !s.corePresent (unit % 4096)) || (unit / 4096 == 8 && !s.portPresent (unit % 4096))

/-- Whether the dies other than the control die are held in reset, or come up (R531, R555). -/
def Pkg.inBringup (s : Pkg) : Bool := !s.power.pwrGood || s.power.step.isSome || s.power.waiting

/-- Why a section gets no answer: 1 timeout, 2 unit in reset, 3 unit out of service; 0 where it answers (R498). -/
def Pkg.noAnswer (s : Pkg) (kind unit : Nat) : Nat :=
  let d := s.rst.dump
  if d.bodies.any fun x => x.1 == kind && x.2.1 == unit then 0
  else match d.sections.find? fun x => x.1 == kind && x.2.1 == unit with
  | some x => x.2.2
  | none =>
  if kind ≤ 2 then 0
  else if s.inReset unit || s.inBringup then 2
  else if s.unitOos unit then 3
  else 0

/-- The sections that the running dump takes: of a hang, its domain's only (R495). -/
def DumpSt.takes (d : DumpSt) : List (Nat × Nat × Nat) :=
  dumpSections.filter fun x => d.running != some 4 || domIn d.unit x.2.1

/-- A register's words, each of 8 bytes. -/
def words8 (l : List Nat) : Bytes := l.flatMap (leBytes 8 ·)

/-- The state of a core that a dump holds, in 64-bit words in the order of R497. -/
def Pkg.dumpCore (s : Pkg) (c : Nat) : Bytes :=
  let x := s.core c
  let t := (x.task.map s.task).getD {}
  let loop (i : Nat) : List Nat := match x.loops[i]? with
    | some l => [l.level, l.first, l.stop, l.left]
    | none => [0, 0, 0, 0]
  let ag (i : Nat) : Bytes :=
    let a := x.ags.get {} i
    leBytes 32 a.desc.toNat ++ words8 [a.i0 + 2 ^ 32 * a.i1, a.i2 + 2 ^ 32 * a.i3, a.side]
  words8 ([x.pc, x.rep] ++ (List.range 4).flatMap loop ++ (List.range 16).map (fun i => (x.sreg.get 0 i).toNat) ++
    (List.range 8).map (fun i => (x.ct.get 0 i).toNat) ++ (List.range 4).map (fun i => (x.cp.get false i).toNat) ++
    (List.range 4).map fun i => (x.lc.get 0 i).toNat) ++
  (List.range 16).flatMap ag ++ leBytes 2 t.ctx ++ leBytes 4 t.seq ++ leBytes 2 t.idx ++
  words8 ((List.range 15).map fun i => x.ctr.get 0 (8 * i))

/-- A tracked transfer's record of 32 bytes. -/
def Xfer.dumpBytes (x : Xfer) : Bytes :=
  leBytes 2 x.id ++ leBytes 2 x.task ++ leBytes 2 x.core ++ leBytes 2 x.ctx ++ leBytes 2 x.gen ++ leBytes 2 x.group ++
  leBytes 6 x.stroke ++ leBytes 4 x.left ++ leBytes 4 x.dst ++ leBytes 6 x.addr

/-- A cluster's part of a dump: its update engine, then its 1,024 tracked transfers, zeros where one is free (R497). -/
def Pkg.dumpCluster (s : Pkg) (c : Nat) : Bytes :=
  let x := s.cluster c
  let u := x.upe
  let upe := words8 [(u.task.map (· + 1)).getD 0, u.slot, u.elem, u.pc, u.masked, u.maskLow, u.details, u.done.toNat]
  upe ++ List.replicate (1024 - upe.length) 0 ++
    (List.range 1024).flatMap fun i => ((x.xfers.find? fun t => t.id == i).map Xfer.dumpBytes).getD (List.replicate 32 0)

/-- A memory die's part: what waits in its queues, its reduction slots and flow entries, and its adders' count (R436, R497). -/
def Pkg.dumpMemDie (s : Pkg) (d : Nat) : Bytes :=
  words8 [(s.fab.redWait.filter fun w => w.tile % 4 == d).length, ((upto (8 * d) 8).map fun n => (s.memPort n).waiting).sum,
    (s.fab.redSlots.filter fun r => r.tile % 4 == d).length,
    (s.fab.rxFlows.filter fun f => flowBucket f.dst f.src f.ctx f.gen f.cls % 4 == d).length,
    (s.reg Reg.adderOps).toNat]

/-- The body of a unit's section, as far as the spec says what it holds (R497). -/
def Pkg.unitBody (s : Pkg) (kind unit : Nat) : Bytes :=
  let i := unit % 4096
  match kind with
  | 3 => words8 ((List.range 6).map (fun o => s.readPort (0x080000 + 0x1000 * i + 8 * o)) ++ (List.range 32).map fun o => (s.port i).readTele (8 * o))
  | 4 => words8 ((List.range 128).map fun o => s.readMemPort (0x0C0000 + 0x400 * i + 8 * o))
  | 5 => s.dumpMemDie i
  | 6 => s.dumpCore i
  | 7 => s.dumpCluster i
  | _ => []

/-- A hang's dump begun: it reads its domain's sections before the reset (R480, R495). -/
def Pkg.dumpDomain (s : Pkg) (d : Nat) : Pkg :=
  if s.rst.dump.running.isSome then s.dumpStart 4 d
  else
    let s := s.dumpStart 4 d
    let secs := s.rst.dump.takes.filter fun x => decide (3 ≤ x.1) && !s.fusedOff x.2.1
    let lost := (secs.map fun x => (x.1, x.2.1, s.noAnswer x.1 x.2.1)).filter fun x => x.2.2 != 0
    let read := (secs.filter fun x => s.noAnswer x.1 x.2.1 == 0).map fun x => (x.1, x.2.1, s.unitBody x.1 x.2.1)
    { s with rst := { s.rst with dump := { s.rst.dump with sections := lost, bodies := read } } }

end Sys2Proof.Machine
end

