-- ==== Sys2Proof/Machine/Reshard.lean ====
section
/-! DEFINITION. Re-sharding: its commands, its hold, its pulls and its end (R403 to R411). -/

namespace Sys2Proof.Machine

/-! ### Entries (R404, R405) -/

def entryAxis (e : Bytes) : Nat := le e 16 1
def entryNew (e : Bytes) (p : Nat) : Nat := le e (32 + p) 1

/-- A map that holds this package alone: that of a context without an active map. -/
def Pkg.lineMap (s : Pkg) (c : Nat) : Option AxMap :=
  if (s.ctx c).herdEn then (s.activeMap (s.ctx c).herdId).bind s.axMap else none

/-- This package's position and the extent of its line on an axis; alone without a map. -/
def lineOf (m : Option AxMap) (a : Nat) : Nat × Nat := match m with
  | some m => (m.pos a, m.ext a)
  | none => (0, 1)

/-- A descriptor with its layout fields apart: shard dimension, shard index, layout epoch. -/
def layoutless (d : BitVec 512) : BitVec 512 := setFld (setFld (setFld d 81 80 0) 511 496 0) 79 72 0

/-- Whether a tensor's shards lie on whole blocks of 32 in dimensions 0 and 1 (R405). -/
def TensorRef.shards32 (t : TensorRef) : Bool := decide (t.shardDim > 1) || (t.extent t.shardDim / max 1 t.shards) % 32 == 0

/-- The checks of one entry (R405). -/
def Pkg.entryOk (s : Pkg) (c : Nat) (m : Option AxMap) (e : Bytes) (old new : TensorRef) : Bool :=
  let a := entryAxis e
  let (p, n) := lineOf m a
  let epoch := (s.ctx c).cur.epoch
  let sc := (s.vRead c old.scalePtr 32 .read true).bytes
  let offs := le sc 8 6 != 0 || fmtBlock old.fmt
  decide (a < 3) && zeros e 17 15 && (List.range 32).all (fun i => decide (i < n) || entryNew e i == 0) &&
  ((List.range n).all fun i => ((List.range n).filter fun j => entryNew e j == i).length == 1) &&
  old.buffered && old.epoch == epoch && old.shards == n && old.shardIdx == p &&
  layoutless old.desc == layoutless new.desc && new.shardIdx == entryNew e p && new.epoch == (epoch + 1) % 256 &&
  (old.fmt != 0xE || (old.shards32 && new.shards32)) && (!offs || (old.shards32 && new.shards32))

/-- The entries of a descriptor and the tensors they name; none where a structure cannot be read or an entry breaks a check. -/
def Pkg.readEntries (s : Pkg) (c : Nat) (m : Option AxMap) : Nat → Nat → Option (List Bytes × List (BitVec 512 × BitVec 512)) × Pkg
  | _, 0 => (some ([], []), s)
  | a, n + 1 =>
    match s.rdStruct c a 64 with
    | (.error _, s) => (none, s)
    | (.ok e, s) =>
      match s.rdStruct c (le e 0 8) 64 with
      | (.error _, s) => (none, s)
      | (.ok o, s) =>
        match s.rdStruct c (le e 8 8) 64 with
        | (.error _, s) => (none, s)
        | (.ok w, s) =>
          let old : TensorRef := { desc := BitVec.ofNat 512 (leNat o) }
          let new : TensorRef := { desc := BitVec.ofNat 512 (leNat w) }
          if !s.entryOk c m e old new then (none, s)
          else match Pkg.readEntries s c m (a + 64) n with
            | (some (es, ts), s) => (some (e :: es, (old.desc, new.desc) :: ts), s)
            | (none, s) => (none, s)

def Pkg.updReshard (s : Pkg) (c : Nat) (f : Reshard → Reshard) : Pkg := s.updCtx c fun x => { x with reshard := f x.reshard }

/-- RESHARD_CMD ARM (R405). -/
def Pkg.reshardArm (s : Pkg) (c : Nat) : Pkg :=
  let x := s.ctx c
  let r := x.reshard
  let m := s.lineMap c
  let refuse (s : Pkg) : Pkg :=
    (s.logWith Ev.reshardRefused Unit.controlDie (some c) Code.invalidDescriptor false []).updReshard c fun r =>
      { r with error := Code.invalidDescriptor }
  if !(r.phase == .idle || r.phase == .armed) || x.phase != .open || (x.herdEn && m.isNone) ||
      decide (fld r.stroke 47 0 < s.stroke.number + 2) then refuse s
  else
    let a := fld r.desc 47 0
    match s.rdStruct c a 64 with
    | (.error _, s) => refuse s
    | (.ok h, s) =>
      let n := le h 0 4
      if n = 0 ∨ n > 1024 ∨ !zeros h 4 60 then refuse s
      else match s.readEntries c m (a + 64) n with
        | (none, s) => refuse s
        | (some (es, ts), s) => s.updReshard c fun r => { r with phase := .armed, voids := 0, error := 0, entries := es, tensors := ts }

/-- RESHARD_CMD CANCEL (R403). -/
def Pkg.reshardCancel (s : Pkg) (c : Nat) : Pkg :=
  let r := (s.ctx c).reshard
  match r.phase with
  | .armed => s.updReshard c fun r => { desc := r.desc, stroke := r.stroke, voids := r.voids }
  | .holding | .moving =>
    (s.logWith Ev.reshardRefused Unit.controlDie (some c) Code.invalidDescriptor false []).updReshard c fun r =>
      { r with error := Code.invalidDescriptor }
  | .idle => s

/-! ### What moves (R408) -/

/-- The index range of a shard in a dimension: first and one past the last. -/
def TensorRef.span (t : TensorRef) (d : Nat) : Nat × Nat := (t.shardOff d, t.shardOff d + t.shardExt d)

/-- The common part of two ranges. -/
def meet (a b : Nat × Nat) : Nat × Nat := (max a.1 b.1, min a.2 b.2)

/-- The indices of a range. -/
def indices (r : Nat × Nat) : List Nat := upto r.1 (r.2 - r.1)

/-- The address of a full index in a shard (R96, R227). -/
def TensorRef.addrOf (t : TensorRef) (i0 i1 i2 i3 : Nat) : Nat :=
  t.base + (i0 - t.shardOff 0) * fmtWidth t.fmt / 8 + (i1 - t.shardOff 1) * t.stride 1 + (i2 - t.shardOff 2) * t.stride 2 +
    (i3 - t.shardOff 3) * t.stride 3

/-- The parts of a tensor's side arrays for one row of moved elements: block scales, and at the first row of a band of tiles the offset bytes and bound words. -/
def sidePulls (t : TensorRef) (peer a0 b0 i1 i2 i3 : Nat) : List Pull :=
  let blocks : List Pull := if t.blockAddr = 0 then [] else
    let a := t.blockAddr + t.logical a0 i1 i2 i3 / 32
    [{ id := 0, peer := peer, src := a, dst := a, len := ceilDiv (b0 - a0) 32 }]
  let row := i1 + t.extent 1 * (i2 + t.extent 2 * i3)
  let band := if t.flat then true else i1 % 32 == 0
  let tile := if t.flat then a0 / 1024 else t.tileAt row a0
  let n := if t.flat then ceilDiv b0 1024 - a0 / 1024 else ceilDiv b0 32 - a0 / 32
  let offs : List Pull := if t.offsetAddr = 0 || !band then [] else
    { id := 0, peer := peer, src := t.offsetAddr + tile, dst := t.offsetAddr + tile, len := n } ::
    (if t.fmt != 0xE then [] else
      [{ id := 0, peer := peer, src := t.boundArr + 8 * tile, dst := t.boundArr + 8 * tile, len := 8 * n, bound := t.maskArr + 256 * tile }])
  blocks ++ offs

/-- The pulls of one entry: for each member of the line, the part of its old shard that lies in this package's new one. -/
def entryPulls (m : Option AxMap) (self : Nat) (e : Bytes) (old new : TensorRef) : List Pull :=
  let a := entryAxis e
  let (_, n) := lineOf m a
  (List.range n).flatMap fun r =>
    let peer := match m with
      | some m => m.line a r
      | none => self
    let o : TensorRef := { old with desc := setFld old.desc 511 496 r }
    let g (d : Nat) : Nat × Nat := meet (o.span d) (new.span d)
    let x := g 0
    if x.2 ≤ x.1 then [] else
    (indices (g 3)).flatMap fun i3 => (indices (g 2)).flatMap fun i2 => (indices (g 1)).flatMap fun i1 =>
      ({ id := 0, peer := peer, src := o.addrOf x.1 i1 i2 i3, dst := new.addrOf x.1 i1 i2 i3,
         len := (x.2 - x.1) * fmtWidth old.fmt / 8 } : Pull) :: sidePulls old peer x.1 x.2 i1 i2 i3

/-! ### Pulls (R408) -/

/-- The mask entries that landed bound words call for: those whose nonfinite bit is set (R310, R408). -/
def maskPulls (p : Pull) (at_ : Nat) (b : Bytes) : List Pull :=
  if p.bound = 0 then [] else
  (List.range (b.length / 8)).filterMap fun j =>
    if (le b (8 * j + 7) 1).testBit 7 then
      let a := p.bound + 32 * at_ + 256 * j
      some { id := 0, peer := p.peer, src := a, dst := a, len := 256 }
    else none

/-- Pulled bytes written in place into the window's version pages, counted. -/
def Pkg.pullLand (s : Pkg) (c : Nat) (p : Pull) (at_ : Nat) (b : Bytes) (bad : Bool) : Pkg :=
  let s := (s.vWrite c (p.dst + at_) b bad).1
  (s.bumpBy Reg.reshardBytes b.length).updReshard c fun r => { r with toIssue := r.toIssue ++ maskPulls p at_ b }

/-- The units of 64 B that a pull's READ asks for, and the bytes before its own in the first. -/
def Pull.lead (p : Pull) : Nat := p.src % 64
def Pull.units (p : Pull) : Nat := ceilDiv (p.lead + p.len) 64

/-- A pull cut to what one READ can ask for, 16,383 units (R351), and what is left of it. -/
def Pull.cut (p : Pull) : Pull × List Pull :=
  let n := 64 * 16383 - p.lead
  if p.len ≤ n then (p, [])
  else ({ p with len := n }, [{ p with src := p.src + n, dst := p.dst + n, len := p.len - n, bound := if p.bound = 0 then 0 else p.bound + 32 * n }])

/-- Pulls issued while indices last: this package's own part is copied from the committed version at once, the others go out as READs (fuel: how many at most). -/
def Pkg.pullNext (s : Pkg) (c : Nat) : Nat → Pkg
  | 0 => s
  | n + 1 =>
    let x := s.ctx c
    let r := x.reshard
    match r.toIssue with
    | [] => s
    | p :: rest =>
      if p.peer = s.self ∨ !x.herdEn then
        let b := s.vRead c p.src p.len .read false
        let s := s.took b
        Pkg.pullNext ((s.updReshard c fun r => { r with toIssue := rest }).pullLand c p 0 b.bytes b.poison) c n
      else if r.pulls.length ≥ 1024 ∨ s.isAbsent p.peer then s
      else
        let id := ((List.range 1024).find? fun i => !r.pulls.any fun q => q.id == i).getD 0
        let (p, more) := p.cut
        let s := s.updReshard c fun r => { r with toIssue := more ++ rest, pulls := r.pulls ++ [{ p with id := id }] }
        let s := s.injectTracked (65536 + id)
          { op := opREAD, cls := 0, src := eidOf s.self 80, dst := eidOf p.peer 80, ctx := c, gen := x.gen, layout := x.cur.epoch,
            addr := p.src - p.lead, aux := id + p.units * 1024 } []
        Pkg.pullNext s c n

/-- How many steps a context's pulls can take: each bound word adds at most one mask entry, and a long pull is cut into several. -/
def Reshard.fuel (r : Reshard) : Nat := (r.toIssue.map fun p => 1 + p.len / 1000000 + if p.bound = 0 then 0 else p.len / 8).sum

def Pkg.pullAll (s : Pkg) (c : Nat) : Pkg := s.pullNext c (s.ctx c).reshard.fuel

/-- Data of a pull's READ (R408): the bytes it asked for land. `off`: byte offset within the transfer; `last`: its last packet. -/
def Pkg.pullData (s : Pkg) (c id off : Nat) (b : Bytes) (last : Bool) : Pkg :=
  match (s.ctx c).reshard.pulls.find? fun p => p.id == id with
  | none => s
  | some p =>
    let lo := max off p.lead
    let hi := min (off + b.length) (p.lead + p.len)
    let s := if lo < hi then s.pullLand c p (lo - p.lead) (slice b (lo - off) (hi - lo)) false else s
    if last then (s.updReshard c fun r => { r with pulls := r.pulls.filter fun q => q.id ≠ id }).pullAll c else s

/-! ### In the slot (R406 to R410) -/

/-- Step 3: an armed re-sharding whose stroke has come holds its context (R406). -/
def Pkg.reshardHold (s : Pkg) (c : Nat) : Pkg :=
  let r := (s.ctx c).reshard
  if r.phase = .armed ∧ fld r.stroke 47 0 ≤ s.stroke.number then s.updReshard c fun r => { r with phase := .holding } else s

/-- Whether a held context has no work left of before the hold (R407). -/
def Pkg.quiet (s : Pkg) (c : Nat) : Bool :=
  (s.ctxTasks c fun t => t.phase == .running || t.phase == .completed || (t.phase == .waiting && t.replay)).isEmpty

/-- Step 3: a held re-sharding starts (R407), or restarts after a void (R410). `committed`: the committed-through stroke before this slot. -/
def Pkg.reshardStart (s : Pkg) (c committed : Nat) : Pkg :=
  let x := s.ctx c
  let r := x.reshard
  let due := (decide (committed < x.committed ∧ fld r.stroke 47 0 ≤ x.committed) && s.quiet c) || decide (r.voids > 0)
  if r.phase = .holding && due then
    let m := s.lineMap c
    let ps := (r.entries.zip r.tensors).flatMap fun (e, o, n) =>
      let sc := (s.scaleRec c { desc := o }).getD 0
      entryPulls m s.self e { desc := o, scale := sc } { desc := n, scale := sc }
    let s := s.updCtx c fun x => { x with
      cur := { x.cur with epoch := (x.cur.epoch + 1) % 256 }
      reshard := { r with phase := .moving, window := s.stroke.number, toIssue := ps, pulls := [] } }
    s.pullAll c
  else s

/-- Whether a re-sharding still pulls (R409). -/
def Ctx.pulling (x : Ctx) : Bool := x.reshard.phase == .moving && !(x.reshard.toIssue.isEmpty && x.reshard.pulls.isEmpty)

/-- A re-sharding whose window has committed is complete (R409). -/
def Pkg.reshardDone (s : Pkg) (c : Nat) : Pkg :=
  let x := s.ctx c
  let r := x.reshard
  if r.phase = .moving ∧ r.window ≤ x.committed then
    (s.bump Reg.reshardCompleted).updReshard c fun r => { desc := r.desc, stroke := r.stroke, voids := r.voids, error := r.error }
  else s

end Sys2Proof.Machine
end

