-- ==== Sys2Proof/Machine/Votes.lean ====
section
/-! DEFINITION. The vote tree of a herd: votes, results and void notices as they arrive and as they are applied (R71 to R77, R379, R659). -/

namespace Sys2Proof.Machine

/-- The payload of VOTE and VOTE_RESULT (R351). -/
def voteBytes (herd stroke : Nat) (bit : Bool) (phase : Nat) : Bytes :=
  leBytes 2 herd ++ leBytes 6 stroke ++ leBytes 1 bit.toNat ++ leBytes 1 phase ++ leBytes 22 0

/-- The active map of a herd as a record. -/
def Pkg.herdMap (s : Pkg) (h : Nat) : Option AxMap := (s.activeMap h).bind s.axMap

def Pkg.round (s : Pkg) (h st : Nat) : Option VoteRound := s.fab.votes.find? fun v => v.herd == h && v.stroke == st

/-- A round's record changed, or made, in ascending strokes. -/
def Pkg.updRound (s : Pkg) (h st : Nat) (f : VoteRound → VoteRound) : Pkg :=
  let vs := s.fab.votes
  let vs := if vs.any fun v => v.herd == h && v.stroke == st then vs.map fun v => if v.herd = h ∧ v.stroke = st then f v else v
    else vs ++ [f { herd := h, stroke := st }]
  { s with fab := { s.fab with votes := vs } }

/-- A result known here (R73, R379): recorded for application, timed, and passed down the tree. -/
def Pkg.voteKnown (s : Pkg) (h st : Nat) (bit : Bool) : Pkg :=
  match s.round h st with
  | none => s
  | some v =>
    if v.result.isSome then s
    else
      let s := s.updRound h st fun v => { v with result := some bit }
      let s := { s with stroke := { s.stroke with rounds := (s.stroke.number, s.now - v.startAt) :: s.stroke.rounds.filter fun r => decide (s.stroke.number < r.1 + 1024) } }
      match s.herdMap h with
      | none => s
      | some m => m.voteKids.foldl (fun s q => s.sendMgmt opVOTERES q.2 (voteBytes h st bit (5 - q.1))) s

/-- This package's vote combined with its children's and sent on, once all are in or where the wait has ended (R71, R379, R659). At the root the result is decided. -/
def Pkg.voteTry (s : Pkg) (h st : Nat) (ended : Bool) : Pkg :=
  match s.round h st with
  | none => s
  | some v =>
    match v.own with
    | none => s
    | some own =>
      let m := s.herdMap h
      let kids : List Nat := match m with
        | some m => m.voteKids.map (·.2)
        | none => []
      let voted (q : Nat) : Bool := v.votes.any fun x => x.2.1 == q
      if !v.sent.isEmpty || v.result.isSome || !(ended || kids.all voted) then s
      else
        let bit := own && kids.all fun q => v.votes.any fun (x : Nat × Nat × Bool) => x.2.1 == q && x.2.2
        match m.bind fun m => m.voteParent with
        | some (a, q) =>
          (s.updRound h st fun v => { v with sent := [a] }).sendMgmt opVOTE q (voteBytes h st bit a)
        | none => (s.updRound h st fun v => { v with sent := [5] }).voteKnown h st bit

/-- A child's vote (R71): dropped where the round has been sent on already, or is over. -/
def Pkg.voteIn (s : Pkg) (h st q : Nat) (bit : Bool) (phase : Nat) : Pkg :=
  if st + 2 ≤ s.stroke.number then s
  else match s.round h st with
    | some v =>
      if !v.sent.isEmpty || v.votes.any (fun x => x.2.1 == q) then s
      else (s.updRound h st fun v => { v with votes := v.votes ++ [(phase, q, bit)] }).voteTry h st false
    | none => s.updRound h st fun v => { v with votes := [(phase, q, bit)] }

/-- The wait for children's votes of stroke `st` ends (R659). -/
def Pkg.voteExpire (s : Pkg) (h st : Nat) : Pkg := s.voteTry h st true

/-- The herds that this package votes for: those with an active map here, and those of its contexts. -/
def Pkg.herds (s : Pkg) : List Nat :=
  let ms := (s.fab.maps.vals.filter fun m => m.active).map AxMap.herd
  let cs := (s.ctxs.vals.filter fun x => x.phase != .free && x.herdEn).map Ctx.herdId
  (ms ++ cs).eraseDups

/-- Whether a package of the absent-peer set is a member of a herd's map (R424). -/
def Pkg.peerMissing (s : Pkg) (h : Nat) : Bool := match s.herdMap h with
  | some m => m.members.any fun q => s.fab.absent.contains q
  | none => false

/-- The vote of this package for a herd and stroke (R71, R74, R409, R424, R478, R491): every context of the herd is ready, and no member of its map is absent, since that voids its windows in this slot. -/
def Pkg.voteBit (s : Pkg) (h st : Nat) (hung : List Nat) : Bool :=
  !(s.fab.voidIn.any fun n => n.herd == h && decide (n.stroke ≤ st)) &&
  !((s.fab.voidCause ++ s.fab.voidNew).any fun n => n.2.herd == h && decide (n.2.stroke ≤ st)) && !s.peerMissing h &&
  (s.herdCtxs h).all fun c =>
    let x := s.ctx c
    x.phase == .open && !x.overran && !x.herdHeld && !x.peerHeld && !x.pulling && x.voidFrom.isNone && !hung.contains c

/-- Step 1's votes for the ending stroke: the rounds of the stroke before end their wait first (R659). -/
def Pkg.castVotes (s : Pkg) (hung : List Nat) : Pkg :=
  let n := s.stroke.number
  let s := s.herds.foldl (fun s h => if n < 2 then s else s.voteExpire h (n - 2)) s
  s.herds.foldl (fun s h =>
    let bit := s.voteBit h (n - 1) hung
    (s.updRound h (n - 1) fun v => { v with own := some bit, startAt := s.now }).voteTry h (n - 1) false) s

/-! ### Application in step 2 -/

/-- A window that does not commit (R67, R70, R73): merged into the next one, or voided where the deferrals are used up. -/
def Pkg.defer (s : Pkg) (c w next : Nat) : Pkg :=
  let x := s.ctx c
  if x.defers + 1 > fld s.stroke.cfg 39 37 then s.voidTo c w (genNext x.gen) else s.mergeWin c w next

/-- A result applied to a herd's contexts (R73). -/
def Pkg.applyResult (s : Pkg) (h st : Nat) (bit : Bool) : Pkg :=
  (s.herdCtxs h).foldl (fun s c =>
    let x := s.ctx c
    if x.phase != .open || decide (st ≤ x.committed) || !x.closed.any (fun w => w.1 == st) then s
    else if bit then s.commit c st
    else s.defer c st (st + 1)) s

/-- The results of a herd that are due in this slot, in stroke order; one that has not arrived holds the herd (R73, R74).
DESIGN CHOICE, log entry 117: a stroke for which the root, or a package on the way to it, had no active map yet has no result, so that a herd whose members' maps become active at different boundaries is held until the host loads them anew. -/
def Pkg.applyDue (s : Pkg) (h : Nat) : Pkg :=
  let n := s.stroke.number
  let due := s.fab.votes.filter fun v => v.herd == h && decide (v.stroke + 2 ≤ n)
  let (s, ok) := due.foldl (fun (a : Pkg × Bool) v =>
    match a.2, v.result with
    | true, some b =>
      let s := a.1.applyResult h v.stroke b
      ({ s with fab := { s.fab with votes := s.fab.votes.filter fun x => !(x.herd == h && x.stroke == v.stroke) } }, true)
    | _, _ => (a.1, false)) (s, true)
  (s.herdCtxs h).foldl (fun s c => s.updCtx c fun x => { x with herdHeld := !ok && !due.isEmpty }) s

/-- How far a tag lies ahead of the one held, where it is ahead (R77). -/
def tagAhead (held g : Nat) : Option Nat :=
  let d := (g + 65536 - held % 65536) % 65536
  if 0 < d ∧ d < 32768 then some d else none

/-- The notices that a slot applies to a context (R77): those received and this package's own. To a context that has been voided since the last slot, those only that name a tag ahead of the one held or an earlier stroke than its own. -/
def Pkg.noticesFor (s : Pkg) (c : Nat) : List VoidNote :=
  let x := s.ctx c
  let own := s.fab.voidCause.filter fun n => n.2.herd == x.herdId
  let all := s.fab.voidIn.filter (·.herd == x.herdId) ++ own.map (·.2)
  match (own.filter (·.1 == c)).map (·.2.stroke) with
  | [] => all
  | w :: ws => all.filter fun n => (tagAhead x.gen n.gen).isSome || decide (n.stroke < ws.foldl min w)

/-- The earliest stroke of the notices that a context's own voids since the last slot have sent. -/
def Pkg.ownVoid (s : Pkg) (c : Nat) : Option Nat :=
  match (s.fab.voidCause.filter fun n => n.1 == c).map (·.2.stroke) with
  | [] => none
  | w :: ws => some (ws.foldl min w)

/-- The notices of a herd applied to its contexts (R77): one void from the earliest stroke, the tag that lies furthest ahead. A context whose own void has sent them takes no further void; what this slot's results have merged into a window that the void names goes with it, as on every other member.
DESIGN CHOICE, log entry 118: a held herd applies them too, since R77 has every member apply a notice in its next slot. -/
def Pkg.applyNotices (s : Pkg) (h : Nat) : Pkg :=
  (s.herdCtxs h).foldl (fun s c =>
    let x := s.ctx c
    let ns := s.noticesFor c
    match ns.map (·.stroke) with
    | [] => match s.ownVoid c with
      | some w => if x.phase = .open then s.voidRest c w else s
      | none => s
    | w :: ws =>
      if x.phase ≠ .open then s
      else
        let best := ns.foldl (fun (b : Nat) n => match tagAhead x.gen n.gen with
          | some d => max b d
          | none => b) 0
        s.voidTo c (ws.foldl min w) ((x.gen + best) % 65536)) s

/-- A local context's window (R70). -/
def Pkg.localStep (s : Pkg) (c : Nat) : Pkg :=
  let x := s.ctx c
  let e := s.stroke.number - 1
  if x.phase != .open || x.herdEn || !x.closed.any (fun w => w.1 == e) then s
  else if x.overran || x.pulling then s.defer c e s.stroke.number
  else s.commit c e

/-- Absent peers in a herd context's lines void and hold it; when none is left it resumes (R424). -/
def Pkg.peerStep (s : Pkg) (c : Nat) : Pkg :=
  let x := s.ctx c
  if x.phase ≠ .open ∨ !x.herdEn then s
  else
    let hit := s.peerMissing x.herdId
    if hit && !x.peerHeld then (s.voidCtx c (s.voidBase c)).updCtx c fun x => { x with peerHeld := true }
    else s.updCtx c fun x => { x with peerHeld := hit }

/-- A window that the empty spare pool voids (R69). -/
def Pkg.poolStep (s : Pkg) (c : Nat) : Pkg :=
  match (s.ctx c).voidFrom with
  | none => s
  | some w => (s.logEv Ev.sparePoolEmpty Unit.controlDie (some c) []).voidCtx c w

/-- Step 2 (R55): results, notices, local windows, and the voids found at this boundary. -/
def Pkg.stepTwo (s : Pkg) : Pkg :=
  let hs := s.herds
  let s := hs.foldl (fun s h => s.applyDue h) s
  let s := hs.foldl (fun s h => s.applyNotices h) s
  let s := { s with fab := { s.fab with voidIn := [], voidCause := [] } }
  let cs := (s.ctxs.filter fun x => x.2.phase == .open).map (·.1)
  let s := cs.foldl (fun s c => s.poolStep c) s
  let s := cs.foldl (fun s c => s.localStep c) s
  cs.foldl (fun s c => (s.peerStep c).reshardDone c) s

/-! ### Packets -/

def Pkg.voidNotice (s : Pkg) (n : VoidNote) (from_ : Nat) : Pkg :=
  if s.fab.voidSent.contains n then s
  else { s.sendVoid n (some from_) with fab := { (s.sendVoid n (some from_)).fab with voidIn := s.fab.voidIn ++ [n] } }

end Sys2Proof.Machine
end

