-- ==== Sys2Proof/Machine/Hang.lean ====
section
/-! DEFINITION. Overruns, progress, hangs, suspects and their tests, and stranded tasks (R60, R478 to R483). -/

namespace Sys2Proof.Machine

/-- The domain whose reset the hang of an engine brings (R479): the package for LD0's attachment, since a reset of LD0 is a package reset (R471). No engine of R479 has a package, host-port or control-die unit code. -/
def Pkg.hangDomain (s : Pkg) (unit : Nat) : Option Nat :=
  if unit / 4096 = 4 then (if s.corePresent (unit % 4096 / 8) then some (Unit.core (unit % 4096 / 8)) else none)
  else if unit / 4096 = 0 ∨ unit / 4096 = 9 ∨ unit / 4096 = 0xA then none
  else s.domainOf unit

/-- Whether a task's run lay in a domain. -/
def taskIn (d : Nat) (t : Task) : Bool := domIn d (if t.update then Unit.cluster t.core else Unit.core t.core)

/-- The suspects of a hang (R481): contexts that had a task in the domain in the hung stroke, or a transfer outstanding on its TXE, not yet committed, but for those whose non-replayable task the reset aborts. `b`: the state as the stroke ended; `e`: that stroke. -/
def Pkg.suspects (s b : Pkg) (d e : Nat) : List Nat :=
  let there := (b.tasks.vals.filter fun t => taskIn d t && (t.phase == .running || (t.phase == .completed && t.window == e))).map (·.ctx)
  let ends := (s.tasks.vals.filter fun t => t.phase == .running && !t.replayable && taskIn d t).map (·.ctx)
  let moved := (b.clusters.filter fun x => domIn d (Unit.cluster x.1)).flatMap fun x => x.2.xfers.map (·.ctx)
  s.ctxs.keys.filter fun c => (there.contains c || moved.contains c) && !ends.contains c && (s.ctx c).phase == .open

/-- A hang (R480): recorded and noticed, its domain's sections read where DUMP_CFG asks, its suspects held or its convict closed, and the domain reset. `b`: as in `suspects`. -/
def Pkg.hang (s b : Pkg) (unit rule streak : Nat) : Pkg :=
  match s.hangDomain unit with
  | none => s
  | some d =>
    if s.rst.running.any fun r => domIn r.unit d then s
    else
      let s := (s.bump Reg.hangsDetected).logWith Ev.hangDetected unit none Code.hangReset (s.noticeFree unit 0x06)
        (leBytes 2 unit ++ leBytes 1 rule ++ leBytes 1 streak)
      let s := s.noticeRaw 0x06 unit Code.hangReset (s.causeNotice 0x06 Code.hangReset unit rule (min 255 (s.resetCount d)) 0xFFFF)
      let s := if bitAt (s.reg Reg.dumpCfg) 0 then s.dumpDomain d else s
      match (s.rst.tests.find? (·.unit == d)).bind (·.current) with
      | some c =>
        let s := s.bump Reg.convictions
        let s := s.noticeRaw 0x07 d Code.suspectConvicted (s.causeNotice 0x07 Code.suspectConvicted d 5 (min 255 (s.resetCount d)) c)
        (s.teardown c Code.suspectConvicted []).resetUnit d 5 c
      | none =>
        let cs := s.suspects b d (s.stroke.number - 1)
        if cs.isEmpty then (s.logEv Ev.hangUnattributed d none []).resetUnit d rule 0xFFFF
        else
          let s := cs.foldl (fun s c => (s.voidCtx c (s.voidBase c)).updCtx c fun x => { x with suspectHeld := true }) s
          let t : SuspectTest := { unit := d, waiting := cs }
          let tests := (s.rst.tests.filter fun (y : SuspectTest) => y.unit ≠ d) ++ [t]
          let s := { s with rst := { s.rst with tests := tests } }
          s.resetUnit d rule 0xFFFF

/-- HANG_DETECTED for an engine whose progress only the hardware sees (R479, R480). -/
def Pkg.hangFound (s : Pkg) (unit rule streak : Nat) : Pkg := s.hang s unit rule streak

/-! ### Item 1: the lifetime bound (R81, R478) -/

/-- A transfer that has reached its bound dropped, counted and logged. -/
def Pkg.ageXfer (s : Pkg) (x : Xfer) : Pkg :=
  ((s.bump Reg.agedDrops).dropTransfers fun y => y.key == x.key).logEv Ev.transferAged (Unit.clusterEngine x.cluster 0) (some x.ctx) []

/-- Transfers dropped at their bound, and one void for each of their contexts from the earliest stroke. -/
def Pkg.ageAll (s : Pkg) (p : Xfer → Bool) : Pkg :=
  let xs := s.clusters.vals.flatMap fun c => c.xfers.filter p
  let s := xs.foldl (fun s x => s.ageXfer x) s
  let cs := (xs.map (·.ctx)).eraseDups
  cs.foldl (fun s c =>
    let w := ((xs.filter (·.ctx == c)).map (·.stroke)).foldl min s.stroke.number
    if (s.ctx c).phase = .open then s.voidCtx c (max w (s.voidBase c)) else s) s

/-- Forwarded relay blocks still unacknowledged at their bound (R393). -/
def Pkg.ageRelays (s : Pkg) : Pkg :=
  let n := s.stroke.number
  let old := s.fab.relays.filter fun r => decide (r.stroke + 2 ≤ n) && r.next.isSome
  let s := { s with fab := { s.fab with relays := s.fab.relays.filter fun r => !decide (r.stroke + 2 ≤ n) } }
  old.foldl (fun s r =>
    let s := s.bump Reg.agedDrops
    if (s.ctx r.ctx).phase = .open then s.voidCtx r.ctx (max r.stroke (s.voidBase r.ctx)) else s) s

/-- TRANSFER_AGED: one transfer at its second boundary, which may be the one now due. -/
def Pkg.transferAged (s : Pkg) (cluster id : Nat) : Pkg :=
  let n := if s.stroke.nextAt ≤ s.now then s.stroke.number + 1 else s.stroke.number
  s.ageAll fun x => x.cluster == cluster && x.id == id && decide (x.stroke + 2 ≤ n)

/-! ### Items 2 to 4 -/

/-- An overrun counted and logged (R60, R657). -/
def Pkg.overrun (s : Pkg) (k : Nat) : Pkg :=
  let t := s.task k
  let mhz := s.dieMhz (if t.update then t.core / 4 else t.core / 32)
  let n := t.overruns + 1
  let cycles := (s.now - t.at0) * mhz / 1000
  let unit := if t.update then Unit.clusterEngine t.core 1 else Unit.core t.core
  let s := (s.bump Reg.overrunCount).taskEvent k Ev.taskOverrun unit 0
    (leBytes 4 t.seq ++ leBytes 4 t.idx ++ leBytes 4 t.budget ++ leBytes 4 (min cycles 0xFFFFFFFF) ++ leBytes 1 n)
  s.updTask k fun t => { t with overruns := n, overran := t.overran + 1 }

/-- The engine that runs a task, as overruns and progress name it (R657). -/
def Task.engine (t : Task) : Nat := if t.update then Unit.clusterEngine t.core 1 else Unit.core (t.core % 512)

/-- Whether a running task's sequencer waits for acknowledgements only, which is not pending work: held by a WAIT, or at END with its operations finished (R479). -/
def Pkg.onlyWaits (s : Pkg) (k : Nat) (t : Task) : Bool :=
  let x := s.core t.core
  x.hold == .wait || (x.ended && x.busy.isEmpty && !(s.taskXfers k none).isEmpty)

/-- Whether a cluster's transfer engine has work pending as a stroke ends (R479): frames of a REDUCE still to be sent, or transfers that item 1 of this boundary drops (R478). What has been sent waits for acknowledgements only. -/
def ClusterSt.txePending (x : ClusterSt) (n : Nat) : Bool :=
  x.xfers.any fun t => (t.kind == .reduce && !t.sent) || decide (t.stroke + 2 ≤ n)

/-- Engines of which the model sees pending work in the ended stroke, and whether they made progress in it (R479). `b`: the state as the stroke ended, stroke `e`. A task that item 1 has aborted is not considered (R335, R478); what it drops counts as pending. A die's attachment holds no queue in this model: its hang comes by HANG_DETECTED only. DESIGN CHOICE, log entry 119: writes that wait for a frame of the spare pool wait in no die's queue yet. -/
def Pkg.engines (s b : Pkg) (e : Nat) : List (Nat × Bool) :=
  let moved (u : Nat) : Bool := b.rst.progressed.mem u
  let own := (b.tasks.filter fun t => t.2.phase == .running && (s.task t.1).phase == .running).filterMap fun (k, t) =>
    if !t.update && b.onlyWaits k t then none else some (t.engine, t.progress == some e)
  let txes := (b.clusters.filter fun x => x.2.txePending (e + 1)).map fun x => (Unit.clusterEngine x.1 0, moved (Unit.clusterEngine x.1 0))
  let served (lo n : Nat) : Bool := (upto lo n).any b.mem.served.mem
  let memDies := ((List.range 4).filter fun d => b.fab.redWait.any fun w => w.tile % 4 == d).map fun d => (Unit.memDie d, served (8 * d) 8)
  let memPorts := ((List.range 32).filter fun n => decide (0 < (b.memPort n).waiting)).map fun n => (Unit.memPort n, served n 1)
  let ports := (List.range 24).filterMap fun n =>
    if (b.port n).state = 4 ∧ ((b.port n).unacked.any fun u => !u.data.isEmpty) then some (Unit.port n, moved (Unit.port n)) else none
  own ++ txes ++ memDies ++ memPorts ++ ports

/-- Progress evaluated (R479): the strokes without progress of each engine with pending work. -/
def Pkg.evalProgress (s b : Pkg) : Pkg :=
  let es := s.engines b (s.stroke.number - 1)
  let streak : Tbl Nat := es.foldl (fun (t : Tbl Nat) (x : Nat × Bool) => if x.2 then t else t.set x.1 (b.rst.streak.get 0 x.1 + 1)) []
  { s with rst := { s.rst with streak := streak, progressed := [] }, mem := { s.mem with served := [] } }

/-- The contexts held as suspects. -/
def Pkg.heldSuspects (s : Pkg) : List Nat := (s.ctxs.filter fun x => x.2.suspectHeld).map (·.1)

/-- Whether a task has run through two boundaries (R60). -/
def Task.hung (t : Task) : Bool := decide (2 ≤ t.overruns)

/-- Item 1: transfers and relay blocks at their bound. -/
def Pkg.itemOne (s : Pkg) : Pkg :=
  let n := s.stroke.number
  (s.ageAll fun x => decide (x.stroke + 2 ≤ n)).ageRelays

/-- Item 2: overruns. -/
def Pkg.itemTwo (s : Pkg) : Pkg :=
  let ks := (s.tasks.filter fun t => t.2.phase == .running).map (·.1)
  let s := ks.foldl (fun s k => s.overrun k) s
  let late := (ks.map fun k => (s.task k).ctx).eraseDups
  { s with ctxs := s.ctxs.mapV fun c x => { x with overran := late.contains c } }

/-- The hangs found: units and rules, second overruns first (R478). -/
def Pkg.hangsFound (s : Pkg) : List (Nat × Nat) :=
  ((s.tasks.vals.filter fun t => t.phase == .running && t.hung).map fun t => (t.engine, 3)) ++
    ((s.rst.streak.filterV fun _ n => decide (s.hangStrokes ≤ n)).map fun x => (x.1, 4))

/-- Items 1 to 4 of step 1 (R478): the hung contexts are those suspected at this boundary. -/
def Pkg.itemsOneToFour (s b : Pkg) : Pkg × List Nat :=
  let s := s.itemOne.itemTwo.evalProgress b
  let before := s.heldSuspects
  let s := s.hangsFound.foldl (fun (s : Pkg) (u : Nat × Nat) => s.hang b u.1 u.2 (s.rst.streak.get 0 u.1)) s
  let kept := s.rst.streak.filterV fun _ v => decide (v < s.hangStrokes)
  let s := { s with rst := { s.rst with streak := kept } }
  (s, s.heldSuspects.filter fun c => !before.contains c)

/-! ### Suspect tests at a boundary (R482) -/

/-- A suspect's test after the commits of step 2: cleared when the window that holds its work in the domain has committed, or after hang_strokes + 1 strokes without work. While the domain is being reset, the test waits for the reset's end. -/
def Pkg.testStep (s : Pkg) (t : SuspectTest) : Pkg :=
  match t.current with
  | none => s
  | some c =>
    let x := s.ctx c
    let works := s.tasks.vals.any fun k => k.ctx == c && k.phase == .running && taskIn t.unit k
    let idle := if works then 0 else t.idle + 1
    let done := match t.worked with
      | some w => decide (w ≤ x.committed)
      | none => decide (idle ≥ s.hangStrokes + 1)
    if s.rst.running.any fun r => domIn r.unit t.unit then s
    else if x.phase ≠ .open then s.nextSuspect t.unit
    else if done then (s.logEv Ev.suspectCleared t.unit (some c) []).nextSuspect t.unit
    else
      let u := { t with idle := idle }
      let tests := s.rst.tests.map fun (y : SuspectTest) => if y.unit = t.unit then u else y
      { s with rst := { s.rst with tests := tests } }

def Pkg.testsStep (s : Pkg) : Pkg := s.rst.tests.foldl (fun s t => s.testStep t) s

/-! ### Stranded tasks (R483) -/

/-- Whether every unit that a ready task's placement allows is out of service. -/
def Pkg.isStranded (s : Pkg) (k : Nat) : Bool :=
  let t := s.task k
  s.isReady k && (s.allowed t).all fun u => s.unitOos (if t.update then Unit.cluster u else Unit.core u)

/-- Stranded tasks at a boundary: logged, counted. -/
def Pkg.strandedStep (s : Pkg) : Pkg :=
  let ks := s.tasks.keys
  ks.foldl (fun s k =>
    if s.isStranded k then (s.taskEvent k Ev.taskStranded Unit.controlDie 0 []).updTask k fun t => { t with stranded := t.stranded + 1 }
    else s.updTask k fun t => { t with stranded := 0 }) s

/-- STRANDED_TASK_FAIL (R483): at the hang_strokes-th stranded boundary, with its dependants. -/
def Pkg.strandedFail (s : Pkg) (k : Nat) : Pkg :=
  if s.isStranded k && decide ((s.task k).stranded ≥ s.hangStrokes) then s.failTask k Code.outOfService else s

end Sys2Proof.Machine
end

