-- ==== Sys2Proof/Machine/Boundary.lean ====
section
/-! DEFINITION. The stroke clock: boundaries, the maintenance slot, marks, holdover, the stroke-lost state, and the spare pool's registers (R43 to R55, R66 to R69, R358, R368, R377, R456, R583). -/

namespace Sys2Proof.Machine

/-! ### Attribution (R583, R584) -/

def Pkg.attribute (s : Pkg) : Pkg :=
  let s := (s.tasks.filter fun t => t.2.phase == .running).foldl (fun s t => s.creditRun t.1) s
  let m := s.mirror
  let clear (s : Pkg) : Pkg := { s with ctxs := s.ctxs.mapV fun _ x => { x with activity := 0 } }
  if m.stale || !m.seen then
    clear { s with mirror := { m with staleStrokes := m.staleStrokes + m.stale.toNat, attrStroke := s.stroke.number } }
  else
    let d := (m.energy - m.used) * 1000
    let a := (s.ctxs.vals.map (·.activity)).sum
    let a := if m.usedOk then a else 0
    let share (x : Ctx) : Nat := if a = 0 then 0 else d * x.activity / a
    let given := (s.ctxs.vals.map share).sum
    let s := { s with ctxs := s.ctxs.mapV fun _ x => { x with energy := x.energy + share x } }
    clear { s with mirror := { m with used := m.energy, usedOk := true, unalloc := m.unalloc + (d - given), attrStroke := s.stroke.number } }

/-! ### The stroke clock (R43 to R51) -/

def StrokeSt.source (k : StrokeSt) : Bool := bitAt k.cfg 36

def Sync.code : Sync → Nat
  | .unsync => 0
  | .locked => 1
  | .holdover => 2
  | .lost => 3

/-- The trim source now (R542, R543): REFCLK_SYS, received marks while locked to them, else holdover of the last trim; factory before any. -/
def Pkg.trimSource (s : Pkg) : Nat :=
  if s.clk.present.mem 2 then 1 else if s.stroke.sync = .locked ∧ s.stroke.source = false then 2 else if s.clk.trim = 0 then 0 else 3

/-- The trim source followed; a change is logged. -/
def Pkg.retrim (s : Pkg) : Pkg :=
  let n := s.trimSource
  if n = s.clk.trim then s
  else ({ s with clk := { s.clk with trim := n } }).logEv Ev.oscTrimSource Unit.controlDie none []

/-- A change of sync state, which the trim source follows; a STROKE_STATE notice goes out at every entry into holdover or stroke lost, and at every return to locked, which the first lock is not (R422). -/
def Pkg.syncTo (s : Pkg) (y : Sync) : Pkg :=
  if s.stroke.sync = y then s
  else
    let old := s.stroke.sync
    let s := { s with stroke := { s.stroke with sync := y } }.retrim
    if old = .unsync then s else s.notice 0x04 0 Unit.package { state := y.code }

/-- Period and slot of the strokes this package times itself, and of those it follows: those last received where it follows or followed marks, else its own (R44, R45). -/
def StrokeSt.timing (k : StrokeSt) : Nat × Nat :=
  match k.lastMark with
  | some m => if k.source then (fld k.cfg 11 0, fld k.cfg 20 16) else m
  | none => (fld k.cfg 11 0, fld k.cfg 20 16)

/-- The ports that carry marks onward: present ports that are not quarantined, up, but for one (R46). -/
def Pkg.markPorts (s : Pkg) (but : Option Nat) : List Nat :=
  (List.range 24).filter fun n => s.portPresent n && (s.port n).state == 4 && some n != but

/-- A mark given to ports: each sends it in its next control symbol after the nominal departure (R349). -/
def Pkg.sendMark (s : Pkg) (but : Option Nat) (stroke period slot : Nat) : Pkg :=
  (s.markPorts but).foldl (fun s n => s.updPort n fun p => { p with markOut := some (stroke, period, slot) }) s

/-- The stroke opens: the accepted configuration takes effect, the number rises, the slot begins (R48, R52, R54). A source is locked from its first boundary on (R44, R53; DEDUCED, log entry 14). New parent ports start over on the parent port. -/
def Pkg.openStroke (s : Pkg) : Pkg :=
  let k := s.stroke
  let cfg := k.cfgNext.getD k.cfg
  let k := { k with cfg := cfg, cfgNext := none, onAlt := k.onAlt && fld cfg 35 24 == fld k.cfg 35 24 }
  let (p, sl) := k.timing
  let k := { k with
    number := (k.number + 1) % 2 ^ 48, curPeriod := p, curSlot := sl, inSlot := true, openedAt := s.now, nextAt := s.now + 1000 * p
    marked := false, parentHeard := false, holdovers := if k.sync = .holdover ∧ k.source = false then k.holdovers + 1 else k.holdovers }
  let s := { s with stroke := k, fab := { s.fab with noticeKeys := [] } }.retrim
  let s := { s with ctxs := s.ctxs.mapV fun _ x => match x.teardown with
    | .waiting (n + 1) => { x with teardown := .waiting n }
    | _ => x }
  if k.source then (s.syncTo .locked).sendMark none k.number p sl else s

/-! ### Step 1 -/

/-- The own notices sent since the last slot: this is the next slot for them (R77). -/
def Pkg.dueNotices (s : Pkg) : Pkg := { s with fab := { s.fab with voidCause := s.fab.voidNew, voidNew := [] } }

/-- The windows of the ending stroke close; the frames of pages that their writes have not covered are filled (R65). -/
def Pkg.closeWindows (s : Pkg) : Pkg :=
  let e := s.stroke.number - 1
  let s := s.mem.fills.foldl (fun s p => s.fillFrame p) s
  { s with ctxs := s.ctxs.mapV fun _ x =>
      if x.phase = .open then { x with closed := x.closed ++ [(e, x.cur)] } else x }

/-- Contexts whose writes still wait for a frame of the empty pool (R69). -/
def Pkg.poolWaits (s : Pkg) : Pkg :=
  let e := s.stroke.number - 1
  if s.stroke.freeFrames > 0 then s
  else { s with ctxs := s.ctxs.mapV fun _ x => if x.phase = .open ∧ x.stagedWrites ≠ [] then { x with voidFrom := some e } else x }

/-! ### Step 3 (R358, R368, R377, R406 to R410) -/

/-- The armed bank whose stroke has come becomes ACTIVE, the other DRAINING (R368). -/
def Pkg.switchBank (s : Pkg) : Pkg :=
  let n := s.stroke.number
  match [0, 1].find? fun b => (s.bank b).state == .armed && decide ((s.bank b).swStroke ≤ n) with
  | none => s
  | some b =>
    let s := s.setBank b { s.bank b with state := .active }
    let o := 1 - b
    if (s.bank o).state = .active then s.setBank o { s.bank o with state := .draining, drainEnd := n + 2 } else s

/-- A loaded map becomes its herd's active one (R377). -/
def Pkg.activate (s : Pkg) (herd slot : Nat) : Pkg :=
  { s with fab := { s.fab with maps := s.fab.maps.mapV fun i m => if m.herd = herd then { m with active := i == slot } else m } }

def Pkg.switchMaps (s : Pkg) : Pkg :=
  let due := s.fab.axSwitch.filter fun a => decide (a.stroke ≤ s.stroke.number)
  let s := due.foldl (fun s a => s.activate a.herd a.slot) s
  { s with fab := { s.fab with axSwitch := s.fab.axSwitch.filter fun a => !decide (a.stroke ≤ s.stroke.number) } }

/-- A direction's move of at most one bucket, from the port that sent most to the one that sent least in the ending stroke (R358). -/
def Pkg.moveBucket (s : Pkg) (d : Nat) : Pkg :=
  let live := s.livePorts d
  let sent (n : Nat) : Nat := (s.port n).strokeBytes
  match bestOf (fun a b => decide (sent b < sent a)) live, bestOf (fun a b => decide (sent a < sent b)) live with
  | some hi, some lo =>
    if 4 * sent hi > 5 * sent lo then
      let b : Tbl Nat := s.fab.buckets.get [] d
      match List.find? (fun (x : Nat × Nat) => x.2 == hi) b with
      | some x => { s with fab := { s.fab with buckets := s.fab.buckets.set d (Tbl.set b x.1 lo) } }
      | none => s
    else s
  | _, _ => s

/-- The directions' step: rebuilds that are due, then moves. -/
def Pkg.moveBuckets (s : Pkg) : Pkg :=
  let s := s.fab.rebuild.foldl (fun s d => s.rebuildDir d) s
  let s := { s with fab := { s.fab with rebuild := [] } }
  let s := (upto 1 6).foldl (fun s d => s.moveBucket d) s
  { s with fab := { s.fab with ports := s.fab.ports.mapV fun _ p => { p with strokeBytes := 0 } } }

/-- Step 3. `b`: the state before the slot. -/
def Pkg.stepThree (s b : Pkg) : Pkg :=
  let s := s.switchBank.switchMaps
  let cs := (s.ctxs.filter fun x => x.2.phase == .open).map (·.1)
  let s := cs.foldl (fun s c => (s.reshardHold c).reshardStart c (b.ctx c).committed) s
  s.moveBuckets

/-! ### STROKE_BOUNDARY (R55, R478) -/

/-- Whether the stroke clock runs: not without the main rails, not after a trip or a power-off, and not while bring-up runs. -/
def Pkg.strokesRun (s : Pkg) : Bool := s.power.pwrGood && !s.frozen && s.power.step.isNone

def Pkg.boundary (b : Pkg) : Pkg :=
  if !b.strokesRun then b
  else
    let s := b.attribute.openStroke.dueNotices
    let s := s.closeWindows.poolWaits
    let (s, hung) := s.itemsOneToFour b
    let s := s.strandedStep.castVotes hung
    let s := s.stepTwo.testsStep
    (s.stepThree b).slotRetrain

/-- MAINT_SLOT_END (R54, R444, R456): a retrain in progress has ended before step 5, the scrub has run, and dispatch begins. -/
def Pkg.slotEnd (s : Pkg) : Pkg :=
  if !s.stroke.inSlot then s
  else
    let own := s.easel.run.bind fun (r : EaselRun) => if r.op = 6 then some (r.args.getD 0 0) else none
    let ps := (List.range 32).filter fun n => (s.memPort n).state == 3 && own != some n
    let s := ps.foldl (fun s n => s.retrainEnd n) s
    let s := (s.slotScrub !ps.isEmpty).revote
    { s with stroke := { s.stroke with inSlot := false } }

/-! ### Marks (R47, R49 to R51) -/

/-- The stroke-lost state entered (R50, R51): every herd context's uncommitted windows are voided. -/
def Pkg.strokeLost (s : Pkg) : Pkg :=
  let s := (s.logEv Ev.strokeLost Unit.controlDie none []).syncTo .lost
  (s.ctxs.filter fun x => x.2.phase == .open && x.2.herdEn).foldl (fun s x => s.voidCtx x.1 (s.voidBase x.1)) s

/-- A mark's number and phase adopted (R51): every uncommitted window voided, every transfer dropped, committed-through strokes set, in this order. The windows that have committed are folded into the version records first, since the new numbers say nothing of them: committed state does not change. -/
def Pkg.adopt (s : Pkg) (n : Nat) (phase : Int) : Pkg :=
  let all := (s.clusters.vals.map fun c => c.xfers.length).sum
  let s := s.ctxs.keys.foldl (fun s c => s.foldCommitted c) s
  let s := (s.ctxs.filter fun x => x.2.phase == .open).foldl (fun s x => s.voidCtx x.1 (s.uncommitted x.1)) s
  let s := (s.bumpBy Reg.agedDrops all).dropTransfers fun _ => true
  let s := { s with ctxs := s.ctxs.mapV fun _ (x : Ctx) => if x.phase = CtxPhase.open then { x with committed := n - 1, closed := [], replayFrom := if s.stroke.inSlot then n else n + 1 } else x }
  let k := s.stroke
  let s := { s with
    stroke := { k with number := n, openedAt := ((k.openedAt : Int) + phase).toNat, nextAt := ((k.nextAt : Int) + phase).toNat }
    fab := { s.fab with votes := [], voidIn := [], voidNew := [], voidCause := [] } }
  s.syncTo .locked

/-- The port that delivers this package's marks now (R46, R49). -/
def StrokeSt.parent (k : StrokeSt) : Option Nat :=
  if k.onAlt then (if bitAt k.cfg 35 then some (fld k.cfg 34 30) else none)
  else if bitAt k.cfg 29 then some (fld k.cfg 28 24) else none

/-- Whether a mark comes on the parent port while the alternate parent's port delivers the marks (R46, R49). -/
def StrokeSt.fromParent (k : StrokeSt) (port : Nat) : Bool := k.sync == .locked && k.onAlt && bitAt k.cfg 29 && fld k.cfg 28 24 == port

/-- Whether the marks of a port count, and whether it is the alternate parent's (R46, R49, R50): while locked, the port that delivers the marks now; unsynchronised, the parent port, or the alternate where the parent is not up; else either of them. -/
def Pkg.hears (s : Pkg) (port : Nat) : Option Bool :=
  let k := s.stroke
  let par := bitAt k.cfg 29 && fld k.cfg 28 24 == port
  let alt := bitAt k.cfg 35 && fld k.cfg 34 30 == port
  let parUp := bitAt k.cfg 29 && (s.port (fld k.cfg 28 24)).state == 4
  match k.sync with
  | .locked => if k.parent = some port then some k.onAlt else none
  | .unsync => if par then some false else if alt && !parUp then some true else none
  | _ => if par then some false else if alt then some true else none

/-- The phase that a mark gives, in ns (R47, R349): its arrival time, which is now, less mark_offset (10 ps units), the port's measured delay (100 ps units) and 320 ns, less this package's own boundary. -/
def Pkg.markPhase (s : Pkg) (port offset : Nat) : Int :=
  (s.now : Int) - ((offset + 10 * (s.port port).delay) / 100 : Nat) - 320 - (s.stroke.openedAt : Int)

/-- STROKE_MARK_ACCEPT: a mark with a good check on a port, arriving now with its mark_offset (R45, R47). DESIGN CHOICE, log entry 115: a mismatched mark that brings stroke lost is still the last one received: its period, slot and offset are held, the current stroke is timed by them, and it goes on to the other ports. -/
def Pkg.markIn (s : Pkg) (port n period slot offset : Nat) : Pkg :=
  let k := s.stroke
  let phase := s.markPhase port offset
  if !s.strokesRun || k.source || (s.port port).state != 4 then s
  else match s.hears port with
  | none => if k.fromParent port then { s with stroke := { k with parentHeard := true } } else s
  | some alt =>
    let ok := decide (n = k.number) && decide (-2000 ≤ phase ∧ phase ≤ 2000)
    let note (s : Pkg) : Pkg :=
      let k := s.stroke
      let k := { k with offset := BitVec.ofInt 16 phase, markPort := port, lastMark := some (period, slot), marked := true, onAlt := alt }
      let k := { k with curPeriod := period, curSlot := slot, nextAt := k.openedAt + 1000 * period }
      ({ s with stroke := k }).sendMark (some port) n period slot
    let steer (s : Pkg) : Pkg :=
      let k := s.stroke
      { s with stroke := { k with openedAt := ((k.openedAt : Int) + phase).toNat } }
    match k.sync with
    | .unsync | .lost => note (s.adopt n phase)
    | .locked => if ok then note (steer s) else note s.strokeLost
    | .holdover => if ok then note ((steer s).syncTo .locked) else if k.parent = some port then note s.strokeLost else s

/-- MARK_TIMEOUT (R49): no mark within 2 µs after the expected boundary; the alternate parent takes over where alt_parent_valid says that it is one, the parent port where the alternate's marks fail and it delivers them (DEDUCED, log entry 116), or holdover begins where no valid port delivers marks. -/
def Pkg.markTimeout (s : Pkg) : Pkg :=
  let k := s.stroke
  if k.source || k.marked || k.sync != .locked then s
  else if (!k.onAlt && bitAt k.cfg 35) || (k.onAlt && k.parentHeard) then
    { s.logEv Ev.strokeParentSwitch Unit.controlDie none [] with stroke := { k with onAlt := !k.onAlt } }
  else
    let s := (s.logEv Ev.strokeHoldover Unit.controlDie none []).syncTo .holdover
    { s with stroke := { s.stroke with holdovers := 0 } }

/-- HOLDOVER_LIMIT_EXPIRE (R50). -/
def Pkg.holdoverExpire (s : Pkg) : Pkg :=
  if s.stroke.sync = .holdover ∧ s.stroke.holdovers > fld s.stroke.cfg 55 40 then s.strokeLost else s

/-! ### Registers (R52, R53, R68) -/

def Reg.strokeCfg : Nat := 0x040000
def Reg.strokeNumber : Nat := 0x040008
def Reg.sparePoolCfg : Nat := 0x040020

/-- STROKE_CFG: reserved bits are not stored (R15); a value out of range is discarded. -/
def Pkg.strokeCfgWrite (s : Pkg) (v : Word) : Pkg :=
  let p := fld v 11 0
  let sl := fld v 20 16
  if p < 40 ∨ p > 4000 ∨ sl < 2 ∨ sl > 16 ∨ fld v 55 40 = 0 ∨ fld v 39 37 = 0 then s.discard Reg.strokeCfg v
  else { s with stroke := { s.stroke with cfgNext := some (v &&& 0x00FFFFFFFF1F0FFF) } }

/-- STROKE_NUMBER: RW only while unsynchronised with source set in STROKE_CFG as written (R53, R640). -/
def Pkg.strokeNumberWrite (s : Pkg) (v : Word) : Pkg :=
  if s.stroke.sync = .unsync ∧ bitAt (s.stroke.cfgNext.getD s.stroke.cfg) 36 = true then
    let n := fld v 47 0
    { s with stroke := { s.stroke with number := n } }
  else s

/-- SPARE_POOL_CFG (R68). -/
def Pkg.sparePoolWrite (s : Pkg) (v : Word) : Pkg :=
  let n := fld v 51 32
  if (s.ctxs.vals.any fun x => x.phase == .open) || decide (n < 4096 ∨ n > 131072 ∨ fld v 31 16 * 0x200000 + n * 0x40000 > s.mem.usable) then
    s.discard Reg.sparePoolCfg v
  else { s with stroke := { s.stroke with spareCfg := v &&& 0x000FFFFFFFFF0001, used := [], joined := [], recycle := [], freeLow := n } }

/-! ### The pool at work (R66, R67, R69) -/

/-- FRAME_RECYCLE: the frames that commits have superseded return to the pool (R66). -/
def Pkg.frameRecycle (s : Pkg) : Pkg :=
  let s := s.ctxs.keys.foldl (fun s c => s.foldCommitted c) s
  let k := s.stroke
  { s with stroke := { k.recycle.foldl (fun k f => k.give f) k with recycle := [] } }

/-- PACKET_AGE_DROP (R81, R320): packets that have waited for longer than one stroke period in a port's queue, or in its receive buffer for a reduction slot. -/
def Pkg.ageDrop (s : Pkg) (n : Nat) : Pkg :=
  let old (t : Nat) : Bool := decide (t + 1000 * s.stroke.curPeriod < s.now)
  let p := s.port n
  let gone := p.waiting.filter fun x => old x.1
  let tiles := s.fab.redRoom.filter fun x => old x.1 && x.2.2.port == n
  if gone.isEmpty && tiles.isEmpty then s else
  let s := (s.bumpBy Reg.agedDrops (gone.length + tiles.length)).setPort n { p with waiting := p.waiting.filter fun x => !old x.1 }
  let s := gone.foldl (fun s x => s.freeRoom x.2.room) s
  Pkg.freeRooms { s with fab := { s.fab with redWait := s.fab.redWait.filter fun w => !tiles.any fun x => w == .packet x.2.1 } }

end Sys2Proof.Machine
end

