-- ==== Sys2Proof/Machine/Contexts.lean ====
section
/-! DEFINITION. Contexts, the numerics mode and parameter groups: the set-up commands of the host (R214 to R217, R247, R248, R296 to R298, R439, R487, R512, R641). -/

namespace Sys2Proof.Machine

/-! ### Access by the host (R507, R512) -/

/-- How BAR0 answers a write: not decoded, served, or served by the blocks of FAULT, RESET and LOG and EASEL only. -/
inductive BarPhase where
  | off | on | limited
  deriving DecidableEq, Repr

def Pkg.barPhase (s : Pkg) : BarPhase :=
  if s.host.d3 || !s.power.risen then .off
  else if s.power.ready && !s.power.halted then .on else .limited

/-- A set-up command: carried out, refused with NOT_READY after DEVICE_READY has fallen, or without effect where BAR0 is not decoded. -/
def Pkg.setup (s : Pkg) (go notReady : Pkg → Pkg) : Pkg :=
  match s.barPhase with
  | .off => s
  | .on => go s
  | .limited => notReady s

/-- A register write of a block that is served only while DEVICE_READY is asserted. -/
def Pkg.hostWrite (s : Pkg) (off : Nat) (v : Word) (go : Pkg → Pkg) : Pkg := s.setup go fun s => s.discard off v

/-- A register write of the blocks that stay served: FAULT, RESET and LOG, and EASEL. -/
def Pkg.hostWriteKept (s : Pkg) (go : Pkg → Pkg) : Pkg := if s.barPhase = .off then s else go s

def Reg.ctxSelect : Nat := 0x020000
def Reg.ctxCmd : Nat := 0x020008
def Reg.ctxSched : Nat := 0x020040

/-- The context that CTX_SELECT selects. -/
def Pkg.sel (s : Pkg) : Nat := fld (s.reg Reg.ctxSelect) 11 0

/-! ### OPEN and CLOSE (R215 to R217, R439, R487) -/

/-- A ring of a legal size. -/
def ringOk (v : Word) : Bool := decide (4 ≤ fld v 4 0 ∧ fld v 4 0 ≤ 16)

/-- An enabled adder window's range, where one is. -/
def Ctx.adderRange (x : Ctx) (i : Nat) : Option (Nat × Nat) :=
  let cfg := x.adders.get 0 (2 * i + 1)
  let b := fld (x.adders.get 0 (2 * i)) 47 16 * 65536
  if bitAt cfg 63 then some (b, b + fld cfg 31 0 * 65536) else none

/-- Whether enabled adder windows overlap. -/
def Ctx.addersClash (x : Ctx) : Bool :=
  (List.range 16).any fun i => (List.range i).any fun j => match x.adderRange i, x.adderRange j with
    | some a, some b => decide (a.1 < b.2 ∧ b.1 < a.2)
    | _, _ => false

/-- CTX_CMD OPEN on the selected context. -/
def Pkg.ctxOpen (s : Pkg) (zero : Bool) : Pkg :=
  let c := s.sel
  let x := s.ctx c
  let refuse (code : Nat) (s : Pkg) : Pkg := s.updCtx c fun x => { x with openError := code }
  s.setup (fun s =>
    if x.phase != .free || !ringOk x.sq || !ringOk x.cq || x.root == 0 || !bitAt (s.reg Reg.doorbellBase) 0 || x.addersClash || s.selfTesting then
      refuse Code.invalidDescriptor s
    else (s.uncache c).setCtx c
      { phase := .open, sq := x.sq, cq := x.cq, herd := x.herd, seed := x.seed, root := x.root, sched := x.sched
        genCfg := x.genCfg, gen := x.genCfg, zeroFill := zero, committed := s.stroke.number - 1, recompute := x.recompute
        ledgerCfg := x.ledgerCfg, proposal := x.proposal, adders := x.adders, reshard := x.reshard.kept })
    (refuse Code.notReady)

/-- CTX_CMD CLOSE on the selected context. -/
def Pkg.ctxClose (s : Pkg) (zero : Bool) : Pkg :=
  let c := s.sel
  let v := BitVec.ofNat 64 (2 + 16 * zero.toNat)
  s.hostWrite Reg.ctxCmd v fun s =>
    if (s.ctx c).phase ≠ .open then s.discard Reg.ctxCmd v
    else (s.updCtx c fun x => { x with zeroFill := x.zeroFill || zero }).teardown c Code.contextClosed []

/-- CTX_SCHED of the selected context. -/
def Pkg.ctxSchedWrite (s : Pkg) (v : Word) : Pkg :=
  s.hostWrite Reg.ctxSched v fun s =>
    if fld v 23 16 = 0 ∨ fld v 15 0 = 0 ∨ fld v 15 0 > 32768 ∨ fld v 63 44 ≠ 0 ∨ fld v 31 24 ≠ 0 then s.discard Reg.ctxSched v
    else s.updCtx s.sel fun x => { x with sched := v }

/-! ### NUMERICS_MODE (R248) -/

def Reg.numericsMode : Nat := 0x050000
def Reg.numericsModeStep : Nat := 0x050008

def Pkg.numericsMode (s : Pkg) (v : Word) : Pkg :=
  s.hostWrite Reg.numericsMode v fun s =>
    if fld v 1 0 ≥ 2 then s.discard Reg.numericsMode v
    else
      let k := (s.reg Reg.numericsModeStep).toNat
      let cs := if bitAt v 2 then s.ctxs.keys.eraseDups.filter fun c => (s.ctx c).phase == .open && (s.ctx c).herdEn && (s.ctx c).herdId == fld v 31 16
        else if (s.ctx s.sel).phase = .free then [] else [s.sel]
      let bad (c : Nat) : Bool :=
        let w := (s.ctx c).switchStep
        decide (k < w) || s.tasks.vals.any fun t => t.ctx == c && t.phase != .reported && decide (t.step < w)
      if cs.any bad then
        let s := cs.foldl (fun s c => s.updCtx c fun x => { x with lastRefused := true }) s
        s.logEv Ev.numericsModeRefused Unit.controlDie (if bitAt v 2 then none else some s.sel) []
      else cs.foldl (fun s c => s.updCtx c fun x => { x with
        modeBefore := x.modeAfter, modeAfter := fld v 1 0 == 1, switchStep := k, lastRefused := false }) s

/-! ### Groups (R297, R298) -/

def Reg.groupSelect : Nat := 0x050200
def Reg.groupLr : Nat := 0x050218
def Reg.groupDecay : Nat := 0x050220
def Reg.groupBeta : Nat := 0x050228
def Reg.groupEps : Nat := 0x050230
def Reg.groupStep : Nat := 0x050238
def Reg.groupFlags : Nat := 0x050240
def Reg.groupProg : Nat := 0x050248

def Pkg.gsel (s : Pkg) : Nat := fld (s.reg Reg.groupSelect) 11 0

/-- A finite FP32 value. -/
def f32Fin (v : BitVec 32) : Bool := (fp32.decode v.toNat).isFin

/-- 0 ≤ β < 1. -/
def betaOk (v : BitVec 32) : Bool := v.toNat < 0x3F800000 || v == 0x80000000

/-- Finite and not negative. -/
def epsOk (v : BitVec 32) : Bool := f32Fin v && (v.toNat < 0x80000000 || v == 0x80000000)

/-- The staged parameters, where they are in range. -/
def Pkg.staged (s : Pkg) : Option GroupParams :=
  let w (off lo : Nat) : BitVec 32 := BitVec.ofNat 32 (fld (s.reg off) (lo + 31) lo)
  let p : GroupParams := ⟨w Reg.groupLr 0, w Reg.groupDecay 0, w Reg.groupBeta 0, w Reg.groupBeta 32, w Reg.groupEps 0, bitAt (s.reg Reg.groupFlags) 0⟩
  if f32Fin p.lr && f32Fin p.decay && betaOk p.b1 && betaOk p.b2 && epsOk p.eps then some p else none

/-- A refused group command. -/
def Pkg.groupRefuse (s : Pkg) (code : Nat) (params : Bool) : Pkg :=
  let g := s.group s.gsel
  (s.setGroup s.gsel { g with error := code, refused := g.refused || params }).logWith
    Ev.groupCmdRefused Unit.controlDie (some s.sel) code false []

/-- The group's window state in every window of a context set back. -/
def Ctx.freshGroup (x : Ctx) (g : Nat) : Ctx :=
  let z (w : WinState) : WinState := { w with grp := w.grp.set g {} }
  { x with cur := z x.cur, com := z x.com, closed := x.closed.map fun w => (w.1, z w.2) }

/-- GROUP_CMD OPEN. -/
def Pkg.groupOpen (s : Pkg) : Pkg :=
  s.setup (fun s =>
    let c := s.sel
    let i := s.gsel
    let g := s.group i
    let fl := s.reg Reg.groupFlags
    match s.staged with
    | none => s.groupRefuse Code.invalidDescriptor false
    | some p =>
      let a := fld (s.reg Reg.groupProg) 47 0
      if g.isOpen || (s.ctx c).phase != .open || fld fl 3 2 == 3 || a % 32 != 0 then s.groupRefuse Code.invalidDescriptor false
      else match s.rdStruct c a 288 with
        | (.error _, s) => s.groupRefuse Code.invalidDescriptor false
        | (.ok b, s) =>
          if !progOk b (bitAt fl 1) then s.groupRefuse Code.invalidDescriptor false
          else
            let g : Group := { isOpen := true, owner := c, cls := bitAt fl 1, policy := fld fl 3 2, prog := b, before := p, after := p }
            (s.setGroup i g).updCtx c fun x => x.freshGroup i)
    (fun s => s.groupRefuse Code.notReady false)

/-- Whether an admitted, unreported update task of a step below the group's switch step names one of its slots. -/
def Pkg.groupLate (s : Pkg) (i : Nat) : Bool :=
  let w := (s.group i).switch
  s.tasks.vals.any fun t => t.update && t.phase != .reported && decide (t.step < w) && t.hasSlot &&
    (List.range t.span).any fun r => ((s.slots.find (t.modelSlot + r)).map (·.group)) == some i

/-- GROUP_CMD PARAMS. -/
def Pkg.groupParams (s : Pkg) : Pkg :=
  s.setup (fun s =>
    let i := s.gsel
    let g := s.group i
    let k := (s.reg Reg.groupStep).toNat
    match s.staged with
    | none => s.groupRefuse Code.invalidDescriptor true
    | some p =>
      if !g.isOpen || g.owner != s.sel || decide (k < g.switch) || s.groupLate i then s.groupRefuse Code.invalidDescriptor true
      else s.setGroup i { g with before := g.after, after := p, switch := k, error := 0, refused := false })
    (fun s => s.groupRefuse Code.notReady true)

/-- GROUP_CMD CLOSE. -/
def Pkg.groupClose (s : Pkg) : Pkg :=
  s.setup (fun s =>
    let i := s.gsel
    let g := s.group i
    if !g.isOpen || g.owner != s.sel || s.slots.vals.any (fun m => m.owner == g.owner && m.group == i) then
      s.groupRefuse Code.invalidDescriptor false
    else s.setGroup i { refused := g.refused })
    (fun s => s.groupRefuse Code.notReady false)

end Sys2Proof.Machine
end

