-- ==== Sys2Proof/Machine/Packets.lean ====
section
/-! DEFINITION. Packets at ejection: generation, order, refusal, effect and acknowledgement (R364, R365, R384, R390 to R393, R408, R422 to R424, R440, R452, R485, R488 to R490). -/

namespace Sys2Proof.Machine

/-! ### Acknowledgements (R365, R393) -/

/-- Whether a flow's receiver entry is that of a header. -/
def RxFlow.of (f : RxFlow) (h : Hd) : Bool := f.src == h.src && f.dst == h.dst && f.ctx == h.ctx && f.gen == h.gen && f.cls == h.cls

def Pkg.rxFlow (s : Pkg) (h : Hd) : Option RxFlow := s.fab.rxFlows.find? fun f => f.of h

def Pkg.updFlow (s : Pkg) (h : Hd) (g : RxFlow → RxFlow) : Pkg :=
  { s with fab := { s.fab with rxFlows := s.fab.rxFlows.map fun f => if f.of h then g f else f } }

/-- How many packets of a flow may be acknowledged: those before the first whose write still waits (R85), and before the first relay packet whose forwarded copy is not acknowledged (R393). -/
def Pkg.ackable (s : Pkg) (f : RxFlow) : Nat :=
  let rs := s.fab.relays.filter fun r => r.src == f.src && r.dstEp == eidEp f.dst && r.ctx == f.ctx && r.gen == f.gen
  let held := (s.ctx f.ctx).stagedWrites.filterMap fun w => w.by_.pkt.bind fun p =>
    if p.src = f.src ∧ p.dst = f.dst ∧ p.gen = f.gen ∧ p.cls = f.cls then some p.seq else none
  held.foldl min ((rs.flatMap fun r => r.pend.filter fun p => !p.acked).foldl (fun n p => min n p.seq) f.next)

/-- A cumulative ACK for a flow, where it acknowledges anything new. -/
def Pkg.sendAck (s : Pkg) (h : Hd) : Pkg :=
  match s.rxFlow h with
  | none => s
  | some f =>
    let n := s.ackable f
    if n = 0 ∨ f.cls = 1 ∨ f.cls = 3 ∨ f.ackedTo = some (n - 1) then s
    else
      let s := s.updFlow h fun f => { f with ackedTo := some (n - 1), unackN := 0 }
      s.injectRaw { op := opACK, cls := 1, src := h.dst, dst := h.src, ctx := h.ctx, gen := h.gen, seq := n - 1, aux := h.cls } []

/-- ACK_TIMER (R365). -/
def Pkg.ackTimer (s : Pkg) (src dst ctx gen cls : Nat) : Pkg :=
  s.sendAck { src := src, dst := dst, ctx := ctx, gen := gen, cls := cls }

/-- A packet that has passed stage 3 counted toward its flow's next ACK. -/
def Pkg.passed (s : Pkg) (h : Hd) (last : Bool) : Pkg :=
  let s := s.updFlow h fun f => { f with unackN := f.unackN + 1 }
  match s.rxFlow h with
  | some f => if last ∨ f.unackN ≥ 32 then s.sendAck h else s
  | none => s

/-- A tracked packet answered: its transfer needs one answer fewer, and a write transfer with none left is acknowledged. A contribution of a REDUCE that has been refused is complete when every packet of it is answered (R384). -/
def Pkg.answered (s : Pkg) (key : Nat) (refused : Bool) : Pkg :=
  match s.findXfer key with
  | none => s
  | some x =>
    if x.kind == .reduce then
      if (x.refused || refused) && !(s.fab.pending.any fun p => p.xfer == key) then s.dropXfer key
      else s.updXfer key fun x => { x with refused := x.refused || refused }
    else if x.kind == .copyIn && !refused then s
    else if x.left ≤ 1 || x.kind == .copyIn then s.dropXfer key
    else s.updXfer key fun x => { x with left := x.left - 1 }

/-- A forwarded relay packet whose copy is acknowledged: what it stored counts now in the arrival windows that it touches, and what of it still waits in the staging queues counts as it lands (R239, R393). -/
def Pkg.relayCounts (s : Pkg) (r : RelayFwd) (p : RelayPkt) : Pkg :=
  let mine (w : StagedWrite) : Bool := match w.by_.pkt with
    | some q => q.src == r.src && eidEp q.dst == r.dstEp && q.gen == r.gen && q.cls == 2 && q.seq == p.seq
    | none => false
  let held := (s.ctx r.ctx).stagedWrites.filter mine
  let counting (w : StagedWrite) : StagedWrite := if mine w then { w with by_ := { w.by_ with arrives := true } } else w
  let s := s.updCtx r.ctx fun x => { x with stagedWrites := x.stagedWrites.map counting }
  (piecesOf p.addr p.len).foldl (fun s q => if held.any fun w => w.addr == q.1 then s else s.arrive r.ctx q.1 q.2) s

/-- An ACK (R365, R393). -/
def Pkg.ackIn (s : Pkg) (h : Hd) : Pkg :=
  let cls := nbits h.aux 1 0
  let hit (p : Pending) : Bool :=
    p.src == h.dst && p.dst == h.src && p.ctx == h.ctx && p.gen == h.gen && p.cls == cls && decide ((h.seq + 2 ^ 32 - p.seq) % 2 ^ 32 < 2 ^ 31)
  let done := s.fab.pending.filter hit
  let s := { s with fab := { s.fab with pending := s.fab.pending.filter fun p => !hit p } }
  let s := done.foldl (fun s p => s.answered p.xfer false) s
  let mine (r : RelayFwd) : Bool := cls == 2 && r.next == some (eidPkg h.src) && r.ctx == h.ctx && r.gen == h.gen &&
    eidEp h.dst == 64 + le r.hdr 22 1 % 4
  let rs := s.fab.relays.filter mine
  if rs.isEmpty then s
  else
    let newly (p : RelayPkt) : Bool := !p.acked && decide ((h.seq + 2 ^ 32 - p.fwd) % 2 ^ 32 < 2 ^ 31)
    let mark (r : RelayFwd) : RelayFwd := if mine r then { r with pend := r.pend.map fun p => if newly p then { p with acked := true } else p } else r
    let relays := s.fab.relays.map mark
    let s := { s with fab := { s.fab with relays := relays } }
    let s := rs.foldl (fun s r => (r.pend.filter newly).foldl (fun s p => s.relayCounts r p) s) s
    let s := rs.foldl (fun s r =>
      s.sendAck { src := r.src, dst := eidOf s.self r.dstEp, ctx := r.ctx, gen := r.gen, cls := 2 }) s
    let left := s.fab.relays.filter fun r => !(r.left == 0 && r.pend.all (·.acked))
    { s with fab := { s.fab with relays := left } }

/-- A NACK (R364, R384): the refused packet's transfer is answered with its code. -/
def Pkg.nackIn (s : Pkg) (h : Hd) : Pkg :=
  let cls := nbits h.aux 1 0
  let code := nbits h.aux 15 8
  let hit (p : Pending) : Bool := p.src == h.dst && p.dst == h.src && p.ctx == h.ctx && p.gen == h.gen && p.cls == cls && p.seq == h.seq
  match s.fab.pending.find? hit with
  | none => s
  | some p =>
    let s := { s with fab := { s.fab with pending := s.fab.pending.filter fun p => !hit p } }
    match s.findXfer p.xfer with
    | none => s
    | some x =>
      let s := s.answered p.xfer true
      if code = Code.fenced then s.fencedTask x.task else s.taskCode x.task code

/-! ### Effects -/

/-- Bytes that arrive from another package: stored as an ordinary store whatever window they lie in, so that the package combines nothing of another's (R389, R440); one that touches an adder window is counted and logged. `by_` says how they lie in their transfer and whether they count in arrival windows as they land (R239, R434); `old`, the translations that they land under where they are not the present ones (R597). Whether they faulted. -/
def Pkg.storeIn (s : Pkg) (h : Hd) (by_ : WrBy) (old : Option (Tbl (Word × Bool))) (b : Bytes) : Pkg × Bool :=
  let r := (s.started h.ctx old).vWriteAs { by_ with pkt := some ⟨h.src, h.dst, h.gen, h.cls, h.seq⟩ } h.ctx h.addr b false
  let s := r.1.resumed s h.ctx old
  (if (s.ctx h.ctx).adderTouched h.addr b.length then
    (s.bump Reg.adderRemote).logEv Ev.adderRemoteStore (Unit.memDie 0) (some h.ctx) []
  else s, r.2.1)

/-- The bytes of a granule that a transfer has written up to address `a`, where it wrote `n` bytes up to it with `head` before those. -/
def runHead (a n head : Nat) : Nat := min (a % 256) (n + head)

/-- Whether what a transfer wrote before in a granule of a context lies where its next packet goes: the page is direct, or the window is the same. -/
def Pkg.sameFrame (s : Pkg) (c va window : Nat) : Bool := s.classAt c va == some false || window == s.window

/-- Whether a poisoned payload word, counted behind the header's four, lies in bytes [a, a + n) of a payload. -/
def wordsIn (bad : List Nat) (a n : Nat) : Bool := bad.any fun w => decide (4 + a / 8 ≤ w ∧ w < 4 + (a + n + 7) / 8)

/-- A WRITE that was poisoned in the reorder store (R451, R457): its part in the granule of a poisoned word is written as poisoned, the rest normally. -/
def Pkg.writeBad (s : Pkg) (h : Hd) (b : Bytes) (bad : List Nat) : Pkg :=
  (unitsOf 256 h.addr b.length).foldl (fun s g =>
    let a := max h.addr (256 * g)
    let n := min (h.addr + b.length) (256 * g + 256) - a
    (s.vWriteAs { pkt := some ⟨h.src, h.dst, h.gen, h.cls, h.seq⟩, arrives := true } h.ctx a ((b.drop (a - h.addr)).take n)
      (wordsIn bad (a - h.addr) n)).1) s

/-- A WRITE (R239, R434, R440): the packets of a transfer come in order in its flow, the last one marked (R351). -/
def Pkg.writeIn (s : Pkg) (h : Hd) (b : Bytes) : Pkg :=
  let head := match (s.rxFlow h).bind (·.run) with
    | some (va, n, w) => if va = h.addr && s.sameFrame h.ctx va w then n else 0
    | none => 0
  let more := nbits h.aux 0 0 == 0
  let s := (s.storeIn h { arrives := true, head := head, more := more } none b).1
  let e := h.addr + b.length
  s.updFlow h fun f => { f with run := if more then some (e, runHead e b.length head, s.window) else none }

/-- READ_DATA packets sent for a READ, in the flow back to its endpoint. -/
def Pkg.sendData (s : Pkg) (h : Hd) (idx : Nat) : List (Nat × Bytes) → Pkg
  | [] => s
  | (off, d) :: rest =>
    let o : Hd := { op := opREADDATA, cls := 1, src := h.dst, dst := h.src, ctx := h.ctx, gen := h.gen, layout := h.layout }
    Pkg.sendData (s.inject { o with addr := off, aux := idx + (if rest.isEmpty then 1024 else 0) } d).2 h idx rest

/-- The units that a READ asks for. -/
def Hd.readUnits (h : Hd) : Nat := nbits h.aux 23 10

/-- A READ answered (R64, R408, R452): the newest versions for a peer's task, the committed ones for a control die's pull; poisoned units as zeros. -/
def Pkg.readIn (s : Pkg) (h : Hd) : Pkg :=
  let own := eidEp h.src != 80
  let us := (List.range h.readUnits).map fun i => s.vRead h.ctx (h.addr + 64 * i) 64 .remoteRead own
  let s := s.tookAll us
  let s := s.bumpBy Reg.poisonZeroed (us.filter (·.poison)).length
  let bs := us.flatMap fun u => if u.poison then List.replicate 64 0 else u.bytes
  s.sendData h (nbits h.aux 9 0) ((chunk (bs.length / 512 + 1) 512 bs).zipIdx.map fun (d, i) => (512 * i, d))

/-- READ_DATA (R202, R408): units land in the requester's stream, poisoned where a word of them was in the reorder store (R451); the last completes the READ, and the transfer where all its units are in. -/
def Pkg.dataIn (s : Pkg) (h : Hd) (b : Bytes) (bad : List Nat) : Pkg :=
  let idx := nbits h.aux 9 0
  let last := nbits h.aux 10 10 == 1
  let ep := eidEp h.dst
  if ep = 80 then s.pullData h.ctx idx h.addr b last
  else match s.findXfer (ep * 1024 + idx) with
    | none => s
    | some x =>
      if x.kind != .copyIn || x.ctx != h.ctx then s
      else
        let first := x.done + h.addr / 64
        let s := s.txeMoved ep
        let s := (chunk (b.length / 64 + 1) 64 b).zipIdx.foldl (fun (s : Pkg) (d, i) =>
          s.lWrite x.core { slot := 8, addr := (x.ag.at (x.ag.pos + first + i)).addr x.agOff, data := d, poison := wordsIn bad (64 * i) 64 }) s
        let s := if bad.isEmpty then s else s.taskCode x.task Code.poisonedInput
        let s := s.credit x.ctx (b.length / 64)
        if !last then s
        else if x.done + x.asked ≥ x.units then s.dropXfer x.key
        else
          let y := { x with done := x.done + x.asked }
          (s.updXfer x.key fun _ => y).askRead y

/-- A relay header with its hops replaced (R392). -/
def setHops (hdr : Bytes) (n : Nat) : Bytes := hdr.take 24 ++ [BitVec.ofNat 8 n] ++ hdr.drop 25

/-- Whether a relay packet continues a block still coming in: it is of the block's flow and lands where the block goes on. Blocks that one package forwards share a flow by their origin and may alternate in it (R391, R392). -/
def RelayFwd.continues (r : RelayFwd) (h : Hd) : Bool :=
  r.src == h.src && r.dstEp == eidEp h.dst && r.ctx == h.ctx && r.gen == h.gen && r.left != 0 && r.addr == h.addr

/-- The block that a relay packet continues; none where it begins one. -/
def Pkg.relayOf (s : Pkg) (h : Hd) : Option RelayFwd := s.fab.relays.find? fun r => r.continues h

/-- A relay packet (R391 to R393, R398): deposited, and forwarded while hops remain. One that is forwarded counts in arrival windows when its copy is acknowledged (R239). -/
def Pkg.relayIn (s : Pkg) (p : Packet) : Pkg :=
  let h := p.hd
  let old := s.relayOf h
  let first := old.isNone
  let hdr := match old with
    | some r => r.hdr
    | none => slice p.payload 0 32
  let data := if first then p.payload.drop 32 else p.payload
  let origin := le hdr 22 1
  let fl := le hdr 23 1
  let hops := le hdr 24 1
  let total := 64 * le hdr 26 3
  let next := if hops = 0 then none else (s.lineMap h.ctx).bind fun m => m.neighbour (nbits fl 1 0) (nbits fl 2 2)
  let next := next.filter fun q => !s.isAbsent q
  let new : RelayFwd :=
    { src := h.src, dstEp := eidEp h.dst, ctx := h.ctx, gen := h.gen, stroke := le hdr 16 6, hdr := hdr, addr := h.addr, left := total, next := next }
  let rec_ := old.getD new
  let by_ : WrBy := { arrives := next.isNone, head := rec_.head, more := decide (data.length < rec_.left) }
  let (s, faulted) := s.storeIn h by_ rec_.old data
  let s := if first then
      (s.versionMode (nbits fl 4 3) h.ctx (le hdr 0 4) (le hdr 8 8) origin (le hdr 4 4)).bump Reg.relayDep
    else s
  let ep := 64 + origin % 4
  let e := h.addr + data.length
  let rec_ := { rec_ with left := rec_.left - data.length, addr := e, head := runHead e data.length rec_.head }
  let put (s : Pkg) (r : RelayFwd) : Pkg :=
    let others := match old with
      | some o => s.fab.relays.erase o
      | none => s.fab.relays
    let rs := if r.left = 0 ∧ r.pend.all (·.acked) then others else others ++ [r]
    { s with fab := { s.fab with relays := rs } }
  match next with
  | none => put s rec_
  | some q =>
    let s := if first then s.bump Reg.relayFwd else s
    let out := if first then setHops hdr (hops - 1) ++ data else data
    let o : Hd := { h with seq := 0, hops := 0, start := false, esc := false, dl := false, src := eidOf s.self ep, dst := eidOf q ep }
    let (n, s) := s.inject o out
    let p : RelayPkt := { seq := h.seq, fwd := n, addr := h.addr, len := if faulted then 0 else data.length }
    put s { rec_ with pend := rec_.pend ++ [p] }
/-! ### Peer notices (R368, R423, R424) -/

def Reg.noticesReceived : Nat := 0x0A0588
def Reg.noticesDropped : Nat := 0x0A0590
def Reg.routeSwitch : Nat := 0x0A0010

/-- The bank that an arm for a stroke takes; none where it finds no candidate or names a stroke too soon (R368). -/
def Pkg.armCandidate (s : Pkg) (stroke : Nat) : Option Nat :=
  let ok (b : Nat) : Bool := (s.bank b).state == .ready || (s.bank b).state == .armed
  if stroke < s.stroke.number + 2 then none
  else match s.activeBank with
    | some a => if ok (1 - a) then some (1 - a) else none
    | none =>
      match (s.bank 0).state, (s.bank 1).state with
      | .ready, .ready => some (if (s.bank 0).loaded > (s.bank 1).loaded then 0 else 1)
      | .ready, _ => some 0
      | _, .ready => some 1
      | .armed, _ => some 0
      | _, .armed => some 1
      | _, _ => none

/-- A bank armed for a stroke (R368). -/
def Pkg.armBank (s : Pkg) (b stroke : Nat) : Pkg :=
  s.setBank b { s.bank b with state := if s.activeBank.isNone then .active else .armed, swStroke := stroke }

/-- A peer notice taken (R423, R424); a bad one is dropped, counted and logged. -/
def Pkg.peerNotice (s : Pkg) (b : Bytes) : Pkg :=
  let kind := le b 0 1
  let ok := decide (1 ≤ kind ∧ kind ≤ 3) && zeros b 1 7 && zeros b 18 6 && zeros b 30 34 && le b 8 8 == (s.reg Reg.planId).toNat
  if !ok then (s.bump Reg.noticesDropped).logEv Ev.peerNoticeRejected Unit.controlDie none []
  else
    let s := s.bump Reg.noticesReceived
    let q := le b 16 2
    if kind = 1 then { s with fab := { s.fab with absent := NatSet.ins s.fab.absent q } }
    else if kind = 2 then { s with fab := { s.fab with absent := NatSet.del s.fab.absent q } }
    else
      let n := le b 24 6
      match s.armCandidate n with
      | some c => (s.armBank c n).setReg Reg.routeSwitch (BitVec.ofNat 64 (n + 2 ^ 48))
      | none => s.discard Reg.routeSwitch (BitVec.ofNat 64 (n + 2 ^ 48))

/-! ### Stage 3 (R364) -/


/-- Whether a fence stands at a packet's endpoint (R489): management packets are never fenced. -/
def Pkg.fencedAt (s : Pkg) (h : Hd) : Bool :=
  let ep := eidEp h.dst
  let f := s.rst.fences
  h.cls != 3 && ((f.any fun u => u / 4096 == 5 || u / 4096 == 6) || (if ep < 64 then inTree f (Unit.cluster ep) else false))

/-- Whether the opcode carries a layout epoch that is compared. -/
def opLayout (o : Nat) : Bool := o == opWRITE || o == opREAD || o == opRELAY || decide (0x10 ≤ o ∧ o ≤ 0x14)

/-- The code with which stage 3 refuses a packet, if it does. The responses to requests that a fenced domain issued before are accepted (R489). -/
def Pkg.refusal (s : Pkg) (p : Packet) : Option Nat :=
  let h := p.hd
  let ep := eidEp h.dst
  if h.cls = 3 then none
  else if s.fencedAt h && h.op != opREADDATA then some Code.fenced
  else if ep < 64 && s.unitOos (Unit.cluster ep) then some Code.outOfService
  else if opLayout h.op && h.layout != (s.ctx h.ctx).cur.epoch then some Code.layoutEpochStale
  else if h.op = opWRITE ∧ !s.vMapped h.ctx h.addr p.payload.length .remoteWrite then some Code.invalidDescriptor
  else if h.op = opREAD ∧ !s.vMapped h.ctx h.addr (64 * h.readUnits) .remoteRead then some Code.invalidDescriptor
  else if h.op = opRELAY ∧ !s.vMapped h.ctx h.addr (p.payload.length - if (s.relayOf h).isNone then 32 else 0) .remoteWrite then some Code.invalidDescriptor
  else none

/-- A refused packet answered. -/
def Pkg.sendNack (s : Pkg) (h : Hd) (code : Nat) : Pkg :=
  let s := s.bump Reg.nacksSent
  let s := if code = Code.fenced then s.bump Reg.fenceRefusals else s
  let s := if code = Code.invalidDescriptor then
      (s.bump Reg.ptFaults).logWith Ev.remoteAccessFault (epUnit (eidEp h.dst)) (some h.ctx) code false [] else s
  s.injectRaw { op := opNACK, cls := 1, src := h.dst, dst := h.src, ctx := h.ctx, gen := h.gen, seq := h.seq, aux := h.cls + 256 * code } []

/-- A management packet's effect. -/
def Pkg.mgmtIn (s : Pkg) (p : Packet) : Pkg :=
  let h := p.hd
  let b := p.payload
  let q := eidPkg h.src
  let bit := (le b 8 1).testBit 0
  if h.op = opVOTE then s.voteIn (le b 0 2) (le b 2 6) q bit (le b 9 1)
  else if h.op = opVOTERES then s.voteKnown (le b 0 2) (le b 2 6) bit
  else if h.op = opVOID then s.voidNotice ⟨le b 0 2, le b 2 6, le b 10 2⟩ q
  else if h.op = opFAULT then s.noticeRx b
  else if h.op = opPEER then s.peerNotice b
  else s

/-- Whether a packet with poisoned words is refused whole (DESIGN CHOICE, log entry 126): one whose header is poisoned, and every one but a WRITE and a READ_DATA, whose units carry their poison on. -/
def spoils (h : Hd) (bad : List Nat) : Bool := !bad.isEmpty && (bad.any (· < 4) || !(h.op == opWRITE || h.op == opREADDATA))

/-- A packet applied or refused (stage 3), and counted toward its flow's ACK. `bad`: its words that were poisoned while it waited. -/
def Pkg.applyPacket (s : Pkg) (p : Packet) (bad : List Nat) : Pkg :=
  let h := p.hd
  if spoils h bad && (h.cls == 1 || h.cls == 3) then (s.bump Reg.endpointDrops).logEv Ev.badHeader Unit.controlDie none []
  else match if spoils h bad then some Code.poisonedInput else s.refusal p with
  | some code => (s.sendNack h code).passed h false
  | none =>
    if h.cls = 3 then s.mgmtIn p
    else if h.op = opREADDATA then s.dataIn h p.payload bad
    else
      let s :=
        if h.op = opWRITE then (if bad.isEmpty then s.writeIn h p.payload else s.writeBad h p.payload bad)
        else if h.op = opREAD then s.readIn h
        else if h.op = opRELAY then s.relayIn p
        else if h.op = opEIRDATA ∨ h.op = opEIRTAIL ∨ h.op = opEIRFDATA ∨ h.op = opEIRFTAIL then s.eirTile p
        else if h.op = opEIRREDO then s.eirRedo p
        else s
      s.passed h ((h.op == opWRITE || h.op == opRELAY) && nbits h.aux 0 0 == 1)

/-! ### Stages 1 and 2 (R364, R488) -/

/-- The bytes that wait in a memory die's reorder store. -/
def Pkg.reorderBytes (s : Pkg) (d : Nat) : Nat := ((s.dieFlows d).map fun f => (f.early.map fun p => 32 + p.payload.length).sum).sum

/-- Whether a packet's destination is a cluster of a die whose clock has stopped: nothing changes there (R550). -/
def Pkg.epStopped (s : Pkg) (ep : Nat) : Bool := decide (ep < 64) && s.dieStopped (ep / 4)

/-- Packets of a flow that have become due leave the order stage in sequence (fuel: those that wait, and one); a flow to a stopped die waits. -/
def Pkg.drainFlow (h : Hd) : Nat → Pkg → Pkg
  | 0, s => s
  | n + 1, s =>
    if s.epStopped (eidEp h.dst) then s else
    match s.rxFlow h with
    | none => s
    | some f =>
      match f.early.find? fun p => p.hd.seq == f.next with
      | none => s
      | some p =>
        let s := s.updFlow h fun f => { f with next := (f.next + 1) % 2 ^ 32, early := f.early.filter fun q => q.hd.seq ≠ p.hd.seq,
                                               bad := f.bad.filter fun q => q.1 ≠ p.hd.seq,
                                               lastStroke := s.stroke.number }
        Pkg.drainFlow h n (s.applyPacket p ((f.bad.filter fun q => q.1 == p.hd.seq).map (·.2)))

/-- The order stage. DESIGN CHOICE, log entry 126: a flow entry that reads as poisoned is none, and its early packets are dropped with it (R457). -/
def Pkg.orderStage (s : Pkg) (p : Packet) : Pkg :=
  let h := p.hd
  let s := { s with fab := { s.fab with rxFlows := s.fab.rxFlows.filter fun f => !(f.of h && f.poison) } }
  let n := s.stroke.number
  let full := decide (s.reorderBytes h.die + 32 + p.payload.length > 0x400000)
  match s.rxFlow h with
  | none =>
    if (s.dieFlows h.die).length ≥ 0x40000 || (!h.start && full) then s.bump Reg.orderDrops
    else
      let f : RxFlow := { src := h.src, dst := h.dst, ctx := h.ctx, gen := h.gen, cls := h.cls, arrived := n, early := [p] }
      Pkg.drainFlow h 1 { s with fab := { s.fab with rxFlows := s.fab.rxFlows ++ [f] } }
  | some f =>
    let idle := decide (f.lastStroke + 2 ≤ n)
    let f' := if h.start && idle then { f with next := 0, unackN := 0, ackedTo := none } else f
    let d := (h.seq + 2 ^ 32 - f'.next) % 2 ^ 32
    let s := s.updFlow h fun _ => { f' with arrived := n }
    if d ≥ 2 ^ 31 ∨ f'.early.any (fun q => q.hd.seq == h.seq) then s.bump Reg.dupDrops
    else if d ≠ 0 ∧ full then s.bump Reg.orderDrops
    else
      let s := s.updFlow h fun f => { f with early := f.early ++ [p] }
      Pkg.drainFlow h (f'.early.length + 1) s

/-- A packet at ejection (R352, R364, R488). Answers to a transfer engine whose die has stopped wait for it (R550). -/
def Pkg.eject (s : Pkg) (p : Packet) : Pkg :=
  let h := p.hd
  if !epOk (eidEp h.dst) then (s.bump Reg.endpointDrops).logEv Ev.badEndpoint Unit.controlDie none []
  else
    let x := s.ctx h.ctx
    if h.cls != 3 && (x.phase != .open || x.gen != h.gen) then s.bump Reg.genDrops
    else if h.op = opACK ∨ h.op = opNACK then
      if s.epStopped (eidEp h.dst) then { s with fab := { s.fab with stalled := s.fab.stalled ++ [p] } }
      else if h.op = opACK then s.ackIn h else s.nackIn h
    else s.orderStage p

/-- A stopped die runs again: the answers and packets that waited for it are taken (R550). -/
def Pkg.resumeDie (s : Pkg) (n : Nat) : Pkg :=
  let mine (ep : Nat) : Bool := decide (ep < 64) && ep / 4 == n
  let (due, rest) := s.fab.stalled.partition fun p => mine (eidEp p.hd.dst)
  let s := due.foldl (fun s p => s.eject p) { s with fab := { s.fab with stalled := rest } }
  (s.fab.rxFlows.filter fun f => mine (eidEp f.dst)).foldl (fun s f =>
    Pkg.drainFlow { src := f.src, dst := f.dst, ctx := f.ctx, gen := f.gen, cls := f.cls } (f.early.length + 1) s) s

/-! ### Delivery by a port (R331, R332, R350, R356, R371) -/

/-- A packet delivered by a port's link layer: counted, its digests taken, its room taken in the receive buffer. -/
def Pkg.delivered (s : Pkg) (n : Nat) (p : Packet) : Pkg :=
  let h := p.hd
  let s := s.updPort n fun q => { q.takeRoom (q.roomFor n p) with
    ctr := (q.ctr.upd 0 (0x40 + 8 * h.cls) (· + 1)).upd 0 (0x60 + 8 * h.cls) (· + p.payload.length)
    digRx := if h.cls = 2 ∧ !h.esc then q.digRx ^^^ p.term else q.digRx }
  s.digestEir p false

/-- The room of a packet taken here freed, unless the packet waits for a reduction slot (R320). -/
def Pkg.consumed (s : Pkg) (p : Packet) (room : Option Room) : Pkg :=
  match room with
  | some r =>
    if s.fab.redWait.contains (.packet p) then { s with fab := { s.fab with redRoom := s.fab.redRoom ++ [(s.now, p, r)] } }.freeRooms
    else (s.freeRoom room).freeRooms
  | none => s.freeRooms

/-- A packet that arrives, from a port or from an endpoint of this package. A port delivers the packets that its last block completes, where it received that block (R346). Link padding is no packet (R351); a packet is dropped where its header is bad, ejected here, or routed on. -/
def Pkg.arriveAt (s : Pkg) (arr : Option Nat) (p : Packet) : Pkg :=
  let up := match arr with
    | some n => s.portPresent n && (s.port n).state == 4 && (s.port n).rxOk
    | none => true
  if !up || p.hd.op == 0 || s.frozen then s
  else
    let room := arr.map fun n => (s.port n).roomFor n p
    if !p.good then
      let s := match room with
        | some r => (s.updPort r.port fun q => q.takeRoom r).freeRoom room
        | none => s
      (s.bump Reg.endpointDrops).logEv Ev.badHeader ((arr.map Unit.port).getD Unit.controlDie) none []
    else
      let s := match arr with
        | some n => s.delivered n p
        | none => s
      match s.route p (arr.map fun n => portDir (s.port n).cfg) with
      | .eject => (s.eject p).consumed p room
      | _ => s.forward p arr room

/-- A packet command: the packet arrives where its opcode is the command's. -/
def Pkg.packetIn (s : Pkg) (op : Nat) (arr : Option Nat) (p : Packet) : Pkg := if p.hd.op = op then s.arriveAt arr p else s

/-- A peer notice command: its kind is the command's. -/
def Pkg.peerIn (s : Pkg) (kind : Nat) (arr : Option Nat) (p : Packet) : Pkg :=
  if p.hd.op = opPEER ∧ le p.payload 0 1 = kind then s.arriveAt arr p else s

/-- FLOW_ENTRY_EXPIRE (R364): an entry without arrivals is freed at the fourth boundary. -/
def Pkg.flowExpire (s : Pkg) (src dst ctx gen cls : Nat) : Pkg :=
  let h : Hd := { src := src, dst := dst, ctx := ctx, gen := gen, cls := cls }
  let kept := s.fab.rxFlows.filter fun f => !(f.of h && decide (f.arrived + 4 ≤ s.stroke.number))
  { s with fab := { s.fab with rxFlows := kept } }

/-- NOTICE_TX_SEND (R423): the staged notice sent to a package, or applied here. -/
def Pkg.noticeSend (s : Pkg) (v : Word) : Pkg :=
  s.hostWrite 0x0A0560 v fun s =>
    if s.fab.plan.isEmpty then s.discard 0x0A0560 v
    else if !bitAt v 16 then s
    else
      let b := (List.range 8).flatMap fun i => leBytes 8 (s.reg (0x0A0520 + 8 * i)).toNat
      if fld v 15 0 = s.self then s.peerNotice b
      else (s.inject { op := opPEER, cls := 3, src := eidOf s.self 80, dst := eidOf (fld v 15 0) 80 } b).2

end Sys2Proof.Machine
end

