-- ==== Sys2Proof/Machine/Links.lean ====
section
/-! DEFINITION. The link layer's symbols, port training, identity and quarantine, and the port and route commands (R338 to R349, R366 to R371, R412 to R421, R426, R427). -/

namespace Sys2Proof.Machine

/-! ### Port registers -/

def Reg.portCfg (n : Nat) : Nat := 0x080000 + 0x1000 * n
def Reg.portCmd (n : Nat) : Nat := 0x080010 + 0x1000 * n
def Reg.portTele (n : Nat) : Nat := 0x161000 + 0x100 * n
def Reg.quarantines : Nat := 0x0A05A0

/-- The one-way delay limit of a reach class, in units of 100 ps (R343). -/
def reachLimit (cls : Nat) : Nat := if cls = 0 then 50 else if cls = 1 then 150 else if cls = 2 then 400 else 5000

/-! ### Evaluating a port (R413 to R421) -/

def planPort (plan : Bytes) (n o len : Nat) : Nat := le plan (64 + 32 * n + o) len

/-- The first check of R416 that applies to a port with the identity frame `f`; 8 where none does. -/
def Pkg.portCheck (s : Pkg) (n : Nat) (f : Bytes) : Nat :=
  let plan := s.fab.plan
  let cfg := (s.port n).cfg
  let label := le f 17 1
  let loaded := (le f 7 1).testBit 0
  let hit := (le f 7 1).testBit 1
  if le f 5 1 ≠ 2 then 1
  else if (le f 20 1 == 3) != (s.fuses.grade == 3) then 2
  else if plan.isEmpty then 3
  else if s.planAbsent n then 4
  else if le f 8 8 ≠ planPort plan n 8 8 ∨ le f 16 1 ≠ planPort plan n 3 1 ∨ (loaded ∧ le f 18 2 ≠ planPort plan n 4 2) then 5
  else if nbits label 1 0 ≠ fld cfg 2 1 ∨ nbits label 2 2 = fld cfg 3 3 then 6
  else if !loaded || !hit then 7
  else 8

/-- A port enters the quarantined state, or stays in it for another reason (R418). -/
def Pkg.quarantine (s : Pkg) (n check : Nat) : Pkg :=
  let p := s.port n
  let r := quarReason check
  let p' := { p with state := 5, reason := 0, check := check }
  let s := s.setPort n p'
  if p.state = 5 then s
  else (s.bump Reg.quarantines).alert Code.linkQuarantined (Unit.port n) none Code.linkQuarantined [BitVec.ofNat 8 r] 0x02 Code.linkQuarantined (p'.tail n r)

/-- A port enters the up state (R417, R355, R358): its link layer starts anew, its digests and counters are cleared, and its direction is rebuilt. -/
def Pkg.portUp (s : Pkg) (n : Nat) : Pkg :=
  let p := s.port n
  let d := portDir p.cfg
  let first := (s.livePorts d).isEmpty
  let p' : Port := { cfg := p.cfg, state := 4, delay := p.delay, listening := p.listening, trainFrom := p.trainFrom
                     identity := p.identity, trained := true, check := 8, revision := p.revision }
  let s := (s.setPort n p').notice 0x03 0 (Unit.port n) (p'.tail n 0)
  if first then s.rebuildDir d
  else { s with fab := { s.fab with rebuild := NatSet.ins s.fab.rebuild d } }

/-- LINK_REV: the link-protocol revision that this package supports (R420, R425). -/
def Pkg.linkRev (s : Pkg) : Word := s.regOr 0x0A0510 0x200

/-- The identity frame that a port sends (R412, R417). -/
def Pkg.frameOut (s : Pkg) (n : Nat) : Bytes :=
  let p := s.port n
  let label := fld p.cfg 2 1 + 4 * fld p.cfg 3 3 + 8 * fld p.cfg 0 0
  sealSymbol (leBytes 4 0 ++ leBytes 1 4 ++ leBytes 1 2 ++ leBytes 1 (fld s.linkRev 7 0) ++
    leBytes 1 ((!s.fab.plan.isEmpty).toNat + 2 * (decide (p.check ≥ 7)).toNat) ++ leBytes 8 s.fuses.serial ++ leBytes 1 n ++ leBytes 1 label ++
    leBytes 2 s.self ++ leBytes 1 s.fuses.grade ++ leBytes 3 0 ++ leBytes 8 (s.reg Reg.planId).toNat ++ leBytes 26 0) 0

/-- The frame that a port now sends, put out after it changes. -/
def Pkg.sendFrame (s : Pkg) (n : Nat) : Pkg := s.emit (.identity n (s.frameOut n))

/-- A port evaluated against the latest identity frame (R413, R416). Nothing happens before its lanes have trained and a frame has come. -/
def Pkg.evaluate (s : Pkg) (n : Nat) : Pkg :=
  let p := s.port n
  match p.identity with
  | none => s
  | some f =>
    if !p.trained || !(p.state == 2 || p.state == 3 || p.state == 5) then s
    else
      let c := s.portCheck n f
      let s := if le f 5 1 = 2 then s.updPort n fun p => { p with revision := 512 + min (le f 6 1) (fld s.linkRev 7 0) } else s
      if checkState c = 4 then (s.updPort n fun p => { p with check := c }).sendFrame n |>.portUp n
      else if checkState c = 3 then (s.updPort n fun p => { p with state := 3, reason := 0, check := c }).sendFrame n
      else (s.quarantine n c).sendFrame n

/-- IDENTITY_FRAME (R412, R413): a good frame on a port that listens for one. -/
def Pkg.identityFrame (s : Pkg) (n : Nat) (f : Bytes) : Pkg :=
  let p := s.port n
  if !s.portPresent n || !(p.state == 2 || p.state == 3 || p.state == 5) || !symbolGood f || !(le f 4 1).testBit 2 then s
  else if p.identity = some f then s
  else (s.updPort n fun p => { p with identity := some f }).evaluate n

/-- LINK_TRAINING_DONE (R343, R416): lanes trained, delay measured in units of 100 ps. -/
def Pkg.trainingDone (s : Pkg) (n delay : Nat) : Pkg :=
  let p := s.port n
  if !s.portPresent n || p.state != 2 || p.trained then s
  else
    let s := s.updPort n fun p => { p with delay := min delay 0xFFFF }
    if delay > reachLimit (fld p.cfg 6 5) then s.portFail n 4
    else ((s.updPort n fun p => { p with trained := true }).sendFrame n).evaluate n

/-- TRAINING_TIMEOUT (R419, R421): 200 ms after training started. -/
def Pkg.trainingTimeout (s : Pkg) (n : Nat) : Pkg :=
  let p := s.port n
  if !s.portPresent n || p.state != 2 || decide (s.now < p.trainFrom + 200000000) then s
  else if p.listening && p.identity.isNone then s.setPort n { p with state := 1, reason := 0 }
  else s.portFail n 5

/-! ### Port commands (R339, R340, R426, R427, R371) -/

/-- A write to a port's registers: an absent port's are ignored (R26). -/
def Pkg.portWrite (s : Pkg) (n off : Nat) (v : Word) (go : Pkg → Pkg) : Pkg :=
  s.hostWrite off v fun s => if s.portPresent n then go s else s

/-- PORT_CMD 1 (R340). -/
def Pkg.portDisable (s : Pkg) (n : Nat) : Pkg :=
  s.portWrite n (Reg.portCmd n) 1 fun s =>
    (s.portDown n 1 6).updPort n fun p => { p with identity := none, trained := false, check := 0 }

/-- PORT_CMD 2 (R340, R342). -/
def Pkg.portTrain (s : Pkg) (n : Nat) : Pkg := s.portWrite n (Reg.portCmd n) 2 fun s => s.trainStart n

/-- PORT_CFG (R338, R426): accepted only while the port is disabled and no plan is loaded. -/
def Pkg.portCfgWrite (s : Pkg) (n : Nat) (v : Word) : Pkg :=
  s.portWrite n (Reg.portCfg n) v fun s =>
    if (s.port n).state = 1 ∧ s.fab.plan = [] then s.updPort n fun p => { p with cfg := v &&& 0x7F }
    else s.discard (Reg.portCfg n) v

/-- QDEPTH_CLEAR (R371). -/
def Pkg.qdepthClear (s : Pkg) (n : Nat) (v : Word) : Pkg :=
  s.portWrite n (Reg.portTele n + 0xF8) v fun s => s.updPort n fun p => { p with peak := [] }

/-! ### Failures (R347) -/

/-- LANE_LOCK_LOSS: a lane of a port that has trained has lost lock for 1 µs. -/
def Pkg.laneLockLoss (s : Pkg) (n : Nat) : Pkg :=
  let p := s.port n
  if s.portPresent n && p.trained && decide (2 ≤ p.state ∧ p.state ≤ 5) then s.portFail n 1 else s

/-- SYMBOL_TIMEOUT: no good symbol for 2 µs on a port that exchanges them. -/
def Pkg.symbolTimeout (s : Pkg) (n : Nat) : Pkg :=
  if s.portPresent n && decide (3 ≤ (s.port n).state ∧ (s.port n).state ≤ 5) then s.portFail n 2 else s

/-- REPLAY_LIMIT: the oldest block has been replayed 8 times unacknowledged. -/
def Pkg.replayLimit (s : Pkg) (n : Nat) : Pkg :=
  if s.portPresent n && (s.port n).state == 4 && decide ((s.port n).replays ≥ 8) then s.portFail n 3 else s

/-! ### Control symbols (R345, R346, R348) -/

/-- Whether block `q` is at or before block `a`, modulo 2^16. -/
def blockLe (q a : Nat) : Bool := decide ((a + 65536 - q) % 65536 < 32768)

/-- A packet acknowledged with the block in which it ends: counted, once (R331, R332, R371). -/
def Pkg.ackPacket (s : Pkg) (n : Nat) (p : Packet) : Pkg :=
  let h := p.hd
  let s := s.updPort n fun q => { q with
    ctr := (q.ctr.upd 0 (8 * h.cls) (· + 1)).upd 0 (0x20 + 8 * h.cls) (· + p.payload.length)
    digTx := if h.cls = 2 ∧ !h.esc then q.digTx ^^^ p.term else q.digTx }
  s.digestEir p true

/-- An acknowledgement through block `ack`: every block up to it leaves the retry buffer. -/
def Pkg.ackBlocks (s : Pkg) (n ack : Nat) : Pkg :=
  let p := s.port n
  let done := p.unacked.filter fun u => blockLe u.seq ack
  if done.isEmpty then s
  else
    let s := s.updPort n fun p => { p with unacked := p.unacked.filter fun u => !blockLe u.seq ack, replays := 0 }
    let s := (done.flatMap (·.pkts)).foldl (fun s m => s.ackPacket n m.pkt) s
    { s with rst := { s.rst with progressed := NatSet.ins s.rst.progressed (Unit.port n) } }

/-- The blocks after ack_seq sent again (go-back-N), each closed by its symbol. -/
def Pkg.replay (s : Pkg) (n : Nat) : Pkg :=
  let p := s.port n
  if p.unacked.isEmpty then s
  else
    let s := s.updPort n fun p => { p with replays := p.replays + 1, ctr := p.ctr.upd 0 0xD8 (· + p.unacked.length) }
    p.unacked.foldl (fun s u => (u.pkts.foldl (fun s m => s.emit (.packet n m.pkt.hd.chan m.pkt)) s).sendSymbol n u.seq u.data) s

/-- Credits returned by a symbol (R348). -/
def Port.credited (p : Port) (b : Bytes) : Port :=
  { p with
    credits := (List.range 10).foldl (fun (c : Tbl Nat) ch => c.set ch (min 512 (c.get 512 ch + le b (8 + 2 * ch) 2))) p.credits
    pool := min 2048 (p.pool + le b 28 2) }

/-- The block that a symbol closes, as the receiver takes it: the next in order with good data is received, and the packets that it completes are delivered; any other is discarded, and requested again unless it is a good copy of an old one (R346). -/
def Port.block (p : Port) (seq : Nat) (dataOk : Bool) : Port :=
  if dataOk && seq == p.rxExpect then { p with rxAck := seq, rxExpect := (seq + 1) % 65536, replayReq := false, rxOk := true }
  else if dataOk && blockLe seq p.rxAck then { p with rxOk := false }
  else { p with replayReq := true, rxOk := false }

/-- LINK_CONTROL_SYMBOL on an up port. `dataOk`: the block's data passed its checks; `stalled`, `fixed`, `broken`: slots stalled for credit, FEC codewords corrected and not correctable since the previous symbol. The two directions run at one rate: a received symbol is followed by one of this port's, which closes the block that it is filling (R344; DESIGN CHOICE, log entry 91). -/
def Pkg.controlSymbol (s : Pkg) (n : Nat) (b : Bytes) (dataOk : Bool) (stalled fixed broken : Nat) : Pkg :=
  if !s.portPresent n || (s.port n).state != 4 || s.frozen then s
  else
    let s := s.updPort n fun p => { p with
      ctr := ((p.ctr.upd 0 0xD0 (· + stalled)).upd 0 0xE0 (· + fixed)).upd 0 0xE8 (· + broken) }
    let data := dataOk && broken == 0
    let s := if !symbolGood b then s.updPort n fun p => p.block p.rxExpect (data && !p.replayReq)
      else if (le b 4 1).testBit 2 then s
      else
        let s := s.ackBlocks n (le b 2 2)
        let s := s.updPort n fun p => (p.credited b).block (le b 0 2) data
        let s := if (le b 4 1).testBit 0 then s.replay n else s
        let s := if (le b 4 1).testBit 1 then
            s.markIn n (le b 30 6) (le b 36 2 % 4096) (le b 38 1 % 32) (le b 40 3) else s
        s.pump n
    s.closeBlock n

/-! ### Route banks (R366 to R369) -/

/-- ROUTE_SWITCH (R368). -/
def Pkg.routeSwitchWrite (s : Pkg) (v : Word) : Pkg :=
  s.hostWrite Reg.routeSwitch v fun s =>
    let keep (s : Pkg) : Pkg := s.setReg Reg.routeSwitch (v &&& 0x0001FFFFFFFFFFFF)
    if bitAt v 48 then match s.armCandidate (fld v 47 0) with
      | some b => keep (s.armBank b (fld v 47 0))
      | none => s.discard Reg.routeSwitch v
    else keep s

/-- ROUTE_BANK_DRAIN_END (R368): a draining bank is emptied at the second boundary after its switch. -/
def Pkg.drainEnd (s : Pkg) (b : Nat) : Pkg :=
  let k := s.bank (b % 2)
  if k.state = .draining ∧ k.drainEnd ≤ s.stroke.number then
    s.setBank (b % 2) { k with state := .empty, entries := [] }
  else s

end Sys2Proof.Machine
end

