-- ==== Sys2Proof/Machine/Maps.lean ====
section
/-! DEFINITION. Axis-map commands (R374 to R377). -/

namespace Sys2Proof.Machine

def Reg.axSelect : Nat := 0x0A0200
def Reg.axCmd : Nat := 0x0A0210
def Reg.axSwitch : Nat := 0x0A0220
def Reg.axSwitchStroke : Nat := 0x0A0228

/-- The map slot that AXMAP_SELECT selects. -/
def Pkg.axSel (s : Pkg) : Nat := fld (s.reg Reg.axSelect) 5 0

/-- The selected slot's cmd_error. -/
def Pkg.setAxErr (s : Pkg) (code : Nat) : Pkg := { s with fab := { s.fab with axErr := s.fab.axErr.set s.axSel code } }

/-- A refused axis-map command (R376). -/
def Pkg.axRefuse (s : Pkg) (code : Nat) : Pkg := (s.setAxErr code).logWith Ev.axmapCmdRefused Unit.controlDie none code false []

/-- AXMAP_CMD LOAD with the image that AXMAP_ADDR names in host memory. -/
def Pkg.axLoad (s : Pkg) (image : Bytes) : Pkg :=
  s.setup (fun s =>
    let m : AxMap := { image := image }
    let clash := s.fab.maps.vals.any fun x => x.herd == m.herd && !x.agrees m
    if (s.axMap s.axSel).isSome || !m.ok s.fab.selfIdx s.fuses.herdLimit || clash then s.axRefuse Code.invalidDescriptor
    else ({ s with fab := { s.fab with maps := s.fab.maps.set s.axSel m } }).setAxErr 0)
    (fun s => s.axRefuse Code.notReady)

/-- Whether a map may not be cleared: active with an open context of its herd, or referenced by a task slot. -/
def Pkg.mapInUse (s : Pkg) (i : Nat) (m : AxMap) : Bool :=
  (m.active && s.ctxs.vals.any fun x => x.phase == .open && x.herdEn && x.herdId == m.herd) || s.tasks.vals.any fun t => t.map == some i

/-- AXMAP_CMD CLEAR. -/
def Pkg.axClear (s : Pkg) : Pkg :=
  s.setup (fun s => match s.axMap s.axSel with
    | none => s.setAxErr 0
    | some m =>
      if s.mapInUse s.axSel m then s.axRefuse Code.invalidDescriptor
      else ({ s with fab := { s.fab with
        maps := s.fab.maps.erase s.axSel, axSwitch := s.fab.axSwitch.filter fun a => a.slot ≠ s.axSel } }).setAxErr 0)
    (fun s => s.axRefuse Code.notReady)

/-- AXMAP_SWITCH (R377). -/
def Pkg.axSwitchWrite (s : Pkg) (v : Word) : Pkg :=
  s.hostWrite Reg.axSwitch v fun s =>
    let keep (s : Pkg) : Pkg := s.setReg Reg.axSwitch (v &&& 0x0000013F0000FFFF)
    if !bitAt v 40 then keep s
    else
      let i := fld v 37 32
      let herd := fld v 15 0
      let k := fld (s.reg Reg.axSwitchStroke) 47 0
      match s.axMap i with
      | none => s.discard Reg.axSwitch v
      | some m =>
        if m.herd ≠ herd ∨ k < s.stroke.number + 2 then s.discard Reg.axSwitch v
        else
          let others := s.fab.axSwitch.filter fun a => a.herd ≠ herd
          if (s.activeMap herd).isNone then keep (({ s with fab := { s.fab with axSwitch := others } }).activate herd i)
          else keep { s with fab := { s.fab with axSwitch := others ++ [⟨herd, i, k⟩] } }

end Sys2Proof.Machine
end

