-- ==== Sys2Proof/Machine/Firmware.lean ====
section
/-! DEFINITION. Firmware images, the flash, version commitment, debug unlock and attestation (R586 to R593, R597). -/

namespace Sys2Proof.Machine

/-! ### Images (R586, R587) -/

def fwVersion (b : Bytes) : Nat := le b 8 8
def fwSecurity (b : Bytes) : Nat := le b 16 2
def fwKeySlot (b : Bytes) : Nat := le b 18 1

/-- The payload of an image. -/
def fwPayload (b : Bytes) : Bytes := slice b 512 (le b 4 4)

/-- The first failed check of R587, 1 to 5; 0 where the image is accepted. `minSec`, `revoked`: the fused minimum and the revoked key slots. -/
def fwCheck (minSec revoked : Nat) (b : Bytes) : Nat :=
  let k := fwKeySlot b
  if b.length < 4096 ∨ b.length > 0x4000000 ∨ le b 0 2 ≠ 1 ∨ !(zeros b 2 2) ∨ !(zeros b 20 44) ∨ !(zeros b 304 208) ∨ le b 19 1 ≥ 16 then 1
  else if k > 3 ∨ revoked.testBit k ∨ Config.sha384 (slice b 64 96) ≠ Config.keyHash k then 2
  else if !Config.ecdsa384 (slice b 64 96) (slice b 0 208) (slice b 208 96) then 3
  else if 512 + le b 4 4 > b.length ∨ slice b 160 48 ≠ Config.sha384 (fwPayload b) then 4
  else if fwSecurity b < minSec ∨ fwSecurity b > 64 then 5
  else 0

def Pkg.fwVerify (s : Pkg) (b : Bytes) : Nat := fwCheck s.fuses.minSec s.fuses.revoked b

/-- A refused image (R587). -/
def Pkg.fwRejected (s : Pkg) (check : Nat) : Pkg := s.logEv Ev.firmwareRejected Unit.controlDie none [BitVec.ofNat 8 check]

/-- The slot that the running firmware did not boot from. -/
def SecSt.inactive (x : SecSt) : Nat := 1 - x.slot % 2

/-- A verified image written to the inactive slot (R522, R602). -/
def Pkg.flashWrite (s : Pkg) (b : Bytes) : Pkg :=
  let i := s.sec.inactive
  ({ s with sec := { s.sec with flash := s.sec.flash.set i b } }).emit (.flash i b)

/-- The slot that is marked for the next bring-up: the inactive one once its write has completed, the active one before. -/
def Pkg.setMark (s : Pkg) (done : Bool) : Pkg := { s with sec := { s.sec with mark := if done then s.sec.inactive else s.sec.slot % 2 } }

/-! ### COMMIT_VERSION (R588) -/

def Reg.secCmd : Nat := 0x120010

/-- Whether a flash slot's image would be rejected under a minimum and revocations; an empty slot holds none. -/
def slotRejected (minSec revoked : Nat) (b : Bytes) : Bool :=
  !b.isEmpty && (decide (fwSecurity b < minSec) || revoked.testBit (fwKeySlot b))

def Pkg.commitVersion (s : Pkg) : Pkg :=
  s.hostWrite Reg.secCmd 1 fun s =>
    let h := s.sec.header
    let m := min 64 (max s.fuses.minSec (fwSecurity h))
    let r := s.fuses.revoked ||| (le h 19 1 % 16 &&& (15 - 2 ^ (fwKeySlot h % 4)))
    if s.sec.flash.any (slotRejected m r) then s.discard Reg.secCmd 1
    else ({ s with fuses := { s.fuses with minSec := m, revoked := r } }).logEv Ev.versionCommitted Unit.controlDie none []

/-! ### Debug (R592, R593) -/

def Reg.debugRejects : Nat := 0x120210

/-- DEBUG_NONCE. -/
def Pkg.debugNonce (s : Pkg) : Word := Config.nonce s.sec.nonceNo

/-- Whether a token of 192 bytes unlocks. -/
def Pkg.tokenOk (s : Pkg) (b : Bytes) : Bool :=
  b.length == 192 && !s.fuses.debugLock && le b 0 8 == s.fuses.serial && le b 8 8 == s.debugNonce.toNat && decide (le b 16 8 < 4) &&
    zeros b 24 72 && Config.debugSig (slice b 0 96) (slice b 96 96) && s.ctxs.vals.all fun x => x.phase == .free

/-- SEC_CMD DEBUG_UNLOCK with the token that DEBUG_TOKEN_ADDR names. -/
def Pkg.debugUnlock (s : Pkg) (token : Bytes) : Pkg :=
  s.hostWrite Reg.secCmd 2 fun s =>
    let ok := s.tokenOk token
    let s := { s with sec := { s.sec with nonceNo := s.sec.nonceNo + 1 } }
    if ok then
      ({ s with sec := { s.sec with scope := le token 16 1 } }).logEv Ev.debugUnlocked Unit.controlDie none (slice token 16 1)
    else (s.bump Reg.debugRejects).logEv Ev.debugTokenRejected Unit.controlDie none []

/-- SEC_CMD DEBUG_LOCK. -/
def Pkg.debugLock (s : Pkg) : Pkg :=
  s.hostWrite Reg.secCmd 3 fun s => ({ s with sec := { s.sec with scope := 0 } }).logEv Ev.debugLocked Unit.controlDie none []

/-! ### PT_INVALIDATE (R597) -/

/-- The cached translations of a context dropped; what is in flight keeps those that it started with: the transfers that have yet to write here, the writes that wait in the staging queues and the relay blocks still coming in (R597, R608). -/
def Pkg.invalidate (s : Pkg) (c : Nat) : Pkg :=
  match Tbl.find s.tlb c with
  | none => s
  | some t =>
  let old (o : Option (Tbl (Word × Bool))) : Option (Tbl (Word × Bool)) := some (o.getD t)
  let xfer (x : Xfer) : Xfer := if x.ctx = c then { x with old := old x.old } else x
  let staged (w : StagedWrite) : StagedWrite := { w with old := old w.old }
  let relay (r : RelayFwd) : RelayFwd := if r.ctx = c then { r with old := old r.old } else r
  let s := { s with clusters := s.clusters.mapV fun _ k => { k with xfers := k.xfers.map xfer } }
  let s := s.updCtx c fun x => { x with stagedWrites := x.stagedWrites.map staged }
  let s := { s with fab := { s.fab with relays := s.fab.relays.map relay } }
  s.uncache c

/-- PT_INVALIDATE of the context that it names, or of every context (R597). -/
def Pkg.ptInvalidate (s : Pkg) (v : Word) : Pkg :=
  s.hostWrite 0x120028 v fun s => if bitAt v 12 then s.tlb.keys.foldl (fun s c => s.invalidate c) s else s.invalidate (fld v 11 0)

/-! ### Attestation (R590, R591) -/

/-- The grade and the fuse shadows as they are measured (R33, R591). -/
def Fuses.bytes (f : Fuses) : Bytes :=
  let row (n w : Nat) (g : Nat → Nat) : Bytes := (List.range n).flatMap fun i => leBytes w (g i)
  leBytes 1 f.grade ++ row 64 1 f.mask ++ row 16 1 (fun d => (f.hasFp64 d).toNat) ++ row 16 8 (fun d => (f.columns.get 0 d).toNat) ++
  row 4 1 (fun d => f.memPorts.get 255 d) ++ row 4 8 (fun d => (f.staging.get 0 d).toNat) ++ row 4 1 f.linkPorts ++ row 4 8 (fun d => (f.serdes.get 0 d).toNat)

/-- The five measurement blocks (R591), each a SHA-384 digest. -/
def Pkg.measurements (s : Pkg) : List Bytes :=
  let f := s.fuses
  [Config.sha384 Config.romVersion, Config.sha384 (slice s.sec.header 0 208),
   Config.sha384 (leBytes 2 f.minSec ++ leBytes 1 f.revoked ++ leBytes 1 f.debugLock.toNat),
   Config.sha384 (s.power.shadow.getD f).bytes,
   Config.sha384 (leBytes 1 s.sec.scope)]

/-- Whether the responder answers: from the end of step 2 of bring-up. -/
def Pkg.spdmUp (s : Pkg) : Bool := !s.sec.header.isEmpty

/-- A response put out on a transport: 0 Data Object Exchange, 1 MCTP on the sideband. -/
def Pkg.spdmReply (s : Pkg) (tr : Nat) (b : Bytes) : Pkg := if tr = 1 then s.sideSend false Mctp.spdm b else s.emit (.spdm b)

/-- What a request is answered with: an SPDM error, or a response with its two parameters and its body. -/
inductive SpdmAnswer where
  | error (code : Nat)
  | reply (code p1 p2 : Nat) (body : Bytes)
  deriving DecidableEq, Repr

/-- An answer's bytes: the SPDM 1.2 header and its body (that of GET_VERSION has version 1.0). -/
def SpdmAnswer.bytes : SpdmAnswer → Bytes
  | .error c => leBytes 1 0x12 ++ leBytes 1 0x7F ++ leBytes 1 c ++ leBytes 1 0
  | .reply c p1 p2 b => leBytes 1 (if c = 0x04 then 0x10 else 0x12) ++ leBytes 1 c ++ leBytes 1 p1 ++ leBytes 1 p2 ++ b

/-- An answer sent, with the alias key's signature over the request and the answer (R590; log entry 130). -/
def Pkg.spdmSend (s : Pkg) (tr : Nat) (req : Bytes) (a : SpdmAnswer) : Pkg :=
  s.spdmReply tr (a.bytes ++ Config.ecdsa384Sign s.sec.aliasKey (req ++ a.bytes))

/-- A supported request: answered where the transport has negotiated `need` first, and then at least `stage`. -/
def Pkg.spdm (s : Pkg) (tr need stage : Nat) (req : Bytes) (a : SpdmAnswer) : Pkg :=
  let tr := tr % 2
  if !s.spdmUp then s
  else
    let at_ : Nat := Tbl.get 0 s.sec.spdm tr
    if at_ < need then s.spdmSend tr req (.error 0x04)
    else match a with
      | .error c => s.spdmSend tr req (.error c)
      | a =>
        let next := if stage = 0 then at_ else if stage = 1 then 1 else max at_ stage
        ({ s with sec := { s.sec with spdm := Tbl.set s.sec.spdm tr next } }).spdmSend tr req a

/-- The answer to a request that names a certificate slot: InvalidRequest for every slot but 0. -/
def slotZero (slot : Nat) (a : SpdmAnswer) : SpdmAnswer := if slot = 0 then a else .error 0x01

/-- VERSION: 1.2 alone. -/
def Pkg.getVersion (s : Pkg) (tr : Nat) (req : Bytes) : Pkg := s.spdm tr 0 1 req (.reply 0x04 0 0 (leBytes 1 0 ++ leBytes 1 1 ++ leBytes 2 0x1200))

/-- CAPABILITIES: certificates, challenges, signed measurements. -/
def Pkg.getCapabilities (s : Pkg) (tr : Nat) (req : Bytes) : Pkg :=
  let o := slice (Config.spdmOpen 0x61) 0 9
  s.spdm tr 1 2 req (.reply 0x61 0 0 (leBytes 1 0 ++ o.take 1 ++ leBytes 2 0 ++ leBytes 4 0x16 ++ o.drop 1))

/-- ALGORITHMS: ECDSA P-384 and SHA-384, and InvalidRequest where the requester does not offer both. -/
def Pkg.negotiateAlgorithms (s : Pkg) (tr : Nat) (req : Bytes) : Pkg :=
  let offered := (le req 8 4).testBit 7 && (le req 12 4).testBit 1
  s.spdm tr 2 3 req (if offered then
    .reply 0x63 0 0 (leBytes 2 36 ++ leBytes 1 1 ++ leBytes 1 0 ++ leBytes 4 4 ++ leBytes 4 0x80 ++ leBytes 4 2 ++ leBytes 16 0) else .error 0x01)

/-- DIGESTS: slot 0 alone. -/
def Pkg.getDigests (s : Pkg) (tr : Nat) (req : Bytes) : Pkg := s.spdm tr 3 0 req (.reply 0x01 0 1 (Config.sha384 s.sec.chain))

/-- CERTIFICATE: the part of slot 0's chain that the request's offset and length name. -/
def Pkg.getCertificate (s : Pkg) (tr : Nat) (req : Bytes) : Pkg :=
  let c := s.sec.chain
  let o := le req 4 2
  let n := min (le req 6 2) (c.length - o)
  s.spdm tr 3 0 req (slotZero (le req 2 1 % 16) (if o < c.length ∨ o = 0 then
    .reply 0x02 0 0 (leBytes 2 n ++ leBytes 2 (c.length - o - n) ++ (c.drop o).take n) else .error 0x01))

/-- CHALLENGE_AUTH: of slot 0, with a digest of the measurements where the request asks for one. -/
def Pkg.challenge (s : Pkg) (tr : Nat) (req : Bytes) : Pkg :=
  let (no, s) := s.fresh
  let sum := if le req 3 1 = 0 then [] else Config.sha384 s.measurements.flatten
  s.spdm tr 3 0 req (slotZero (le req 2 1) (.reply 0x03 0 1 (Config.sha384 s.sec.chain ++ slice (Config.spdmNonce no) 0 32 ++ sum ++ leBytes 2 0)))

/-- The DMTF measurement value types of the five blocks: the ROM, mutable firmware, hardware configuration twice, the device mode (log entry 130). -/
def measureTypes : List Nat := [0, 1, 2, 2, 5]

/-- The measurement blocks in the DMTF format: index, specification, size, value type, value size, and the SHA-384 digest. -/
def Pkg.measureBlocks (s : Pkg) : List Bytes :=
  (s.measurements.zip measureTypes).zipIdx.map fun (m, i) =>
    leBytes 1 (i + 1) ++ leBytes 1 1 ++ leBytes 2 51 ++ leBytes 1 m.2 ++ leBytes 2 48 ++ slice m.1 0 48

/-- MEASUREMENTS: the number of blocks, every block, or the one that the request names. -/
def Pkg.getMeasurements (s : Pkg) (tr : Nat) (req : Bytes) : Pkg :=
  let (no, s) := s.fresh
  let bs := s.measureBlocks
  let tail (n : Nat) (r : Bytes) : Bytes := leBytes 1 n ++ leBytes 3 r.length ++ r ++ slice (Config.spdmNonce no) 0 32 ++ leBytes 2 0
  let which := le req 3 1
  s.spdm tr 3 0 req (slotZero (if (le req 2 1).testBit 0 then le req 36 1 % 16 else 0) (
    if which = 0 then .reply 0x60 bs.length 0 (tail 0 [])
    else if which = 0xFF then .reply 0x60 0 0 (tail bs.length bs.flatten)
    else match bs[which - 1]? with
      | some b => .reply 0x60 0 0 (tail 1 b)
      | none => .error 0x01))

/-- Any other request: UnsupportedRequest. -/
def Pkg.spdmUnsupported (s : Pkg) (tr : Nat) : Pkg := if s.spdmUp then s.spdmSend (tr % 2) [] (.error 0x07) else s

end Sys2Proof.Machine
end

