-- ==== Sys2Proof/Machine/Easel.lean ====
section
/-! DEFINITION. The Easel port: operations, their checks, their ends and their bounds; plans and route tables (R339, R354, R414, R415, R446, R455, R515 to R526). -/

namespace Sys2Proof.Machine

def Reg.easelCmd : Nat := 0x010000
def Reg.easelRefused : Nat := 0x010020
def Reg.easelArg (i : Nat) : Nat := 0x010040 + 8 * i

/-! ### Issue (R516, R518) -/

/-- A refused EASEL_CMD write (R516). -/
def Pkg.easelRefuse (s : Pkg) (code : Nat) : Pkg :=
  (({ s with easel := { s.easel with refusedCode := code } }).bump Reg.easelRefused).logWith code Unit.controlDie none code false []

/-- The arguments as latched. -/
def Pkg.easelArgs (s : Pkg) : List Nat := (List.range 8).map fun i => (s.reg (Reg.easelArg i)).toNat

/-- An operation begun where the port is free and DEVICE_READY permits it: a failed check ends it at once with INVALID_DESCRIPTOR (R516, R518, R519). -/
def Pkg.easelStart (s : Pkg) (op tag : Nat) (image : Bytes) (check : EaselRun → Bool) (go : EaselRun → Pkg → Pkg) : Pkg :=
  s.hostWriteKept fun s =>
    if s.easel.run.isSome then s.easelRefuse Code.easelBusy
    else if s.barPhase = .limited ∧ op ≠ 8 then s.easelRefuse Code.notReady
    else
      let r : EaselRun := { op := op, tag := tag % 65536, args := s.easelArgs, image := image }
      let s := { s with easel := { s.easel with run := some r, op := op, tag := tag % 65536, code := 0, progress := 0 } }
      if check r then go r s else s.easelEnd Code.invalidDescriptor []

def EaselRun.arg (r : EaselRun) (i : Nat) : Nat := r.args.getD i 0

/-- Whether every argument but those listed is zero. -/
def EaselRun.others (r : EaselRun) (used : List Nat) : Bool := (List.range 8).all fun i => used.contains i || r.arg i == 0

/-! ### FIRMWARE_LOAD (R519, R522) -/

def Pkg.firmwareLoad (s : Pkg) (tag : Nat) (image : Bytes) : Pkg :=
  s.easelStart 1 tag image
    (fun r => r.others [0, 1] && aligned 4096 (r.arg 0) && decide (4096 ≤ r.arg 1 ∧ r.arg 1 ≤ 0x4000000) && aligned 4096 (r.arg 1) &&
      r.image.length == r.arg 1)
    fun r s => match s.fwVerify r.image with
      | 0 => { s with easel := { s.easel with run := some { r with waits := s.side.fw } } }
      | n => (s.fwRejected n).easelEnd Code.invalidDescriptor []

/-! ### Plans (R339, R414, R415) -/

/-- The division of R339 that an image's entries give. -/
def planDivision (grade : Nat) (present : Nat → Bool) (b : Bytes) : Bool :=
  let e (n o len : Nat) : Nat := planPort b n o len
  let ports := (List.range 24).filter present
  let axis (n : Nat) : Nat := e n 1 1 % 4
  let dir (n : Nat) : Nat := nbits (e n 1 1) 2 2
  let count (a d : Nat) : Nat := (ports.filter fun n => axis n == a && dir n == d).length
  let date (n : Nat) : Bool := (e n 0 1).testBit 2
  (ports.all fun n => (e n 0 1).testBit 0 && decide (axis n < 3)) &&
  ([0, 1, 2].all fun a => count a 0 == count a 1 && decide (1 ≤ count a 0)) &&
  count 0 0 + count 1 0 + count 2 0 == (if grade = 3 then 4 else 12) &&
  (ports.all fun n => ports.all fun m => axis n != axis m || dir n != dir m || date n == date m)

/-- Whether the reserved fields, version and limits of a plan image hold (R414). -/
def planForm (b : Bytes) : Bool :=
  b.length == 832 && le b 0 2 == 1 && decide (1 ≤ le b 4 2 ∧ le b 4 2 ≤ 24576) && zeros b 6 2 && le b 8 8 != 0 && zeros b 24 40 &&
  (List.range 24).all fun n =>
    let e (o len : Nat) : Nat := planPort b n o len
    decide (e 0 1 < 8) && decide (e 1 1 < 8) && decide (e 2 1 < 4) && decide (e 3 1 < 24) && e 6 2 == 0 && e 16 16 == 0 &&
      (e 2 1 != 3 || decide (le b 4 2 ≤ 4096))

/-- What must be equal for two plans to be compatible (R415). -/
def planCompatible (a b : Bytes) : Bool :=
  le a 2 2 == le b 2 2 && le a 4 2 == le b 4 2 &&
  (List.range 24).all fun n =>
    planPort a n 0 1 % 2 == planPort b n 0 1 % 2 && (planPort a n 0 1).testBit 2 == (planPort b n 0 1).testBit 2 &&
      planPort a n 1 2 == planPort b n 1 2

/-- The checks of PLAN_LOAD (R415). -/
def Pkg.planOk (s : Pkg) (b : Bytes) : Bool :=
  planForm b && le b 16 8 == s.fuses.serial && planDivision s.fuses.grade s.portPresent b &&
  ((List.range 24).all fun n => s.portPresent n || planPort b n 0 32 == 0) &&
  (((List.range 24).all fun n => (s.port n).state != 4) || (!s.fab.plan.isEmpty && planCompatible s.fab.plan b))

/-- PORT_CFG as a plan's entry gives it (R338, R414). -/
def planCfg (b : Bytes) (n : Nat) : Word :=
  let fl := planPort b n 0 1
  BitVec.ofNat 64 (fl % 2 + 2 * (planPort b n 1 1 % 8) + 16 * nbits fl 2 2 + 32 * (planPort b n 2 1 % 4))

/-- Whether a port's expected neighbour is the same in two plans. -/
def sameNeighbour (a b : Bytes) (n : Nat) : Bool :=
  planPort a n 3 3 == planPort b n 3 3 && planPort a n 8 8 == planPort b n 8 8 && (planPort a n 0 1).testBit 1 == (planPort b n 0 1).testBit 1

/-- One port after a plan is in force (R415). `old`: the plan before. -/
def Pkg.planTreat (s : Pkg) (old : Bytes) (n : Nat) : Pkg :=
  let p := s.port n
  let absent := s.planAbsent n
  if p.state = 4 then
    if sameNeighbour old s.fab.plan n && !absent then s
    else
      let c := s.portCheck n (p.identity.getD [])
      if absent || c ≤ 6 then
        let s := s.portFail n 0
        if absent then s.trainStart n
        else (s.updPort n fun p => { p with state := 2, reason := 0, trained := true }).evaluate n
      else s
  else if p.state = 3 ∨ p.state = 5 then s.evaluate n
  else if absent then
    (if p.state = 1 then s.trainStart n else if p.state = 2 then s.updPort n fun p => { p with listening := true } else s)
  else s.trainStart n

/-- An accepted plan (R415): PORT_CFG, PLAN_ID, PLAN_STATUS and ROUTE_SELF are written, the bucket tables built, and each port treated. -/
def Pkg.planApply (s : Pkg) (b : Bytes) : Pkg :=
  let old := s.fab.plan
  let f := s.fab
  let ports := (List.range 24).filter s.portPresent
  let absent := if !old.isEmpty && planCompatible old b then f.absent else []
  let s := { s with fab := { f with plan := b, selfIdx := some (le b 2 2), absent := absent } }
  let s := s.setReg Reg.planId (BitVec.ofNat 64 (le b 8 8))
  let s := ports.foldl (fun s n => s.updPort n fun p => { p with cfg := planCfg b n }) s
  let s := (upto 1 6).foldl (fun s d => s.rebuildDir d) s
  ports.foldl (fun s n => s.planTreat old n) s

def Pkg.planLoad (s : Pkg) (tag : Nat) (image : Bytes) : Pkg :=
  s.easelStart 2 tag image (fun r => r.others [0] && aligned 64 (r.arg 0) && s.planOk r.image) fun _ s => s

/-! ### Route tables (R354, R519, R520) -/

/-- Whether a bank entry meets R354: reserved bits zero, and direction 0 valid only at the package's own index. -/
def entryOk (self i e : Nat) : Bool := decide (e < 16) && (decide (e ≠ 8) || i == self)

/-- The non-zero entries of a bank image, from entry `i` on. -/
def bankEntries : Nat → Bytes → Tbl (BitVec 16)
  | i, a :: b :: rest =>
    let e : BitVec 16 := BitVec.ofNat 16 (a.toNat + 256 * b.toNat)
    if e = 0 then bankEntries (i + 1) rest else (i, e) :: bankEntries (i + 1) rest
  | _, _ => []

/-- Whether every entry of an image meets R354, from entry `i` on. -/
def bankImageOk (self : Nat) : Nat → Bytes → Bool
  | i, a :: b :: rest => entryOk self i (a.toNat + 256 * b.toNat) && bankImageOk self (i + 1) rest
  | _, [_] => false
  | _, [] => true

def Pkg.tableLoad (s : Pkg) (tag : Nat) (image : Bytes) : Pkg :=
  s.easelStart 3 tag image
    (fun r => r.others [0, 1] && aligned 4096 (r.arg 0) && decide (r.arg 1 < 2) && r.image.length == 131072 && bankImageOk s.self 0 r.image &&
      s.fab.selfIdx.isSome && ((s.bank (r.arg 1)).state == .empty || (s.bank (r.arg 1)).state == .ready))
    fun _ s => s

/-- The host's image has been read whole: a table load begins to write its bank, which is LOADING until it ends (R520). -/
def Pkg.easelRead (s : Pkg) : Pkg :=
  match s.easel.run with
  | none => s
  | some r =>
    let s := { s with easel := { s.easel with run := some { r with read := true } } }
    if r.op = 3 then s.setBank (r.arg 1) { s.bank (r.arg 1) with state := .loading, entries := [] } else s

/-! ### Ranges (R521) -/

/-- The entries of a range list: start and length. -/
def rangeList (n : Nat) (b : Bytes) : List (Nat × Nat) := (List.range n).map fun i => (le b (16 * i) 8, le b (16 * i + 8) 8)

/-- The range checks of GESSO and SCRUB_SWEEP. -/
def EaselRun.rangesOk (r : EaselRun) (usable : Nat) : Bool :=
  aligned 16 (r.arg 1) && decide (1 ≤ r.arg 2 ∧ r.arg 2 ≤ 256) && r.image.length == 16 * r.arg 2 &&
  (rangeList (r.arg 2) r.image).all fun x =>
    aligned 65536 x.1 && aligned 65536 x.2 && decide (65536 ≤ x.2) && decide (x.1 + x.2 ≤ usable)

/-- The 64 KiB units of a range list, in order. -/
def EaselRun.units (r : EaselRun) : List Nat := (rangeList (r.arg 2) r.image).flatMap fun x => upto (x.1 / 65536) (x.2 / 65536)

def Pkg.gesso (s : Pkg) (tag : Nat) (ranges : Bytes) : Pkg :=
  s.easelStart 4 tag ranges (fun r => r.others [0, 1, 2] && r.rangesOk s.mem.usable) fun _ s => s

def Pkg.scrubSweep (s : Pkg) (tag : Nat) (ranges : Bytes) : Pkg :=
  s.easelStart 5 tag ranges (fun r => r.others [1, 2] && r.rangesOk s.mem.usable) fun _ s => s

/-- GESSO over some units (R455). -/
def Pkg.gessoUnits (s : Pkg) (pat : Word) (us : List Nat) : Pkg := us.foldl (fun s u => s.fill (65536 * u) 65536 pat) s

/-- What a sweep of granules finds: corrected, newly poisoned, already poisoned. -/
def Pkg.sweepCount (s : Pkg) (gs : List Nat) : List Nat :=
  let was := (gs.filter s.mem.poison.mem).length
  let bad := (gs.filter fun g => !s.mem.poison.mem g && (s.mem.double.mem g || !s.mem.valid.mem g)).length
  let one := (gs.filter fun g => !s.mem.poison.mem g && !s.mem.double.mem g && s.mem.valid.mem g && s.mem.single.mem g).length
  [one, bad, was]

/-- SCRUB_SWEEP over some units (R456, R521), with its results. -/
def Pkg.sweepUnits (s : Pkg) (us : List Nat) : List Nat × Pkg :=
  us.foldl (fun (r : List Nat × Pkg) u =>
    let gs := upto (256 * u) 256
    let n := r.2.sweepCount gs
    (List.zipWith (· + ·) r.1 n, gs.foldl (fun s g => s.scrubGranule 2 g) r.2)) ([0, 0, 0], s)

/-! ### PORT_RETRAIN, SELF_TEST, CRASH_DUMP (R523 to R525) -/

def Pkg.portRetrain (s : Pkg) (tag : Nat) : Pkg :=
  s.easelStart 6 tag [] (fun r => r.others [0] && decide (r.arg 0 < 32) && (s.memPort (r.arg 0)).state == 2) fun r s => s.retrainStart (r.arg 0)

def Pkg.selfTest (s : Pkg) (tag : Nat) : Pkg :=
  s.easelStart 7 tag []
    (fun r => r.others [] && (s.ctxs.vals.all fun x => x.phase == .free) && (List.range 24).all fun n => (s.port n).state != 4) fun _ s => s

def Pkg.easelDump (s : Pkg) (tag : Nat) : Pkg :=
  s.easelStart 8 tag []
    (fun r => if r.arg 0 = 0 then r.others [0] else r.arg 0 == 1 && r.others [0, 1, 2] && aligned 4096 (r.arg 1) && decide (r.arg 2 ≥ 0x100000))
    fun r s =>
      if r.arg 0 = 0 then
        if s.rst.dump.running.isSome then (s.dumpStart 2 0).easelEnd Code.okEvents [] else s.dumpStart 2 0
      else if s.rst.dump.retained.isEmpty then s.easelEnd Code.okEvents []
      else s

/-! ### Ends (R517, R520, R526) -/

def Pkg.setProgress (s : Pkg) (n : Nat) : Pkg := { s with easel := { s.easel with progress := n } }

/-- The bank of a route-table load written up to byte `n` of the image. -/
def Pkg.bankWrite (s : Pkg) (r : EaselRun) (n : Nat) : Pkg :=
  s.setBank (r.arg 1) { s.bank (r.arg 1) with state := .loading, entries := bankEntries 0 (r.image.take n) }

/-- The units of progress of a whole operation (R515). -/
def Pkg.easelTotal (s : Pkg) (r : EaselRun) : Nat :=
  match r.op with
  | 1 | 3 => r.image.length / 4096
  | 4 | 5 => r.units.length
  | 8 => if r.arg 0 = 0 then s.rst.dump.takes.length else le s.rst.dump.retained 32 4
  | _ => 0

/-- Whether a GESSO or SCRUB_SWEEP touches a memory port that is in reset: it waits, and its bound with it (R526). -/
def Pkg.easelWaits (s : Pkg) (r : EaselRun) : Bool :=
  (r.op == 4 || r.op == 5) && (s.rst.running.any fun d => d.unit / 4096 == 5 || d.unit / 4096 == 6) &&
    r.units.any fun u => (upto (256 * u) 256).any fun g => s.inReset (Unit.memPort (granulePort g))

/-- EASEL_OP_END: the operation's effect, its results and its code. -/
def Pkg.easelOpEnd (s : Pkg) (x : EaselResult) : Pkg :=
  match s.easel.run with
  | none => s
  | some r =>
    let len := r.image.length
    if s.easelWaits r then s else
    match r.op with
    | 1 => if r.waits then s else (((s.flashWrite r.image).setMark true).setProgress (len / 4096)).easelEnd 0 [fwVersion r.image, s.sec.inactive]
    | 2 => if s.planOk r.image then (s.planApply r.image).easelEnd 0 [le r.image 8 8] else s.easelEnd Code.invalidDescriptor []
    | 3 =>
      let s := s.bankWrite r len
      let b := s.bank (r.arg 1)
      let n := (b.entries.filter fun e => bitAt e.2 3).length
      let s := s.setBank (r.arg 1) { b with state := .ready, loaded := s.fab.loadNo }
      ((({ s with fab := { s.fab with loadNo := s.fab.loadNo + 1 } }).setProgress (len / 4096))).easelEnd 0 [n]
    | 4 =>
      let us := r.units
      ((s.gessoUnits (BitVec.ofNat 64 (r.arg 0)) us).setProgress us.length).easelEnd 0 [65536 * us.length]
    | 5 =>
      let us := r.units
      let (n, s) := s.sweepUnits us
      (s.setProgress us.length).easelEnd 0 n
    | 6 =>
      if x.converged then (s.retrainEnd (r.arg 0)).easelEnd 0 [1]
      else (s.easelEnd Code.timeout [0]).retrainAbandoned (r.arg 0)
    | 7 =>
      if x.failing = 0 then s.easelEnd 0 [x.checkers, 0]
      else ((s.logEv Ev.selfTestFailed x.failing none []).easelEnd Code.outOfService [x.checkers, x.failing]).enterOos 0
    | _ =>
      if r.arg 0 = 0 then s
      else
        let b := s.rst.dump.retained
        (((s.hostW (r.arg 1) (slice b 0 0x100000)).setProgress (le b 32 4))).easelEnd 0 [le b 4 4, le b 36 4]

/-- EASEL_TIMEOUT (R517, R523): the operation ends with TIMEOUT; what it has done by then, in units of its progress, stands. The bound does not run while a FIRMWARE_LOAD waits for a sideband update (R522), nor while memory is in reset (R526). -/
def Pkg.easelTimeout (s : Pkg) (done : Nat) : Pkg :=
  match s.easel.run with
  | none => s
  | some r =>
    if r.waits || s.easelWaits r then s else
    let s := s.setProgress (if [1, 3, 4, 5, 8].contains r.op then done else 0)
    let us := r.units.take done
    match r.op with
    | 1 =>
      let i := s.sec.inactive
      let old : Bytes := s.sec.flash.getD i []
      let part : Bytes := r.image.take (4096 * done) ++ old.drop (4096 * done)
      if done = 0 then s.easelEnd Code.timeout []
      else (({ s with sec := { s.sec with flash := s.sec.flash.set i part } }).setMark false).easelEnd Code.timeout []
    | 3 => (if done = 0 ∧ r.read = false then s else s.bankWrite r (4096 * done)).easelEnd Code.timeout []
    | 4 => (s.gessoUnits (BitVec.ofNat 64 (r.arg 0)) us).easelEnd Code.timeout [65536 * us.length]
    | 5 =>
      let (n, s) := s.sweepUnits us
      s.easelEnd Code.timeout n
    | 6 => (s.easelEnd Code.timeout [0]).retrainAbandoned (r.arg 0)
    | _ => s.easelEnd Code.timeout []

/-- MEM_RETRAIN_ABANDONED (R445, R523): of the slot's retrain, or of the one that PORT_RETRAIN runs. -/
def Pkg.memAbandoned (s : Pkg) (n : Nat) : Pkg :=
  let s := match s.easel.run with
    | some r => if r.op = 6 ∧ r.arg 0 = n then s.easelEnd Code.timeout [0] else s
    | none => s
  s.retrainAbandoned n

/-- FIRMWARE_UPDATE_END (R522): a sideband update's write is complete, its slot is marked, and the flash is left to a FIRMWARE_LOAD that waits. -/
def Pkg.fwUpdateEnd (s : Pkg) : Pkg :=
  let s := if s.side.fw then s.setMark true else s
  let run := s.easel.run.map fun (r : EaselRun) => { r with waits := false }
  { s with side := { s.side with fw := false }, easel := { s.easel with run := run } }

end Sys2Proof.Machine
end

