-- ==== Sys2Proof/Machine/HostPort.lean ====
section
/-! DEFINITION. The host port: link events, power states, apertures, reads of host memory and configuration requests (R505 to R514, R622, R658). -/

namespace Sys2Proof.Machine

/-! ### Link events (R507, R557, R622) -/

/-- HOT_RESET: ignored before DEVICE_READY has risen. -/
def Pkg.hotReset (s : Pkg) : Pkg := if s.power.risen then s.packageReset 1 0xFFFF else s

/-- PERST_N_ASSERT: one reset for an assertion, and bring-up waits for its end. -/
def Pkg.perstAssert (s : Pkg) : Pkg :=
  if (s.power.risen || s.power.trip) && !s.power.perst then ({ s with power := { s.power with perst := true } }).packageReset 1 0xFFFF else s

/-- PERST_N_DEASSERT. -/
def Pkg.perstDeassert (s : Pkg) : Pkg := ({ s with power := { s.power with perst := false } }).resumeBringup

/-- D3HOT_ENTRY. -/
def Pkg.d3Entry (s : Pkg) : Pkg := if s.power.risen then { s with host := { s.host with d3 := true } } else s

/-- D0_RETURN. -/
def Pkg.d0Return (s : Pkg) : Pkg := if s.host.d3 then s.releaseHost else s

/-! ### Reads of host memory (R506, R520) -/

/-- An access recorded in Advanced Error Reporting, with its bit of the uncorrectable error status. -/
def Pkg.recordAer (s : Pkg) (bit : Nat) : Pkg := { s with host := { s.host with aer := s.host.aer + 1, aerBits := s.host.aerBits.ins bit } }

/-- A read of host memory that failed, counted and recorded, and handled by its kind. `code`: what it ends an Easel operation with, unless its image has been read. -/
def Pkg.hostReadFailed (s : Pkg) (k : HostRead) (code : Nat) : Pkg :=
  let s := ({ s with host := { s.host with readErrors := s.host.readErrors + 1 } }).recordAer (if code = Code.timeout then 14 else 12)
  match k with
  | .index => s
  | .entry => s
  | .axisMap => s.axRefuse Code.invalidDescriptor
  | .easel => if s.easel.run.any (·.read) then s else s.easelEnd code []

/-- HOST_READ_COMPLETION. The data of a good completion comes with the command that uses it; of an Easel operation it completes the image. -/
def Pkg.hostReadDone (s : Pkg) (k : HostRead) (bad : Bool) : Pkg :=
  if bad then s.hostReadFailed k Code.invalidDescriptor else if k = .easel then s.easelRead else s

/-- HOST_READ_TIMEOUT. -/
def Pkg.hostReadTimeout (s : Pkg) (k : HostRead) : Pkg := s.hostReadFailed k Code.timeout

/-! ### Apertures (R510, R511, R453) -/

def Reg.aperture (n : Nat) : Nat := 0x021000 + 8 * n

/-- PCI Express completion statuses. -/
def Cpl.success : Nat := 0
def Cpl.unsupported : Nat := 1
def Cpl.retry : Nat := 2
def Cpl.abort : Nat := 4

/-- A completion; without the main rails the host lanes answer nothing (R617). -/
def Pkg.complete_ (s : Pkg) (status : Nat) (data : Bytes) (poisoned : Bool) : Pkg :=
  if s.power.pwrGood then s.emit (.completion status data poisoned) else s

/-- An aperture access that fails: counted and logged (R511). -/
def Pkg.apertureFault (s : Pkg) (c : Option Nat) : Pkg :=
  ({ s with host := { s.host with faults := s.host.faults + 1 } }).logWith Ev.remoteAccessFault Unit.hostPort c 0 false []

/-- The context and device-virtual address of an aperture offset, where the aperture decodes. -/
def Pkg.apertureAt (s : Pkg) (n off : Nat) : Option (Nat × Nat) :=
  let a := s.reg (Reg.aperture n)
  if n < 64 ∧ off < 0x80000000 ∧ bitAt a 63 then some (fld a 59 48, fld a 47 21 * 0x200000 + off) else none

/-- APERTURE_READ of `len` bytes. -/
def Pkg.apertureRead (s : Pkg) (n off len : Nat) : Pkg :=
  if s.barPhase ≠ .on then s.complete_ Cpl.unsupported [] false
  else match s.apertureAt n off with
    | none => s.complete_ Cpl.unsupported [] false
    | some (c, va) =>
      let r := s.vRead c va len .read false
      if (s.ctx c).phase != .open || r.fault then (s.apertureFault (some c)).complete_ Cpl.abort [] false
      else
        let s := s.took r
        let s := if r.poison then s.logEv Ev.hostPoisonRead Unit.hostPort (some c) [] else s
        s.complete_ Cpl.success r.bytes r.poison

/-- APERTURE_WRITE. -/
def Pkg.apertureWrite (s : Pkg) (n off : Nat) (data : Bytes) : Pkg :=
  if s.barPhase ≠ .on then s
  else match s.apertureAt n off with
    | none => s.apertureFault none
    | some (c, va) =>
      let direct := (piecesOf va data.length).all fun p => s.classAt c p.1 == some false
      if (s.ctx c).phase != .open || !bitAt (s.reg (Reg.aperture n)) 62 || !direct || !s.vMapped c va data.length .write then s.apertureFault (some c)
      else (s.vWrite c va data false).1

/-! ### Configuration requests (R503, R512, R514, R658) -/

/-- A dword of configuration space: the bits that are fixed, and the bits that the host writes. The layout of the PCI Express Base Specification that R503 names; where its capabilities lie, and which of its options' bits are fixed, are log entry 11's. -/
def Pkg.cfgDword (s : Pkg) (d : Nat) : Nat × Nat :=
  let given : Nat := (Config.configSpace d).toNat
  let serial : Nat := s.fuses.serial
  match d with
  | 0x000 => (given, 0)                                    -- vendor and device identifiers
  | 0x004 => (0x00100000, 0x0546)                          -- command; status: a capability list
  | 0x008 => (0x12000000 + s.fuses.revision % 256, 0)      -- class code
  | 0x00C => (0, 0xFF)
  | 0x010 => (0x4, 0xFF000000)                             -- BAR0: 64-bit, non-prefetchable, 16 MiB
  | 0x014 => (0, 0xFFFFFFFF)
  | 0x018 => (0xC, 0)                                      -- BAR2: 64-bit, prefetchable, 128 GiB
  | 0x01C => (0, 0xFFFFFFE0)
  | 0x02C => (given, 0)
  | 0x034 => (0x40, 0)
  | 0x03C => (0, 0xFF)                                     -- no INTx
  | 0x040 => (0x00034801, 0)                               -- Power Management
  | 0x044 => (0x8 + 3 * s.host.d3.toNat, 0)                -- PMCSR: No_Soft_Reset, power state
  | 0x048 => (0x00028810, 0)                               -- PCI Express, an endpoint
  | 0x04C => (0x00008022, 0)                               -- Max Payload Size Supported 512 B; no FLR
  | 0x050 => (0, 0x72EF)                                   -- Relaxed Ordering and No Snoop stay 0 (R504)
  | 0x054 => (0x00400106, 0)                               -- 64.0 GT/s, x16, no ASPM
  | 0x058 => (given / 65536 * 65536, 0xC0)                 -- link status as trained
  | 0x06C => (0x00030000, 0)                               -- 10-bit tags
  | 0x070 => (0, 0x1000)
  | 0x074 => (0x7E, 0)                                     -- 2.5 to 64.0 GT/s
  | 0x078 => (0, 0xF)
  | 0x088 => (0x07FF0011 + 2 ^ 30 * s.host.msixMask.toNat + 2 ^ 31 * s.host.msixEn.toNat, 0)   -- MSI-X, 2,048 vectors
  | 0x08C => (0x8000, 0)                                   -- its table and pending bits in BAR0
  | 0x090 => (0x7F00, 0)
  | 0x100 => (0x15020001, 0)                               -- Advanced Error Reporting
  | 0x104 => ((s.host.aerBits.map fun i => 2 ^ i).sum, 0)
  | 0x150 => (0x16010003, 0)                               -- Device Serial Number
  | 0x154 => (serial % 2 ^ 32, 0)
  | 0x158 => (serial / 2 ^ 32 % 2 ^ 32, 0)
  | 0x160 => (0x19010026, 0)                               -- Physical Layer 16.0, 32.0 and 64.0 GT/s
  | 0x190 => (0x1C01002A, 0)
  | 0x1C0 => (0x1F010031, 0)
  | 0x1F0 => (0x23010027, 0)                               -- Lane Margining at the Receiver
  | 0x230 => (0x0002002E, 0)                               -- Data Object Exchange
  | _ => if 0x108 ≤ d ∧ d < 0x148 ∨ 0x164 ≤ d ∧ d < 0x230 ∨ 0x234 ≤ d ∧ d < 0x248 then (given, 0) else (0, 0)

/-- The value of a dword before anything has written it, in the bits that the host writes: Max Read Request Size 512 B, target speed 64.0 GT/s. -/
def cfgReset (d : Nat) : Nat := if d = 0x050 then 0x2000 else if d = 0x078 then 6 else 0

def Pkg.configRead (s : Pkg) (off : Nat) : Nat :=
  let d := off / 4 * 4
  let (fixed, mask) := s.cfgDword d
  fixed + (s.host.config.get (cfgReset d) d &&& mask)

/-- The vectors of the table that are pending and no longer masked are sent (R514). -/
def Pkg.sendPending (s : Pkg) : Pkg :=
  if !s.host.msixEn || s.host.msixMask then s
  else
    let due := s.host.pba.filter fun v => !(s.host.vecs.get {} v).mask
    due.foldl (fun s v => s.emit (.msix v)) { s with host := { s.host with pba := s.host.pba.delAll due } }

/-- A write of the message control word: enable and function mask. -/
def Pkg.msixControl (s : Pkg) (en mask : Bool) : Pkg := ({ s with host := { s.host with msixEn := en, msixMask := mask } }).sendPending

/-- A configuration write: of a power state, the MSI-X control word, an error status bit, or the bits of a dword that the host writes. -/
def Pkg.configWrite (s : Pkg) (off v : Nat) : Pkg :=
  let d := off / 4 * 4
  if d = 0x044 then (if v % 4 = 3 then s.d3Entry else if v % 4 = 0 then s.d0Return else s)
  else if d = 0x088 then s.msixControl (v.testBit 31) (v.testBit 30)
  else if d = 0x104 then { s with host := { s.host with aerBits := s.host.aerBits.filter fun i => !v.testBit i } }
  else if (s.cfgDword d).2 = 0 then s
  else { s with host := { s.host with config := s.host.config.set d (v % 2 ^ 32 &&& (s.cfgDword d).2) } }

/-- CONFIGURATION_REQUEST: retried before DEVICE_READY first rises; without the main rails the host lanes answer nothing (R617). -/
def Pkg.configRequest (s : Pkg) (r : ConfigReq) : Pkg :=
  if !s.power.pwrGood then s
  else if !s.power.risen then s.complete_ Cpl.retry [] false
  else match r with
    | .read off => s.complete_ Cpl.success (leBytes 4 (s.configRead off)) false
    | .write off v => (s.configWrite off v).complete_ Cpl.success [] false
    | .msix en mask => (s.msixControl en mask).complete_ Cpl.success [] false

/-- BAR0_BAD_READ (R13): Completer Abort, recorded in Advanced Error Reporting. -/
def Pkg.badRead (s : Pkg) : Pkg :=
  if s.barPhase = .off then s.complete_ Cpl.unsupported [] false
  else (s.recordAer 15).complete_ Cpl.abort [] false

end Sys2Proof.Machine
end

