-- ==== Sys2Proof/Machine/Clocks.lean ====
section
/-! DEFINITION. Clocks, references and gates (R529, R540 to R553, R605). -/

namespace Sys2Proof.Machine

def Reg.clkCoreCfg (n : Nat) : Nat := 0x0E0000 + 8 * n
def Reg.clkFabCfg : Nat := 0x0E0100
def Reg.clkGateCmd : Nat := 0x0E0200
def Reg.clockSwitches : Nat := 0x0E0410
def Reg.gateRefusals : Nat := 0x0E0418

/-! ### Core clocks (R547, R548, R550, R605) -/

def Pkg.coreClk (s : Pkg) (n : Nat) : CoreClk := s.clk.core.get {} n
def Pkg.setCoreClk (s : Pkg) (n : Nat) (v : CoreClk) : Pkg := { s with clk := { s.clk with core := s.clk.core.set n v } }

/-- CLK_CORE_CFG of a die. -/
def Pkg.clkCfg (s : Pkg) (n : Nat) : Word := s.regOr (Reg.clkCoreCfg n) (BitVec.ofNat 64 s.fuses.maxMhz)

/-- Whether a value of CLK_CORE_CFG is in range; bypass ignores the frequency. -/
def Pkg.clkCfgOk (s : Pkg) (v : Word) : Bool :=
  let f := fld v 10 0
  bitAt v 12 || (decide (200 ≤ f ∧ f ≤ s.fuses.maxMhz) && f % 25 == 0)

/-- The clock that a value of CLK_CORE_CFG asks for under the die's throttle ceiling: in force is the lower of the two, in bypass too (R605). -/
def CoreClk.wants (x : CoreClk) (v : Word) (reason : Nat) : ClkReq :=
  if bitAt v 12 then match x.ceiling with
    | some c => if c < 400 then ⟨c, false, reason⟩ else ⟨400, true, reason⟩
    | none => ⟨400, true, reason⟩
  else match x.ceiling with
    | some c => ⟨min c (fld v 10 0), false, reason⟩
    | none => ⟨fld v 10 0, false, reason⟩

/-- The setpoint of a rail that AVSBus sets, in 5 mV units (R529): 0 to 3 VDD_CG, 4 VDD_CS; as commanded, and as the regulator has reached it. -/
def Pkg.groupSet (s : Pkg) (g : Nat) : Nat := s.clk.setpoint.get 160 g
def Pkg.groupReached (s : Pkg) (g : Nat) : Nat := s.clk.reached.get 160 g

/-- The VDD_CG setpoint that a die needs for a core clock: a value of the fuses' table, 0.60 to 0.90 V (R527, R529; log entry 9). -/
def railNeed (die mhz : Nat) : Nat := 120 + Config.setpoint die mhz % 61

/-- The VDD_CS setpoint, 0.75 to 0.90 V (R527, R529; log entry 9). -/
def csNeed : Nat := 150 + Config.csSetpoint % 31

/-- What a die needs now: for its clock, and for the one that a change in progress goes to (R547). -/
def Pkg.dieNeed (s : Pkg) (d : Nat) : Nat :=
  let x := s.coreClk d
  if x.phase = .idle then railNeed d x.mhz else max (railNeed d x.mhz) (railNeed d x.target.mhz)

/-- The highest setpoint that a group's four dies need, one of them at `mhz`. -/
def Pkg.groupNeed (s : Pkg) (die mhz : Nat) : Nat :=
  (upto (4 * (die / 4)) 4).foldl (fun m d => max m (if d = die then railNeed d mhz else s.dieNeed d)) 0

/-- The AVSBus master that serves a rail (R529). -/
def avsMaster (g : Nat) : Nat := if g < 2 then 0 else 1

/-- A voltage write. A lowered setpoint counts as reached at once (log entry 127). -/
def Pkg.avsWrite (s : Pkg) (g v : Nat) : Pkg :=
  ({ s with clk := { s.clk with setpoint := s.clk.setpoint.set g v, reached := s.clk.reached.set g (min v (s.groupReached g)) } }).emit (.avs (avsMaster g) g (5 * v))

/-- A switch of a domain's clock counted and logged (R548, R657). -/
def Pkg.clockSwitched (s : Pkg) (unit old new reason : Nat) : Pkg :=
  (s.bump Reg.clockSwitches).logEv Ev.clockSwitched unit none (leBytes 2 old ++ leBytes 2 new ++ leBytes 1 reason)

/-- The switch itself: to the new frequency, then the setpoint where it can fall. -/
def Pkg.clkSwitch (s : Pkg) (n : Nat) : Pkg :=
  let x := s.coreClk n
  let r := x.target
  let s := (s.setCoreClk n { x with mhz := r.mhz, bypass := r.bypass, pllB := if r.bypass then x.pllB else !x.pllB, phase := .idle, stopped := false }).resumeDie n
  let s := s.clockSwitched (Unit.computeDie n) x.mhz r.mhz r.reason
  let need := s.groupNeed n r.mhz
  if need < s.groupSet (n / 4) then s.avsWrite (n / 4) need else s

/-- A change begun on an idle clock (R547): the setpoint first where it must rise, or another die has raised it and the regulator has not reached it, then the PLL, or in bypass the switch. -/
def Pkg.clkStart (s : Pkg) (n : Nat) (r : ClkReq) : Pkg :=
  let g := n / 4
  let x := { s.coreClk n with target := r }
  let need := s.groupNeed n r.mhz
  let read (s : Pkg) : Pkg := s.emit (.avsRead (avsMaster g) g)
  if need > s.groupSet g then read ((s.setCoreClk n { x with phase := .raising }).avsWrite g need)
  else if railNeed n r.mhz > s.groupReached g then read (s.setCoreClk n { x with phase := .raising })
  else if r.bypass then (s.setCoreClk n x).clkSwitch n
  else s.setCoreClk n { x with phase := .locking }

/-- A change asked for: begun, or held while one runs; only the last held one is kept. -/
def Pkg.clkAsk (s : Pkg) (n : Nat) (r : ClkReq) : Pkg :=
  let x := s.coreClk n
  if x.phase ≠ .idle ∨ x.stopped then s.setCoreClk n { x with held := some r } else s.clkStart n r

/-- The held change begins where the clock is idle. -/
def Pkg.clkNext (s : Pkg) (n : Nat) : Pkg :=
  let x := s.coreClk n
  match x.held with
  | some r => if x.phase = .idle then (s.setCoreClk n { x with held := none }).clkStart n r else s
  | none => s

/-- CLK_CORE_CFG_WRITE. -/
def Pkg.clkCoreWrite (s : Pkg) (n : Nat) (v : Word) : Pkg :=
  s.hostWrite (Reg.clkCoreCfg n) v fun s =>
    if n ≥ 16 ∨ !s.clkCfgOk v then s.discard (Reg.clkCoreCfg n) v
    else
      let s := s.setReg (Reg.clkCoreCfg n) (v &&& 0x17FF)
      let x := s.coreClk n
      let r := x.wants v 0
      if x.ceiling.isSome && x.phase == .idle && r.mhz == x.mhz && r.bypass == x.bypass then s else s.clkAsk n r

/-- AVS_SETPOINT_REACHED: the voltage read shows what the die's change waited for. -/
def Pkg.setpointReached (s : Pkg) (n : Nat) : Pkg :=
  let x := s.coreClk n
  if x.phase ≠ .raising then s
  else
  let v := min (s.groupSet (n / 4)) (railNeed n x.target.mhz)
  let s := { s with clk := { s.clk with reached := s.clk.reached.upd 160 (n / 4) (max v) } }
  if x.target.bypass then (s.clkSwitch n).clkNext n
  else s.setCoreClk n { x with phase := .locking }

/-- DOMAIN_RESET_DONE: a compute die that had stopped runs again. -/
def Pkg.domainDone (s : Pkg) (d : Nat) : Pkg :=
  let s := s.resetDone d
  if d / 4096 = 1 then s.resumeDie (d % 4096) else s

/-- PLL_LOCK_DONE. -/
def Pkg.pllLock (s : Pkg) (n : Nat) : Pkg :=
  let x := s.coreClk n
  if x.phase = .locking ∨ x.phase = .relock then (s.clkSwitch n).clkNext n else s

/-- PLL_UNLOCK of a compute die's PLL in use, or of the fabric PLL (`n` 16 and above), which the watchdog answers. -/
def Pkg.pllUnlock (s : Pkg) (n : Nat) : Pkg :=
  if n ≥ 16 then s.packageReset 8 0xFFFF
  else
    let x := s.coreClk n
    if x.mhz = 0 ∨ x.bypass ∨ x.stopped then s
    else
      let held := if x.phase = .idle then x.held else some (x.held.getD x.target)
      let y := { x with stopped := true, phase := .relock, target := ⟨x.mhz, false, 1⟩, held := held }
      (s.setCoreClk n y).logEv Ev.pllUnlock (Unit.computeDie n) none []

/-- PLL_RELOCK_TIMEOUT: the clock stays stopped. -/
def Pkg.pllRelockTimeout (s : Pkg) (n : Nat) : Pkg :=
  let x := s.coreClk n
  if x.phase = .relock then s.setCoreClk n { x with phase := .idle } else s

/-- CLK_FAB in MHz of a value of CLK_FAB_CFG. -/
def fabMhz (v : Word) : Nat := if fld v 1 0 = 0 then 1400 else if fld v 1 0 = 1 then 700 else 350

/-- CLK_FAB_CFG_WRITE (R546). -/
def Pkg.clkFabWrite (s : Pkg) (v : Word) : Pkg :=
  s.hostWrite Reg.clkFabCfg v fun s =>
    if fld v 1 0 = 3 ∨ (s.ctxs.vals.any fun x => x.phase != .free) ∨ ((List.range 24).any fun n => (s.port n).state == 4) ∨ s.easel.run.isSome then
      s.discard Reg.clkFabCfg v
    else
      let old := s.clk.fab
      (({ s with clk := { s.clk with fab := fabMhz v } }).setReg Reg.clkFabCfg (v &&& 3)).clockSwitched Unit.package old (fabMhz v) 0

/-! ### Throttling (R605) -/

def Pkg.thermCfg (s : Pkg) : Word := s.regOr 0x120030 0x645F
def Pkg.warnC (s : Pkg) : Int := fld s.thermCfg 7 0
def Pkg.throttleC (s : Pkg) : Int := fld s.thermCfg 15 8

def Reg.throttleMs : Nat := 0x120208

/-- The detail of a thermal event (R607). -/
def thermDetail (unit : Nat) (c : Int) : Bytes := leBytes 2 unit ++ leBytes 1 (ofInt 8 c)

/-- THROTTLE_STEP of a compute die: every 1 ms while it throttles or releases. -/
def Pkg.throttleStep (s : Pkg) (n : Nat) : Pkg :=
  if !s.sec.throttling.mem n then s
  else
    let x := s.coreClk n
    let temp := s.sec.temps.get 0 n
    let cfg := s.clkCfg n
    let full := if bitAt cfg 12 then 400 else fld cfg 10 0
    let floor := max 200 (s.clk.fab / 2)
    let cur := min full (x.ceiling.getD full)
    let s := s.bump Reg.throttleMs
    let ask (s : Pkg) (c : Option Nat) : Pkg :=
      let y := { s.coreClk n with ceiling := c }
      let r := y.wants cfg 2
      let s := s.setCoreClk n y
      if y.phase = .idle ∧ r.mhz = y.mhz ∧ r.bypass = y.bypass then s else s.clkAsk n r
    if temp ≥ s.throttleC then (if cur ≤ floor then s else ask s (some (max floor (cur - 100))))
    else if temp ≤ s.throttleC - 3 then
      if cur + 100 ≥ full then
        (ask { s with sec := { s.sec with throttling := s.sec.throttling.del n } } none).logEv Ev.thermalThrottleEnd
          (Unit.computeDie n) none (thermDetail (Unit.computeDie n) temp)
      else ask s (some (cur + 100))
    else s

/-! ### References (R541, R542) -/

/-- OSC_TRIM_UPDATE: `corr`, the correction in units of 0.01 ppm, counts where a source corrects. -/
def Pkg.trimUpdate (s : Pkg) (corr : Int) : Pkg :=
  let s := s.retrim
  if s.clk.trim = 1 ∨ s.clk.trim = 2 then { s with clk := { s.clk with correction := ofInt 16 corr } } else s

/-- REFCLK_LOST of reference 0 PCIE, 1 LINK or 2 SYS. -/
def Pkg.refLost (s : Pkg) (i : Nat) : Pkg :=
  if i ≥ 3 ∨ !s.clk.present.mem i then s
  else
    let s := { s with clk := { s.clk with present := s.clk.present.del i, lost := s.clk.lost.ins i } }
    let s := s.logEv Ev.refclkLost Unit.controlDie none []
    if i = 0 then s.hotReset
    else if i = 1 then (List.range 24).foldl (fun s n => if (s.port n).state = 4 then s.portFail n 1 else s) s
    else s.retrim

/-- REFCLK_RESTORED. -/
def Pkg.refRestored (s : Pkg) (i : Nat) : Pkg :=
  if i ≥ 3 ∨ s.clk.present.mem i then s
  else
    let s := ({ s with clk := { s.clk with present := s.clk.present.ins i } }).logEv Ev.refclkRestored Unit.controlDie none []
    if i = 2 then s.retrim else s

/-! ### Gates (R551, R552) -/

/-- Whether a unit code names a present unit that has a gate. -/
def Pkg.gateable (s : Pkg) (unit : Nat) : Bool :=
  let i := unit % 4096
  match unit / 4096 with
  | 0 => i == 0
  | 1 => decide (i < 16)
  | 2 => decide (i < 64)
  | 3 => s.corePresent i
  | _ => false

/-- Whether a unit is in use (R551). -/
def Pkg.unitInUse (s : Pkg) (unit : Nat) : Bool :=
  (s.tasks.vals.any fun t => t.phase == .running && domIn unit (if t.update then Unit.cluster t.core else Unit.core t.core)) ||
  (s.clusters.any fun c => !c.2.xfers.isEmpty && domIn unit (Unit.cluster c.1)) ||
  s.clk.onCmd.any fun u => u != unit && domIn unit u

/-- A gate command (R552): `cmd` 1 ON, 2 OFF, 3 HOLD. -/
def Pkg.gateCmd (s : Pkg) (cmd unit : Nat) (go : Pkg → Pkg) : Pkg :=
  let v := BitVec.ofNat 64 (unit % 65536 + 65536 * cmd)
  s.hostWrite Reg.clkGateCmd v fun s =>
    if !s.gateable unit then s.discard Reg.clkGateCmd v
    else go { s with clk := { s.clk with lastUnit := unit, lastCode := 0 } }

/-- A refused gate command. -/
def Pkg.gateRefused (s : Pkg) (code : Nat) : Pkg := { s with clk := { s.clk with lastCode := code } }

/-- The units that hold a unit, and itself. -/
def ancestors (unit : Nat) : List Nat :=
  let i := unit % 4096
  match unit / 4096 with
  | 1 => [unit, Unit.package]
  | 2 => [unit, Unit.computeDie (i / 4), Unit.package]
  | 3 => [unit, Unit.cluster (i / 8), Unit.computeDie (i / 32), Unit.package]
  | _ => [unit]

def Pkg.gateOn (s : Pkg) (unit : Nat) : Pkg :=
  s.gateCmd 1 unit fun s =>
    if s.unitOos unit then s.gateRefused Code.outOfService
    else { s with clk := { s.clk with off := s.clk.off.delAll (ancestors unit), hold := s.clk.hold.del unit, onCmd := s.clk.onCmd.ins unit } }

def Pkg.gateOff (s : Pkg) (unit : Nat) : Pkg :=
  s.gateCmd 2 unit fun s =>
    if s.unitInUse unit && !s.unitOos unit then
      ((s.gateRefused Code.gateRefused).bump Reg.gateRefusals).logWith Code.gateRefused unit none Code.gateRefused false []
    else { s with clk := { s.clk with off := s.clk.off.ins unit, onCmd := s.clk.onCmd.del unit } }

def Pkg.gateHold (s : Pkg) (unit : Nat) : Pkg :=
  s.gateCmd 3 unit fun s => { s with clk := { s.clk with hold := s.clk.hold.ins unit } }

end Sys2Proof.Machine
end

