-- ==== Sys2Proof/Machine/Power.lean ====
section
/-! DEFINITION. Supplies, pins, the thermal trip, power-off and bring-up (R486, R501, R531 to R539, R555 to R557, R603, R604, R619 to R624). -/

namespace Sys2Proof.Machine

def Reg.supplyWarns : Nat := 0x0E0400
def Reg.stretchNs : Nat := 0x0E0408
def Reg.powerCmd : Nat := 0x0E0308

/-! Pins that the package drives, as `Output.pin` names them. -/

def Pin.ready : Nat := 0
def Pin.alert : Nat := 1
def Pin.trip : Nat := 2
def Pin.off : Nat := 3

/-! ### Bring-up (R555, R556) -/

/-- DEVICE_READY rises (R555, R619): strokes begin, and a reset that came before is noticed. -/
def Pkg.deviceReady (s : Pkg) : Pkg :=
  let p := s.power
  let k := s.stroke
  let s := { s with
    power := { p with step := none, last := 10, failStep := 0, failCode := 0, stopped := false, hold10 := false, ready := true, risen := true, resetSince := false
                      readyMs := (s.now - p.from_) / 1000000 % 2 ^ 32 }
    stroke := { k with openedAt := s.now, nextAt := s.now + 1000 * k.curPeriod }
    msys := { s.msys with sweepAt := s.now } }
  let s := (s.emit (.pin Pin.ready true)).emit .ready
  if p.resetSince then s.noticeRaw 0x09 Unit.package 0 s.resetNotice else s

/-- The boot slot that step 2 finds: its number and whether it is a fallback; none where no slot that BOOT_SRC allows verifies (R587, R624). -/
def Pkg.bootSlot (s : Pkg) (src : Nat) : Option (Nat × Bool) :=
  let ok (i : Nat) : Bool := s.fwVerify (s.sec.flash.getD i []) == 0
  let m := s.sec.mark % 2
  if src = 0 then (if ok m then some (m, false) else if ok (1 - m) then some (1 - m, true) else none)
  else if src = 1 then (if ok 0 then some (0, false) else none)
  else if src = 2 then (if ok 1 then some (1, false) else none)
  else none

/-- The boot ROM's check of a slot: a refused image is logged (R587). -/
def Pkg.bootTry (s : Pkg) (i : Nat) : Pkg × Bool :=
  match s.fwVerify (s.sec.flash.getD i []) with
  | 0 => (s, true)
  | n => (s.fwRejected n, false)

/-- The slot that the boot ROM tries first, and whether it tries the other where that one fails (R624). -/
def Pkg.bootFirst (s : Pkg) (src : Nat) : Nat × Bool := if src = 0 then (s.sec.mark % 2, true) else (src - 1, false)

/-- The keys of R589 and the certificate chain of slot 0, from the manufacturing root through the identity key to the alias key (R590), for the running image. -/
def Pkg.deriveKeys (s : Pkg) (image : Bytes) : Pkg :=
  let k := Config.identityKey s.fuses.identity
  let a := Config.aliasKey s.fuses.identity (Config.sha384 image)
  let cert := Config.aliasCertBody (Config.p384Public a)
  let body := Config.sha384 Config.rootCert ++ Config.rootCert ++ Config.identityCert (Config.p384Public k) ++ cert ++ Config.ecdsa384Sign k cert
  { s with sec := { s.sec with idKey := k, aliasKey := a, chain := leBytes 2 (4 + body.length) ++ leBytes 2 0 ++ body } }

/-- Step 2: the firmware verified, by the straps that it sampled. -/
def Pkg.stepBoot (s : Pkg) (r : StepResult) : Pkg × Bool :=
  let src := s.power.bootSrc
  let s := match r.flash with
    | some (a, b, m) => { s with sec := { s.sec with flash := [a, b], mark := m % 2, fallback := false } }
    | none => { s with sec := { s.sec with fallback := false } }
  let boot (s : Pkg) (i : Nat) : Pkg :=
    let b := s.sec.flash.getD i []
    ({ s with sec := { s.sec with slot := i, header := slice b 0 512 } }).deriveKeys b
  let fail (s : Pkg) (code : Nat) : Pkg := s.stepFail 2 code Unit.controlDie
  if src = 3 then (fail s Code.invalidDescriptor, false)
  else
    let (i, other) := s.bootFirst src
    let (s, ok) := s.bootTry i
    if ok then (boot s i, true)
    else if !other then (fail s (stepCode 2), false)
    else
      let s := { s with sec := { s.sec with fallback := true } }.logEv Ev.secureBootFallback Unit.controlDie none []
      let (s, ok) := s.bootTry (1 - i)
      if ok then (boot s (1 - i), true) else (fail s (stepCode 2), false)

/-- Step 4: clocks run as CLK_CORE_CFG has them, setpoints are applied and reached, the oscillator is trimmed. -/
def Pkg.stepClocks (s : Pkg) : Pkg :=
  let s := (List.range 16).foldl (fun s n =>
    let r := ({} : CoreClk).wants (s.clkCfg n) 0
    s.setCoreClk n { mhz := r.mhz, bypass := r.bypass }) s
  let s := ((List.range 4).foldl (fun s g => s.avsWrite g (s.groupNeed (4 * g) (s.coreClk (4 * g)).mhz)) s).avsWrite 4 csNeed
  { s with clk := { s.clk with reached := s.clk.setpoint } }.retrim

/-- Step 7 begins: every memory port trains (R462). -/
def Pkg.trainMemory (s : Pkg) : Pkg :=
  { s with msys := { s.msys with ports := (List.range 32).foldl (fun m n => m.upd {} n fun p => { p with state := 1 }) s.msys.ports } }

/-- Step 7: every memory port is up, and the usable size known (R430). -/
def Pkg.stepMemory (s : Pkg) (density : Nat) : Pkg :=
  let ports := (List.range 32).foldl (fun (m : Tbl MemPort) n =>
    m.upd {} n fun p => { p with state := 2, cause := 0, lastAt := s.now, tempAt := p.temp }) s.msys.ports
  { s with
    msys := { s.msys with ports := ports, density := density }
    mem := { s.mem with usable := if density = 1 then 62 * 0x40000000 else 124 * 0x40000000 } }

/-- A step that ends in a failure, with the event of the rule that the table names beside it. -/
def Pkg.stepFailed (s : Pkg) (n unit : Nat) : Pkg :=
  let s := if n = 6 then s.logEv Ev.selfTestFailed unit none [] else s
  let code := stepCode n
  let s := s.stepFail n code unit
  if n = 7 then (if unit / 4096 = 6 then s.memPortLost (unit % 4096) 1 else s.enterOos s.rst.pkgCause) else s

/-- Step 10: the escalation state is checked (R486). A package reset that reached pkg_count ends here with OUT_OF_SERVICE (R484). -/
def Pkg.stepEscalation (s : Pkg) : Pkg :=
  let held (s : Pkg) : Pkg := { s with power := { s.power with hold10 := true } }.stepFail 10 Code.outOfService Unit.package
  if s.rst.pkgOos then held s
  else if s.rst.oosDue then held (({ s with rst := { s.rst with oosDue := false } }).enterOos s.rst.pkgCause)
  else s.deviceReady

/-- BRINGUP_STEP_DONE. -/
def Pkg.stepDone (s : Pkg) (r : StepResult) : Pkg :=
  match s.power.step with
  | none => s
  | some n =>
    let s := { s with power := { s.power with strapPins := r.straps.getD s.power.strapPins } }
    let next (s : Pkg) : Pkg := { s with power := { s.power with step := some (n + 1), last := n } }
    match r.fail with
    | some unit => s.stepFailed n unit
    | none =>
      if n = 2 then (let (s, ok) := s.stepBoot r; if ok then next s else s)
      else if n = 3 then
        match s.fuses.clash with
        | some die => s.stepFail 3 Code.outOfService die
        | none => next { s with power := { s.power with shadow := some s.fuses } }
      else if n = 4 then
        (if s.clk.present.mem 0 && s.clk.present.mem 1 then next s.stepClocks else s.stepFail 4 (stepCode 4) Unit.controlDie)
      else if n = 6 then next s.trainMemory
      else if n = 7 then
        (if r.density = 1 ∨ r.density = 2 then next (s.stepMemory r.density) else s.stepFailed 7 Unit.package)
      else if n = 10 then s.stepEscalation
      else next s

/-! ### PWR_GOOD (R530 to R532, R557) -/

/-- The dips in progress, and with them the supply-disturbed line to the meter: raised while a rail is below its warning threshold (R535; log entry 127). -/
def Pkg.setDips (s : Pkg) (d : Tbl RailDip) : Pkg :=
  { s with power := { s.power with dips := d }, meter := { s.meter with disturbed := !d.isEmpty } }

/-- PWR_GOOD_ASSERT, a package reset of cause 0x09 that the window of R484 does not count (log entry 66): its record is written and its notice is sent when DEVICE_READY rises, or when bring-up stops (R472, R501). `low`: a rail found below its warning threshold; the references that run and the straps come with it. The regulators start at 0.80 V (R529). -/
def Pkg.pwrGoodRise (s : Pkg) (low : Option Nat) (board : BoardPins) : Pkg :=
  if s.power.pwrGood || !s.power.ctl then s
  else
    let s := { s with rst := { s.rst with pkgCause := 9 } }
    let s := s.logWith Ev.packageReset Unit.package none 0 true (leBytes 1 9 ++ leBytes 1 (min 255 s.pkgResetCount) ++ leBytes 2 0xFFFF)
    let s := (s.logEv Ev.debugLocked Unit.controlDie none []).cleared
    let s := { s with
      power := { s.power with pwrGood := true, halted := false, offReq := false, trip := false, supplyHold := false, strapPins := board.straps
                              stretched := none, waiting := false, last := if low.isSome then 0 else 1, failStep := 0, failCode := 0, stopped := false }
      clk := { present := (List.range 3).filter fun i => board.refs.testBit i } }
    let s := (s.emit (.pin Pin.off false)).emit (.pin Pin.trip false)
    match low with
    | some r =>
      let s := (s.setDips (s.power.dips.set r { since := s.now, low := 0xFFFF, past := true })).logEv Ev.supplySequenceFault Unit.package none [BitVec.ofNat 8 r]
      (({ s with power := { s.power with offReq := true } }).emit (.pin Pin.off true)).stepFail 1 (stepCode 1) Unit.package
    | none => s.beginBringup

/-- PWR_GOOD_DEASSERT (R532): the clocks stop and the dies are held in reset; the control die's registers stay; an open debug scope closes (R593). The main rails are watched only while PWR_GOOD is asserted (log entry 127). -/
def Pkg.pwrGoodFall (s : Pkg) : Pkg :=
  if !s.power.pwrGood then s
  else
    let s := s.logEv Ev.powerOff Unit.package none [1]
    let s := if s.sec.scope = 0 then s else s.logEv Ev.debugLocked Unit.controlDie none []
    let t := s.cleared
    let t := { t with regs := s.regs, power := { t.power with pwrGood := false, halted := false, waiting := false, resetSince := false, stretched := none } }
    ((t.setDips (t.power.dips.filterV fun r _ => r == 11)).emit (.pin Pin.ready false)).emit (.pin Pin.alert false)

/-! ### Supervisors (R527, R534) -/

/-- A rail's setpoint in mV: for the rails that AVSBus sets, the higher of the one commanded and the one reached. -/
def Pkg.railSet (s : Pkg) (r : Nat) : Nat :=
  if r < 5 then 5 * max (s.groupSet r) (s.groupReached r) else [750, 1200, 750, 900, 1200, 850, 900, 1800].getD (r - 5) 0

/-- Whether a voltage lies below the warning threshold, −4%. -/
def Pkg.belowWarn (s : Pkg) (r mv : Nat) : Bool := decide (100 * mv < 96 * s.railSet r)

/-- Whether it counts as below reset: under −8%, or above +8%. -/
def Pkg.belowReset (s : Pkg) (r mv : Nat) : Bool := decide (100 * mv < 92 * s.railSet r ∨ 100 * mv > 108 * s.railSet r)

/-- Whether a rail is watched: VDD_CTL while it is applied, a main rail while PWR_GOOD is asserted. -/
def Pkg.watched (s : Pkg) (r : Nat) : Bool := if r = 11 then s.power.ctl else decide (r ≤ 12) && s.power.pwrGood

/-! ### Supply dips (R535 to R537) -/

/-- STRETCH_RELEASE: 10 µs after the last rail recovered. -/
def Pkg.stretchRelease (s : Pkg) : Pkg :=
  let p := s.power
  match p.stretched with
  | none => s
  | some st =>
    let stop := p.lastUp + 10000
    if !p.dips.isEmpty || decide (s.now < stop) then s
    else ({ s with power := { p with stretched := none } }).bumpBy Reg.stretchNs (stop - st)

/-- SUPPLY_WARN: a rail falls below its warning threshold; `mv` is what it has come to. The core clocks, where they run, are stretched. A stretch whose release is due has ended. -/
def Pkg.supplyWarn (s : Pkg) (rail mv : Nat) : Pkg :=
  if !s.watched rail || !s.belowWarn rail mv || (s.power.dips.find rail).isSome then s
  else
    let s := s.stretchRelease
    let p := s.power
    let s := { s with
      power := { p with warned := p.warned.ins rail, stretched := if p.pwrGood then some (p.stretched.getD s.now) else p.stretched }
      meter := { s.meter with flags := s.meter.flags ||| 1 } }
    s.setDips (p.dips.set rail { since := s.now, low := mv })

/-- RAIL_RETURNS_ABOVE_WARNING: one record for the rail and dip, unless it reached the reset threshold. `mv`: the lowest voltage seen. -/
def Pkg.railReturns (s : Pkg) (rail mv : Nat) : Pkg :=
  match s.power.dips.find rail with
  | none => s
  | some d =>
    let low := min d.low mv
    let s := { s.setDips (s.power.dips.erase rail) with power := { s.power with dips := s.power.dips.erase rail, lastUp := s.now } }
    if d.past then s
    else (s.bump Reg.supplyWarns).logEv Ev.supplyWarn Unit.package none
      (leBytes 1 rail ++ leBytes 1 0 ++ leBytes 2 low ++ leBytes 4 (min (s.now - d.since) 0xFFFFFFFF))

/-- The state right after VDD_CTL is applied, or is lost: package time 0, the log empty, everything at reset, every output released (R469, R533, R619); what other supplies and the fuses hold stays. -/
def Pkg.standby (s : Pkg) (on : Bool) : Pkg :=
  { fuses := s.fuses, out := s.out ++ [Output.pin Pin.ready false, Output.pin Pin.alert false, Output.pin Pin.trip false, Output.pin Pin.off false]
    meter := { s.meter with disturbed := false }, power := { ctl := on }
    sec := { flash := s.sec.flash, mark := s.markKept, nonceNo := s.sec.nonceNo + 1 }, stroke := { freeNo := s.stroke.freeNo } }

/-- SUPPLY_RESET of a rail but VDD_CTL, whose loss (rail 11) is the standby state instead. The rail stays below its warning threshold until it returns. -/
def Pkg.supplyReset (s : Pkg) (x : RailLevel) : Pkg :=
  if x.rail = 11 || !s.watched x.rail || !s.belowReset x.rail x.mv then s
  else
    let s := s.logEv Ev.supplyReset Unit.package none [BitVec.ofNat 8 x.rail]
    let s := if !s.belowWarn x.rail x.mv then s else s.setDips (s.power.dips.upd { since := s.now, low := x.mv } x.rail fun d => { d with past := true })
    ({ s with power := { s.power with supplyHold := true } }).packageReset 6 0xFFFF

/-- SUPPLY_RESET_HOLD_END: every main rail has stayed above warning for 1 ms; it does nothing while a rail is below it (R536). -/
def Pkg.supplyHoldEnd (s : Pkg) : Pkg :=
  if s.power.supplyHold && s.power.dips.keys.all (· == 11) then ({ s with power := { s.power with supplyHold := false } }).resumeBringup else s

/-! ### Temperatures (R538, R603, R604) -/

/-- The unit code of a die in the order of R602. -/
def dieUnit (d : Nat) : Nat :=
  if d < 16 then Unit.computeDie d else if d < 20 then Unit.memDie (d - 16) else if d < 24 then Unit.linkDie (d - 20)
  else if d = 24 then Unit.controlDie else Unit.meterDie

/-- The trip: clocks stop, THERM_TRIP_N is asserted, the package resets. -/
def Pkg.thermalTrip (s : Pkg) (d : Nat) (c : Int) : Pkg :=
  let s := s.logEv Ev.thermalTrip (dieUnit d) none (thermDetail (dieUnit d) c)
  (({ s with power := { s.power with trip := true } }).emit (.pin Pin.trip true)).packageReset 7 0xFFFF

/-- Warnings and throttling follow a sample of one die. -/
def Pkg.thermalDie (s : Pkg) (d : Nat) (c : Int) : Pkg :=
  let u := dieUnit d
  let s := if c ≥ s.warnC ∧ !s.sec.warnDies.mem d then
      let s := { s with sec := { s.sec with warning := true, warnDies := s.sec.warnDies.ins d }, power := { s.power with alert := true } }
      (s.emit (.pin Pin.alert true)).logEv Ev.thermalWarn u none (thermDetail u c)
    else s
  if d < 16 ∧ c ≥ s.throttleC ∧ !s.sec.throttling.mem d ∧ !s.frozen ∧ (s.coreClk d).mhz ≠ 0 then
    ({ s with sec := { s.sec with throttling := s.sec.throttling.ins d } }).logEv Ev.thermalThrottle u none (thermDetail u c)
  else s

/-- The hottest die of a sample, the first on a tie. -/
def hottestDie (temps : List (Int × Nat)) : Nat × Int :=
  (temps.foldl (fun (b : Option (Nat × Int)) x => match b with
    | none => some (x.2, x.1)
    | some y => if x.1 > y.2 then some (x.2, x.1) else some y) none).getD (0, 0)

/-- The latest device temperature of each memory port (MP_TEMP, R443, R462). -/
def Pkg.deviceTemps (s : Pkg) (devs : List Nat) : Pkg :=
  ((devs.take 32).zipIdx).foldl (fun s x => s.updMemPort x.2 fun p => { p with temp := x.1 % 256 }) s

/-- A die's temperature: the highest of its junction sensors, four on a compute die and one on every other (R603). -/
def dieTemp (d : Nat) (sensors : List Int) : Option Int := (sensors.take (if d < 16 then 4 else 1)).max?

/-- THERMAL_SAMPLE of the sensors of every die, in the order of R602, and of the memory ports' devices: warnings and throttling of each die, then the trip. -/
def Pkg.thermalSample (s : Pkg) (dies : List (List Int)) (devs : List Nat) : Pkg :=
  if !s.power.ctl then s else
  let s := s.deviceTemps devs
  let xs := ((dies.take 26).zipIdx).filterMap fun x => (dieTemp x.2 x.1).map (·, x.2)
  let set (t : Tbl Int) (f : Option Int → Int → Int) : Tbl Int := xs.foldl (fun t x => t.set x.2 (f (t.find x.2) x.1)) t
  let s := { s with sec := { s.sec with
    temps := set s.sec.temps fun _ c => c
    hottest := set s.sec.hottest fun o c => max (o.getD c) c } }
  let s := xs.foldl (fun s x => s.thermalDie x.2 x.1) s
  match xs.find? fun x => decide (x.1 ≥ 115) with
  | some x => if s.power.pwrGood && !s.power.trip then s.thermalTrip x.2 x.1 else s
  | none =>
    if s.sec.warning && xs.all fun x => decide (x.1 ≤ s.warnC - 3) then
      let (d, c) := hottestDie xs
      let s := { s with sec := { s.sec with warning := false, warnDies := [] }, power := { s.power with alert := false } }
      (s.emit (.pin Pin.alert false)).logEv Ev.thermalWarnEnd (dieUnit d) none (thermDetail (dieUnit d) c)
    else s

/-! ### Power-off and release (R486, R539) -/

/-- A power-off (R539): MPn_RESET_N is released, and the GDDR devices lose their contents (R620). `source`: 0 host, 2 sideband. -/
def Pkg.powerOff (s : Pkg) (source : Nat) : Pkg :=
  if s.power.halted || !s.power.pwrGood then s
  else
    let s := ((s.tasks.filter fun t => t.2.phase == .running).map (·.1)).foldl (fun s k => s.stopTask k) s
    let s := s.logEv Ev.powerOff Unit.package none [BitVec.ofNat 8 source]
    let s := { s with
      power := { s.power with halted := true, ready := false, offReq := true, step := none, hold10 := false }
      mem := { usable := s.mem.usable } }
    (s.emit (.pin Pin.ready false)).emit (.pin Pin.off true)

/-- POWER_CMD_OFF (R539): cmd 1 with the key. -/
def Pkg.powerCmdOff (s : Pkg) : Pkg := s.hostWrite Reg.powerCmd 0xD0FF0001 fun s => s.powerOff 0

/-- ESC_CLEAR (R486, R556): the held state is cleared; a bring-up held at step 10 goes on. -/
def Pkg.escClear (s : Pkg) : Pkg :=
  let s := { s with rst := { s.rst with pkgOos := false, oosDue := false, pkgHistory := [] } }
  if s.power.hold10 then s.deviceReady else s

end Sys2Proof.Machine
end

