-- ==== Sys2Proof/Machine/Meter.lean ====
section
/-! DEFINITION. The sealed energy meter, its readout and calibration ports, and the in-band mirror (R558 to R582, R585). -/

namespace Sys2Proof.Machine

/-! ### Energy and time (R559 to R562) -/

/-- The energy register in mJ. -/
def MeterSt.energy (m : MeterSt) : Nat := m.fine / (1048576 * 1000)

/-- The power of a sample in µW: the sum over the twelve rails of mV × mA. -/
def samplePower (rails : List (Nat × Nat)) : Nat := ((rails.take 12).map fun x => x.1 * x.2).sum

/-- METER_SAMPLE: one of 1,048,576 a second; 32 make a tick. -/
def MeterSt.sample (m : MeterSt) (rails : List (Nat × Nat)) : MeterSt :=
  if !m.up then m
  else
    let p := samplePower rails
    let q := min p 2400000000
    { m with
      fine := if m.calFault then m.fine else m.fine + q
      secFine := m.secFine + q
      flags := if p > 2000000000 then m.flags ||| 4 else m.flags
      sub := (m.sub + 1) % 32
      ticks := if m.sub = 31 then m.ticks + 1 else m.ticks }

/-! ### The event counter (R571) -/

/-- One increment; the last exhausts the capacity, and the meter is unsealed for good. -/
def MeterSt.count (m : MeterSt) : MeterSt :=
  if m.events ≥ 1023 then m
  else if m.events + 1 = 1023 then { m with events := 1023, spent := true, isSealed := false, sealNext := false, flags := m.flags ||| 32 }
  else { m with events := m.events + 1 }

/-! ### Interval records (R564 to R570) -/

/-- The meter's secret key d, in 1 to n − 1 (R567). -/
def meterSecret : Nat := 1 + Config.meterKey % (P256.n - 1)

/-- The 128 B of the record of the open interval, were it to close now. -/
def MeterSt.record (m : MeterSt) (serial : Nat) : Bytes :=
  let b := leBytes 4 (m.seq + 1) ++ leBytes 2 1 ++ leBytes 2 m.flags ++ leBytes 8 serial ++
    leBytes 8 (if m.calFault then 0 else m.energy - m.startE) ++ leBytes 8 m.energy ++ leBytes 8 m.startT ++ leBytes 4 (m.ticks - m.startT) ++
    leBytes 4 m.events ++ leBytes 6 m.startStroke ++ leBytes 1 (if m.isSealed then 0x5E else 0) ++ leBytes 1 m.bank ++ leBytes 8 0
  b ++ P256.signature meterSecret b

/-- The record of the open interval written, the oldest of 4,096 overwritten (R568). -/
def MeterSt.write (m : MeterSt) (serial : Nat) : MeterSt :=
  { m with records := m.records.set ((m.seq + 1) % 4096) (m.record serial), seq := m.seq + 1 }

/-- The next interval opened; bit 9 where the length changed at its start (R579). `stroke`: the stroke number received, and whether the stroke state is locked; `extra`: further flags of its beginning. -/
def MeterSt.openNext (m : MeterSt) (stroke : Option (Nat × Bool)) (extra : Nat) : MeterSt :=
  let bad := match stroke with
    | some (_, locked) => !locked
    | none => true
  { m with
    startE := m.energy, startT := m.ticks, lenTaken := false
    startStroke := (stroke.map (·.1)).getD 0xFFFFFFFFFFFF
    flags := extra ||| (512 * m.lenTaken.toNat) ||| m.disturbed.toNat ||| (16 * m.clockFault.toNat) ||| (32 * (!m.isSealed).toNat) ||| (128 * m.calFault.toNat) ||| (256 * bad.toNat) }

/-- The meter time of the next boundary of R564. -/
def MeterSt.nextBoundary (m : MeterSt) : Nat := (m.ticks / (m.len * 32768) + 1) * (m.len * 32768)

/-- The boundary that is due: where the meter time stands on it already, or else the next. -/
def MeterSt.boundaryAt (m : MeterSt) : Nat :=
  if m.ticks % (m.len * 32768) = 0 ∧ m.ticks > m.startT then m.ticks else m.nextBoundary

/-- A new interval length takes effect at the end of an interval (R579). -/
def MeterSt.takeLength (m : MeterSt) : MeterSt :=
  match m.lenNext with
  | some l => { m with len := l, lenNext := none, lenTaken := true }.count
  | none => m

/-- The changes that wait for a boundary: bank, seal, length (R573, R574, R579). -/
def MeterSt.takeChanges (m : MeterSt) : MeterSt :=
  let m := match m.bankNext with
    | some b => { m with bank := b, bankNext := none, calFault := false }
    | none => m
  (if m.sealNext then { m with isSealed := !m.spent, sealNext := false } else m).takeLength

/-- What the meter receives of the stroke clock (R580): nothing while the main rails are off. -/
def Pkg.meterStroke (s : Pkg) : Option (Nat × Bool) :=
  if s.power.pwrGood then some (s.stroke.number, s.stroke.sync == .locked) else none

def Pkg.setMeter (s : Pkg) (m : MeterSt) : Pkg := { s with meter := m }

/-- METER_SAMPLE (R559, R560). -/
def Pkg.meterSample (s : Pkg) (rails : List (Nat × Nat)) : Pkg := s.setMeter (s.meter.sample rails)

/-- The newest record as the mirror takes it, sent when it is written (R580); not while a package reset waits for bring-up (R585). -/
def Pkg.mirrorRecord (s : Pkg) : Pkg :=
  if s.power.waiting || !s.power.ctl then s
  else { s with mirror := { s.mirror with record := s.meter.records.get [] (s.meter.seq % 4096) } }

/-- METER_INTERVAL_BOUNDARY (R564): meter time has reached the boundary. -/
def Pkg.meterBoundary (s : Pkg) : Pkg :=
  let m := s.meter
  if !m.up then s
  else
    let at_ := m.boundaryAt
    let m := { m with ticks := at_, sub := if at_ = m.ticks then m.sub else 0 }
    let m := m.write s.fuses.serial
    (s.setMeter (m.takeChanges.openNext s.meterStroke 0)).mirrorRecord

/-- METER_SECOND_CHECK (R563, R566, R575). `crystal`: it runs within 0.1%; `differ`: how many copies of the constants disagree with the others: 0 none, 1 one, 2 all. -/
def Pkg.meterSecond (s : Pkg) (crystal : Bool) (differ : Nat) : Pkg :=
  let m := s.meter
  if !m.up then s
  else
    let band := m.secFine < 150000000 * 1048576 || m.secFine > 1800000000 * 1048576
    let m := { m with
      secFine := 0, clockFault := !crystal, calFault := m.calFault || decide (differ ≥ 2)
      tmr := if differ = 1 then min 0xFFFF (m.tmr + 1) else m.tmr }
    s.setMeter { m with flags := m.flags ||| (2 * band.toNat) ||| (16 * (!crystal).toNat) ||| (128 * m.calFault.toNat) }

/-- VDD_MET_FALL (R570): the interval ends here, and a length that waits for its end takes effect (R579). -/
def Pkg.metFall (s : Pkg) : Pkg :=
  let m := s.meter
  if !m.up then s
  else
    let m := ({ m with flags := m.flags ||| 8 }.write s.fuses.serial).takeLength
    (s.setMeter { m with up := false, sub := 0, secFine := 0, latch := [], calEn := false }).mirrorRecord

/-- VDD_MET_RETURN (R570). -/
def Pkg.metReturn (s : Pkg) : Pkg :=
  let m := s.meter
  if m.up then s else s.setMeter ({ m with up := true, select := m.seq }.openNext s.meterStroke 8)

/-! ### Varnish and calibration (R572 to R574) -/

/-- MET_CAL_EN_ASSERT, held for 10 ms. -/
def Pkg.calAssert (s : Pkg) : Pkg :=
  let m := s.meter
  if !m.up then s
  else
    let m := { m with calEn := true }
    s.setMeter (if m.isSealed then { m with isSealed := false, sealNext := false, flags := m.flags ||| 32 }.count else m)

/-- MET_CAL_EN_DEASSERT. -/
def Pkg.calDeassert (s : Pkg) : Pkg := s.setMeter { s.meter with calEn := false }

/-- The three OTP copies of a calibration bank (R573): the factory's in bank 0. -/
def MeterSt.bankCopies (m : MeterSt) (i : Nat) : List Bytes := if i = 0 then List.replicate 3 Config.factoryCal else m.banks.get [] i

/-- CAL_BANK_WRITE (R573): the set is written to the next unwritten bank, and each copy read back is compared with what was received. -/
def Pkg.calBank (s : Pkg) (x : CalSet) : Pkg :=
  let m := s.meter
  if !m.up || !m.calEn || m.isSealed || decide (m.nextFree > 7) then s
  else
    let n := m.nextFree
    let m := { m with banks := m.banks.set n x.back, nextFree := n + 1 }
    if x.back = List.replicate 3 x.data then s.setMeter { m with bankNext := some n, flags := m.flags ||| 64 }.count
    else s.setMeter { m with spoiled := m.spoiled.ins n }

/-- What a SEAL signature covers: serial, event count, bank. -/
def MeterSt.sealBytes (m : MeterSt) (serial : Nat) : Bytes := leBytes 8 serial ++ leBytes 4 m.events ++ leBytes 1 m.bank

/-- SEAL (R574). -/
def Pkg.sealMeter (s : Pkg) (sig : Bytes) : Pkg :=
  let m := s.meter
  if m.up && m.calEn && !m.isSealed && !m.spent && Config.sealSig (m.sealBytes s.fuses.serial) sig then s.setMeter { m with sealNext := true }
  else s

/-! ### The readout port (R577 to R579) -/

/-- The legal interval lengths (R564). -/
def lengthOk (l : Nat) : Bool := decide (1 ≤ l) && 900 % l == 0

/-- INTERVAL_LENGTH_REQUEST, the writes of the readout port: of the record select at 0x0030, of the interval length at 0x0034, or of both in one. -/
def Pkg.lengthRequest (s : Pkg) (sel len : Option Nat) : Pkg :=
  let m := s.meter
  if !m.up then s
  else
    let m := { m with select := sel.getD m.select % 2 ^ 32 }
    s.setMeter (match len with
      | some l => if lengthOk l && l != m.len then { m with lenNext := some l } else m
      | none => m)

/-- The record selected, or zeros where it is no longer held (R578). -/
def MeterSt.selected (m : MeterSt) : Bytes :=
  let q := m.select
  if q = 0 ∨ q > m.seq ∨ m.seq ≥ q + 4096 then List.replicate 128 0 else m.records.get [] (q % 4096)

/-- The 32 bytes of 0x0010 to 0x002F. -/
def MeterSt.latchBytes (m : MeterSt) : Bytes :=
  leBytes 8 m.energy ++ leBytes 8 m.ticks ++ leBytes 4 m.events ++ leBytes 4 m.seq ++ leBytes 2 m.len ++
  leBytes 1 (if m.isSealed then 0x5E else 0) ++ leBytes 1 m.bank ++ leBytes 2 m.flags ++ leBytes 2 0

/-- The public key as the port reads it: x then y, 32 B each, little-endian (R578). -/
def meterPublic : Bytes :=
  let q := P256.publicKey meterSecret
  leBytes 32 q.1 ++ leBytes 32 q.2

/-- The registers of R578 from 0x0000 to 0x05FF. -/
def MeterSt.readSpace (m : MeterSt) (serial : Nat) : Bytes :=
  let given (a n : Nat) : Bytes := (List.range n).map fun i => Config.meterByte (a + i)
  leBytes 8 serial ++ given 8 8 ++ m.latch ++ leBytes 4 m.select ++ leBytes 2 (m.lenNext.getD m.len) ++ leBytes 2 m.tmr ++ List.replicate 72 0 ++
    m.selected ++ meterPublic ++ List.replicate 192 0 ++ given 0x200 0x400

/-- ENERGY_READOUT_LATCH: a read that begins at any register address and goes up through the address space, where addresses not listed read 0 (R577, R578). The bytes of 0x0010 to 0x002F are those of the moment at which the read begins. -/
def Pkg.meterLatch (s : Pkg) (x : MeterRead) : Pkg :=
  let m := s.meter
  if !m.up then s
  else
    let m := { m with latch := m.latchBytes }
    let space := m.readSpace s.fuses.serial
    (s.setMeter m).emit (.meter ((List.range x.len).map fun i => space.getD ((x.addr + i) % 65536) 0))

/-! ### The mirror (R580 to R582) -/

/-- A meter event as the mirror first shows it. -/
def Pkg.meterEvent (s : Pkg) (ev : Nat) : Pkg :=
  s.logEv ev Unit.meterDie none (leBytes 4 s.mirror.events ++ leBytes 4 s.mirror.seq)

/-- METER_SNAPSHOT: the mirror takes what the meter holds; not while a package reset waits for bring-up (R585), and not without VDD_CTL. -/
def Pkg.meterSnapshot (s : Pkg) : Pkg :=
  let m := s.meter
  if !m.up || s.power.waiting || !s.power.ctl then s
  else
    let o := s.mirror
    let hist := (o.history.filter fun x => decide (s.now ≤ x.1 + 1000000000)) ++ [(s.now, m.energy)]
    let n : MirrorSt := { o with
      energy := m.energy, time := m.ticks, events := m.events, len := m.len, varnish := if m.isSealed then 0x5E else 0, bank := m.bank
      flags := m.flags, seq := m.seq, record := m.records.get [] (m.seq % 4096), stroke := s.stroke.number, stale := false
      lastAt := s.now, seen := true, history := hist }
    let s := { s with mirror := n }
    let s := if o.stale then s.meterEvent Ev.meterMirrorRestored else s
    if !o.seen then s
    else
      let rise (b : Nat) : Bool := n.flags.testBit b && (!o.flags.testBit b || n.seq != o.seq)
      let s := if o.varnish ≠ 0 ∧ n.varnish = 0 then s.meterEvent Ev.meterUnsealed else s
      let s := if o.varnish = 0 ∧ n.varnish ≠ 0 then s.meterEvent Ev.meterSealed else s
      let s := if o.events ≠ n.events then s.meterEvent Ev.meterEventCount else s
      let s := if n.flags.testBit 7 && !o.flags.testBit 7 then s.meterEvent Ev.meterCalFault else s
      let s := if rise 3 then s.meterEvent Ev.meterInterrupted else s
      if o.len ≠ n.len then s.meterEvent Ev.meterIntervalChanged else s

/-- MIRROR_STALE_TIMEOUT: no snapshot for 1 ms. -/
def Pkg.mirrorStale (s : Pkg) : Pkg :=
  if s.mirror.stale || decide (s.now < s.mirror.lastAt + 1000000) then s
  else ({ s with mirror := { s.mirror with stale := true } }).meterEvent Ev.meterMirrorStale

end Sys2Proof.Machine
end

