-- ==== Sys2Proof/Machine/RegRead.lean ====
section
/-! DEFINITION. Reading BAR0: the value of every register (R9 to R16, R500, R509, R515, R636 to R653 and the register tables of the other chapters). -/

namespace Sys2Proof.Machine

/-- Flags as bits, the first at bit 0. -/
def bitsOf (l : List Bool) : Nat := l.foldr (fun b n => b.toNat + 2 * n) 0

/-- A mask of `n` units that meet a test. -/
def maskOf (n : Nat) (p : Nat → Bool) : Nat := bitsOf ((List.range n).map p)

/-! ### GLOBAL (R508, R642 to R648) -/

/-- A dword pair of the MSI-X table, and its pending bits (R508). -/
def HostSt.table (h : HostSt) (off : Nat) : Nat :=
  let v : MsixVec := h.vecs.get {} (off / 16)
  if off % 16 = 0 then v.addr else v.data + 2 ^ 32 * v.mask.toNat

/-- CAPS: it depends only on the grade (R646). -/
def Pkg.caps (s : Pkg) : Nat :=
  let g := s.fuses.grade
  (if g = 3 then 0x0C30C3 else 0xFFFFFF) + 2 ^ 25 * (g != 3).toNat + 2 ^ 32 * (if g = 1 then 512 else if g = 2 then 448 else 256) + 2 ^ 48 * (s.fuses.maxMhz / 25)

def Pkg.deviceStatus (s : Pkg) : Nat :=
  bitsOf [s.power.ready, s.rst.pkgOos, s.sec.scope != 0, !s.fab.plan.isEmpty, bitAt s.stroke.spareCfg 0, bitAt (s.reg Reg.doorbellBase) 0,
          s.stroke.sync == .locked]

def Pkg.readGlobal (s : Pkg) (off : Nat) : Nat :=
  if off ≥ 0x8000 then s.host.table (off - 0x8000)
  else if off ≥ 0x7F00 then maskOf 64 fun i => s.host.pba.mem (8 * (off - 0x7F00) + i)
  else match off with
    | 0x00 => s.fuses.grade + 256 * 2 + 65536 * 0x24 + 2 ^ 32 * (s.fuses.revision % 256)
    | 0x08 => s.fuses.serial
    | 0x10 => s.power.bootSrc + 16 * s.power.pkgPos
    | 0x18 => s.caps
    | 0x20 => s.deviceStatus
    | 0x28 => s.now
    | _ => (s.reg off).toNat

/-! ### EASEL (R515) -/

def Pkg.readEasel (s : Pkg) (off : Nat) : Nat :=
  let e := s.easel
  if 0x010080 ≤ off ∧ off < 0x0100A0 then e.results.getD ((off - 0x010080) / 8) 0
  else match off with
    | 0x010008 => e.run.isSome.toNat + 256 * e.op + 65536 * e.code + 2 ^ 24 * e.refusedCode + 2 ^ 32 * e.tag
    | 0x010010 => match e.run with
      | some r => if r.waits then 0 else Config.easelDone r.op s.now % (s.easelTotal r + 1)
      | none => e.progress
    | _ => (s.reg off).toNat

/-! ### CONTEXT and RING (R214, R487, R510) -/

def CtxPhase.code : CtxPhase → Nat
  | .free => 0
  | .open => 1
  | .closing => 2

def Pkg.ctxStatus (s : Pkg) (c : Nat) : Nat :=
  let x := s.ctx c
  x.phase.code + 4 * (x.herdHeld || x.suspectHeld || x.peerHeld || x.reshard.phase == .holding || x.reshard.phase == .moving).toNat + 65536 * x.gen +
    2 ^ 32 * (s.tasks.vals.filter fun t => t.ctx == c).length + 2 ^ 48 * x.openError

def Pkg.readCtx (s : Pkg) (off : Nat) : Nat :=
  let x := s.ctx s.sel
  match off with
  | 0x020010 => s.ctxStatus s.sel
  | 0x020018 => x.sq.toNat
  | 0x020020 => x.cq.toNat
  | 0x020028 => x.herd.toNat
  | 0x020030 => x.seed.toNat
  | 0x020038 => x.root.toNat
  | 0x020040 => x.sched.toNat
  | 0x020048 => x.genCfg
  | _ => (s.reg off).toNat

/-! ### STROKE (R52, R53, R68) -/

def StrokeSt.status (k : StrokeSt) : Nat :=
  k.sync.code + 8 * k.markPort + 65536 * k.offset.toNat + 2 ^ 32 * min 0xFFFF k.holdovers

def Pkg.readStroke (s : Pkg) (off : Nat) : Nat :=
  let k := s.stroke
  match off with
  | 0x040000 => (k.cfgNext.getD k.cfg).toNat
  | 0x040008 => k.number
  | 0x040010 => k.status
  | 0x040020 => k.spareCfg.toNat
  | 0x040028 => if bitAt k.spareCfg 0 then k.freeFrames + 2 ^ 32 * k.freeLow else 0
  | 0x040030 => (k.rounds.filter fun r => decide (k.number < r.1 + 1024)).foldl (fun m r => max m r.2) 0
  | _ => (s.reg off).toNat

/-! ### NUMERICS (R248, R264, R297) -/

def Group.status (g : Group) : Nat :=
  g.isOpen.toNat + 4 * g.cls.toNat + 8 * g.policy + 32 * g.before.frozen.toNat + 64 * g.after.frozen.toNat + 128 * g.refused.toNat +
    2 ^ 36 * g.owner + 2 ^ 48 * g.error

def Pkg.readNumerics (s : Pkg) (off : Nat) : Nat :=
  let x := s.ctx s.sel
  let g := s.group s.gsel
  let a : GroupAdv := if g.isOpen then (s.ctx g.owner).com.grp.get {} s.gsel else { p1 := 0, p2 := 0 }
  match off with
  | 0x050010 => bitsOf [x.modeBefore, x.modeAfter, x.lastRefused]
  | 0x050018 => x.switchStep
  | 0x050020 => x.recompute.toNat
  | 0x050028 => x.ledgerCfg.toNat
  | 0x050030 => x.proposal.toNat
  | 0x050210 => g.status
  | 0x050250 => a.t + 2 ^ 32 * a.valid.toNat
  | 0x050258 => a.p1.toNat + 2 ^ 32 * a.p2.toNat
  | 0x050260 => a.last
  | _ => (s.reg off).toNat

/-! ### SCHEDULER (R218, R244, R652) -/

def Pkg.readSched (s : Pkg) (off : Nat) : Nat :=
  match off with
  | 0x060000 => (s.regOr off 5).toNat
  | 0x060138 => s.slots.length
  | 0x060140 => s.tasks.length
  | _ => (s.reg off).toNat

/-! ### PORT and its telemetry (R338, R340, R371, R427) -/

/-- Whether a port lies in a domain that is in reset or out of service (R509, R637). -/
def Pkg.portAway (s : Pkg) (n : Nat) : Bool :=
  s.unitOos (Unit.port n) || s.inReset (Unit.port n)

/-! ### ROUTE and AXIS MAP (R370, R376, R403, R425) -/

def Pkg.routeEpoch (s : Pkg) : Nat :=
  (match s.activeBank with
    | some b => b
    | none => 0) + 16 * (s.bank 0).state.code + 256 * (s.bank 1).state.code

def Pkg.axStatus (s : Pkg) : Nat :=
  let e := 2 ^ 48 * s.fab.axErr.get 0 s.axSel
  match s.fab.maps.find s.axSel with
  | none => e
  | some m => e + 2 ^ 32 * le m.image 0 2 + 2 ^ 24 * le m.image 2 1 + (if m.active then 2 else 1)

def ReshardPhase.code : ReshardPhase → Nat
  | .idle => 0
  | .armed => 1
  | .holding => 2
  | .moving => 3

def Ctx.reshardStatus (x : Ctx) : Nat :=
  x.reshard.phase.code + 256 * x.reshard.error + 65536 * (x.reshard.voids % 256) + 2 ^ 24 * (x.cur.epoch % 256)

def Pkg.readRoute (s : Pkg) (off : Nat) : Nat :=
  let x := s.ctx s.sel
  if 0x0A0040 ≤ off ∧ off < 0x0A0070 then
    let live := s.livePorts ((off - 0x0A0040) / 8 + 1)
    maskOf 24 fun n => live.contains n
  else match off with
    | 0x0A0000 => match s.fab.selfIdx with
      | some i => 65536 + i
      | none => 0
    | 0x0A0008 => s.routeEpoch
    | 0x0A0020 => let p := s.reg 0x0A0018
      ((s.bank (fld p 16 16)).entries.get 0 (fld p 15 0)).toNat
    | 0x0A0218 => s.axStatus
    | 0x0A0300 => x.reshard.desc.toNat
    | 0x0A0308 => x.reshard.stroke.toNat
    | 0x0A0318 => x.reshardStatus
    | 0x0A0508 => if s.fab.plan.isEmpty then 0 else 1 + 65536 * le s.fab.plan 4 2
    | 0x0A0510 => s.linkRev.toNat
    | 0x0A0568 => s.fab.absent.length
    | _ => (s.reg off).toNat

/-! ### MEMORY (R462 to R465) -/

/-- The window that ADDER_WIN_SELECT selects. -/
def Pkg.awSel (s : Pkg) : Nat := fld (s.reg 0x0C8200) 3 0

def Pkg.readMem (s : Pkg) (off : Nat) : Nat :=
  let m := s.msys
  match off with
  | 0x0C8000 => s.memCfg.toNat
  | 0x0C8008 => if s.mem.usable = 0 then 0 else m.density + 4 + 65536 * (s.mem.usable / 0x200000)
  | 0x0C8010 => m.granule % 2 ^ 29 + 2 ^ 32 * (m.sweeps % 2 ^ 32)
  | 0x0C8018 => s.mem.inject.toNat
  | 0x0C8208 => ((s.ctx s.sel).adders.get 0 (2 * s.awSel)).toNat
  | 0x0C8210 => ((s.ctx s.sel).adders.get 0 (2 * s.awSel + 1)).toNat
  | _ => (s.reg off).toNat

/-! ### CLOCK and POWER (R553) -/

def Pkg.clkStatus (s : Pkg) (n : Nat) : Nat :=
  let x := s.coreClk n
  if x.mhz = 0 then 0
  else x.mhz + 2 ^ 12 * x.bypass.toNat + 2 ^ 13 * x.pllB.toNat + 2 ^ 14 * (x.phase != .idle || x.held.isSome).toNat +
    2 ^ 15 * s.power.stretched.isSome.toNat + 65536 * s.groupSet (n / 4)

def Pkg.readClk (s : Pkg) (off : Nat) : Nat :=
  let k := s.clk
  if off < 0x0E0080 then (s.clkCfg ((off - 0x0E0000) / 8)).toNat
  else if off < 0x0E0100 then s.clkStatus ((off - 0x0E0080) / 8)
  else if 0x0E0220 ≤ off ∧ off < 0x0E0260 then
    maskOf 64 fun j => let c := 64 * ((off - 0x0E0220) / 8) + j
      s.gated (Unit.core c) || !s.corePresent c
  else match off with
    | 0x0E0108 => k.trim + 65536 * k.correction
    | 0x0E0110 => maskOf 3 k.present.mem + 256 * maskOf 3 k.lost.mem
    | 0x0E0208 => k.lastUnit + 65536 * k.lastCode
    | 0x0E0210 => maskOf 16 (fun n => k.off.mem (Unit.computeDie n)) + 65536 * maskOf 16 (fun n => k.hold.mem (Unit.computeDie n)) +
        2 ^ 32 * (k.off.mem Unit.package).toNat
    | 0x0E0218 => maskOf 64 fun c => s.gated (Unit.cluster c)
    | 0x0E0300 => maskOf 13 (fun r => (s.power.dips.find r).isSome) + 2 ^ 32 * maskOf 13 s.power.warned.mem
    | 0x0E0310 => s.power.last + 16 * s.power.failStep + 256 * s.power.failCode + 65536 * s.power.readyMs
    | _ => (s.reg off).toNat

/-! ### FAULT, RESET and LOG (R500) -/

/-- The record of a sequence number, zeros where it is no longer held (R469). -/
def Pkg.logRecord (s : Pkg) (seq : Nat) : Bytes :=
  match s.log.recs.find? fun e => e.seq == seq with
  | some e => e.bytes false
  | none => List.replicate 64 0

def Pkg.oosMisc (s : Pkg) : Nat :=
  let o (n : Nat) (f : Nat → Nat) : Nat := maskOf n fun i => s.unitOos (f i)
  o 16 Unit.computeDie + 2 ^ 16 * o 4 Unit.memDie + 2 ^ 20 * o 4 Unit.linkDie + 2 ^ 24 * o 24 Unit.port + 2 ^ 48 * s.rst.pkgOos.toNat

def Pkg.pkgResetStatus (s : Pkg) : Nat := s.rst.pkgCause + 256 * min 255 s.pkgResetCount + 65536 * s.rst.pkgOos.toNat

def DumpSt.status (d : DumpSt) : Nat :=
  d.running.isSome.toNat + 2 * (!d.retained.isEmpty).toNat + 65536 * d.trigger + 2 ^ 32 * d.noAnswer

def Pkg.readFault (s : Pkg) (off : Nat) : Nat :=
  let r := s.rst
  if 0x100040 ≤ off ∧ off < 0x100080 then maskOf 64 fun j => s.unitOos (Unit.core (64 * ((off - 0x100040) / 8) + j))
  else if 0x100128 ≤ off ∧ off < 0x100168 then word8 (s.logRecord (s.reg 0x100120).toNat) (off - 0x100128)
  else match off with
    | 0x100008 => s.resetCfg.toNat
    | 0x100010 => r.lastUnit + 65536 * r.lastCause + 2 ^ 24 * r.refused
    | 0x100018 => s.pkgResetStatus
    | 0x100080 => maskOf 64 fun c => s.unitOos (Unit.cluster c)
    | 0x100088 => s.oosMisc
    | 0x100118 => s.log.nextSeq - 1
    | 0x100198 => r.dump.status
    | 0x1001A0 => word8 r.dump.retained (fld (s.reg 0x1001A0) 19 3 * 8)
    | _ => (s.reg off).toNat

/-! ### SECURITY (R606) -/

def Pkg.secStatus (s : Pkg) : Nat :=
  let x := s.sec
  let h := x.header
  x.slot % 2 + 2 * x.fallback.toNat + 4 * (x.scope % 4) + 16 * s.fuses.debugLock.toNat + 256 * (if h.isEmpty then 0 else fwKeySlot h % 4) +
    2 ^ 12 * (s.fuses.revoked % 16) + 65536 * (if h.isEmpty then 0 else fwSecurity h) + 2 ^ 32 * s.fuses.minSec

/-- THERM_STATUS: of the last sample. -/
def Pkg.thermStatus (s : Pkg) : Nat :=
  let (d, c) := s.sec.temps.foldl (fun (b : Nat × Int) (x : Nat × Int) => if x.2 > b.2 then x else b) (s.sec.temps.headD (0, 0))
  if s.sec.temps.isEmpty then 0
  else ofInt 8 c + 65536 * dieUnit d + 2 ^ 32 * s.sec.warning.toNat + 2 ^ 33 * (!s.sec.throttling.isEmpty).toNat

def Pkg.readSec (s : Pkg) (off : Nat) : Nat :=
  if 0x120040 ≤ off ∧ off < 0x120110 then
    let d := (off - 0x120040) / 8
    ofInt 8 (s.sec.temps.get 0 d) + 256 * ofInt 8 (s.sec.hottest.get 0 d)
  else match off with
    | 0x120000 => s.secStatus
    | 0x120008 => if s.sec.header.isEmpty then 0 else fwVersion s.sec.header
    | 0x120018 => s.debugNonce.toNat
    | 0x120030 => s.thermCfg.toNat
    | 0x120038 => s.thermStatus
    | 0x120180 => s.side.mode + 256 * s.side.addr + 65536 * s.side.eid
    | _ => (s.reg off).toNat

/-! ### METROLOGY MIRROR (R581) -/

def MirrorSt.read (m : MirrorSt) (off : Nat) : Nat :=
  if 0x140100 ≤ off ∧ off < 0x140180 then word8 m.record (off - 0x140100)
  else match off with
    | 0x140000 => m.energy
    | 0x140008 => m.time
    | 0x140010 => m.events + 2 ^ 32 * m.len + 2 ^ 48 * m.varnish + 2 ^ 56 * m.bank + 2 ^ 63 * m.stale.toNat
    | 0x140018 => m.flags + 65536 * m.seq
    | 0x140020 => m.stroke
    | _ => 0

/-! ### TELEMETRY (R334, R371, R584) -/

def DigestEntry.key (d : DigestEntry) : Nat :=
  d.ctx + 2 ^ 12 * d.tensor + 2 ^ 44 * d.gen + 2 ^ 62 * (if d.complete then 2 else 1)

def Pkg.readTele (s : Pkg) (off : Nat) : Nat :=
  let e := s.fab.digests.find (fld (s.reg 0x160200) 8 0)
  if off < 0x160180 then
    let n := (off - 0x160000) / 16
    if !s.portPresent n then 0 else if off % 16 = 0 then (s.port n).digTx.toNat else (s.port n).digRx.toNat
  else if 0x161000 ≤ off ∧ off < 0x162800 then
    let n := (off - 0x161000) / 0x100
    if !s.portPresent n then 0 else if s.portAway n then 2 ^ 64 - 1 else (s.port n).readTele (off % 0x100)
  else match off with
    | 0x160208 => (e.map (·.key)).getD 0
    | 0x160210 => (e.map (·.step)).getD 0
    | 0x160218 => (e.map (·.tx.toNat)).getD 0
    | 0x160220 => (e.map (·.rx.toNat)).getD 0
    | 0x168008 => (s.ctx (fld (s.reg 0x168000) 11 0)).energy
    | 0x168010 => s.mirror.unalloc
    | 0x168018 => s.mirror.attrStroke
    | 0x168020 => s.mirror.staleStrokes
    | _ => (s.reg off).toNat

/-! ### COMPUTE DIE (R165, R212, R649 to R651) -/

/-- Whether a compute die's registers read all ones: it is in reset or out of service (R509, R637). -/
def Pkg.dieAway (s : Pkg) (n : Nat) : Bool := s.unitOos (Unit.computeDie n) || s.inReset (Unit.computeDie n)

/-- DIE_RESETS, each count saturating. -/
def dieResetWord (r : Nat × Nat × Nat) : Nat := min 0xFFFF r.1 + 65536 * min 0xFFFF r.2.1 + 2 ^ 32 * min 0xFFFF r.2.2

/-- TXE_SLOTS: transfers in use, and their peak. -/
def ClusterSt.txeSlots (x : ClusterSt) : Nat := x.xfers.length + 2 ^ 32 * x.ctr.get 0 0x08

def Pkg.readDie (s : Pkg) (off : Nat) : Nat :=
  let n := (off - 0x200000) / 0x20000
  let o := off % 0x20000
  let core := 32 * n + (o - 0x1000) / 0x100
  let cl := 4 * n + (o - 0x3000) / 0x100
  let live (v : Nat) : Nat := if s.dieAway n then 2 ^ 64 - 1 else v
  if 0x1000 ≤ o ∧ o < 0x3000 then
    if !s.corePresent core ∨ o % 0x100 ≥ 0x78 then 0 else live ((s.core core).ctr.get 0 (o % 0x100))
  else if 0x3000 ≤ o ∧ o < 0x3400 then
    if o % 0x100 > 0x20 then 0 else live (if o % 0x100 = 0x08 then (s.cluster cl).txeSlots else (s.cluster cl).ctr.get 0 (o % 0x100))
  else if o > 0x10 then 0 else live (match o with
    | 0x0000 => n + 256 * (s.fuses.revision % 256)
    | 0x0008 => (maskOf 32 fun l => s.corePresent (32 * n + l)) + 2 ^ 32 * (s.fuses.hasFp64 n).toNat
    | 0x0010 => dieResetWord (s.rst.dieResets.get (0, 0, 0) n)
    | _ => 0)

/-! ### Any register (R509, R636) -/

/-- The value of the aligned 64-bit word at a BAR0 offset. -/
def Pkg.readReg (s : Pkg) (off : Nat) : Word :=
  BitVec.ofNat 64 (
    if off < 0x010000 then s.readGlobal off
    else if off < 0x020000 then s.readEasel off
    else if off < 0x040000 then s.readCtx off
    else if off < 0x050000 then s.readStroke off
    else if off < 0x060000 then s.readNumerics off
    else if off < 0x080000 then s.readSched off
    else if off < 0x098000 then s.readPort off
    else if off < 0x0A0000 then 0
    else if off < 0x0C0000 then s.readRoute off
    else if off < 0x0C8000 then s.readMemPort off
    else if off < 0x0E0000 then s.readMem off
    else if off < 0x100000 then s.readClk off
    else if off < 0x120000 then s.readFault off
    else if off < 0x140000 then s.readSec off
    else if off < 0x160000 then s.mirror.read off
    else if off < 0x200000 then s.readTele off
    else if off < 0x400000 then s.readDie off
    else 0)

/-- What an aligned read of 8 or 4 bytes returns (R13, R639): the register, or the half that the offset names, at one instant. -/
def Pkg.barRead (s : Pkg) (off len : Nat) : Bytes := slice (leBytes 8 (s.readReg (off / 8 * 8)).toNat) (if len = 4 then off % 8 / 4 * 4 else 0) len

/-- What a read changes: SPARE_POOL_STATUS starts its lowest count anew. -/
def Pkg.readEffect (s : Pkg) (off : Nat) : Pkg :=
  if off = 0x040028 then { s with stroke := { s.stroke with freeLow := s.stroke.freeFrames } } else s

end Sys2Proof.Machine
end

