-- ==== Sys2Proof/Machine/Dump.lean ====
section
/-! DEFINITION. The reset command, fences, the watchdog and the crash dump's course (R472, R489, R495 to R499). -/

namespace Sys2Proof.Machine

def Reg.resetCmd : Nat := 0x100000
def Reg.dumpRetained : Nat := 0x1001A0

/-- The word of a RESET_CMD write whose reserved bits are 0. -/
def resetWord (unit cmd : Nat) : Word := BitVec.ofNat 64 (unit % 65536 + 65536 * cmd)

/-- The domain that a fence command names, in compatibility mode (R489, R500). -/
def Pkg.fenceDomain (s : Pkg) (unit : Nat) : Option Nat :=
  if bitAt s.resetCfg 0 then (s.domainOf unit).filter domFences else none

/-- A write of RESET_CMD: cmd 1 reset, 2 fence, 3 unfence, 4 dump (R472, R489, R495, R500). -/
def Pkg.resetCmd (s : Pkg) (v : Word) : Pkg :=
  s.hostWriteKept fun s =>
    let unit := fld v 15 0
    let bad (s : Pkg) : Pkg := s.discard Reg.resetCmd v
    match fld v 19 16 with
    | 1 => s.resetRequest unit 1 bad
    | 2 => match s.fenceDomain unit with
      | none => bad s
      | some d => if s.rst.fences.mem d then s else s.fence d
    | 3 => match s.fenceDomain unit with
      | none => bad s
      | some d => { s with rst := { s.rst with fences := s.rst.fences.del d } }
    | 4 => s.dumpStart 1 unit
    | _ => bad s

def Pkg.resetCmdReset (s : Pkg) (unit : Nat) : Pkg := s.resetCmd (resetWord unit 1)
def Pkg.resetCmdFence (s : Pkg) (unit : Nat) : Pkg := s.resetCmd (resetWord unit 2)
def Pkg.resetCmdUnfence (s : Pkg) (unit : Nat) : Pkg := s.resetCmd (resetWord unit 3)
def Pkg.resetCmdDump (s : Pkg) (unit : Nat) : Pkg := s.resetCmd (resetWord unit 4)

/-- Transfers that a fenced domain still waits for. -/
def Pkg.fencedXfers (s : Pkg) (d : Nat) : List Xfer :=
  s.clusters.vals.flatMap fun c => c.xfers.filter fun x => domIn d (Unit.cluster x.cluster) || domIn d (Unit.core x.core)

/-- FENCE_DRAIN_TIMEOUT (R489): what is still outstanding is answered FENCED, and a reset that waited begins. -/
def Pkg.fenceDrain (s : Pkg) (d : Nat) : Pkg :=
  let run := s.rst.running.find? fun r => r.unit == d && r.fenced
  if !s.rst.fences.mem d && run.isNone then s
  else
    let xs := s.fencedXfers d
    let s := if xs.isEmpty then s else s.logEv Ev.fenceDrainTimeout d none []
    let s := s.dropTransfers fun x => domIn d (Unit.cluster x.cluster) || domIn d (Unit.core x.core)
    let s := ((xs.map (·.task)).eraseDups).foldl (fun s k => s.fencedTask k) s
    match run with
    | some r => s.resetDomain d r.cause r.ctx
    | none => s

/-- WATCHDOG_EXPIRE (R472). -/
def Pkg.watchdog (s : Pkg) : Pkg := s.packageReset 8 0xFFFF

/-! ### The crash dump (R496 to R499) -/

/-- The control die's first section (R497): the FAULT, RESET and LOG block's registers, the STROKE block's, CTX_STATUS of every context, the SCHEDULER counters. -/
def Pkg.controlBody (s : Pkg) : Bytes :=
  let regs (lo n : Nat) : List Nat := (List.range n).map fun i => (s.readReg (lo + 8 * i)).toNat
  words8 (regs 0x100000 37 ++ regs 0x100180 26 ++ regs 0x040000 39 ++ (List.range 4096).map s.ctxStatus ++ regs 0x060100 9)

/-- The second: the newest 4,096 records, oldest first, zeros after the newest where there are fewer (R497). -/
def Pkg.recordBody (s : Pkg) : Bytes :=
  let b := ((s.log.recs.take 4096).reverse).flatMap fun e => e.bytes false
  b ++ List.replicate (262144 - b.length) 0

/-- The body of a section as far as the spec says what it holds: as read before a reset, or as read now. DESIGN CHOICE, log entry 7: the order and widths of the fields within a body. -/
def Pkg.sectionBody (s : Pkg) (kind unit : Nat) : Bytes :=
  match s.rst.dump.bodies.find? fun x => x.1 == kind && x.2.1 == unit with
  | some x => x.2.2
  | none => if kind = 1 then s.controlBody else if kind = 2 then s.recordBody else s.unitBody kind unit

/-- One section: header and body. Bytes beyond what the spec names are free (log entry 7). -/
def Pkg.dumpSection (s : Pkg) (no : Nat) (x : Nat × Nat × Nat) : Bytes :=
  let (kind, unit, n) := x
  let hdr (st len : Nat) : Bytes := leBytes 2 unit ++ leBytes 1 kind ++ leBytes 1 st ++ leBytes 4 len ++ leBytes 8 s.now
  let r := s.noAnswer kind unit
  if s.fusedOff unit then hdr 2 0
  else if r ≠ 0 then hdr 1 8 ++ leBytes 8 (0x4E4F414E * 2 ^ 32 + r * 2 ^ 24 + unit)
  else
    let b := s.sectionBody kind unit
    hdr 0 n ++ b.take n ++ (upto b.length (n - b.length)).map fun i => Config.dumpByte no kind unit i

/-- A dump image (R496). `host`: the host copy is written. -/
def Pkg.dumpImage (s : Pkg) (no : Nat) (secs : List (Nat × Nat × Nat)) (host : Bool) : Bytes :=
  let d := s.rst.dump
  let body := secs.flatMap fun x => s.dumpSection no x
  let marks := (secs.filter fun x => !s.fusedOff x.2.1 && s.noAnswer x.1 x.2.1 != 0).length
  leBytes 2 1 ++ leBytes 1 (d.running.getD 0) ++ leBytes 1 (1 + 2 * host.toNat) ++ leBytes 4 (64 + body.length) ++
  leBytes 8 s.fuses.serial ++ leBytes 6 d.stroke ++ leBytes 2 d.unit ++ leBytes 8 d.at_ ++ leBytes 4 secs.length ++
  leBytes 4 marks ++ leBytes 8 d.seq ++ leBytes 16 0 ++ body

/-- DUMP_READ_TIMEOUT (R498): a section ends with a no-answer marker. -/
def Pkg.dumpTimeout (s : Pkg) (kind unit : Nat) : Pkg :=
  let d := s.rst.dump
  if d.running.isSome && d.takes.any (fun x => x.1 == kind && x.2.1 == unit) && !d.sections.any (fun x => x.1 == kind && x.2.1 == unit) then
    { s with rst := { s.rst with dump := { d with sections := d.sections ++ [(kind, unit, 1)] } } }
  else s

/-- The notice of a completed dump (R498, R501). -/
def Pkg.dumpNotice (s : Pkg) : Pkg :=
  (s.logWith Ev.crashDumpDone Unit.package none 0 (s.noticeFree Unit.package 0x0C) []).noticeRaw 0x0C Unit.package 0
    (s.causeNotice 0x0C 0 Unit.package 0 0 0xFFFF)

/-- Whether the host port is up: the package has come up since its reset, PERST_N is not asserted, and the port is in D0 (R507, R512, R622). -/
def Pkg.hostUp (s : Pkg) : Bool := s.power.pwrGood && s.power.risen && !s.power.perst && !s.host.d3

/-- Whether the host copy can be written: the host port is up, and the room is at least 4 MiB (R499). -/
def Pkg.dumpHost (s : Pkg) : Bool := s.hostUp && decide ((s.reg Reg.dumpSize).toNat ≥ 0x400000)

/-- CRASH_DUMP_COMPLETE (R498, R499): the copies are written, the record and the notice go out, and what waited for the dump goes on. -/
def Pkg.dumpDone (s : Pkg) : Pkg :=
  let d := s.rst.dump
  match d.running with
  | none => s
  | some trig =>
    let (no, s) := s.fresh
    let host := s.dumpHost
    let secs := d.takes
    let kept := s.dumpImage no (secs.filter fun x => x.1 ≤ 6) host
    let marks := (secs.filter fun x => !s.fusedOff x.2.1 && s.noAnswer x.1 x.2.1 != 0).length
    let s := if host then s.emit (.hostWrite (s.reg Reg.dumpBase).toNat (s.dumpImage no secs true)) else s
    let lock := bitAt (s.reg Reg.dumpCfg) 3 && !d.retained.isEmpty
    let len := (s.dumpImage no secs host).length
    let d' : DumpSt := { d with running := none, begins := none, trigger := trig, noAnswer := marks, bodies := [] }
    let s := { s with rst := { s.rst with dump := if lock then d' else { d' with retained := kept } } }
    let s := s.dumpNotice
    let s := match s.easel.run with
      | some r => if r.op = 8 ∧ trig = 2 then ({ s with easel := { s.easel with progress := secs.length } }).easelEnd 0 [len, marks] else s
      | none => s
    match d.begins with
    | some (cause, ctx) => s.resetNow cause ctx
    | none => s

end Sys2Proof.Machine
end

