-- ==== Sys2Proof/Machine/RegWrite.lean ====
section
/-! DEFINITION. Writing BAR0: the registers that have no command of their own, and the rules for every write (R13 to R16, R509, R512, R581, R636 to R654). -/

namespace Sys2Proof.Machine

/-! ### Which offsets a register occupies -/

/-- Whether a read-only register occupies an offset of the blocks of one instance (R652 and the tables it names). -/
def roListed (off : Nat) : Bool :=
  let span (lo hi : Nat) : Bool := decide (lo ≤ off ∧ off ≤ hi)
  span 0x000000 0x000028 || span 0x000100 0x000110 || span 0x007F00 0x007FF8 ||
  span 0x010008 0x010010 || span 0x010020 0x010028 || span 0x010080 0x010098 || off == 0x020010 ||
  off == 0x040010 || span 0x040028 0x040030 || span 0x040100 0x040130 ||
  span 0x050010 0x050018 || span 0x050100 0x050160 || span 0x050180 0x0501B8 || off == 0x050210 || span 0x050250 0x050260 ||
  span 0x060100 0x060140 ||
  span 0x0A0000 0x0A0008 || off == 0x0A0020 || span 0x0A0040 0x0A0068 || span 0x0A0100 0x0A0140 || off == 0x0A0218 || off == 0x0A0318 ||
  span 0x0A0400 0x0A0448 || span 0x0A0500 0x0A0510 || off == 0x0A0568 || span 0x0A0580 0x0A05A0 ||
  span 0x0C8008 0x0C8010 || span 0x0C8100 0x0C8140 ||
  span 0x0E0080 0x0E00F8 || off == 0x0E0108 || span 0x0E0208 0x0E0218 || span 0x0E0220 0x0E0258 || off == 0x0E0310 || span 0x0E0400 0x0E0418 ||
  span 0x100010 0x100018 || span 0x100040 0x100088 || off == 0x100118 || span 0x100128 0x100160 || off == 0x100198 || span 0x100200 0x100248 ||
  span 0x120000 0x120008 || off == 0x120018 || span 0x120038 0x120108 || off == 0x120180 || span 0x120200 0x120218 ||
  span 0x160000 0x160178 || span 0x160208 0x160228 || span 0x168008 0x168020

/-- The same of the blocks that come once per port, memory port or compute die. -/
def roRepeated (off : Nat) : Bool :=
  if 0x080000 ≤ off ∧ off < 0x098000 then off % 0x1000 == 0x08 || (decide (0x18 ≤ off % 0x1000) && decide (off % 0x1000 ≤ 0x28))
  else if 0x0C0000 ≤ off ∧ off < 0x0C8000 then
    let o := off % 0x400
    o == 0 || o == 0x10 || o == 0x18 || (decide (0x100 ≤ o) && decide (o ≤ 0x130))
  else if 0x161000 ≤ off ∧ off < 0x162800 then decide (off % 0x100 < 0xF8)
  else if 0x200000 ≤ off ∧ off < 0x400000 then
    let o := off % 0x20000
    decide (o ≤ 0x10) || (decide (0x1000 ≤ o ∧ o < 0x3000) && decide (o % 0x100 < 0x78)) || (decide (0x3000 ≤ o ∧ o < 0x3400) && decide (o % 0x100 ≤ 0x20))
  else false

def roOffset (off : Nat) : Bool := roListed off || roRepeated off

/-! ### Writes that R13 discards (R13, R581, R648) -/

/-- A bad access: counted, recorded, and logged as a discarded write. -/
def Pkg.badWrite (s : Pkg) (off be : Nat) (v : Word) : Pkg :=
  ((s.bump Reg.badAccess).setReg Reg.lastBad (BitVec.ofNat 64 (off % 2 ^ 24 + 2 ^ 24 * be))).discardBytes off be v

/-! ### Plain registers -/

/-- The bits of a plain RW register that a write sets; reserved bits are ignored (R15). None: no plain RW register lies there. -/
def plainMask (off : Nat) : Option Word :=
  if 0x000040 ≤ off ∧ off ≤ 0x000058 then some (~~~0)
  else if 0x021000 ≤ off ∧ off ≤ 0x0211F8 then some 0xCFFFFFFFFFE00000
  else if 0x0A0520 ≤ off ∧ off ≤ 0x0A0558 then some (~~~0)
  else match off with
    | 0x010018 => some 0xFFF
    | 0x020000 => some 0xFFF
    | 0x050008 => some (~~~0)
    | 0x050200 => some 0xFFF
    | 0x050218 => some 0xFFFFFFFF
    | 0x050220 => some 0xFFFFFFFF
    | 0x050228 => some (~~~0)
    | 0x050230 => some 0xFFFFFFFF
    | 0x050238 => some (~~~0)
    | 0x050240 => some 0xF
    | 0x050248 => some 0xFFFFFFFFFFFF
    | 0x060008 => some 0xFFFFFFFFFFFFF001
    | 0x0A0018 => some 0x1FFFF
    | 0x0A0200 => some 0x3F
    | 0x0A0208 => some 0xFFFFFFFFFFFFFFC0
    | 0x0A0228 => some 0xFFFFFFFFFFFF
    | 0x0A0518 => some 0x1FFFF0FFF
    | 0x0C8200 => some 0xF
    | 0x100108 => some 0xFFFFFFFFFFFFF000
    | 0x100110 => some (~~~0)
    | 0x100120 => some (~~~0)
    | 0x100180 => some 0xF
    | 0x100188 => some 0xFFFFFFFFFFFFF000
    | 0x100190 => some (~~~0)
    | 0x1001A0 => some 0xFFFF8
    | 0x120020 => some 0xFFFFFFFFFFFFFFC0
    | 0x160200 => some 0x1FF
    | 0x168000 => some 0xFFF
    | _ => none

/-- A register whose value a rule may refuse: discarded where out of range. -/
def Pkg.ranged (s : Pkg) (off : Nat) (v mask : Word) (ok : Bool) : Pkg := if ok then s.setReg off (v &&& mask) else s.discard off v

/-- A register of the selected context that is writable only while it is free (R215, R248, R439, R487). -/
def Pkg.freeOnly (s : Pkg) (off : Nat) (v : Word) (ok : Bool) (f : Ctx → Ctx) : Pkg :=
  if (s.ctx s.sel).phase = .free ∧ ok then s.updCtx s.sel f else s.discard off v

def within (lo x hi : Nat) : Bool := decide (lo ≤ x ∧ x ≤ hi)

def memCfgOk (v : Word) : Bool :=
  within 1 (fld v 7 0) 168 && within 10 (fld v 19 8) 4000 && within 1 (fld v 27 20) 20 && within 1 (fld v 43 32) 3600

def resetCfgOk (v : Word) : Bool :=
  within 1 (fld v 7 4) 15 && within 2 (fld v 11 8) 15 && within 1 (fld v 21 16) 60 && within 2 (fld v 27 24) 15 && within 10 (fld v 42 32) 1440

def thermCfgOk (v : Word) : Bool := within 80 (fld v 7 0) 105 && within 85 (fld v 15 8) 105 && decide (fld v 7 0 ≤ fld v 15 8)

/-- A refused re-sharding command (R403, R405, R512). -/
def Pkg.reshardRefuse (s : Pkg) (code : Nat) : Pkg :=
  (s.logWith Ev.reshardRefused Unit.controlDie (some s.sel) code false []).updReshard s.sel fun r => { r with error := code }

/-- RESHARD_CMD ARM and CANCEL on the selected context (R403, R405, R512). -/
def Pkg.reshardArmCmd (s : Pkg) : Pkg := s.setup (fun s => s.reshardArm s.sel) fun s => s.reshardRefuse Code.notReady
def Pkg.reshardCancelCmd (s : Pkg) : Pkg := s.setup (fun s => s.reshardCancel s.sel) fun s => s.reshardRefuse Code.notReady

/-- RW registers with a rule of their own, in the blocks that need DEVICE_READY. None: no such register. -/
def Pkg.ruledWrite (s : Pkg) (off : Nat) (v : Word) : Option Pkg :=
  match off with
  | 0x020018 => some (s.freeOnly off v true fun x => { x with sq := v &&& 0xFFFFFFFFFFFFF01F })
  | 0x020020 => some (s.freeOnly off v true fun x => { x with cq := v &&& 0xFFFFFFFFFFFFF01F })
  | 0x020028 => some (s.freeOnly off v true fun x => { x with herd := v &&& 0x1FFFF })
  | 0x020030 => some (s.freeOnly off v true fun x => { x with seed := v })
  | 0x020038 => some (s.freeOnly off v true fun x => { x with root := v &&& 0x0000FFFFFFFFF000 })
  | 0x020048 => some (s.freeOnly off v true fun x => { x with genCfg := fld v 15 0 })
  | 0x050020 => some (s.freeOnly off v (within 1 (fld v 3 0) 8 && within 1 (fld v 9 8) 3) fun x => { x with recompute := v &&& 0x30F })
  | 0x050028 => some (s.freeOnly off v true fun x => { x with ledgerCfg := v &&& 0x0FFFFFFFFF003FF1 })
  | 0x050030 => some (s.updCtx s.sel fun x => { x with proposal := v &&& 0x00FFFFFFFFFFFFFF })
  | 0x060000 => some (s.ranged off v 0x3FF (within 1 (fld v 9 0) 1000))
  | 0x0A0300 => some (if (s.ctx s.sel).reshard.phase = .idle then s.updReshard s.sel fun r => { r with desc := v &&& 0xFFFFFFFFFFFF } else s.discard off v)
  | 0x0A0308 => some (if (s.ctx s.sel).reshard.phase = .idle then s.updReshard s.sel fun r => { r with stroke := v &&& 0xFFFFFFFFFFFF } else s.discard off v)
  | 0x0C8000 => some (s.ranged off v 0x00000FFF0FFFFFFF (memCfgOk v))
  | 0x0C8208 => some (s.freeOnly off v true fun x => { x with adders := x.adders.set (2 * s.awSel) (v &&& 0x0000FFFFFFFF0000) })
  | 0x0C8210 => some (s.freeOnly off v (decide (fld v 51 48 < 8) && (!bitAt v 63 || fld v 31 0 != 0)) fun x =>
      { x with adders := x.adders.set (2 * s.awSel + 1) (v &&& 0x800F0000FFFFFFFF) })
  | 0x0E0110 => some { s with clk := { s.clk with lost := s.clk.lost.filter fun i => !bitAt v (8 + i) } }
  | 0x0E0300 => some { s with power := { s.power with warned := s.power.warned.filter fun r => !bitAt v (32 + r) } }
  | 0x120030 => some (s.ranged off v 0xFFFF (thermCfgOk v))
  | _ => none

/-- MP_CFG of a memory port (R462). -/
def Pkg.mpCfgWrite (s : Pkg) (off : Nat) (v : Word) : Pkg := s.ranged off v 0xFFFF (fld v 15 0 != 0)

/-- The FAULT, RESET and LOG block's registers with a rule of their own (R470, R490, R500). -/
def Pkg.faultWrite (s : Pkg) (off : Nat) (v : Word) : Option Pkg :=
  match off with
  | 0x100008 =>
    let ok := resetCfgOk v && (bitAt v 0 == bitAt s.resetCfg 0 || s.ctxs.vals.all fun x => x.phase != .open)
    some (s.ranged off v 0x000007FF0F3F0FF1 ok)
  | 0x100100 => some (s.ranged off v 0x07FF05F1 (!bitAt v 0 || within 8 (fld v 8 4) 16))
  | _ => none

/-! ### Command registers (R641) -/

/-- A command register's write, as its own command carries it out: the value's cmd field names the command, and any other value is discarded and logged. None: no command register lies there. A command that needs data from outside the package (an image, a token) comes by its own row, and such a write changes nothing here. -/
def Pkg.commandWrite (s : Pkg) (off : Nat) (v : Word) : Option Pkg :=
  let c := fld v 3 0
  let other (s : Pkg) : Pkg := s.hostWrite off v fun s => s.discard off v
  match off with
  | 0x010000 =>
    let op := fld v 7 0
    let tag := fld v 31 16
    some (match op with
      | 6 => s.portRetrain tag
      | 7 => s.selfTest tag
      | 8 => s.easelDump tag
      | _ => if 1 ≤ op ∧ op ≤ 5 then s
        else s.hostWriteKept fun s => s.easelRefuse (
          if s.easel.run.isSome then Code.easelBusy else if s.barPhase = .limited then Code.notReady else Code.invalidDescriptor))
  | 0x020008 => some (if c = 1 then s.ctxOpen (bitAt v 4) else if c = 2 then s.ctxClose (bitAt v 4) else other s)
  | 0x020040 => some (s.ctxSchedWrite v)
  | 0x040000 => some (s.hostWrite off v fun s => s.strokeCfgWrite v)
  | 0x040008 => some (s.hostWrite off v fun s => s.strokeNumberWrite v)
  | 0x040020 => some (s.hostWrite off v fun s => s.sparePoolWrite v)
  | 0x050000 => some (s.numericsMode v)
  | 0x050208 => some (if c = 1 then s.groupOpen else if c = 2 then s.groupParams else if c = 3 then s.groupClose else other s)
  | 0x0A0010 => some (s.routeSwitchWrite v)
  | 0x0A0210 => some (if c = 1 then s.setup id (fun s => s.axRefuse Code.notReady) else if c = 2 then s.axClear else other s)
  | 0x0A0220 => some (s.axSwitchWrite v)
  | 0x0A0310 => some (if c = 1 then s.reshardArmCmd else if c = 2 then s.reshardCancelCmd else other s)
  | 0x0A0560 => some (s.noticeSend v)
  | 0x0C8018 => some (s.hostWrite off v fun s => s.memInject v)
  | 0x0E0100 => some (s.clkFabWrite v)
  | 0x0E0200 =>
    let u := fld v 15 0
    let g := fld v 17 16
    some (if g = 1 then s.gateOn u else if g = 2 then s.gateOff u else if g = 3 then s.gateHold u else other s)
  | 0x0E0308 => some (if c = 1 ∧ fld v 31 16 = 0xD0FF then s.powerCmdOff else other s)
  | 0x100000 => some (s.resetCmd v)
  | 0x120010 => some (if c = 1 then s.commitVersion else if c = 2 then s else if c = 3 then s.debugLock else other s)
  | 0x120028 => some (s.ptInvalidate v)
  | _ => none

/-- The same of the ports' registers and the core clocks'. -/
def Pkg.commandPort (s : Pkg) (off : Nat) (v : Word) : Option Pkg :=
  if 0x080000 ≤ off ∧ off < 0x098000 then
    let n := (off - 0x080000) / 0x1000
    match off % 0x1000 with
    | 0x00 => some (s.portCfgWrite n v)
    | 0x10 => some (if fld v 3 0 = 1 then s.portDisable n else if fld v 3 0 = 2 then s.portTrain n
        else s.portWrite n off v fun s => s.discard off v)
    | _ => none
  else if 0x161000 ≤ off ∧ off < 0x162800 ∧ off % 0x100 = 0xF8 then some (s.qdepthClear ((off - 0x161000) / 0x100) v)
  else if 0x0E0000 ≤ off ∧ off < 0x0E0080 then some (s.clkCoreWrite ((off - 0x0E0000) / 8) v)
  else none

/-! ### The MSI-X table (R509, R514) -/

/-- A write of the dwords of a table entry's half that the byte enables name: 32-bit and 64-bit accesses are served. -/
def Pkg.msixWrite (s : Pkg) (off be : Nat) (v : Word) : Pkg :=
  let i := (off - 0x8000) / 16
  let x := s.host.vecs.get {} i
  let lo (old : Nat) : Nat := if be.testBit 0 then fld v 31 0 else old
  let x := if off % 16 = 0 then
      { x with addr := lo (x.addr % 2 ^ 32) + 2 ^ 32 * (if be.testBit 4 then fld v 63 32 else x.addr / 2 ^ 32) }
    else { x with data := lo x.data, mask := if be.testBit 4 then bitAt v 32 else x.mask }
  ({ s with host := { s.host with vecs := s.host.vecs.set i x } }).sendPending

/-! ### Any write -/

/-- Whether a block stays writable after DEVICE_READY has fallen: EASEL, and FAULT, RESET and LOG (R512). -/
def keptBlock (off : Nat) : Bool := (decide (0x010000 ≤ off) && decide (off < 0x020000)) || (decide (0x100000 ≤ off) && decide (off < 0x120000))

/-- Whether an offset lies in the register or telemetry block of a torus port that is absent, which ignores writes (R26). -/
def Pkg.absentPort (s : Pkg) (off : Nat) : Bool :=
  (decide (0x080000 ≤ off ∧ off < 0x098000) && !s.portPresent ((off - 0x080000) / 0x1000)) ||
  (decide (0x161000 ≤ off ∧ off < 0x162800) && !s.portPresent ((off - 0x161000) / 0x100))

/-- The blocks that stay writable now: after a power-off RESET_CMD and the Easel port only, for what R493 serves (R539). -/
def Pkg.keptNow (s : Pkg) (off : Nat) : Bool := keptBlock off && (!s.power.halted || off == Reg.resetCmd || decide (off < 0x020000))

/-- An aligned 64-bit write of a register that is no command. -/
def Pkg.plainWrite (s : Pkg) (off : Nat) (v : Word) : Pkg :=
  if 0x010040 ≤ off ∧ off ≤ 0x010078 then (if s.easel.run.isSome then s.discard off v else s.setReg off v)
  else if 0x0C0000 ≤ off ∧ off < 0x0C8000 ∧ off % 0x400 = 8 then s.mpCfgWrite off v
  else if s.absentPort off then s
  else match plainMask off with
    | some m => s.setReg off (v &&& m)
    | none => match s.ruledWrite off v with
      | some s => s
      | none => match s.faultWrite off v with
        | some s => s
        | none => if roOffset off then s else s.discard off v

/-- Whether a register write is SEC_CMD COMMIT_VERSION, which blows fuses (R588). -/
def commitsVersion (off be : Nat) (v : Word) : Bool := off / 8 * 8 == Reg.secCmd && be == 0xFF && fld v 3 0 == 1

/-- REGISTER_WRITE: a write of the bytes `be` of the aligned 64-bit word at a BAR0 offset. -/
def Pkg.registerWrite (s : Pkg) (off be : Nat) (v : Word) : Pkg :=
  let o := off / 8 * 8
  let b := be % 256
  let msix := decide (0x7F00 ≤ o ∧ o < 0x10000) && (b == 0x0F || b == 0xF0 || b == 0xFF)
  match s.barPhase with
  | .off => s
  | .limited =>
    if b ≠ 0xFF ∧ !msix then s.badWrite o b v
    else match if b = 0xFF then s.commandWrite o v else none with
      | some s => s
      | none => if s.keptNow o then s.plainWrite o v else s.discardBytes o b v
  | .on =>
    if msix then (if o < 0x8000 then s else s.msixWrite o b v)
    else if b ≠ 0xFF ∨ (0x140000 ≤ o ∧ o < 0x160000) then s.badWrite o b v
    else match s.commandWrite o v with
      | some s => s
      | none => match s.commandPort o v with
        | some s => s
        | none => s.plainWrite o v

end Sys2Proof.Machine
end

