-- ==== Sys2Proof/Machine/Sideband.lean ====
section
/-! DEFINITION. The sideband port: vendor-defined messages, PLDM, MCTP control and addresses (R486, R493, R512, R522, R539, R599 to R602, R607). -/

namespace Sys2Proof.Machine

/-! ### Answers (R512, R601) -/

/-- The port works while VDD_CTL is applied (R599, R617). -/
def Pkg.onSide (s : Pkg) (go : Pkg → Pkg) : Pkg := if s.power.ctl then go s else s

/-- An answer to a vendor-defined message: the command's code, a status code, and its data. -/
def Pkg.sideAnswer (s : Pkg) (code status : Nat) (data : Bytes) : Pkg := s.sideVendor false (leBytes 1 code ++ leBytes 1 status ++ data)

/-- An answer to a PLDM message. -/
def Pkg.pldmAnswer (s : Pkg) (code status : Nat) (data : Bytes) : Pkg := s.sideSend false Mctp.pldm (leBytes 1 code ++ leBytes 1 status ++ data)

/-- Whether the sideband serves more than the early commands (R493, R512, R539). -/
def Pkg.sideOpen (s : Pkg) : Bool := s.power.risen && !s.power.halted

/-- A PLDM message, which is not early: answered NOT_READY before DEVICE_READY first rises. -/
def Pkg.sideLate (s : Pkg) (code : Nat) (go : Pkg → Pkg) : Pkg := if s.sideOpen then go s else s.pldmAnswer code Code.notReady []

/-! ### Status reads (R601) -/

/-- SIDEBAND_STATUS. A failed bring-up step and the held state are reported as OUT_OF_SERVICE (R486, R556). -/
def Pkg.sideStatus (s : Pkg) : Pkg :=
  let word (off : Nat) : Bytes := leBytes 8 (s.readReg off).toNat
  s.sideAnswer 0x01 (if s.rst.pkgOos ∨ s.power.stopped = true then Code.outOfService else 0)
    (word 0x0E0310 ++ word 0x100018 ++ word 0x100088 ++ leBytes 1 s.power.ready.toNat ++ word 0x120038)

/-- SIDEBAND_LOG_READ: up to 15 records from a sequence number. -/
def Pkg.sideLogRead (s : Pkg) (seq n : Nat) : Pkg :=
  let qs := (upto seq (min n 15)).filter fun q => decide (q < s.log.nextSeq)
  s.sideAnswer 0x02 0 (qs.flatMap s.logRecord)

/-- The blocks that REG_READ serves before DEVICE_READY: GLOBAL, CLOCK and POWER, FAULT, RESET and LOG, SECURITY, METROLOGY MIRROR. -/
def earlyBlock (off : Nat) : Bool := decide (off < 0x010000) || (decide (0x0E0000 ≤ off) && decide (off < 0x160000))

/-- SIDEBAND_REG_READ of the register that holds a BAR0 offset. -/
def Pkg.sideRegRead (s : Pkg) (off : Nat) : Pkg :=
  let o := off / 8 * 8
  if !s.sideOpen && !earlyBlock o then s.sideAnswer 0x03 Code.notReady []
  else (s.readEffect o).sideAnswer 0x03 0 (s.barRead o 8)

/-- SIDEBAND_DUMP_READ: 1 KiB of the retained buffer. -/
def Pkg.sideDumpRead (s : Pkg) (off : Nat) : Pkg := s.sideAnswer 0x04 0 (slice s.rst.dump.retained off 1024)

/-! ### Commands (R472, R486, R495, R539, R601) -/

/-- SIDEBAND_RESET, with cause 0x02. A code that names no domain is discarded and logged (R472). -/
def Pkg.sideReset (s : Pkg) (unit : Nat) : Pkg :=
  (s.sideAnswer 0x10 0 []).resetRequest unit 2 fun s => s.discard Reg.resetCmd (resetWord unit 1)

/-- SIDEBAND_POWER_OFF, source 2. -/
def Pkg.sidePowerOff (s : Pkg) : Pkg := (s.sideAnswer 0x11 0 []).powerOff 2

/-- ESC_CLEAR. -/
def Pkg.sideEscClear (s : Pkg) : Pkg := (s.sideAnswer 0x12 0 []).escClear

/-- SIDEBAND_CRASH_DUMP, trigger 3. -/
def Pkg.sideCrashDump (s : Pkg) : Pkg := (s.sideAnswer 0x13 0 []).dumpStart 3 0

/-! ### PLDM (R602) -/

/-- The code of a PLDM answer stands for its PLDM type. -/
def pldmCode (type : Nat) : Nat := 0x80 + type

/-- PLDM_BASE_DISCOVERY: the types supported, 0, 2 and 5. -/
def Pkg.pldmBase (s : Pkg) : Pkg := s.sideLate (pldmCode 0) fun s => s.pldmAnswer (pldmCode 0) 0 (leBytes 8 0x25)

/-- Package power in W over the last second, from the mirror's snapshots (R602). -/
def Pkg.meanPower (s : Pkg) : Nat :=
  match s.mirror.history.filter fun x => decide (s.now ≤ x.1 + 1000000000) with
  | [] => 0
  | (t0, e0) :: rest => match rest.getLast? with
    | some (t1, e1) => if t1 ≤ t0 then 0 else (e1 - e0) * 1000000 / (t1 - t0)
    | none => 0

/-- A sensor's reading (R602): die temperatures with their warning states (R604), rail states, package power. None: no such sensor. -/
def Pkg.sensor (s : Pkg) (id : Nat) : Option Bytes :=
  if 1 ≤ id ∧ id ≤ 26 then some (leBytes 1 (ofInt 8 (s.sec.temps.get 0 (id - 1))) ++ leBytes 1 (s.sec.warnDies.mem (id - 1)).toNat)
  else if 32 ≤ id ∧ id ≤ 44 then some (leBytes 1 (s.power.dips.find (id - 32)).isSome.toNat)
  else if id = 48 then some (leBytes 4 s.meanPower)
  else none

/-- PLDM_SENSOR_READ. -/
def Pkg.pldmSensor (s : Pkg) (id : Nat) : Pkg :=
  s.sideLate (pldmCode 2) fun s => match s.sensor id with
    | some b => s.pldmAnswer (pldmCode 2) 0 b
    | none => s.pldmAnswer (pldmCode 2) Code.invalidDescriptor []

/-- PLDM_FIRMWARE_UPDATE: an image is verified and its write to the inactive slot begins; FIRMWARE_UPDATE_END ends it (R522, R587). A second update, or one beside a running FIRMWARE_LOAD, waits for no one: it is refused. -/
def Pkg.pldmUpdate (s : Pkg) (image : Bytes) : Pkg :=
  s.sideLate (pldmCode 5) fun s =>
    let loading := match s.easel.run with
      | some r => r.op == 1 && !r.waits
      | none => false
    if s.side.fw || loading then s.pldmAnswer (pldmCode 5) Code.easelBusy []
    else match s.fwVerify image with
      | 0 => ({ (s.flashWrite image).setMark false with side := { s.side with fw := true } }).pldmAnswer (pldmCode 5) 0 []
      | n => (s.fwRejected n).pldmAnswer (pldmCode 5) Code.invalidDescriptor []

/-! ### MCTP control and addresses (R599, R600, R607) -/

def Reg.sbErrors : Nat := 0x120218

/-- The answer to an MCTP control message: its command, a completion code, and data (PRESUMED of DSP0236, log entry 129). -/
def Pkg.controlAnswer (s : Pkg) (command code : Nat) (data : Bytes) : Pkg :=
  s.sideSend false Mctp.control (leBytes 1 0 ++ leBytes 1 command ++ leBytes 1 code ++ data)

/-- MCTP_SET_ENDPOINT_ID and the other MCTP control messages: NOT_READY before DEVICE_READY first rises; a message with a bad frame or check is dropped and counted (R606). -/
def Pkg.mctpControl (s : Pkg) (m : MctpControl) : Pkg :=
  let late (command : Nat) (go : Pkg → Pkg) : Pkg := if s.sideOpen then go s else s.controlAnswer command 4 []
  match m with
  | .setEid e => late 1 fun s => ({ s with side := { s.side with eid := e % 256 } }).controlAnswer 1 0 (leBytes 1 0 ++ leBytes 1 e ++ leBytes 1 0)
  | .getEid => late 2 fun s => s.controlAnswer 2 0 (leBytes 1 s.side.eid ++ leBytes 2 0)
  | .version => late 4 fun s => s.controlAnswer 4 0 (leBytes 1 1 ++ leBytes 4 0x00F1F3F1)
  | .types => late 5 fun s => s.controlAnswer 5 0 (leBytes 1 3 ++ leBytes 1 Mctp.pldm ++ leBytes 1 Mctp.spdm ++ leBytes 1 Mctp.vendor)
  | .vendors => late 6 fun s => s.controlAnswer 6 0 (leBytes 1 0xFF ++ leBytes 1 0 ++ vendorBytes ++ leBytes 2 0)
  | .other c => late c fun s => s.controlAnswer c 5 []
  | .bad => s.bump Reg.sbErrors

/-- SIDEBAND_ADDRESS_ASSIGN: a dynamic address makes the port an I3C target; a first access at the static address makes it an SMBus target until package reset. -/
def Pkg.addressAssign (s : Pkg) (dynamic : Option Nat) : Pkg :=
  let set (s : Pkg) (mode addr : Nat) : Pkg :=
    let change := s.side.mode ≠ mode
    let s := { s with side := { s.side with mode := mode, addr := addr % 128 } }
    if change then s.logEv Ev.sidebandMode Unit.controlDie none [] else s
  match dynamic with
  | some a => if s.side.mode = 2 then s else set s 1 a
  | none => if s.side.mode = 0 then set s 2 (0x30 + s.power.pkgPos) else s

end Sys2Proof.Machine
end

