-- ==== Sys2Proof/Machine/State.lean ====
section
/-! DEFINITION. The state of the block: the package and the queue of commands that wait, with the reasons a step can stop and the state after reset. -/

namespace Sys2Proof.Machine

/-- The package, and the commands that wait for it, first in, first out. -/
structure State where
  pkg     : Pkg := {}
  pending : List Instr := []
  deriving DecidableEq, Repr

/-- Why the block stops with a fault. -/
inductive Fault where
  /-- Raised by a command that names what the hardware does not have: a core above 511, a cluster above 63, a context above 4,095, a port above 23, a memory port above 31, a compute die above 15, a rail above 12, an offset beyond its BAR. Safe: nothing can send such a command. -/
  | noSuchUnit
  deriving DecidableEq, Repr

/-- Why the block refuses a command. -/
inductive Refusal where
  /-- Raised by no command: every command of the table has its meaning. Safe. -/
  | notModelled (mnemonic : String)
  deriving DecidableEq, Repr

/-- The block right after VDD_CTL is applied: package time 0, every register at its reset value, PWR_GOOD low, nothing waiting (R16, R469, R533). -/
def State.reset : State := {}

end Sys2Proof.Machine
end

