-- ==== Sys2Proof/WellFormed.lean ====
section
/-! DEFINITION. Which commands name only what the hardware has: unit numbers, contexts, offsets and apertures in their ranges (R24, R25, R35, R214, R508). -/

namespace Sys2Proof

/-- Whether a finding of the scrub or a checker names storage that exists. -/
def Machine.SramFault.wf : Machine.SramFault → Bool
  | .clean => true
  | .single => true
  | .palette core word => decide (core < 512 ∧ word < 0x80000)
  | .clusterMem cluster word => decide (cluster < 64 ∧ word < 0x400000)
  | .staging die _ _ _ => decide (die < 4)
  | .redSlot die _ word => decide (die < 4 ∧ word < 552)
  | .flow die _ => decide (die < 4)
  | .reorder die _ _ _ => decide (die < 4)
  | .version _ => true
  | .ledger ctx _ => decide (ctx < 4096)
  | .arrival ctx counter => decide (ctx < 4096 ∧ counter < 256)
  | .stepFlag ctx step => decide (ctx < 4096 ∧ step < 4)
  | .storeSram core ctx _ _ => decide (core < 512 ∧ ctx < 4096)
  | .coreRegs core engine => decide (core < 512 ∧ engine < 5)
  | .upeTemps cluster => decide (cluster < 64)
  | .stat core ctx _ _ => decide (core < 512 ∧ ctx < 4096)
  | .table core slot => decide (core < 512 ∧ slot < 16)
  | .storeCopy core ctx _ => decide (core < 512 ∧ ctx < 4096)
  | .route bank index => decide (bank < 2 ∧ index < 65536)
  | .vote word copy => decide (word < 6 ∧ copy < 3)
  | .voteLost _ => true

/-- A command is well formed when every unit it names exists. -/
def Instr.wf : Instr → Bool
  | .strokeBoundary _ => true
  | .maintSlotEnd _ => true
  | .strokeMarkAccept _ port _ _ _ _ => decide (port < 24)
  | .markTimeout _ => true
  | .holdoverLimitExpire _ => true
  | .voteWaitExpiry _ _ _ => true
  | .strokeCfgWrite _ _ => true
  | .strokeNumberWrite _ _ => true
  | .sparePoolCfgWrite _ _ => true
  | .stagedWriteResume _ ctx => decide (ctx < 4096)
  | .frameRecycle _ => true
  | .transferAged _ cluster id => decide (cluster < 64 ∧ id < 1024)
  | .packetAgeDrop _ port => decide (port < 24)
  | .doorbellPoll _ indices others => (indices.all fun x => x.1 < 4096) && others.all fun x => x.1 < 4096
  | .sketch _ ctx _ => decide (ctx < 4096)
  | .sketchAdmitResume _ ctx => decide (ctx < 4096)
  | .slotSet _ ctx _ => decide (ctx < 4096)
  | .slotClear _ ctx _ => decide (ctx < 4096)
  | .slotEntryResume _ ctx => decide (ctx < 4096)
  | .arrivalSet _ ctx _ => decide (ctx < 4096)
  | .taskDispatch _ task core => decide (task < 32768 ∧ core < 512)
  | .updateTaskDispatch _ task cluster => decide (task < 32768 ∧ cluster < 64)
  | .taskComplete _ core => decide (core < 512)
  | .updateTaskComplete _ cluster => decide (cluster < 64)
  | .cqRecordsRelease _ ctx _ => decide (ctx < 4096)
  | .ctxOpen _ _ => true
  | .ctxClose _ _ => true
  | .contextRelease _ ctx => decide (ctx < 4096)
  | .releaseZeroFillDone _ ctx => decide (ctx < 4096)
  | .ctxSchedWrite _ _ => true
  | .agStep _ core => decide (core < 512)
  | .agHold _ core => decide (core < 512)
  | .agSetdesc _ core => decide (core < 512)
  | .agSetbase _ core => decide (core < 512)
  | .agReset _ core => decide (core < 512)
  | .agAddbase _ core => decide (core < 512)
  | .sclAdd _ core => decide (core < 512)
  | .sclSub _ core => decide (core < 512)
  | .sclMul _ core => decide (core < 512)
  | .sclAddi _ core => decide (core < 512)
  | .sclMovi _ core => decide (core < 512)
  | .sclSetlc _ core => decide (core < 512)
  | .sclCtset _ core => decide (core < 512)
  | .sclCtinc _ core => decide (core < 512)
  | .sclCpset _ core => decide (core < 512)
  | .flowLoop _ core => decide (core < 512)
  | .flowJump _ core => decide (core < 512)
  | .flowBreak _ core => decide (core < 512)
  | .flowEnd _ core => decide (core < 512)
  | .mxeMma _ core => decide (core < 512)
  | .mxeWriteout _ core => decide (core < 512)
  | .vxeLoad _ core => decide (core < 512)
  | .vxeStore _ core => decide (core < 512)
  | .vxeAdd _ core => decide (core < 512)
  | .vxeSub _ core => decide (core < 512)
  | .vxeMul _ core => decide (core < 512)
  | .vxeFma _ core => decide (core < 512)
  | .vxeDiv _ core => decide (core < 512)
  | .vxeSqrt _ core => decide (core < 512)
  | .vxeMax _ core => decide (core < 512)
  | .vxeMin _ core => decide (core < 512)
  | .vxeAbs _ core => decide (core < 512)
  | .vxeNeg _ core => decide (core < 512)
  | .vxeCopysign _ core => decide (core < 512)
  | .vxeCmp _ core => decide (core < 512)
  | .vxeSelect _ core => decide (core < 512)
  | .vxeAddk _ core => decide (core < 512)
  | .vxeMulk _ core => decide (core < 512)
  | .vxeExp _ core => decide (core < 512)
  | .vxeExp2 _ core => decide (core < 512)
  | .vxeLn _ core => decide (core < 512)
  | .vxeLog2 _ core => decide (core < 512)
  | .vxeTanh _ core => decide (core < 512)
  | .vxeSigmoid _ core => decide (core < 512)
  | .vxeTeval _ core => decide (core < 512)
  | .vxeTderiv _ core => decide (core < 512)
  | .vxeTableLoad _ core => decide (core < 512)
  | .vxeMov _ core => decide (core < 512)
  | .normFwd _ core => decide (core < 512)
  | .rmsFwd _ core => decide (core < 512)
  | .smaxFwd _ core => decide (core < 512)
  | .normBwd _ core => decide (core < 512)
  | .rmsBwd _ core => decide (core < 512)
  | .smaxBwd _ core => decide (core < 512)
  | .spillSet _ core => decide (core < 512)
  | .gather _ core => decide (core < 512)
  | .scatter _ core => decide (core < 512)
  | .txeCopyIn _ core => decide (core < 512)
  | .txeCopyOut _ core => decide (core < 512)
  | .txeReduce _ core => decide (core < 512)
  | .txeRelay _ core => decide (core < 512)
  | .syncWait _ core => decide (core < 512)
  | .syncWaitRelease _ core _ => decide (core < 512)
  | .interlockRelease _ core _ => decide (core < 512)
  | .txeSlotFree _ core _ => decide (core < 512)
  | .reduceFrameSend _ cluster id => decide (cluster < 64 ∧ id < 1024)
  | .upeLoad _ cluster => decide (cluster < 64)
  | .upeStore _ cluster => decide (cluster < 64)
  | .upeAdd _ cluster => decide (cluster < 64)
  | .upeSub _ cluster => decide (cluster < 64)
  | .upeMul _ cluster => decide (cluster < 64)
  | .upeFma _ cluster => decide (cluster < 64)
  | .upeDiv _ cluster => decide (cluster < 64)
  | .upeSqrt _ cluster => decide (cluster < 64)
  | .upeRsqrt _ cluster => decide (cluster < 64)
  | .upeMax _ cluster => decide (cluster < 64)
  | .upeMin _ cluster => decide (cluster < 64)
  | .upeAbs _ cluster => decide (cluster < 64)
  | .upeSelect _ cluster => decide (cluster < 64)
  | .upeCmp _ cluster => decide (cluster < 64)
  | .upeConv _ cluster => decide (cluster < 64)
  | .upeClamp _ cluster => decide (cluster < 64)
  | .eirData _ arr _ => arr.all fun n => n < 24
  | .eirTail _ arr _ => arr.all fun n => n < 24
  | .eirFinalData _ arr _ => arr.all fun n => n < 24
  | .eirFinalTail _ arr _ => arr.all fun n => n < 24
  | .eirRedo _ arr _ => arr.all fun n => n < 24
  | .reductionSlotFree _ => true
  | .write _ arr _ => arr.all fun n => n < 24
  | .read _ arr _ => arr.all fun n => n < 24
  | .readData _ arr _ => arr.all fun n => n < 24
  | .relay _ arr _ => arr.all fun n => n < 24
  | .ack _ arr _ => arr.all fun n => n < 24
  | .nack _ arr _ => arr.all fun n => n < 24
  | .vote _ arr _ => arr.all fun n => n < 24
  | .voteResult _ arr _ => arr.all fun n => n < 24
  | .voidNotice _ arr _ => arr.all fun n => n < 24
  | .faultNoticeRx _ arr _ => arr.all fun n => n < 24
  | .peerAbsent _ arr _ => arr.all fun n => n < 24
  | .peerPresent _ arr _ => arr.all fun n => n < 24
  | .tableSwitch _ arr _ => arr.all fun n => n < 24
  | .packetForward _ arr _ => arr.all fun n => n < 24
  | .ackTimer _ _ _ _ _ _ => true
  | .flowEntryExpire _ _ _ _ _ _ => true
  | .linkControlSymbol _ port _ _ _ _ _ => decide (port < 24)
  | .replayLimit _ port => decide (port < 24)
  | .laneLockLoss _ port => decide (port < 24)
  | .symbolTimeout _ port => decide (port < 24)
  | .identityFrame _ port _ => decide (port < 24)
  | .linkTrainingDone _ port _ => decide (port < 24)
  | .trainingTimeout _ port => decide (port < 24)
  | .portCmdDisable _ port => decide (port < 24)
  | .portCmdTrain _ port => decide (port < 24)
  | .portCfgWrite _ port _ => decide (port < 24)
  | .qdepthClear _ port _ => decide (port < 24)
  | .routeSwitchWrite _ _ => true
  | .routeBankDrainEnd _ bank => decide (bank < 2)
  | .axmapLoad _ _ => true
  | .axmapClear _ => true
  | .axmapSwitchWrite _ _ => true
  | .reshardArm _ => true
  | .reshardCancel _ => true
  | .noticeTxSend _ _ => true
  | .numericsModeWrite _ _ => true
  | .groupOpen _ => true
  | .groupParams _ => true
  | .groupClose _ => true
  | .memCrcRetryExhausted _ access => decide (access.port < 32 ∧ 1 ≤ access.failed ∧ access.failed ≤ 5)
  | .memRetrainAbandoned _ port => decide (port < 32)
  | .ceThresholdExceeded _ port => decide (port < 32)
  | .ceWindowExpire _ port => decide (port < 32)
  | .sramScrub _ found => found.wf
  | .memInjectWrite _ _ => true
  | .resetCmdReset _ unit => decide (unit < 65536)
  | .resetCmdFence _ unit => decide (unit < 65536)
  | .resetCmdUnfence _ unit => decide (unit < 65536)
  | .resetCmdDump _ unit => decide (unit < 65536)
  | .fenceDrainTimeout _ unit => decide (unit < 65536)
  | .domainResetDone _ unit => decide (unit < 65536)
  | .hangDetected _ unit _ _ => decide (unit < 65536)
  | .strandedTaskFail _ task => decide (task < 32768)
  | .watchdogExpire _ => true
  | .dumpReadTimeout _ _ unit => decide (unit < 65536)
  | .crashDumpComplete _ => true
  | .hotReset _ => true
  | .d3hotEntry _ => true
  | .d0Return _ => true
  | .apertureRead _ aperture offset _ => decide (aperture < 64 ∧ offset < 0x80000000)
  | .apertureWrite _ aperture offset _ => decide (aperture < 64 ∧ offset < 0x80000000)
  | .hostReadCompletion _ _ _ => true
  | .hostReadTimeout _ _ => true
  | .registerWrite _ offset enables _ => decide (offset < 0x1000000 ∧ enables < 256)
  | .bar0BadRead _ => true
  | .firmwareLoad _ tag _ => decide (tag < 65536)
  | .planLoad _ tag _ => decide (tag < 65536)
  | .tableLoad _ tag _ => decide (tag < 65536)
  | .gesso _ tag _ => decide (tag < 65536)
  | .scrubSweep _ tag _ => decide (tag < 65536)
  | .portRetrain _ tag => decide (tag < 65536)
  | .selfTest _ tag => decide (tag < 65536)
  | .easelCrashDump _ tag => decide (tag < 65536)
  | .easelOpEnd _ _ => true
  | .easelTimeout _ _ => true
  | .pwrGoodAssert _ low _ => low.all fun r => r ≤ 12
  | .bringupStepDone _ _ => true
  | .pwrGoodDeassert _ => true
  | .supplyWarn _ rail _ => decide (rail ≤ 12)
  | .stretchRelease _ => true
  | .supplyReset _ level => decide (level.rail ≤ 12)
  | .supplyResetHoldEnd _ => true
  | .thermalSample _ _ _ => true
  | .throttleStep _ die => decide (die < 16)
  | .powerCmdOff _ => true
  | .refclkLost _ ref => decide (ref < 3)
  | .refclkRestored _ ref => decide (ref < 3)
  | .oscTrimUpdate _ _ => true
  | .clkCoreCfgWrite _ die _ => decide (die < 16)
  | .avsSetpointReached _ die => decide (die < 16)
  | .pllLockDone _ die => decide (die < 16)
  | .pllUnlock _ _ => true
  | .pllRelockTimeout _ die => decide (die < 16)
  | .clkFabCfgWrite _ _ => true
  | .clkGateOn _ unit => decide (unit < 65536)
  | .clkGateOff _ unit => decide (unit < 65536)
  | .clkGateHold _ unit => decide (unit < 65536)
  | .perstAssert _ => true
  | .perstDeassert _ => true
  | .meterSample _ _ => true
  | .meterIntervalBoundary _ => true
  | .meterSecondCheck _ _ _ => true
  | .vddMetFall _ => true
  | .vddMetReturn _ => true
  | .metCalEnAssert _ => true
  | .calBankWrite _ _ => true
  | .seal _ _ => true
  | .intervalLengthRequest _ _ _ => true
  | .energyReadoutLatch _ _ => true
  | .meterSnapshot _ => true
  | .mirrorStaleTimeout _ => true
  | .commitVersion _ => true
  | .debugUnlock _ _ => true
  | .debugLock _ => true
  | .ptInvalidate _ _ => true
  | .getVersion _ transport _ => decide (transport < 2)
  | .getCapabilities _ transport _ => decide (transport < 2)
  | .negotiateAlgorithms _ transport _ => decide (transport < 2)
  | .getDigests _ transport _ => decide (transport < 2)
  | .getCertificate _ transport _ => decide (transport < 2)
  | .challenge _ transport _ => decide (transport < 2)
  | .getMeasurements _ transport _ => decide (transport < 2)
  | .spdmUnsupportedRequest _ transport => decide (transport < 2)
  | .sidebandStatus _ => true
  | .sidebandLogRead _ _ _ => true
  | .sidebandRegRead _ offset => decide (offset < 0x1000000)
  | .sidebandDumpRead _ _ => true
  | .sidebandReset _ unit => decide (unit < 65536)
  | .sidebandPowerOff _ => true
  | .escClear _ => true
  | .sidebandCrashDump _ => true
  | .pldmBaseDiscovery _ => true
  | .pldmSensorRead _ _ => true
  | .pldmFirmwareUpdate _ _ => true
  | .mctpSetEndpointId _ message => message.ok
  | .sidebandAddressAssign _ _ => true
  | .vddCtlApplied _ => true
  | .railReturnsAboveWarning _ rail _ => decide (rail ≤ 12)
  | .configurationRequest _ _ => true
  | .metCalEnDeassert _ => true
  | .firmwareUpdateEnd _ => true

/-- The time at which a command takes effect. -/
def Instr.time : Instr → Nat
  | .strokeBoundary t => t
  | .maintSlotEnd t => t
  | .strokeMarkAccept t _ _ _ _ _ => t
  | .markTimeout t => t
  | .holdoverLimitExpire t => t
  | .voteWaitExpiry t _ _ => t
  | .strokeCfgWrite t _ => t
  | .strokeNumberWrite t _ => t
  | .sparePoolCfgWrite t _ => t
  | .stagedWriteResume t _ => t
  | .frameRecycle t => t
  | .transferAged t _ _ => t
  | .packetAgeDrop t _ => t
  | .doorbellPoll t _ _ => t
  | .sketch t _ _ => t
  | .sketchAdmitResume t _ => t
  | .slotSet t _ _ => t
  | .slotClear t _ _ => t
  | .slotEntryResume t _ => t
  | .arrivalSet t _ _ => t
  | .taskDispatch t _ _ => t
  | .updateTaskDispatch t _ _ => t
  | .taskComplete t _ => t
  | .updateTaskComplete t _ => t
  | .cqRecordsRelease t _ _ => t
  | .ctxOpen t _ => t
  | .ctxClose t _ => t
  | .contextRelease t _ => t
  | .releaseZeroFillDone t _ => t
  | .ctxSchedWrite t _ => t
  | .agStep t _ => t
  | .agHold t _ => t
  | .agSetdesc t _ => t
  | .agSetbase t _ => t
  | .agReset t _ => t
  | .agAddbase t _ => t
  | .sclAdd t _ => t
  | .sclSub t _ => t
  | .sclMul t _ => t
  | .sclAddi t _ => t
  | .sclMovi t _ => t
  | .sclSetlc t _ => t
  | .sclCtset t _ => t
  | .sclCtinc t _ => t
  | .sclCpset t _ => t
  | .flowLoop t _ => t
  | .flowJump t _ => t
  | .flowBreak t _ => t
  | .flowEnd t _ => t
  | .mxeMma t _ => t
  | .mxeWriteout t _ => t
  | .vxeLoad t _ => t
  | .vxeStore t _ => t
  | .vxeAdd t _ => t
  | .vxeSub t _ => t
  | .vxeMul t _ => t
  | .vxeFma t _ => t
  | .vxeDiv t _ => t
  | .vxeSqrt t _ => t
  | .vxeMax t _ => t
  | .vxeMin t _ => t
  | .vxeAbs t _ => t
  | .vxeNeg t _ => t
  | .vxeCopysign t _ => t
  | .vxeCmp t _ => t
  | .vxeSelect t _ => t
  | .vxeAddk t _ => t
  | .vxeMulk t _ => t
  | .vxeExp t _ => t
  | .vxeExp2 t _ => t
  | .vxeLn t _ => t
  | .vxeLog2 t _ => t
  | .vxeTanh t _ => t
  | .vxeSigmoid t _ => t
  | .vxeTeval t _ => t
  | .vxeTderiv t _ => t
  | .vxeTableLoad t _ => t
  | .vxeMov t _ => t
  | .normFwd t _ => t
  | .rmsFwd t _ => t
  | .smaxFwd t _ => t
  | .normBwd t _ => t
  | .rmsBwd t _ => t
  | .smaxBwd t _ => t
  | .spillSet t _ => t
  | .gather t _ => t
  | .scatter t _ => t
  | .txeCopyIn t _ => t
  | .txeCopyOut t _ => t
  | .txeReduce t _ => t
  | .txeRelay t _ => t
  | .syncWait t _ => t
  | .syncWaitRelease t _ _ => t
  | .interlockRelease t _ _ => t
  | .txeSlotFree t _ _ => t
  | .reduceFrameSend t _ _ => t
  | .upeLoad t _ => t
  | .upeStore t _ => t
  | .upeAdd t _ => t
  | .upeSub t _ => t
  | .upeMul t _ => t
  | .upeFma t _ => t
  | .upeDiv t _ => t
  | .upeSqrt t _ => t
  | .upeRsqrt t _ => t
  | .upeMax t _ => t
  | .upeMin t _ => t
  | .upeAbs t _ => t
  | .upeSelect t _ => t
  | .upeCmp t _ => t
  | .upeConv t _ => t
  | .upeClamp t _ => t
  | .eirData t _ _ => t
  | .eirTail t _ _ => t
  | .eirFinalData t _ _ => t
  | .eirFinalTail t _ _ => t
  | .eirRedo t _ _ => t
  | .reductionSlotFree t => t
  | .write t _ _ => t
  | .read t _ _ => t
  | .readData t _ _ => t
  | .relay t _ _ => t
  | .ack t _ _ => t
  | .nack t _ _ => t
  | .vote t _ _ => t
  | .voteResult t _ _ => t
  | .voidNotice t _ _ => t
  | .faultNoticeRx t _ _ => t
  | .peerAbsent t _ _ => t
  | .peerPresent t _ _ => t
  | .tableSwitch t _ _ => t
  | .packetForward t _ _ => t
  | .ackTimer t _ _ _ _ _ => t
  | .flowEntryExpire t _ _ _ _ _ => t
  | .linkControlSymbol t _ _ _ _ _ _ => t
  | .replayLimit t _ => t
  | .laneLockLoss t _ => t
  | .symbolTimeout t _ => t
  | .identityFrame t _ _ => t
  | .linkTrainingDone t _ _ => t
  | .trainingTimeout t _ => t
  | .portCmdDisable t _ => t
  | .portCmdTrain t _ => t
  | .portCfgWrite t _ _ => t
  | .qdepthClear t _ _ => t
  | .routeSwitchWrite t _ => t
  | .routeBankDrainEnd t _ => t
  | .axmapLoad t _ => t
  | .axmapClear t => t
  | .axmapSwitchWrite t _ => t
  | .reshardArm t => t
  | .reshardCancel t => t
  | .noticeTxSend t _ => t
  | .numericsModeWrite t _ => t
  | .groupOpen t => t
  | .groupParams t => t
  | .groupClose t => t
  | .memCrcRetryExhausted t _ => t
  | .memRetrainAbandoned t _ => t
  | .ceThresholdExceeded t _ => t
  | .ceWindowExpire t _ => t
  | .sramScrub t _ => t
  | .memInjectWrite t _ => t
  | .resetCmdReset t _ => t
  | .resetCmdFence t _ => t
  | .resetCmdUnfence t _ => t
  | .resetCmdDump t _ => t
  | .fenceDrainTimeout t _ => t
  | .domainResetDone t _ => t
  | .hangDetected t _ _ _ => t
  | .strandedTaskFail t _ => t
  | .watchdogExpire t => t
  | .dumpReadTimeout t _ _ => t
  | .crashDumpComplete t => t
  | .hotReset t => t
  | .d3hotEntry t => t
  | .d0Return t => t
  | .apertureRead t _ _ _ => t
  | .apertureWrite t _ _ _ => t
  | .hostReadCompletion t _ _ => t
  | .hostReadTimeout t _ => t
  | .registerWrite t _ _ _ => t
  | .bar0BadRead t => t
  | .firmwareLoad t _ _ => t
  | .planLoad t _ _ => t
  | .tableLoad t _ _ => t
  | .gesso t _ _ => t
  | .scrubSweep t _ _ => t
  | .portRetrain t _ => t
  | .selfTest t _ => t
  | .easelCrashDump t _ => t
  | .easelOpEnd t _ => t
  | .easelTimeout t _ => t
  | .pwrGoodAssert t _ _ => t
  | .bringupStepDone t _ => t
  | .pwrGoodDeassert t => t
  | .supplyWarn t _ _ => t
  | .stretchRelease t => t
  | .supplyReset t _ => t
  | .supplyResetHoldEnd t => t
  | .thermalSample t _ _ => t
  | .throttleStep t _ => t
  | .powerCmdOff t => t
  | .refclkLost t _ => t
  | .refclkRestored t _ => t
  | .oscTrimUpdate t _ => t
  | .clkCoreCfgWrite t _ _ => t
  | .avsSetpointReached t _ => t
  | .pllLockDone t _ => t
  | .pllUnlock t _ => t
  | .pllRelockTimeout t _ => t
  | .clkFabCfgWrite t _ => t
  | .clkGateOn t _ => t
  | .clkGateOff t _ => t
  | .clkGateHold t _ => t
  | .perstAssert t => t
  | .perstDeassert t => t
  | .meterSample t _ => t
  | .meterIntervalBoundary t => t
  | .meterSecondCheck t _ _ => t
  | .vddMetFall t => t
  | .vddMetReturn t => t
  | .metCalEnAssert t => t
  | .calBankWrite t _ => t
  | .seal t _ => t
  | .intervalLengthRequest t _ _ => t
  | .energyReadoutLatch t _ => t
  | .meterSnapshot t => t
  | .mirrorStaleTimeout t => t
  | .commitVersion t => t
  | .debugUnlock t _ => t
  | .debugLock t => t
  | .ptInvalidate t _ => t
  | .getVersion t _ _ => t
  | .getCapabilities t _ _ => t
  | .negotiateAlgorithms t _ _ => t
  | .getDigests t _ _ => t
  | .getCertificate t _ _ => t
  | .challenge t _ _ => t
  | .getMeasurements t _ _ => t
  | .spdmUnsupportedRequest t _ => t
  | .sidebandStatus t => t
  | .sidebandLogRead t _ _ => t
  | .sidebandRegRead t _ => t
  | .sidebandDumpRead t _ => t
  | .sidebandReset t _ => t
  | .sidebandPowerOff t => t
  | .escClear t => t
  | .sidebandCrashDump t => t
  | .pldmBaseDiscovery t => t
  | .pldmSensorRead t _ => t
  | .pldmFirmwareUpdate t _ => t
  | .mctpSetEndpointId t _ => t
  | .sidebandAddressAssign t _ => t
  | .vddCtlApplied t => t
  | .railReturnsAboveWarning t _ _ => t
  | .configurationRequest t _ => t
  | .metCalEnDeassert t => t
  | .firmwareUpdateEnd t => t

end Sys2Proof
end

