-- ==== Sys2Proof/Machine/Run.lean ====
section
/-! DEFINITION. How a command's meaning acts on the state: package time moves on to the command's time, and the package changes. -/

namespace Sys2Proof.Machine

/-- The package taken to a command's time and changed; the queue is as it was. Package time moves only with the commands (R469), and nothing but SEC_CMD COMMIT_VERSION blows a fuse (R588). -/
def State.run (s : State) (t : Nat) (f : Pkg → Pkg) : Host.Outcome State Fault Refusal :=
  let p := s.pkg.tick t
  .next { s with pkg := { f p with now := p.now, fuses := p.fuses } }

/-- The same where every unit that the command names exists. -/
def State.runIf (s : State) (ok : Bool) (t : Nat) (f : Pkg → Pkg) : Host.Outcome State Fault Refusal :=
  if ok then s.run t f else .fault .noSuchUnit

/-- SEC_CMD COMMIT_VERSION, by its own row or by a register write: it may blow fuses. -/
def State.runFuses (s : State) (t : Nat) (f : Pkg → Pkg) : Host.Outcome State Fault Refusal :=
  let p := s.pkg.tick t
  .next { s with pkg := { f p with now := p.now } }

/-- The command that starts package time anew (R469). -/
def State.restart (s : State) (f : Pkg → Pkg) : Host.Outcome State Fault Refusal :=
  .next { s with pkg := { f s.pkg with now := 0, fuses := s.pkg.fuses } }

end Sys2Proof.Machine
end

