-- ==== Sys2Proof/Machine/CmdClock.lean ====
section
/-! DEFINITION. Commands of references, clocks and gates (R540 to R553, R605). One definition per command over the shared operations. -/

namespace Sys2Proof.Machine

/-- REFCLK_LOST (R541). -/
def execRefclkLost (t : Nat) (ref : Nat) (s : State) : Host.Outcome State Fault Refusal :=
  s.runIf (decide (ref < 3)) t (fun p => p.refLost ref)

/-- REFCLK_RESTORED (R541). -/
def execRefclkRestored (t : Nat) (ref : Nat) (s : State) : Host.Outcome State Fault Refusal :=
  s.runIf (decide (ref < 3)) t (fun p => p.refRestored ref)

/-- OSC_TRIM_UPDATE (R542). -/
def execOscTrimUpdate (t : Nat) (correction : Int) (s : State) : Host.Outcome State Fault Refusal :=
  s.run t (fun p => p.trimUpdate correction)

/-- CLK_CORE_CFG_WRITE (R547). -/
def execClkCoreCfgWrite (t : Nat) (die : Nat) (value : Word) (s : State) : Host.Outcome State Fault Refusal :=
  s.runIf (decide (die < 16)) t (fun p => p.clkCoreWrite die value)

/-- AVS_SETPOINT_REACHED (R547). -/
def execAvsSetpointReached (t : Nat) (die : Nat) (s : State) : Host.Outcome State Fault Refusal :=
  s.runIf (decide (die < 16)) t (fun p => p.setpointReached die)

/-- PLL_LOCK_DONE (R547). -/
def execPllLockDone (t : Nat) (die : Nat) (s : State) : Host.Outcome State Fault Refusal :=
  s.runIf (decide (die < 16)) t (fun p => p.pllLock die)

/-- PLL_UNLOCK (R550). -/
def execPllUnlock (t : Nat) (pll : Nat) (s : State) : Host.Outcome State Fault Refusal :=
  s.run t (fun p => p.pllUnlock pll)

/-- PLL_RELOCK_TIMEOUT (R550). -/
def execPllRelockTimeout (t : Nat) (die : Nat) (s : State) : Host.Outcome State Fault Refusal :=
  s.runIf (decide (die < 16)) t (fun p => p.pllRelockTimeout die)

/-- CLK_FAB_CFG_WRITE (R546). -/
def execClkFabCfgWrite (t : Nat) (value : Word) (s : State) : Host.Outcome State Fault Refusal :=
  s.run t (fun p => p.clkFabWrite value)

/-- CLK_GATE_ON (R552). -/
def execClkGateOn (t : Nat) (unit : Nat) (s : State) : Host.Outcome State Fault Refusal :=
  s.runIf (decide (unit < 65536)) t (fun p => p.gateOn unit)

/-- CLK_GATE_OFF (R552). -/
def execClkGateOff (t : Nat) (unit : Nat) (s : State) : Host.Outcome State Fault Refusal :=
  s.runIf (decide (unit < 65536)) t (fun p => p.gateOff unit)

/-- CLK_GATE_HOLD (R552). -/
def execClkGateHold (t : Nat) (unit : Nat) (s : State) : Host.Outcome State Fault Refusal :=
  s.runIf (decide (unit < 65536)) t (fun p => p.gateHold unit)

end Sys2Proof.Machine
end

