-- ==== Sys2Proof/Machine/CmdCtx.lean ====
section
/-! DEFINITION. Commands of contexts (R214 to R217, R491). One definition per command over the shared operations. -/

namespace Sys2Proof.Machine

/-- CTX_OPEN (R215). -/
def execCtxOpen (t : Nat) (zero : Bool) (s : State) : Host.Outcome State Fault Refusal :=
  s.run t (fun p => p.ctxOpen zero)

/-- CTX_CLOSE (R216). -/
def execCtxClose (t : Nat) (zero : Bool) (s : State) : Host.Outcome State Fault Refusal :=
  s.run t (fun p => p.ctxClose zero)

/-- CONTEXT_RELEASE (R491). -/
def execContextRelease (t : Nat) (ctx : Nat) (s : State) : Host.Outcome State Fault Refusal :=
  s.runIf (decide (ctx < 4096)) t (fun p => p.contextRelease ctx)

/-- RELEASE_ZERO_FILL_DONE (R491). -/
def execReleaseZeroFillDone (t : Nat) (ctx : Nat) (s : State) : Host.Outcome State Fault Refusal :=
  s.runIf (decide (ctx < 4096)) t (fun p => p.zeroFillDone ctx)

/-- CTX_SCHED_WRITE (R215). -/
def execCtxSchedWrite (t : Nat) (value : Word) (s : State) : Host.Outcome State Fault Refusal :=
  s.run t (fun p => p.ctxSchedWrite value)

end Sys2Proof.Machine
end

