-- ==== Sys2Proof/Machine/CmdEasel.lean ====
section
/-! DEFINITION. Commands of the Easel port (R515 to R526). One definition per command over the shared operations. -/

namespace Sys2Proof.Machine

/-- FIRMWARE_LOAD (R522). -/
def execFirmwareLoad (t : Nat) (tag : Nat) (image : Bytes) (s : State) : Host.Outcome State Fault Refusal :=
  s.runIf (decide (tag < 65536)) t (fun p => p.firmwareLoad tag image)

/-- PLAN_LOAD (R415). -/
def execPlanLoad (t : Nat) (tag : Nat) (image : Bytes) (s : State) : Host.Outcome State Fault Refusal :=
  s.runIf (decide (tag < 65536)) t (fun p => p.planLoad tag image)

/-- TABLE_LOAD (R520). -/
def execTableLoad (t : Nat) (tag : Nat) (image : Bytes) (s : State) : Host.Outcome State Fault Refusal :=
  s.runIf (decide (tag < 65536)) t (fun p => p.tableLoad tag image)

/-- GESSO (R455). -/
def execGesso (t : Nat) (tag : Nat) (ranges : Bytes) (s : State) : Host.Outcome State Fault Refusal :=
  s.runIf (decide (tag < 65536)) t (fun p => p.gesso tag ranges)

/-- SCRUB_SWEEP (R521). -/
def execScrubSweep (t : Nat) (tag : Nat) (ranges : Bytes) (s : State) : Host.Outcome State Fault Refusal :=
  s.runIf (decide (tag < 65536)) t (fun p => p.scrubSweep tag ranges)

/-- PORT_RETRAIN (R523). -/
def execPortRetrain (t : Nat) (tag : Nat) (s : State) : Host.Outcome State Fault Refusal :=
  s.runIf (decide (tag < 65536)) t (fun p => p.portRetrain tag)

/-- SELF_TEST (R524). -/
def execSelfTest (t : Nat) (tag : Nat) (s : State) : Host.Outcome State Fault Refusal :=
  s.runIf (decide (tag < 65536)) t (fun p => p.selfTest tag)

/-- EASEL_CRASH_DUMP (R525). -/
def execEaselCrashDump (t : Nat) (tag : Nat) (s : State) : Host.Outcome State Fault Refusal :=
  s.runIf (decide (tag < 65536)) t (fun p => p.easelDump tag)

/-- EASEL_OP_END (R517). -/
def execEaselOpEnd (t : Nat) (result : EaselResult) (s : State) : Host.Outcome State Fault Refusal :=
  s.run t (fun p => p.easelOpEnd result)

/-- EASEL_TIMEOUT (R517). -/
def execEaselTimeout (t : Nat) (done : Nat) (s : State) : Host.Outcome State Fault Refusal :=
  s.run t (fun p => p.easelTimeout done)

/-- FIRMWARE_UPDATE_END (R522). -/
def execFirmwareUpdateEnd (t : Nat) (s : State) : Host.Outcome State Fault Refusal :=
  s.run t Pkg.fwUpdateEnd

end Sys2Proof.Machine
end

