-- ==== Sys2Proof/Machine/CmdHost.lean ====
section
/-! DEFINITION. Commands of the host port (R13, R506 to R512, R622). One definition per command over the shared operations. -/

namespace Sys2Proof.Machine

/-- HOT_RESET (R507). -/
def execHotReset (t : Nat) (s : State) : Host.Outcome State Fault Refusal :=
  s.run t Pkg.hotReset

/-- D3HOT_ENTRY (R507). -/
def execD3hotEntry (t : Nat) (s : State) : Host.Outcome State Fault Refusal :=
  s.run t Pkg.d3Entry

/-- D0_RETURN (R507). -/
def execD0Return (t : Nat) (s : State) : Host.Outcome State Fault Refusal :=
  s.run t Pkg.d0Return

/-- APERTURE_READ (R511). -/
def execApertureRead (t : Nat) (aperture offset len : Nat) (s : State) : Host.Outcome State Fault Refusal :=
  s.runIf (decide (aperture < 64 ∧ offset < 0x80000000)) t (fun p => p.apertureRead aperture offset len)

/-- APERTURE_WRITE (R511). -/
def execApertureWrite (t : Nat) (aperture offset : Nat) (data : Bytes) (s : State) : Host.Outcome State Fault Refusal :=
  s.runIf (decide (aperture < 64 ∧ offset < 0x80000000)) t (fun p => p.apertureWrite aperture offset data)

/-- HOST_READ_COMPLETION (R506). -/
def execHostReadCompletion (t : Nat) (kind : HostRead) (bad : Bool) (s : State) : Host.Outcome State Fault Refusal :=
  s.run t (fun p => p.hostReadDone kind bad)

/-- HOST_READ_TIMEOUT (R506). -/
def execHostReadTimeout (t : Nat) (kind : HostRead) (s : State) : Host.Outcome State Fault Refusal :=
  s.run t (fun p => p.hostReadTimeout kind)

/-- REGISTER_WRITE (R13). -/
def execRegisterWrite (t : Nat) (offset enables : Nat) (value : Word) (s : State) : Host.Outcome State Fault Refusal :=
  if commitsVersion offset enables value then s.runFuses t (fun p => p.registerWrite offset enables value)
  else s.runIf (decide (offset < 0x1000000 ∧ enables < 256)) t (fun p => p.registerWrite offset enables value)

/-- BAR0_BAD_READ (R13). -/
def execBar0BadRead (t : Nat) (s : State) : Host.Outcome State Fault Refusal :=
  s.run t Pkg.badRead

/-- PERST_N_ASSERT (R622). -/
def execPerstAssert (t : Nat) (s : State) : Host.Outcome State Fault Refusal :=
  s.run t Pkg.perstAssert

/-- PERST_N_DEASSERT (R622). -/
def execPerstDeassert (t : Nat) (s : State) : Host.Outcome State Fault Refusal :=
  s.run t Pkg.perstDeassert

/-- CONFIGURATION_REQUEST (R512). -/
def execConfigurationRequest (t : Nat) (request : ConfigReq) (s : State) : Host.Outcome State Fault Refusal :=
  s.run t (fun p => p.configRequest request)

end Sys2Proof.Machine
end

