-- ==== Sys2Proof/Machine/CmdLink.lean ====
section
/-! DEFINITION. Commands of links, ports and route banks (R338 to R371, R412 to R427). One definition per command over the shared operations. -/

namespace Sys2Proof.Machine

/-- LINK_CONTROL_SYMBOL (R346). -/
def execLinkControlSymbol (t : Nat) (port : Nat) (symbol : Bytes) (dataOk : Bool) (stalled fixed broken : Nat) (s : State) : Host.Outcome State Fault Refusal :=
  s.runIf (decide (port < 24)) t (fun p => p.controlSymbol port symbol dataOk stalled fixed broken)

/-- REPLAY_LIMIT (R347). -/
def execReplayLimit (t : Nat) (port : Nat) (s : State) : Host.Outcome State Fault Refusal :=
  s.runIf (decide (port < 24)) t (fun p => p.replayLimit port)

/-- LANE_LOCK_LOSS (R347). -/
def execLaneLockLoss (t : Nat) (port : Nat) (s : State) : Host.Outcome State Fault Refusal :=
  s.runIf (decide (port < 24)) t (fun p => p.laneLockLoss port)

/-- SYMBOL_TIMEOUT (R347). -/
def execSymbolTimeout (t : Nat) (port : Nat) (s : State) : Host.Outcome State Fault Refusal :=
  s.runIf (decide (port < 24)) t (fun p => p.symbolTimeout port)

/-- IDENTITY_FRAME (R413). -/
def execIdentityFrame (t : Nat) (port : Nat) (frame : Bytes) (s : State) : Host.Outcome State Fault Refusal :=
  s.runIf (decide (port < 24)) t (fun p => p.identityFrame port frame)

/-- LINK_TRAINING_DONE (R416). -/
def execLinkTrainingDone (t : Nat) (port delay : Nat) (s : State) : Host.Outcome State Fault Refusal :=
  s.runIf (decide (port < 24)) t (fun p => p.trainingDone port delay)

/-- TRAINING_TIMEOUT (R419). -/
def execTrainingTimeout (t : Nat) (port : Nat) (s : State) : Host.Outcome State Fault Refusal :=
  s.runIf (decide (port < 24)) t (fun p => p.trainingTimeout port)

/-- PORT_CMD_DISABLE (R340). -/
def execPortCmdDisable (t : Nat) (port : Nat) (s : State) : Host.Outcome State Fault Refusal :=
  s.runIf (decide (port < 24)) t (fun p => p.portDisable port)

/-- PORT_CMD_TRAIN (R342). -/
def execPortCmdTrain (t : Nat) (port : Nat) (s : State) : Host.Outcome State Fault Refusal :=
  s.runIf (decide (port < 24)) t (fun p => p.portTrain port)

/-- PORT_CFG_WRITE (R426). -/
def execPortCfgWrite (t : Nat) (port : Nat) (value : Word) (s : State) : Host.Outcome State Fault Refusal :=
  s.runIf (decide (port < 24)) t (fun p => p.portCfgWrite port value)

/-- QDEPTH_CLEAR (R371). -/
def execQdepthClear (t : Nat) (port : Nat) (value : Word) (s : State) : Host.Outcome State Fault Refusal :=
  s.runIf (decide (port < 24)) t (fun p => p.qdepthClear port value)

/-- ROUTE_SWITCH_WRITE (R368). -/
def execRouteSwitchWrite (t : Nat) (value : Word) (s : State) : Host.Outcome State Fault Refusal :=
  s.run t (fun p => p.routeSwitchWrite value)

/-- ROUTE_BANK_DRAIN_END (R368). -/
def execRouteBankDrainEnd (t : Nat) (bank : Nat) (s : State) : Host.Outcome State Fault Refusal :=
  s.runIf (decide (bank < 2)) t (fun p => p.drainEnd bank)

end Sys2Proof.Machine
end

