-- ==== Sys2Proof/Machine/CmdMap.lean ====
section
/-! DEFINITION. Commands of axis maps, re-sharding and peer notices (R376 to R406, R423). One definition per command over the shared operations. -/

namespace Sys2Proof.Machine

/-- AXMAP_LOAD (R376). -/
def execAxmapLoad (t : Nat) (image : Bytes) (s : State) : Host.Outcome State Fault Refusal :=
  s.run t (fun p => p.axLoad image)

/-- AXMAP_CLEAR (R376). -/
def execAxmapClear (t : Nat) (s : State) : Host.Outcome State Fault Refusal :=
  s.run t Pkg.axClear

/-- AXMAP_SWITCH_WRITE (R377). -/
def execAxmapSwitchWrite (t : Nat) (value : Word) (s : State) : Host.Outcome State Fault Refusal :=
  s.run t (fun p => p.axSwitchWrite value)

/-- RESHARD_ARM (R405). -/
def execReshardArm (t : Nat) (s : State) : Host.Outcome State Fault Refusal :=
  s.run t Pkg.reshardArmCmd

/-- RESHARD_CANCEL (R403). -/
def execReshardCancel (t : Nat) (s : State) : Host.Outcome State Fault Refusal :=
  s.run t Pkg.reshardCancelCmd

/-- NOTICE_TX_SEND (R423). -/
def execNoticeTxSend (t : Nat) (value : Word) (s : State) : Host.Outcome State Fault Refusal :=
  s.run t (fun p => p.noticeSend value)

end Sys2Proof.Machine
end

