-- ==== Sys2Proof/Machine/CmdMemory.lean ====
section
/-! DEFINITION. Commands of memory protection (chapter 13). One definition per command over the shared operations. -/

namespace Sys2Proof.Machine

/-- MEM_CRC_RETRY_EXHAUSTED (R431). -/
def execMemCrcRetryExhausted (t : Nat) (access : CrcAccess) (s : State) : Host.Outcome State Fault Refusal :=
  s.runIf (decide (access.port < 32 ∧ 1 ≤ access.failed ∧ access.failed ≤ 5)) t (fun p => p.crcExhausted access.port access.failed)

/-- MEM_RETRAIN_ABANDONED (R445). -/
def execMemRetrainAbandoned (t : Nat) (port : Nat) (s : State) : Host.Outcome State Fault Refusal :=
  s.runIf (decide (port < 32)) t (fun p => p.memAbandoned port)

/-- CE_THRESHOLD_EXCEEDED (R447). -/
def execCeThresholdExceeded (t : Nat) (port : Nat) (s : State) : Host.Outcome State Fault Refusal :=
  s.runIf (decide (port < 32)) t (fun p => p.ceThreshold port)

/-- CE_WINDOW_EXPIRE (R447). -/
def execCeWindowExpire (t : Nat) (port : Nat) (s : State) : Host.Outcome State Fault Refusal :=
  s.runIf (decide (port < 32)) t (fun p => p.ceWindow port)

/-- SRAM_SCRUB (R457). -/
def execSramScrub (t : Nat) (found : SramFault) (s : State) : Host.Outcome State Fault Refusal :=
  s.runIf (found.wf) t (fun p => p.sramFound found)

/-- MEM_INJECT_WRITE (R464). -/
def execMemInjectWrite (t : Nat) (value : Word) (s : State) : Host.Outcome State Fault Refusal :=
  s.run t (fun p => p.hostWrite 0x0C8018 value fun p => p.memInject value)

end Sys2Proof.Machine
end

