-- ==== Sys2Proof/Machine/CmdMeter.lean ====
section
/-! DEFINITION. Commands of the sealed meter and its mirror (chapter 17). One definition per command over the shared operations. -/

namespace Sys2Proof.Machine

/-- METER_SAMPLE (R559). -/
def execMeterSample (t : Nat) (rails : List (Nat × Nat)) (s : State) : Host.Outcome State Fault Refusal :=
  s.run t (fun p => p.meterSample rails)

/-- METER_INTERVAL_BOUNDARY (R564). -/
def execMeterIntervalBoundary (t : Nat) (s : State) : Host.Outcome State Fault Refusal :=
  s.run t Pkg.meterBoundary

/-- METER_SECOND_CHECK (R563). -/
def execMeterSecondCheck (t : Nat) (crystal : Bool) (differ : Nat) (s : State) : Host.Outcome State Fault Refusal :=
  s.run t (fun p => p.meterSecond crystal differ)

/-- VDD_MET_FALL (R570). -/
def execVddMetFall (t : Nat) (s : State) : Host.Outcome State Fault Refusal :=
  s.run t Pkg.metFall

/-- VDD_MET_RETURN (R570). -/
def execVddMetReturn (t : Nat) (s : State) : Host.Outcome State Fault Refusal :=
  s.run t Pkg.metReturn

/-- MET_CAL_EN_ASSERT (R572). -/
def execMetCalEnAssert (t : Nat) (s : State) : Host.Outcome State Fault Refusal :=
  s.run t Pkg.calAssert

/-- CAL_BANK_WRITE (R573). -/
def execCalBankWrite (t : Nat) (set : CalSet) (s : State) : Host.Outcome State Fault Refusal :=
  s.run t (fun p => p.calBank set)

/-- SEAL (R574). -/
def execSeal (t : Nat) (signature : Bytes) (s : State) : Host.Outcome State Fault Refusal :=
  s.run t (fun p => p.sealMeter signature)

/-- INTERVAL_LENGTH_REQUEST (R579). -/
def execIntervalLengthRequest (t : Nat) (select length : Option Nat) (s : State) : Host.Outcome State Fault Refusal :=
  s.run t (fun p => p.lengthRequest select length)

/-- ENERGY_READOUT_LATCH (R577). -/
def execEnergyReadoutLatch (t : Nat) (read : MeterRead) (s : State) : Host.Outcome State Fault Refusal :=
  s.run t (fun p => p.meterLatch read)

/-- METER_SNAPSHOT (R580). -/
def execMeterSnapshot (t : Nat) (s : State) : Host.Outcome State Fault Refusal :=
  s.run t Pkg.meterSnapshot

/-- MIRROR_STALE_TIMEOUT (R582). -/
def execMirrorStaleTimeout (t : Nat) (s : State) : Host.Outcome State Fault Refusal :=
  s.run t Pkg.mirrorStale

/-- MET_CAL_EN_DEASSERT (R572). -/
def execMetCalEnDeassert (t : Nat) (s : State) : Host.Outcome State Fault Refusal :=
  s.run t Pkg.calDeassert

end Sys2Proof.Machine
end

