-- ==== Sys2Proof/Machine/CmdNumerics.lean ====
section
/-! DEFINITION. Commands of the numerics mode and parameter groups (R248, R298). One definition per command over the shared operations. -/

namespace Sys2Proof.Machine

/-- NUMERICS_MODE_WRITE (R248). -/
def execNumericsModeWrite (t : Nat) (value : Word) (s : State) : Host.Outcome State Fault Refusal :=
  s.run t (fun p => p.numericsMode value)

/-- GROUP_OPEN (R298). -/
def execGroupOpen (t : Nat) (s : State) : Host.Outcome State Fault Refusal :=
  s.run t Pkg.groupOpen

/-- GROUP_PARAMS (R298). -/
def execGroupParams (t : Nat) (s : State) : Host.Outcome State Fault Refusal :=
  s.run t Pkg.groupParams

/-- GROUP_CLOSE (R298). -/
def execGroupClose (t : Nat) (s : State) : Host.Outcome State Fault Refusal :=
  s.run t Pkg.groupClose

end Sys2Proof.Machine
end

