-- ==== Sys2Proof/Machine/CmdPacket.lean ====
section
/-! DEFINITION. Commands of packets at a port or an endpoint (chapters 9 to 12). One definition per command over the shared operations. -/

namespace Sys2Proof.Machine

/-- EIR_DATA (R319). -/
def execEirData (t : Nat) (arr : Option Nat) (packet : Packet) (s : State) : Host.Outcome State Fault Refusal :=
  s.runIf (arr.all fun n => n < 24) t (fun p => p.packetIn opEIRDATA arr packet)

/-- EIR_TAIL (R321). -/
def execEirTail (t : Nat) (arr : Option Nat) (packet : Packet) (s : State) : Host.Outcome State Fault Refusal :=
  s.runIf (arr.all fun n => n < 24) t (fun p => p.packetIn opEIRTAIL arr packet)

/-- EIR_FINAL_DATA (R325). -/
def execEirFinalData (t : Nat) (arr : Option Nat) (packet : Packet) (s : State) : Host.Outcome State Fault Refusal :=
  s.runIf (arr.all fun n => n < 24) t (fun p => p.packetIn opEIRFDATA arr packet)

/-- EIR_FINAL_TAIL (R325). -/
def execEirFinalTail (t : Nat) (arr : Option Nat) (packet : Packet) (s : State) : Host.Outcome State Fault Refusal :=
  s.runIf (arr.all fun n => n < 24) t (fun p => p.packetIn opEIRFTAIL arr packet)

/-- EIR_REDO (R323). -/
def execEirRedo (t : Nat) (arr : Option Nat) (packet : Packet) (s : State) : Host.Outcome State Fault Refusal :=
  s.runIf (arr.all fun n => n < 24) t (fun p => p.packetIn opEIRREDO arr packet)

/-- REDUCTION_SLOT_FREE (R320). -/
def execReductionSlotFree (t : Nat) (s : State) : Host.Outcome State Fault Refusal :=
  s.run t (fun p => p.slotsFreed)

/-- WRITE (R364). -/
def execWrite (t : Nat) (arr : Option Nat) (packet : Packet) (s : State) : Host.Outcome State Fault Refusal :=
  s.runIf (arr.all fun n => n < 24) t (fun p => p.packetIn opWRITE arr packet)

/-- READ (R365). -/
def execRead (t : Nat) (arr : Option Nat) (packet : Packet) (s : State) : Host.Outcome State Fault Refusal :=
  s.runIf (arr.all fun n => n < 24) t (fun p => p.packetIn opREAD arr packet)

/-- READ_DATA (R365). -/
def execReadData (t : Nat) (arr : Option Nat) (packet : Packet) (s : State) : Host.Outcome State Fault Refusal :=
  s.runIf (arr.all fun n => n < 24) t (fun p => p.packetIn opREADDATA arr packet)

/-- RELAY (R392). -/
def execRelay (t : Nat) (arr : Option Nat) (packet : Packet) (s : State) : Host.Outcome State Fault Refusal :=
  s.runIf (arr.all fun n => n < 24) t (fun p => p.packetIn opRELAY arr packet)

/-- ACK (R365). -/
def execAck (t : Nat) (arr : Option Nat) (packet : Packet) (s : State) : Host.Outcome State Fault Refusal :=
  s.runIf (arr.all fun n => n < 24) t (fun p => p.packetIn opACK arr packet)

/-- NACK (R384). -/
def execNack (t : Nat) (arr : Option Nat) (packet : Packet) (s : State) : Host.Outcome State Fault Refusal :=
  s.runIf (arr.all fun n => n < 24) t (fun p => p.packetIn opNACK arr packet)

/-- VOTE (R71). -/
def execVote (t : Nat) (arr : Option Nat) (packet : Packet) (s : State) : Host.Outcome State Fault Refusal :=
  s.runIf (arr.all fun n => n < 24) t (fun p => p.packetIn opVOTE arr packet)

/-- VOTE_RESULT (R73). -/
def execVoteResult (t : Nat) (arr : Option Nat) (packet : Packet) (s : State) : Host.Outcome State Fault Refusal :=
  s.runIf (arr.all fun n => n < 24) t (fun p => p.packetIn opVOTERES arr packet)

/-- VOID_NOTICE (R77). -/
def execVoidNotice (t : Nat) (arr : Option Nat) (packet : Packet) (s : State) : Host.Outcome State Fault Refusal :=
  s.runIf (arr.all fun n => n < 24) t (fun p => p.packetIn opVOID arr packet)

/-- FAULT_NOTICE_RX (R422). -/
def execFaultNoticeRx (t : Nat) (arr : Option Nat) (packet : Packet) (s : State) : Host.Outcome State Fault Refusal :=
  s.runIf (arr.all fun n => n < 24) t (fun p => p.packetIn opFAULT arr packet)

/-- PEER_ABSENT (R424). -/
def execPeerAbsent (t : Nat) (arr : Option Nat) (packet : Packet) (s : State) : Host.Outcome State Fault Refusal :=
  s.runIf (arr.all fun n => n < 24) t (fun p => p.peerIn 1 arr packet)

/-- PEER_PRESENT (R424). -/
def execPeerPresent (t : Nat) (arr : Option Nat) (packet : Packet) (s : State) : Host.Outcome State Fault Refusal :=
  s.runIf (arr.all fun n => n < 24) t (fun p => p.peerIn 2 arr packet)

/-- TABLE_SWITCH (R424). -/
def execTableSwitch (t : Nat) (arr : Option Nat) (packet : Packet) (s : State) : Host.Outcome State Fault Refusal :=
  s.runIf (arr.all fun n => n < 24) t (fun p => p.peerIn 3 arr packet)

/-- PACKET_FORWARD (R356). -/
def execPacketForward (t : Nat) (arr : Option Nat) (packet : Packet) (s : State) : Host.Outcome State Fault Refusal :=
  s.runIf (arr.all fun n => n < 24) t (fun p => p.arriveAt arr packet)

/-- ACK_TIMER (R365). -/
def execAckTimer (t : Nat) (src dst ctx gen cls : Nat) (s : State) : Host.Outcome State Fault Refusal :=
  s.run t (fun p => p.ackTimer src dst ctx gen cls)

/-- FLOW_ENTRY_EXPIRE (R364). -/
def execFlowEntryExpire (t : Nat) (src dst ctx gen cls : Nat) (s : State) : Host.Outcome State Fault Refusal :=
  s.run t (fun p => p.flowExpire src dst ctx gen cls)

end Sys2Proof.Machine
end

