-- ==== Sys2Proof/Machine/CmdPower.lean ====
section
/-! DEFINITION. Commands of supplies, bring-up and temperatures (R469, R530 to R539, R555). One definition per command over the shared operations. -/

namespace Sys2Proof.Machine

/-- PWR_GOOD_ASSERT (R531). -/
def execPwrGoodAssert (t : Nat) (low : Option Nat) (board : BoardPins) (s : State) : Host.Outcome State Fault Refusal :=
  s.runIf (low.all fun r => r ≤ 12) t (fun p => p.pwrGoodRise low board)

/-- BRINGUP_STEP_DONE (R555). -/
def execBringupStepDone (t : Nat) (result : StepResult) (s : State) : Host.Outcome State Fault Refusal :=
  s.run t (fun p => p.stepDone result)

/-- PWR_GOOD_DEASSERT (R532). -/
def execPwrGoodDeassert (t : Nat) (s : State) : Host.Outcome State Fault Refusal :=
  s.run t Pkg.pwrGoodFall

/-- SUPPLY_WARN (R535). -/
def execSupplyWarn (t : Nat) (rail mv : Nat) (s : State) : Host.Outcome State Fault Refusal :=
  s.runIf (decide (rail ≤ 12)) t (fun p => p.supplyWarn rail mv)

/-- STRETCH_RELEASE (R535). -/
def execStretchRelease (t : Nat) (s : State) : Host.Outcome State Fault Refusal :=
  s.run t Pkg.stretchRelease

/-- SUPPLY_RESET (R536). -/
def execSupplyReset (t : Nat) (level : RailLevel) (s : State) : Host.Outcome State Fault Refusal :=
  if !decide (level.rail ≤ 12) then .fault .noSuchUnit
  else if level.rail = 11 ∧ s.pkg.belowReset 11 level.mv then s.restart fun p => p.standby false
  else s.run t (fun p => p.supplyReset level)

/-- SUPPLY_RESET_HOLD_END (R536). -/
def execSupplyResetHoldEnd (t : Nat) (s : State) : Host.Outcome State Fault Refusal :=
  s.run t Pkg.supplyHoldEnd

/-- THERMAL_SAMPLE (R538). -/
def execThermalSample (t : Nat) (dies : List (List Int)) (devices : List Nat) (s : State) : Host.Outcome State Fault Refusal :=
  s.run t (fun p => p.thermalSample dies devices)

/-- THROTTLE_STEP (R605). -/
def execThrottleStep (t : Nat) (die : Nat) (s : State) : Host.Outcome State Fault Refusal :=
  s.runIf (decide (die < 16)) t (fun p => p.throttleStep die)

/-- POWER_CMD_OFF (R539). -/
def execPowerCmdOff (t : Nat) (s : State) : Host.Outcome State Fault Refusal :=
  s.run t Pkg.powerCmdOff

/-- VDD_CTL_APPLIED (R469). -/
def execVddCtlApplied (_ : Nat) (s : State) : Host.Outcome State Fault Refusal :=
  s.restart fun p => p.standby true

/-- RAIL_RETURNS_ABOVE_WARNING (R535). -/
def execRailReturnsAboveWarning (t : Nat) (rail mv : Nat) (s : State) : Host.Outcome State Fault Refusal :=
  s.runIf (decide (rail ≤ 12)) t (fun p => p.railReturns rail mv)

end Sys2Proof.Machine
end

