-- ==== Sys2Proof/Machine/CmdReset.lean ====
section
/-! DEFINITION. Commands of resets, fences, hangs and dumps (chapter 14). One definition per command over the shared operations. -/

namespace Sys2Proof.Machine

/-- RESET_CMD_RESET (R472). -/
def execResetCmdReset (t : Nat) (unit : Nat) (s : State) : Host.Outcome State Fault Refusal :=
  s.runIf (decide (unit < 65536)) t (fun p => p.resetCmdReset unit)

/-- RESET_CMD_FENCE (R489). -/
def execResetCmdFence (t : Nat) (unit : Nat) (s : State) : Host.Outcome State Fault Refusal :=
  s.runIf (decide (unit < 65536)) t (fun p => p.resetCmdFence unit)

/-- RESET_CMD_UNFENCE (R489). -/
def execResetCmdUnfence (t : Nat) (unit : Nat) (s : State) : Host.Outcome State Fault Refusal :=
  s.runIf (decide (unit < 65536)) t (fun p => p.resetCmdUnfence unit)

/-- RESET_CMD_DUMP (R495). -/
def execResetCmdDump (t : Nat) (unit : Nat) (s : State) : Host.Outcome State Fault Refusal :=
  s.runIf (decide (unit < 65536)) t (fun p => p.resetCmdDump unit)

/-- FENCE_DRAIN_TIMEOUT (R489). -/
def execFenceDrainTimeout (t : Nat) (unit : Nat) (s : State) : Host.Outcome State Fault Refusal :=
  s.runIf (decide (unit < 65536)) t (fun p => p.fenceDrain unit)

/-- DOMAIN_RESET_DONE (R471). -/
def execDomainResetDone (t : Nat) (unit : Nat) (s : State) : Host.Outcome State Fault Refusal :=
  s.runIf (decide (unit < 65536)) t (fun p => p.domainDone unit)

/-- HANG_DETECTED (R480). -/
def execHangDetected (t : Nat) (unit rule streak : Nat) (s : State) : Host.Outcome State Fault Refusal :=
  s.runIf (decide (unit < 65536)) t (fun p => p.hangFound unit rule streak)

/-- STRANDED_TASK_FAIL (R483). -/
def execStrandedTaskFail (t : Nat) (task : Nat) (s : State) : Host.Outcome State Fault Refusal :=
  s.runIf (decide (task < 32768)) t (fun p => p.strandedFail task)

/-- WATCHDOG_EXPIRE (R472). -/
def execWatchdogExpire (t : Nat) (s : State) : Host.Outcome State Fault Refusal :=
  s.run t Pkg.watchdog

/-- DUMP_READ_TIMEOUT (R498). -/
def execDumpReadTimeout (t : Nat) (kind unit : Nat) (s : State) : Host.Outcome State Fault Refusal :=
  s.runIf (decide (unit < 65536)) t (fun p => p.dumpTimeout kind unit)

/-- CRASH_DUMP_COMPLETE (R498). -/
def execCrashDumpComplete (t : Nat) (s : State) : Host.Outcome State Fault Refusal :=
  s.run t Pkg.dumpDone

end Sys2Proof.Machine
end

