-- ==== Sys2Proof/Machine/CmdRing.lean ====
section
/-! DEFINITION. Commands of rings, sketches, slots and tasks (chapter 6). One definition per command over the shared operations. -/

namespace Sys2Proof.Machine

/-- DOORBELL_POLL (R221). -/
def execDoorbellPoll (t : Nat) (indices : List (Nat × Nat)) (others : List (Nat × Bytes)) (s : State) : Host.Outcome State Fault Refusal :=
  s.runIf ((indices.all fun x => x.1 < 4096) && others.all fun x => x.1 < 4096) t (fun p => p.poll indices others)

/-- SKETCH (R235). -/
def execSketch (t : Nat) (ctx : Nat) (entry : Bytes) (s : State) : Host.Outcome State Fault Refusal :=
  s.runIf (decide (ctx < 4096)) t (fun p => p.sketch ctx entry)

/-- SKETCH_ADMIT_RESUME (R235). -/
def execSketchAdmitResume (t : Nat) (ctx : Nat) (s : State) : Host.Outcome State Fault Refusal :=
  s.runIf (decide (ctx < 4096)) t (fun p => p.sketchResume ctx)

/-- SLOT_SET (R230). -/
def execSlotSet (t : Nat) (ctx : Nat) (entry : Bytes) (s : State) : Host.Outcome State Fault Refusal :=
  s.runIf (decide (ctx < 4096)) t (fun p => p.slotOp ctx 2 entry)

/-- SLOT_CLEAR (R230). -/
def execSlotClear (t : Nat) (ctx : Nat) (entry : Bytes) (s : State) : Host.Outcome State Fault Refusal :=
  s.runIf (decide (ctx < 4096)) t (fun p => p.slotOp ctx 3 entry)

/-- SLOT_ENTRY_RESUME (R230). -/
def execSlotEntryResume (t : Nat) (ctx : Nat) (s : State) : Host.Outcome State Fault Refusal :=
  s.runIf (decide (ctx < 4096)) t (fun p => p.slotResume ctx)

/-- ARRIVAL_SET (R238). -/
def execArrivalSet (t : Nat) (ctx : Nat) (entry : Bytes) (s : State) : Host.Outcome State Fault Refusal :=
  s.runIf (decide (ctx < 4096)) t (fun p => p.arrivalSet ctx entry)

/-- TASK_DISPATCH (R237). -/
def execTaskDispatch (t : Nat) (task core : Nat) (s : State) : Host.Outcome State Fault Refusal :=
  s.runIf (decide (task < 32768 ∧ core < 512)) t (fun p => p.dispatch task core false)

/-- UPDATE_TASK_DISPATCH (R288). -/
def execUpdateTaskDispatch (t : Nat) (task cluster : Nat) (s : State) : Host.Outcome State Fault Refusal :=
  s.runIf (decide (task < 32768 ∧ cluster < 64)) t (fun p => p.dispatch task cluster true)

/-- TASK_COMPLETE (R190). -/
def execTaskComplete (t : Nat) (core : Nat) (s : State) : Host.Outcome State Fault Refusal :=
  s.runIf (decide (core < 512)) t (fun p => p.taskComplete core)

/-- UPDATE_TASK_COMPLETE (R283). -/
def execUpdateTaskComplete (t : Nat) (cluster : Nat) (s : State) : Host.Outcome State Fault Refusal :=
  s.runIf (decide (cluster < 64)) t (fun p => p.updateComplete cluster)

/-- CQ_RECORDS_RELEASE (R233). -/
def execCqRecordsRelease (t : Nat) (ctx consumer : Nat) (s : State) : Host.Outcome State Fault Refusal :=
  s.runIf (decide (ctx < 4096)) t (fun p => p.cqRelease ctx consumer)

end Sys2Proof.Machine
end

