-- ==== Sys2Proof/Machine/CmdRows.lean ====
section
/-! DEFINITION. Commands of the row engine and the sparsity and dispatch engine (R150 to R164). One definition per command over the shared operations. -/

namespace Sys2Proof.Machine

/-- NORM_FWD (R150). -/
def execNormFwd (t : Nat) (core : Nat) (s : State) : Host.Outcome State Fault Refusal :=
  s.runIf (decide (core < 512)) t (fun p => p.coreOp core [6] 1)

/-- RMS_FWD (R150). -/
def execRmsFwd (t : Nat) (core : Nat) (s : State) : Host.Outcome State Fault Refusal :=
  s.runIf (decide (core < 512)) t (fun p => p.coreOp core [6] 2)

/-- SMAX_FWD (R150). -/
def execSmaxFwd (t : Nat) (core : Nat) (s : State) : Host.Outcome State Fault Refusal :=
  s.runIf (decide (core < 512)) t (fun p => p.coreOp core [6] 3)

/-- NORM_BWD (R150). -/
def execNormBwd (t : Nat) (core : Nat) (s : State) : Host.Outcome State Fault Refusal :=
  s.runIf (decide (core < 512)) t (fun p => p.coreOp core [6] 4)

/-- RMS_BWD (R150). -/
def execRmsBwd (t : Nat) (core : Nat) (s : State) : Host.Outcome State Fault Refusal :=
  s.runIf (decide (core < 512)) t (fun p => p.coreOp core [6] 5)

/-- SMAX_BWD (R150). -/
def execSmaxBwd (t : Nat) (core : Nat) (s : State) : Host.Outcome State Fault Refusal :=
  s.runIf (decide (core < 512)) t (fun p => p.coreOp core [6] 6)

/-- SPILL_SET (R153). -/
def execSpillSet (t : Nat) (core : Nat) (s : State) : Host.Outcome State Fault Refusal :=
  s.runIf (decide (core < 512)) t (fun p => p.coreOp core [6] 7)

/-- GATHER (R162). -/
def execGather (t : Nat) (core : Nat) (s : State) : Host.Outcome State Fault Refusal :=
  s.runIf (decide (core < 512)) t (fun p => p.coreOp core [7] 1)

/-- SCATTER (R164). -/
def execScatter (t : Nat) (core : Nat) (s : State) : Host.Outcome State Fault Refusal :=
  s.runIf (decide (core < 512)) t (fun p => p.coreOp core [7] 2)

end Sys2Proof.Machine
end

