-- ==== Sys2Proof/Machine/CmdSecurity.lean ====
section
/-! DEFINITION. Commands of secure boot, debug and attestation (R586 to R597). One definition per command over the shared operations. -/

namespace Sys2Proof.Machine

/-- COMMIT_VERSION (R588). -/
def execCommitVersion (t : Nat) (s : State) : Host.Outcome State Fault Refusal :=
  s.runFuses t Pkg.commitVersion

/-- DEBUG_UNLOCK (R593). -/
def execDebugUnlock (t : Nat) (token : Bytes) (s : State) : Host.Outcome State Fault Refusal :=
  s.run t (fun p => p.debugUnlock token)

/-- DEBUG_LOCK (R593). -/
def execDebugLock (t : Nat) (s : State) : Host.Outcome State Fault Refusal :=
  s.run t Pkg.debugLock

/-- PT_INVALIDATE (R597). -/
def execPtInvalidate (t : Nat) (value : Word) (s : State) : Host.Outcome State Fault Refusal :=
  s.run t (fun p => p.ptInvalidate value)

/-- GET_VERSION (R590). -/
def execGetVersion (t : Nat) (transport : Nat) (request : Bytes) (s : State) : Host.Outcome State Fault Refusal :=
  s.runIf (decide (transport < 2)) t (fun p => p.getVersion transport request)

/-- GET_CAPABILITIES (R590). -/
def execGetCapabilities (t : Nat) (transport : Nat) (request : Bytes) (s : State) : Host.Outcome State Fault Refusal :=
  s.runIf (decide (transport < 2)) t (fun p => p.getCapabilities transport request)

/-- NEGOTIATE_ALGORITHMS (R590). -/
def execNegotiateAlgorithms (t : Nat) (transport : Nat) (request : Bytes) (s : State) : Host.Outcome State Fault Refusal :=
  s.runIf (decide (transport < 2)) t (fun p => p.negotiateAlgorithms transport request)

/-- GET_DIGESTS (R590). -/
def execGetDigests (t : Nat) (transport : Nat) (request : Bytes) (s : State) : Host.Outcome State Fault Refusal :=
  s.runIf (decide (transport < 2)) t (fun p => p.getDigests transport request)

/-- GET_CERTIFICATE (R590). -/
def execGetCertificate (t : Nat) (transport : Nat) (request : Bytes) (s : State) : Host.Outcome State Fault Refusal :=
  s.runIf (decide (transport < 2)) t (fun p => p.getCertificate transport request)

/-- CHALLENGE (R590). -/
def execChallenge (t : Nat) (transport : Nat) (request : Bytes) (s : State) : Host.Outcome State Fault Refusal :=
  s.runIf (decide (transport < 2)) t (fun p => p.challenge transport request)

/-- GET_MEASUREMENTS (R591). -/
def execGetMeasurements (t : Nat) (transport : Nat) (request : Bytes) (s : State) : Host.Outcome State Fault Refusal :=
  s.runIf (decide (transport < 2)) t (fun p => p.getMeasurements transport request)

/-- SPDM_UNSUPPORTED_REQUEST (R590). -/
def execSpdmUnsupportedRequest (t : Nat) (transport : Nat) (s : State) : Host.Outcome State Fault Refusal :=
  s.runIf (decide (transport < 2)) t (fun p => p.spdmUnsupported transport)

end Sys2Proof.Machine
end

