-- ==== Sys2Proof/Machine/CmdSeq.lean ====
section
/-! DEFINITION. Commands of the sequencer and the matrix engine: address generators, scalars, flow (R179 to R195). One definition per command over the shared operations. -/

namespace Sys2Proof.Machine

/-- AG_STEP (R179). -/
def execAgStep (t : Nat) (core : Nat) (s : State) : Host.Outcome State Fault Refusal :=
  s.runIf (decide (core < 512)) t (fun p => p.coreOp core [1, 2, 3] 1)

/-- AG_HOLD (R179). -/
def execAgHold (t : Nat) (core : Nat) (s : State) : Host.Outcome State Fault Refusal :=
  s.runIf (decide (core < 512)) t (fun p => p.coreOp core [1, 2, 3] 2)

/-- AG_SETDESC (R179). -/
def execAgSetdesc (t : Nat) (core : Nat) (s : State) : Host.Outcome State Fault Refusal :=
  s.runIf (decide (core < 512)) t (fun p => p.coreOp core [1, 2, 3] 3)

/-- AG_SETBASE (R179). -/
def execAgSetbase (t : Nat) (core : Nat) (s : State) : Host.Outcome State Fault Refusal :=
  s.runIf (decide (core < 512)) t (fun p => p.coreOp core [1, 2, 3] 4)

/-- AG_RESET (R179). -/
def execAgReset (t : Nat) (core : Nat) (s : State) : Host.Outcome State Fault Refusal :=
  s.runIf (decide (core < 512)) t (fun p => p.coreOp core [1, 2, 3] 5)

/-- AG_ADDBASE (R179). -/
def execAgAddbase (t : Nat) (core : Nat) (s : State) : Host.Outcome State Fault Refusal :=
  s.runIf (decide (core < 512)) t (fun p => p.coreOp core [1, 2, 3] 6)

/-- SCL_ADD (R184). -/
def execSclAdd (t : Nat) (core : Nat) (s : State) : Host.Outcome State Fault Refusal :=
  s.runIf (decide (core < 512)) t (fun p => p.coreOp core [9] 1)

/-- SCL_SUB (R184). -/
def execSclSub (t : Nat) (core : Nat) (s : State) : Host.Outcome State Fault Refusal :=
  s.runIf (decide (core < 512)) t (fun p => p.coreOp core [9] 2)

/-- SCL_MUL (R184). -/
def execSclMul (t : Nat) (core : Nat) (s : State) : Host.Outcome State Fault Refusal :=
  s.runIf (decide (core < 512)) t (fun p => p.coreOp core [9] 3)

/-- SCL_ADDI (R184). -/
def execSclAddi (t : Nat) (core : Nat) (s : State) : Host.Outcome State Fault Refusal :=
  s.runIf (decide (core < 512)) t (fun p => p.coreOp core [9] 4)

/-- SCL_MOVI (R184). -/
def execSclMovi (t : Nat) (core : Nat) (s : State) : Host.Outcome State Fault Refusal :=
  s.runIf (decide (core < 512)) t (fun p => p.coreOp core [9] 5)

/-- SCL_SETLC (R184). -/
def execSclSetlc (t : Nat) (core : Nat) (s : State) : Host.Outcome State Fault Refusal :=
  s.runIf (decide (core < 512)) t (fun p => p.coreOp core [9] 6)

/-- SCL_CTSET (R184). -/
def execSclCtset (t : Nat) (core : Nat) (s : State) : Host.Outcome State Fault Refusal :=
  s.runIf (decide (core < 512)) t (fun p => p.coreOp core [9] 7)

/-- SCL_CTINC (R184). -/
def execSclCtinc (t : Nat) (core : Nat) (s : State) : Host.Outcome State Fault Refusal :=
  s.runIf (decide (core < 512)) t (fun p => p.coreOp core [9] 8)

/-- SCL_CPSET (R184). -/
def execSclCpset (t : Nat) (core : Nat) (s : State) : Host.Outcome State Fault Refusal :=
  s.runIf (decide (core < 512)) t (fun p => p.coreOp core [9] 9)

/-- FLOW_LOOP (R187). -/
def execFlowLoop (t : Nat) (core : Nat) (s : State) : Host.Outcome State Fault Refusal :=
  s.runIf (decide (core < 512)) t (fun p => p.coreOp core [0] 1)

/-- FLOW_JUMP (R186). -/
def execFlowJump (t : Nat) (core : Nat) (s : State) : Host.Outcome State Fault Refusal :=
  s.runIf (decide (core < 512)) t (fun p => p.coreOp core [0] 2)

/-- FLOW_BREAK (R186). -/
def execFlowBreak (t : Nat) (core : Nat) (s : State) : Host.Outcome State Fault Refusal :=
  s.runIf (decide (core < 512)) t (fun p => p.coreOp core [0] 3)

/-- FLOW_END (R190). -/
def execFlowEnd (t : Nat) (core : Nat) (s : State) : Host.Outcome State Fault Refusal :=
  s.runIf (decide (core < 512)) t (fun p => p.coreOp core [0] 4)

/-- MXE_MMA (R191). -/
def execMxeMma (t : Nat) (core : Nat) (s : State) : Host.Outcome State Fault Refusal :=
  s.runIf (decide (core < 512)) t (fun p => p.coreOp core [4] 1)

/-- MXE_WRITEOUT (R194). -/
def execMxeWriteout (t : Nat) (core : Nat) (s : State) : Host.Outcome State Fault Refusal :=
  s.runIf (decide (core < 512)) t (fun p => p.coreOp core [4] 2)

end Sys2Proof.Machine
end

