-- ==== Sys2Proof/Machine/CmdSide.lean ====
section
/-! DEFINITION. Commands of the sideband (R486, R599 to R602). One definition per command over the shared operations. -/

namespace Sys2Proof.Machine

/-- SIDEBAND_STATUS (R601). -/
def execSidebandStatus (t : Nat) (s : State) : Host.Outcome State Fault Refusal :=
  s.run t (fun p => p.onSide Pkg.sideStatus)

/-- SIDEBAND_LOG_READ (R601). -/
def execSidebandLogRead (t : Nat) (seq count : Nat) (s : State) : Host.Outcome State Fault Refusal :=
  s.run t (fun p => p.onSide fun p => p.sideLogRead seq count)

/-- SIDEBAND_REG_READ (R601). -/
def execSidebandRegRead (t : Nat) (offset : Nat) (s : State) : Host.Outcome State Fault Refusal :=
  s.runIf (decide (offset < 0x1000000)) t (fun p => p.onSide fun p => p.sideRegRead offset)

/-- SIDEBAND_DUMP_READ (R601). -/
def execSidebandDumpRead (t : Nat) (offset : Nat) (s : State) : Host.Outcome State Fault Refusal :=
  s.run t (fun p => p.onSide fun p => p.sideDumpRead offset)

/-- SIDEBAND_RESET (R601). -/
def execSidebandReset (t : Nat) (unit : Nat) (s : State) : Host.Outcome State Fault Refusal :=
  s.runIf (decide (unit < 65536)) t (fun p => p.onSide fun p => p.sideReset unit)

/-- SIDEBAND_POWER_OFF (R601). -/
def execSidebandPowerOff (t : Nat) (s : State) : Host.Outcome State Fault Refusal :=
  s.run t (fun p => p.onSide Pkg.sidePowerOff)

/-- ESC_CLEAR (R486). -/
def execEscClear (t : Nat) (s : State) : Host.Outcome State Fault Refusal :=
  s.run t (fun p => p.onSide Pkg.sideEscClear)

/-- SIDEBAND_CRASH_DUMP (R601). -/
def execSidebandCrashDump (t : Nat) (s : State) : Host.Outcome State Fault Refusal :=
  s.run t (fun p => p.onSide Pkg.sideCrashDump)

/-- PLDM_BASE_DISCOVERY (R602). -/
def execPldmBaseDiscovery (t : Nat) (s : State) : Host.Outcome State Fault Refusal :=
  s.run t (fun p => p.onSide Pkg.pldmBase)

/-- PLDM_SENSOR_READ (R602). -/
def execPldmSensorRead (t : Nat) (sensor : Nat) (s : State) : Host.Outcome State Fault Refusal :=
  s.run t (fun p => p.onSide fun p => p.pldmSensor sensor)

/-- PLDM_FIRMWARE_UPDATE (R602). -/
def execPldmFirmwareUpdate (t : Nat) (image : Bytes) (s : State) : Host.Outcome State Fault Refusal :=
  s.run t (fun p => p.onSide fun p => p.pldmUpdate image)

/-- MCTP_SET_ENDPOINT_ID (R600). -/
def execMctpSetEndpointId (t : Nat) (message : MctpControl) (s : State) : Host.Outcome State Fault Refusal :=
  s.runIf message.ok t (fun p => p.onSide fun p => p.mctpControl message)

/-- SIDEBAND_ADDRESS_ASSIGN (R599). -/
def execSidebandAddressAssign (t : Nat) (dynamic : Option Nat) (s : State) : Host.Outcome State Fault Refusal :=
  s.run t (fun p => p.onSide fun p => p.addressAssign dynamic)

end Sys2Proof.Machine
end

