-- ==== Sys2Proof/Machine/CmdStroke.lean ====
section
/-! DEFINITION. Commands of the stroke clock, the spare pool and the lifetime bound (chapter 2). One definition per command over the shared operations. -/

namespace Sys2Proof.Machine

/-- STROKE_BOUNDARY (R55). -/
def execStrokeBoundary (t : Nat) (s : State) : Host.Outcome State Fault Refusal :=
  s.run t Pkg.boundary

/-- MAINT_SLOT_END (R54). -/
def execMaintSlotEnd (t : Nat) (s : State) : Host.Outcome State Fault Refusal :=
  s.run t Pkg.slotEnd

/-- STROKE_MARK_ACCEPT (R47). -/
def execStrokeMarkAccept (t : Nat) (port stroke period slot offset : Nat) (s : State) : Host.Outcome State Fault Refusal :=
  s.runIf (decide (port < 24)) t (fun p => p.markIn port stroke period slot offset)

/-- MARK_TIMEOUT (R49). -/
def execMarkTimeout (t : Nat) (s : State) : Host.Outcome State Fault Refusal :=
  s.run t Pkg.markTimeout

/-- HOLDOVER_LIMIT_EXPIRE (R50). -/
def execHoldoverLimitExpire (t : Nat) (s : State) : Host.Outcome State Fault Refusal :=
  s.run t Pkg.holdoverExpire

/-- VOTE_WAIT_EXPIRY (R659). -/
def execVoteWaitExpiry (t : Nat) (herd stroke : Nat) (s : State) : Host.Outcome State Fault Refusal :=
  s.run t (fun p => p.voteExpire herd stroke)

/-- STROKE_CFG_WRITE (R52). -/
def execStrokeCfgWrite (t : Nat) (value : Word) (s : State) : Host.Outcome State Fault Refusal :=
  s.run t (fun p => p.hostWrite Reg.strokeCfg value fun p => p.strokeCfgWrite value)

/-- STROKE_NUMBER_WRITE (R53). -/
def execStrokeNumberWrite (t : Nat) (value : Word) (s : State) : Host.Outcome State Fault Refusal :=
  s.run t (fun p => p.hostWrite Reg.strokeNumber value fun p => p.strokeNumberWrite value)

/-- SPARE_POOL_CFG_WRITE (R68). -/
def execSparePoolCfgWrite (t : Nat) (value : Word) (s : State) : Host.Outcome State Fault Refusal :=
  s.run t (fun p => p.hostWrite Reg.sparePoolCfg value fun p => p.sparePoolWrite value)

/-- STAGED_WRITE_RESUME (R67). -/
def execStagedWriteResume (t : Nat) (ctx : Nat) (s : State) : Host.Outcome State Fault Refusal :=
  s.runIf (decide (ctx < 4096)) t (fun p => p.stagedResume ctx)

/-- FRAME_RECYCLE (R66). -/
def execFrameRecycle (t : Nat) (s : State) : Host.Outcome State Fault Refusal :=
  s.run t Pkg.frameRecycle

/-- TRANSFER_AGED (R81). -/
def execTransferAged (t : Nat) (cluster id : Nat) (s : State) : Host.Outcome State Fault Refusal :=
  s.runIf (decide (cluster < 64 ∧ id < 1024)) t (fun p => p.transferAged cluster id)

/-- PACKET_AGE_DROP (R81). -/
def execPacketAgeDrop (t : Nat) (port : Nat) (s : State) : Host.Outcome State Fault Refusal :=
  s.runIf (decide (port < 24)) t (fun p => p.ageDrop port)

end Sys2Proof.Machine
end

