-- ==== Sys2Proof/Machine/CmdTransfer.lean ====
section
/-! DEFINITION. Commands of the transfer engine and of what holds a repeat (R202 to R206, R316). One definition per command over the shared operations. -/

namespace Sys2Proof.Machine

/-- TXE_COPY_IN (R202). -/
def execTxeCopyIn (t : Nat) (core : Nat) (s : State) : Host.Outcome State Fault Refusal :=
  s.runIf (decide (core < 512)) t (fun p => p.coreOp core [8] 1)

/-- TXE_COPY_OUT (R202). -/
def execTxeCopyOut (t : Nat) (core : Nat) (s : State) : Host.Outcome State Fault Refusal :=
  s.runIf (decide (core < 512)) t (fun p => p.coreOp core [8] 2)

/-- TXE_REDUCE (R316). -/
def execTxeReduce (t : Nat) (core : Nat) (s : State) : Host.Outcome State Fault Refusal :=
  s.runIf (decide (core < 512)) t (fun p => p.coreOp core [8] 3)

/-- TXE_RELAY (R390). -/
def execTxeRelay (t : Nat) (core : Nat) (s : State) : Host.Outcome State Fault Refusal :=
  s.runIf (decide (core < 512)) t (fun p => p.coreOp core [8] 4)

/-- SYNC_WAIT (R204). -/
def execSyncWait (t : Nat) (core : Nat) (s : State) : Host.Outcome State Fault Refusal :=
  s.runIf (decide (core < 512)) t (fun p => p.coreOp core [10] 1)

/-- SYNC_WAIT_RELEASE (R204). -/
def execSyncWaitRelease (t : Nat) (core cycles : Nat) (s : State) : Host.Outcome State Fault Refusal :=
  s.runIf (decide (core < 512)) t (fun p => p.waitRelease core cycles)

/-- INTERLOCK_RELEASE (R206). -/
def execInterlockRelease (t : Nat) (core cycles : Nat) (s : State) : Host.Outcome State Fault Refusal :=
  s.runIf (decide (core < 512)) t (fun p => p.interlockRelease core cycles)

/-- TXE_SLOT_FREE (R203). -/
def execTxeSlotFree (t : Nat) (core cycles : Nat) (s : State) : Host.Outcome State Fault Refusal :=
  s.runIf (decide (core < 512)) t (fun p => p.txeRelease core cycles)

/-- REDUCE_FRAME_SEND (R316). -/
def execReduceFrameSend (t : Nat) (cluster id : Nat) (s : State) : Host.Outcome State Fault Refusal :=
  s.runIf (decide (cluster < 64 ∧ id < 1024)) t (fun p => p.frameSendAt cluster id)

end Sys2Proof.Machine
end

