-- ==== Sys2Proof/Machine/CmdUpdate.lean ====
section
/-! DEFINITION. Commands of the update engine (R291 to R294). One definition per command over the shared operations. -/

namespace Sys2Proof.Machine

/-- UPE_LOAD (R292). -/
def execUpeLoad (t : Nat) (cluster : Nat) (s : State) : Host.Outcome State Fault Refusal :=
  s.runIf (decide (cluster < 64)) t (fun p => p.upeAccess cluster 1)

/-- UPE_STORE (R293). -/
def execUpeStore (t : Nat) (cluster : Nat) (s : State) : Host.Outcome State Fault Refusal :=
  s.runIf (decide (cluster < 64)) t (fun p => p.upeAccess cluster 2)

/-- UPE_ADD (R291). -/
def execUpeAdd (t : Nat) (cluster : Nat) (s : State) : Host.Outcome State Fault Refusal :=
  s.runIf (decide (cluster < 64)) t (fun p => p.upeOp cluster 3)

/-- UPE_SUB (R291). -/
def execUpeSub (t : Nat) (cluster : Nat) (s : State) : Host.Outcome State Fault Refusal :=
  s.runIf (decide (cluster < 64)) t (fun p => p.upeOp cluster 4)

/-- UPE_MUL (R291). -/
def execUpeMul (t : Nat) (cluster : Nat) (s : State) : Host.Outcome State Fault Refusal :=
  s.runIf (decide (cluster < 64)) t (fun p => p.upeOp cluster 5)

/-- UPE_FMA (R291). -/
def execUpeFma (t : Nat) (cluster : Nat) (s : State) : Host.Outcome State Fault Refusal :=
  s.runIf (decide (cluster < 64)) t (fun p => p.upeOp cluster 6)

/-- UPE_DIV (R291). -/
def execUpeDiv (t : Nat) (cluster : Nat) (s : State) : Host.Outcome State Fault Refusal :=
  s.runIf (decide (cluster < 64)) t (fun p => p.upeOp cluster 7)

/-- UPE_SQRT (R291). -/
def execUpeSqrt (t : Nat) (cluster : Nat) (s : State) : Host.Outcome State Fault Refusal :=
  s.runIf (decide (cluster < 64)) t (fun p => p.upeOp cluster 8)

/-- UPE_RSQRT (R291). -/
def execUpeRsqrt (t : Nat) (cluster : Nat) (s : State) : Host.Outcome State Fault Refusal :=
  s.runIf (decide (cluster < 64)) t (fun p => p.upeOp cluster 9)

/-- UPE_MAX (R291). -/
def execUpeMax (t : Nat) (cluster : Nat) (s : State) : Host.Outcome State Fault Refusal :=
  s.runIf (decide (cluster < 64)) t (fun p => p.upeOp cluster 0xa)

/-- UPE_MIN (R291). -/
def execUpeMin (t : Nat) (cluster : Nat) (s : State) : Host.Outcome State Fault Refusal :=
  s.runIf (decide (cluster < 64)) t (fun p => p.upeOp cluster 0xb)

/-- UPE_ABS (R291). -/
def execUpeAbs (t : Nat) (cluster : Nat) (s : State) : Host.Outcome State Fault Refusal :=
  s.runIf (decide (cluster < 64)) t (fun p => p.upeOp cluster 0xc)

/-- UPE_SELECT (R291). -/
def execUpeSelect (t : Nat) (cluster : Nat) (s : State) : Host.Outcome State Fault Refusal :=
  s.runIf (decide (cluster < 64)) t (fun p => p.upeOp cluster 0xd)

/-- UPE_CMP (R291). -/
def execUpeCmp (t : Nat) (cluster : Nat) (s : State) : Host.Outcome State Fault Refusal :=
  s.runIf (decide (cluster < 64)) t (fun p => p.upeOp cluster 0xe)

/-- UPE_CONV (R294). -/
def execUpeConv (t : Nat) (cluster : Nat) (s : State) : Host.Outcome State Fault Refusal :=
  s.runIf (decide (cluster < 64)) t (fun p => p.upeOp cluster 0xf)

/-- UPE_CLAMP (R291). -/
def execUpeClamp (t : Nat) (cluster : Nat) (s : State) : Host.Outcome State Fault Refusal :=
  s.runIf (decide (cluster < 64)) t (fun p => p.upeOp cluster 0x10)

end Sys2Proof.Machine
end

