-- ==== Sys2Proof/Machine/CmdVxe.lean ====
section
/-! DEFINITION. Commands of the vector engine (R144 to R148, R197). One definition per command over the shared operations. -/

namespace Sys2Proof.Machine

/-- VXE_LOAD (R197). -/
def execVxeLoad (t : Nat) (core : Nat) (s : State) : Host.Outcome State Fault Refusal :=
  s.runIf (decide (core < 512)) t (fun p => p.coreOp core [5] 1)

/-- VXE_STORE (R197). -/
def execVxeStore (t : Nat) (core : Nat) (s : State) : Host.Outcome State Fault Refusal :=
  s.runIf (decide (core < 512)) t (fun p => p.coreOp core [5] 2)

/-- VXE_ADD (R197). -/
def execVxeAdd (t : Nat) (core : Nat) (s : State) : Host.Outcome State Fault Refusal :=
  s.runIf (decide (core < 512)) t (fun p => p.coreOp core [5] 3)

/-- VXE_SUB (R197). -/
def execVxeSub (t : Nat) (core : Nat) (s : State) : Host.Outcome State Fault Refusal :=
  s.runIf (decide (core < 512)) t (fun p => p.coreOp core [5] 4)

/-- VXE_MUL (R197). -/
def execVxeMul (t : Nat) (core : Nat) (s : State) : Host.Outcome State Fault Refusal :=
  s.runIf (decide (core < 512)) t (fun p => p.coreOp core [5] 5)

/-- VXE_FMA (R197). -/
def execVxeFma (t : Nat) (core : Nat) (s : State) : Host.Outcome State Fault Refusal :=
  s.runIf (decide (core < 512)) t (fun p => p.coreOp core [5] 6)

/-- VXE_DIV (R197). -/
def execVxeDiv (t : Nat) (core : Nat) (s : State) : Host.Outcome State Fault Refusal :=
  s.runIf (decide (core < 512)) t (fun p => p.coreOp core [5] 7)

/-- VXE_SQRT (R197). -/
def execVxeSqrt (t : Nat) (core : Nat) (s : State) : Host.Outcome State Fault Refusal :=
  s.runIf (decide (core < 512)) t (fun p => p.coreOp core [5] 8)

/-- VXE_MAX (R197). -/
def execVxeMax (t : Nat) (core : Nat) (s : State) : Host.Outcome State Fault Refusal :=
  s.runIf (decide (core < 512)) t (fun p => p.coreOp core [5] 9)

/-- VXE_MIN (R197). -/
def execVxeMin (t : Nat) (core : Nat) (s : State) : Host.Outcome State Fault Refusal :=
  s.runIf (decide (core < 512)) t (fun p => p.coreOp core [5] 0xa)

/-- VXE_ABS (R197). -/
def execVxeAbs (t : Nat) (core : Nat) (s : State) : Host.Outcome State Fault Refusal :=
  s.runIf (decide (core < 512)) t (fun p => p.coreOp core [5] 0xb)

/-- VXE_NEG (R197). -/
def execVxeNeg (t : Nat) (core : Nat) (s : State) : Host.Outcome State Fault Refusal :=
  s.runIf (decide (core < 512)) t (fun p => p.coreOp core [5] 0xc)

/-- VXE_COPYSIGN (R197). -/
def execVxeCopysign (t : Nat) (core : Nat) (s : State) : Host.Outcome State Fault Refusal :=
  s.runIf (decide (core < 512)) t (fun p => p.coreOp core [5] 0xd)

/-- VXE_CMP (R197). -/
def execVxeCmp (t : Nat) (core : Nat) (s : State) : Host.Outcome State Fault Refusal :=
  s.runIf (decide (core < 512)) t (fun p => p.coreOp core [5] 0xe)

/-- VXE_SELECT (R197). -/
def execVxeSelect (t : Nat) (core : Nat) (s : State) : Host.Outcome State Fault Refusal :=
  s.runIf (decide (core < 512)) t (fun p => p.coreOp core [5] 0xf)

/-- VXE_ADDK (R197). -/
def execVxeAddk (t : Nat) (core : Nat) (s : State) : Host.Outcome State Fault Refusal :=
  s.runIf (decide (core < 512)) t (fun p => p.coreOp core [5] 0x10)

/-- VXE_MULK (R197). -/
def execVxeMulk (t : Nat) (core : Nat) (s : State) : Host.Outcome State Fault Refusal :=
  s.runIf (decide (core < 512)) t (fun p => p.coreOp core [5] 0x11)

/-- VXE_EXP (R144). -/
def execVxeExp (t : Nat) (core : Nat) (s : State) : Host.Outcome State Fault Refusal :=
  s.runIf (decide (core < 512)) t (fun p => p.coreOp core [5] 0x12)

/-- VXE_EXP2 (R144). -/
def execVxeExp2 (t : Nat) (core : Nat) (s : State) : Host.Outcome State Fault Refusal :=
  s.runIf (decide (core < 512)) t (fun p => p.coreOp core [5] 0x13)

/-- VXE_LN (R144). -/
def execVxeLn (t : Nat) (core : Nat) (s : State) : Host.Outcome State Fault Refusal :=
  s.runIf (decide (core < 512)) t (fun p => p.coreOp core [5] 0x14)

/-- VXE_LOG2 (R144). -/
def execVxeLog2 (t : Nat) (core : Nat) (s : State) : Host.Outcome State Fault Refusal :=
  s.runIf (decide (core < 512)) t (fun p => p.coreOp core [5] 0x15)

/-- VXE_TANH (R144). -/
def execVxeTanh (t : Nat) (core : Nat) (s : State) : Host.Outcome State Fault Refusal :=
  s.runIf (decide (core < 512)) t (fun p => p.coreOp core [5] 0x16)

/-- VXE_SIGMOID (R144). -/
def execVxeSigmoid (t : Nat) (core : Nat) (s : State) : Host.Outcome State Fault Refusal :=
  s.runIf (decide (core < 512)) t (fun p => p.coreOp core [5] 0x17)

/-- VXE_TEVAL (R146). -/
def execVxeTeval (t : Nat) (core : Nat) (s : State) : Host.Outcome State Fault Refusal :=
  s.runIf (decide (core < 512)) t (fun p => p.coreOp core [5] 0x18)

/-- VXE_TDERIV (R148). -/
def execVxeTderiv (t : Nat) (core : Nat) (s : State) : Host.Outcome State Fault Refusal :=
  s.runIf (decide (core < 512)) t (fun p => p.coreOp core [5] 0x19)

/-- VXE_TABLE_LOAD (R147). -/
def execVxeTableLoad (t : Nat) (core : Nat) (s : State) : Host.Outcome State Fault Refusal :=
  s.runIf (decide (core < 512)) t (fun p => p.coreOp core [5] 0x1a)

/-- VXE_MOV (R197). -/
def execVxeMov (t : Nat) (core : Nat) (s : State) : Host.Outcome State Fault Refusal :=
  s.runIf (decide (core < 512)) t (fun p => p.coreOp core [5] 0x1b)

end Sys2Proof.Machine
end

