-- ==== Sys2Proof/Machine/Dispatch.lean ====
section
/-! DEFINITION. One arm per command, each a direct call of its meaning. -/

namespace Sys2Proof.Machine

def exec (i : Instr) (s : State) : Host.Outcome State Fault Refusal :=
  match i with
  | .strokeBoundary t => Sys2Proof.Machine.execStrokeBoundary t s
  | .maintSlotEnd t => Sys2Proof.Machine.execMaintSlotEnd t s
  | .strokeMarkAccept t port stroke period slot offset => Sys2Proof.Machine.execStrokeMarkAccept t port stroke period slot offset s
  | .markTimeout t => Sys2Proof.Machine.execMarkTimeout t s
  | .holdoverLimitExpire t => Sys2Proof.Machine.execHoldoverLimitExpire t s
  | .voteWaitExpiry t herd stroke => Sys2Proof.Machine.execVoteWaitExpiry t herd stroke s
  | .strokeCfgWrite t value => Sys2Proof.Machine.execStrokeCfgWrite t value s
  | .strokeNumberWrite t value => Sys2Proof.Machine.execStrokeNumberWrite t value s
  | .sparePoolCfgWrite t value => Sys2Proof.Machine.execSparePoolCfgWrite t value s
  | .stagedWriteResume t ctx => Sys2Proof.Machine.execStagedWriteResume t ctx s
  | .frameRecycle t => Sys2Proof.Machine.execFrameRecycle t s
  | .transferAged t cluster id => Sys2Proof.Machine.execTransferAged t cluster id s
  | .packetAgeDrop t port => Sys2Proof.Machine.execPacketAgeDrop t port s
  | .doorbellPoll t indices others => Sys2Proof.Machine.execDoorbellPoll t indices others s
  | .sketch t ctx entry => Sys2Proof.Machine.execSketch t ctx entry s
  | .sketchAdmitResume t ctx => Sys2Proof.Machine.execSketchAdmitResume t ctx s
  | .slotSet t ctx entry => Sys2Proof.Machine.execSlotSet t ctx entry s
  | .slotClear t ctx entry => Sys2Proof.Machine.execSlotClear t ctx entry s
  | .slotEntryResume t ctx => Sys2Proof.Machine.execSlotEntryResume t ctx s
  | .arrivalSet t ctx entry => Sys2Proof.Machine.execArrivalSet t ctx entry s
  | .taskDispatch t task core => Sys2Proof.Machine.execTaskDispatch t task core s
  | .updateTaskDispatch t task cluster => Sys2Proof.Machine.execUpdateTaskDispatch t task cluster s
  | .taskComplete t core => Sys2Proof.Machine.execTaskComplete t core s
  | .updateTaskComplete t cluster => Sys2Proof.Machine.execUpdateTaskComplete t cluster s
  | .cqRecordsRelease t ctx consumer => Sys2Proof.Machine.execCqRecordsRelease t ctx consumer s
  | .ctxOpen t zero => Sys2Proof.Machine.execCtxOpen t zero s
  | .ctxClose t zero => Sys2Proof.Machine.execCtxClose t zero s
  | .contextRelease t ctx => Sys2Proof.Machine.execContextRelease t ctx s
  | .releaseZeroFillDone t ctx => Sys2Proof.Machine.execReleaseZeroFillDone t ctx s
  | .ctxSchedWrite t value => Sys2Proof.Machine.execCtxSchedWrite t value s
  | .agStep t core => Sys2Proof.Machine.execAgStep t core s
  | .agHold t core => Sys2Proof.Machine.execAgHold t core s
  | .agSetdesc t core => Sys2Proof.Machine.execAgSetdesc t core s
  | .agSetbase t core => Sys2Proof.Machine.execAgSetbase t core s
  | .agReset t core => Sys2Proof.Machine.execAgReset t core s
  | .agAddbase t core => Sys2Proof.Machine.execAgAddbase t core s
  | .sclAdd t core => Sys2Proof.Machine.execSclAdd t core s
  | .sclSub t core => Sys2Proof.Machine.execSclSub t core s
  | .sclMul t core => Sys2Proof.Machine.execSclMul t core s
  | .sclAddi t core => Sys2Proof.Machine.execSclAddi t core s
  | .sclMovi t core => Sys2Proof.Machine.execSclMovi t core s
  | .sclSetlc t core => Sys2Proof.Machine.execSclSetlc t core s
  | .sclCtset t core => Sys2Proof.Machine.execSclCtset t core s
  | .sclCtinc t core => Sys2Proof.Machine.execSclCtinc t core s
  | .sclCpset t core => Sys2Proof.Machine.execSclCpset t core s
  | .flowLoop t core => Sys2Proof.Machine.execFlowLoop t core s
  | .flowJump t core => Sys2Proof.Machine.execFlowJump t core s
  | .flowBreak t core => Sys2Proof.Machine.execFlowBreak t core s
  | .flowEnd t core => Sys2Proof.Machine.execFlowEnd t core s
  | .mxeMma t core => Sys2Proof.Machine.execMxeMma t core s
  | .mxeWriteout t core => Sys2Proof.Machine.execMxeWriteout t core s
  | .vxeLoad t core => Sys2Proof.Machine.execVxeLoad t core s
  | .vxeStore t core => Sys2Proof.Machine.execVxeStore t core s
  | .vxeAdd t core => Sys2Proof.Machine.execVxeAdd t core s
  | .vxeSub t core => Sys2Proof.Machine.execVxeSub t core s
  | .vxeMul t core => Sys2Proof.Machine.execVxeMul t core s
  | .vxeFma t core => Sys2Proof.Machine.execVxeFma t core s
  | .vxeDiv t core => Sys2Proof.Machine.execVxeDiv t core s
  | .vxeSqrt t core => Sys2Proof.Machine.execVxeSqrt t core s
  | .vxeMax t core => Sys2Proof.Machine.execVxeMax t core s
  | .vxeMin t core => Sys2Proof.Machine.execVxeMin t core s
  | .vxeAbs t core => Sys2Proof.Machine.execVxeAbs t core s
  | .vxeNeg t core => Sys2Proof.Machine.execVxeNeg t core s
  | .vxeCopysign t core => Sys2Proof.Machine.execVxeCopysign t core s
  | .vxeCmp t core => Sys2Proof.Machine.execVxeCmp t core s
  | .vxeSelect t core => Sys2Proof.Machine.execVxeSelect t core s
  | .vxeAddk t core => Sys2Proof.Machine.execVxeAddk t core s
  | .vxeMulk t core => Sys2Proof.Machine.execVxeMulk t core s
  | .vxeExp t core => Sys2Proof.Machine.execVxeExp t core s
  | .vxeExp2 t core => Sys2Proof.Machine.execVxeExp2 t core s
  | .vxeLn t core => Sys2Proof.Machine.execVxeLn t core s
  | .vxeLog2 t core => Sys2Proof.Machine.execVxeLog2 t core s
  | .vxeTanh t core => Sys2Proof.Machine.execVxeTanh t core s
  | .vxeSigmoid t core => Sys2Proof.Machine.execVxeSigmoid t core s
  | .vxeTeval t core => Sys2Proof.Machine.execVxeTeval t core s
  | .vxeTderiv t core => Sys2Proof.Machine.execVxeTderiv t core s
  | .vxeTableLoad t core => Sys2Proof.Machine.execVxeTableLoad t core s
  | .vxeMov t core => Sys2Proof.Machine.execVxeMov t core s
  | .normFwd t core => Sys2Proof.Machine.execNormFwd t core s
  | .rmsFwd t core => Sys2Proof.Machine.execRmsFwd t core s
  | .smaxFwd t core => Sys2Proof.Machine.execSmaxFwd t core s
  | .normBwd t core => Sys2Proof.Machine.execNormBwd t core s
  | .rmsBwd t core => Sys2Proof.Machine.execRmsBwd t core s
  | .smaxBwd t core => Sys2Proof.Machine.execSmaxBwd t core s
  | .spillSet t core => Sys2Proof.Machine.execSpillSet t core s
  | .gather t core => Sys2Proof.Machine.execGather t core s
  | .scatter t core => Sys2Proof.Machine.execScatter t core s
  | .txeCopyIn t core => Sys2Proof.Machine.execTxeCopyIn t core s
  | .txeCopyOut t core => Sys2Proof.Machine.execTxeCopyOut t core s
  | .txeReduce t core => Sys2Proof.Machine.execTxeReduce t core s
  | .txeRelay t core => Sys2Proof.Machine.execTxeRelay t core s
  | .syncWait t core => Sys2Proof.Machine.execSyncWait t core s
  | .syncWaitRelease t core cycles => Sys2Proof.Machine.execSyncWaitRelease t core cycles s
  | .interlockRelease t core cycles => Sys2Proof.Machine.execInterlockRelease t core cycles s
  | .txeSlotFree t core cycles => Sys2Proof.Machine.execTxeSlotFree t core cycles s
  | .reduceFrameSend t cluster id => Sys2Proof.Machine.execReduceFrameSend t cluster id s
  | .upeLoad t cluster => Sys2Proof.Machine.execUpeLoad t cluster s
  | .upeStore t cluster => Sys2Proof.Machine.execUpeStore t cluster s
  | .upeAdd t cluster => Sys2Proof.Machine.execUpeAdd t cluster s
  | .upeSub t cluster => Sys2Proof.Machine.execUpeSub t cluster s
  | .upeMul t cluster => Sys2Proof.Machine.execUpeMul t cluster s
  | .upeFma t cluster => Sys2Proof.Machine.execUpeFma t cluster s
  | .upeDiv t cluster => Sys2Proof.Machine.execUpeDiv t cluster s
  | .upeSqrt t cluster => Sys2Proof.Machine.execUpeSqrt t cluster s
  | .upeRsqrt t cluster => Sys2Proof.Machine.execUpeRsqrt t cluster s
  | .upeMax t cluster => Sys2Proof.Machine.execUpeMax t cluster s
  | .upeMin t cluster => Sys2Proof.Machine.execUpeMin t cluster s
  | .upeAbs t cluster => Sys2Proof.Machine.execUpeAbs t cluster s
  | .upeSelect t cluster => Sys2Proof.Machine.execUpeSelect t cluster s
  | .upeCmp t cluster => Sys2Proof.Machine.execUpeCmp t cluster s
  | .upeConv t cluster => Sys2Proof.Machine.execUpeConv t cluster s
  | .upeClamp t cluster => Sys2Proof.Machine.execUpeClamp t cluster s
  | .eirData t arr packet => Sys2Proof.Machine.execEirData t arr packet s
  | .eirTail t arr packet => Sys2Proof.Machine.execEirTail t arr packet s
  | .eirFinalData t arr packet => Sys2Proof.Machine.execEirFinalData t arr packet s
  | .eirFinalTail t arr packet => Sys2Proof.Machine.execEirFinalTail t arr packet s
  | .eirRedo t arr packet => Sys2Proof.Machine.execEirRedo t arr packet s
  | .reductionSlotFree t => Sys2Proof.Machine.execReductionSlotFree t s
  | .write t arr packet => Sys2Proof.Machine.execWrite t arr packet s
  | .read t arr packet => Sys2Proof.Machine.execRead t arr packet s
  | .readData t arr packet => Sys2Proof.Machine.execReadData t arr packet s
  | .relay t arr packet => Sys2Proof.Machine.execRelay t arr packet s
  | .ack t arr packet => Sys2Proof.Machine.execAck t arr packet s
  | .nack t arr packet => Sys2Proof.Machine.execNack t arr packet s
  | .vote t arr packet => Sys2Proof.Machine.execVote t arr packet s
  | .voteResult t arr packet => Sys2Proof.Machine.execVoteResult t arr packet s
  | .voidNotice t arr packet => Sys2Proof.Machine.execVoidNotice t arr packet s
  | .faultNoticeRx t arr packet => Sys2Proof.Machine.execFaultNoticeRx t arr packet s
  | .peerAbsent t arr packet => Sys2Proof.Machine.execPeerAbsent t arr packet s
  | .peerPresent t arr packet => Sys2Proof.Machine.execPeerPresent t arr packet s
  | .tableSwitch t arr packet => Sys2Proof.Machine.execTableSwitch t arr packet s
  | .packetForward t arr packet => Sys2Proof.Machine.execPacketForward t arr packet s
  | .ackTimer t src dst ctx gen cls => Sys2Proof.Machine.execAckTimer t src dst ctx gen cls s
  | .flowEntryExpire t src dst ctx gen cls => Sys2Proof.Machine.execFlowEntryExpire t src dst ctx gen cls s
  | .linkControlSymbol t port symbol dataOk stalled fixed broken => Sys2Proof.Machine.execLinkControlSymbol t port symbol dataOk stalled fixed broken s
  | .replayLimit t port => Sys2Proof.Machine.execReplayLimit t port s
  | .laneLockLoss t port => Sys2Proof.Machine.execLaneLockLoss t port s
  | .symbolTimeout t port => Sys2Proof.Machine.execSymbolTimeout t port s
  | .identityFrame t port frame => Sys2Proof.Machine.execIdentityFrame t port frame s
  | .linkTrainingDone t port delay => Sys2Proof.Machine.execLinkTrainingDone t port delay s
  | .trainingTimeout t port => Sys2Proof.Machine.execTrainingTimeout t port s
  | .portCmdDisable t port => Sys2Proof.Machine.execPortCmdDisable t port s
  | .portCmdTrain t port => Sys2Proof.Machine.execPortCmdTrain t port s
  | .portCfgWrite t port value => Sys2Proof.Machine.execPortCfgWrite t port value s
  | .qdepthClear t port value => Sys2Proof.Machine.execQdepthClear t port value s
  | .routeSwitchWrite t value => Sys2Proof.Machine.execRouteSwitchWrite t value s
  | .routeBankDrainEnd t bank => Sys2Proof.Machine.execRouteBankDrainEnd t bank s
  | .axmapLoad t image => Sys2Proof.Machine.execAxmapLoad t image s
  | .axmapClear t => Sys2Proof.Machine.execAxmapClear t s
  | .axmapSwitchWrite t value => Sys2Proof.Machine.execAxmapSwitchWrite t value s
  | .reshardArm t => Sys2Proof.Machine.execReshardArm t s
  | .reshardCancel t => Sys2Proof.Machine.execReshardCancel t s
  | .noticeTxSend t value => Sys2Proof.Machine.execNoticeTxSend t value s
  | .numericsModeWrite t value => Sys2Proof.Machine.execNumericsModeWrite t value s
  | .groupOpen t => Sys2Proof.Machine.execGroupOpen t s
  | .groupParams t => Sys2Proof.Machine.execGroupParams t s
  | .groupClose t => Sys2Proof.Machine.execGroupClose t s
  | .memCrcRetryExhausted t access => Sys2Proof.Machine.execMemCrcRetryExhausted t access s
  | .memRetrainAbandoned t port => Sys2Proof.Machine.execMemRetrainAbandoned t port s
  | .ceThresholdExceeded t port => Sys2Proof.Machine.execCeThresholdExceeded t port s
  | .ceWindowExpire t port => Sys2Proof.Machine.execCeWindowExpire t port s
  | .sramScrub t found => Sys2Proof.Machine.execSramScrub t found s
  | .memInjectWrite t value => Sys2Proof.Machine.execMemInjectWrite t value s
  | .resetCmdReset t unit => Sys2Proof.Machine.execResetCmdReset t unit s
  | .resetCmdFence t unit => Sys2Proof.Machine.execResetCmdFence t unit s
  | .resetCmdUnfence t unit => Sys2Proof.Machine.execResetCmdUnfence t unit s
  | .resetCmdDump t unit => Sys2Proof.Machine.execResetCmdDump t unit s
  | .fenceDrainTimeout t unit => Sys2Proof.Machine.execFenceDrainTimeout t unit s
  | .domainResetDone t unit => Sys2Proof.Machine.execDomainResetDone t unit s
  | .hangDetected t unit rule streak => Sys2Proof.Machine.execHangDetected t unit rule streak s
  | .strandedTaskFail t task => Sys2Proof.Machine.execStrandedTaskFail t task s
  | .watchdogExpire t => Sys2Proof.Machine.execWatchdogExpire t s
  | .dumpReadTimeout t kind unit => Sys2Proof.Machine.execDumpReadTimeout t kind unit s
  | .crashDumpComplete t => Sys2Proof.Machine.execCrashDumpComplete t s
  | .hotReset t => Sys2Proof.Machine.execHotReset t s
  | .d3hotEntry t => Sys2Proof.Machine.execD3hotEntry t s
  | .d0Return t => Sys2Proof.Machine.execD0Return t s
  | .apertureRead t aperture offset len => Sys2Proof.Machine.execApertureRead t aperture offset len s
  | .apertureWrite t aperture offset data => Sys2Proof.Machine.execApertureWrite t aperture offset data s
  | .hostReadCompletion t kind bad => Sys2Proof.Machine.execHostReadCompletion t kind bad s
  | .hostReadTimeout t kind => Sys2Proof.Machine.execHostReadTimeout t kind s
  | .registerWrite t offset enables value => Sys2Proof.Machine.execRegisterWrite t offset enables value s
  | .bar0BadRead t => Sys2Proof.Machine.execBar0BadRead t s
  | .firmwareLoad t tag image => Sys2Proof.Machine.execFirmwareLoad t tag image s
  | .planLoad t tag image => Sys2Proof.Machine.execPlanLoad t tag image s
  | .tableLoad t tag image => Sys2Proof.Machine.execTableLoad t tag image s
  | .gesso t tag ranges => Sys2Proof.Machine.execGesso t tag ranges s
  | .scrubSweep t tag ranges => Sys2Proof.Machine.execScrubSweep t tag ranges s
  | .portRetrain t tag => Sys2Proof.Machine.execPortRetrain t tag s
  | .selfTest t tag => Sys2Proof.Machine.execSelfTest t tag s
  | .easelCrashDump t tag => Sys2Proof.Machine.execEaselCrashDump t tag s
  | .easelOpEnd t result => Sys2Proof.Machine.execEaselOpEnd t result s
  | .easelTimeout t done => Sys2Proof.Machine.execEaselTimeout t done s
  | .pwrGoodAssert t low refs => Sys2Proof.Machine.execPwrGoodAssert t low refs s
  | .bringupStepDone t result => Sys2Proof.Machine.execBringupStepDone t result s
  | .pwrGoodDeassert t => Sys2Proof.Machine.execPwrGoodDeassert t s
  | .supplyWarn t rail mv => Sys2Proof.Machine.execSupplyWarn t rail mv s
  | .stretchRelease t => Sys2Proof.Machine.execStretchRelease t s
  | .supplyReset t rail => Sys2Proof.Machine.execSupplyReset t rail s
  | .supplyResetHoldEnd t => Sys2Proof.Machine.execSupplyResetHoldEnd t s
  | .thermalSample t dies devices => Sys2Proof.Machine.execThermalSample t dies devices s
  | .throttleStep t die => Sys2Proof.Machine.execThrottleStep t die s
  | .powerCmdOff t => Sys2Proof.Machine.execPowerCmdOff t s
  | .refclkLost t ref => Sys2Proof.Machine.execRefclkLost t ref s
  | .refclkRestored t ref => Sys2Proof.Machine.execRefclkRestored t ref s
  | .oscTrimUpdate t correction => Sys2Proof.Machine.execOscTrimUpdate t correction s
  | .clkCoreCfgWrite t die value => Sys2Proof.Machine.execClkCoreCfgWrite t die value s
  | .avsSetpointReached t die => Sys2Proof.Machine.execAvsSetpointReached t die s
  | .pllLockDone t die => Sys2Proof.Machine.execPllLockDone t die s
  | .pllUnlock t pll => Sys2Proof.Machine.execPllUnlock t pll s
  | .pllRelockTimeout t die => Sys2Proof.Machine.execPllRelockTimeout t die s
  | .clkFabCfgWrite t value => Sys2Proof.Machine.execClkFabCfgWrite t value s
  | .clkGateOn t unit => Sys2Proof.Machine.execClkGateOn t unit s
  | .clkGateOff t unit => Sys2Proof.Machine.execClkGateOff t unit s
  | .clkGateHold t unit => Sys2Proof.Machine.execClkGateHold t unit s
  | .perstAssert t => Sys2Proof.Machine.execPerstAssert t s
  | .perstDeassert t => Sys2Proof.Machine.execPerstDeassert t s
  | .meterSample t rails => Sys2Proof.Machine.execMeterSample t rails s
  | .meterIntervalBoundary t => Sys2Proof.Machine.execMeterIntervalBoundary t s
  | .meterSecondCheck t crystal differ => Sys2Proof.Machine.execMeterSecondCheck t crystal differ s
  | .vddMetFall t => Sys2Proof.Machine.execVddMetFall t s
  | .vddMetReturn t => Sys2Proof.Machine.execVddMetReturn t s
  | .metCalEnAssert t => Sys2Proof.Machine.execMetCalEnAssert t s
  | .calBankWrite t matched => Sys2Proof.Machine.execCalBankWrite t matched s
  | .seal t signature => Sys2Proof.Machine.execSeal t signature s
  | .intervalLengthRequest t select length => Sys2Proof.Machine.execIntervalLengthRequest t select length s
  | .energyReadoutLatch t len => Sys2Proof.Machine.execEnergyReadoutLatch t len s
  | .meterSnapshot t => Sys2Proof.Machine.execMeterSnapshot t s
  | .mirrorStaleTimeout t => Sys2Proof.Machine.execMirrorStaleTimeout t s
  | .commitVersion t => Sys2Proof.Machine.execCommitVersion t s
  | .debugUnlock t token => Sys2Proof.Machine.execDebugUnlock t token s
  | .debugLock t => Sys2Proof.Machine.execDebugLock t s
  | .ptInvalidate t value => Sys2Proof.Machine.execPtInvalidate t value s
  | .getVersion t transport request => Sys2Proof.Machine.execGetVersion t transport request s
  | .getCapabilities t transport request => Sys2Proof.Machine.execGetCapabilities t transport request s
  | .negotiateAlgorithms t transport request => Sys2Proof.Machine.execNegotiateAlgorithms t transport request s
  | .getDigests t transport request => Sys2Proof.Machine.execGetDigests t transport request s
  | .getCertificate t transport request => Sys2Proof.Machine.execGetCertificate t transport request s
  | .challenge t transport request => Sys2Proof.Machine.execChallenge t transport request s
  | .getMeasurements t transport request => Sys2Proof.Machine.execGetMeasurements t transport request s
  | .spdmUnsupportedRequest t transport => Sys2Proof.Machine.execSpdmUnsupportedRequest t transport s
  | .sidebandStatus t => Sys2Proof.Machine.execSidebandStatus t s
  | .sidebandLogRead t seq count => Sys2Proof.Machine.execSidebandLogRead t seq count s
  | .sidebandRegRead t offset => Sys2Proof.Machine.execSidebandRegRead t offset s
  | .sidebandDumpRead t offset => Sys2Proof.Machine.execSidebandDumpRead t offset s
  | .sidebandReset t unit => Sys2Proof.Machine.execSidebandReset t unit s
  | .sidebandPowerOff t => Sys2Proof.Machine.execSidebandPowerOff t s
  | .escClear t => Sys2Proof.Machine.execEscClear t s
  | .sidebandCrashDump t => Sys2Proof.Machine.execSidebandCrashDump t s
  | .pldmBaseDiscovery t => Sys2Proof.Machine.execPldmBaseDiscovery t s
  | .pldmSensorRead t sensor => Sys2Proof.Machine.execPldmSensorRead t sensor s
  | .pldmFirmwareUpdate t image => Sys2Proof.Machine.execPldmFirmwareUpdate t image s
  | .mctpSetEndpointId t eid => Sys2Proof.Machine.execMctpSetEndpointId t eid s
  | .sidebandAddressAssign t dynamic => Sys2Proof.Machine.execSidebandAddressAssign t dynamic s
  | .vddCtlApplied t => Sys2Proof.Machine.execVddCtlApplied t s
  | .railReturnsAboveWarning t rail mv => Sys2Proof.Machine.execRailReturnsAboveWarning t rail mv s
  | .configurationRequest t request => Sys2Proof.Machine.execConfigurationRequest t request s
  | .metCalEnDeassert t => Sys2Proof.Machine.execMetCalEnDeassert t s
  | .firmwareUpdateEnd t => Sys2Proof.Machine.execFirmwareUpdateEnd t s

end Sys2Proof.Machine
end

