-- ==== Sys2Proof/Machine/Pins.lean ====
section
/-! DEFINITION. What the package drives on its output balls, in every state (R618 to R620). It follows from the rest of the state, and no command reads it. -/

namespace Sys2Proof.Machine

/-- The outputs of R619. -/
inductive OutPin where
  | deviceReady | alertN | thermTripN | pwrOffReqN | sbSda | spiCsN | spiBus
  | avsClk (master : Nat) | avsMdata (master : Nat) | dbgTdo
  | mpResetN (port : Nat) | mpBus (port : Nat) | torusTx (port : Nat) | hostTx | metSda | metXout
  deriving DecidableEq, Repr

/-- A ball's state: released, at a level, or carrying the signals of its interface. -/
inductive Drive where
  | released | low | high | active
  deriving DecidableEq, Repr

/-- How far bring-up has come: the step that runs or that failed, 11 after DEVICE_READY has risen, 0 in the held state. DESIGN CHOICE, log entry 80: a failed step leaves the outputs as that step drives them. -/
def Pkg.reachedStep (s : Pkg) : Nat :=
  let p := s.power
  if !p.pwrGood || p.waiting then 0
  else if p.risen then 11
  else match p.step with
    | some n => n
    | none => if p.stopped then p.failStep else 0

/-- What the package drives on an output (R619). MPn_RESET_N stays high through the resets of memory ports and memory dies, and a package reset, a power-off and the loss of VDD_CTL release it (R620). -/
def Pkg.drive (s : Pkg) (o : OutPin) : Drive :=
  let p := s.power
  let n := s.reachedStep
  let when_ (b : Bool) (d : Drive) : Drive := if b then d else .released
  match o with
  | .metSda | .metXout => when_ s.meter.up .active
  | o => if !p.ctl then .released else match o with
    | .deviceReady => if p.ready then .high else when_ (n == 11 || (s.rst.pkgOos && p.hold10)) .low
    | .alertN => when_ p.alert .low
    | .thermTripN => when_ p.trip .low
    | .pwrOffReqN => when_ p.offReq .low
    | .sbSda => .active
    | .spiCsN | .spiBus => when_ (n == 2 || n == 11) .active
    | .avsClk _ | .avsMdata _ => when_ (decide (4 ≤ n)) .active
    | .dbgTdo => when_ (n == 11 && s.sec.scope.testBit 1) .active
    | .mpResetN _ => when_ (decide (7 ≤ n) && !p.halted) .high
    | .mpBus _ => when_ (decide (7 ≤ n) && !p.halted) .active
    | .torusTx k => when_ (s.portPresent k && decide (2 ≤ (s.port k).state)) .active
    | .hostTx => when_ (decide (2 ≤ n)) .active
    | .metSda | .metXout => .released

end Sys2Proof.Machine
end

