-- ==== Sys2Proof/Safety.lean ====
section
/-! DEFINITION. What the claims are stated in: answers, the invariant of the block, and which word of a core a sequencer command acts on. -/

namespace Sys2Proof

/-! ### Kinds of commands -/

/-- The commands that start package time anew (R469): VDD_CTL applied, and VDD_CTL (rail 11) measured below its reset level. -/
def Instr.restarts (p : Machine.Pkg) : Instr → Bool
  | .vddCtlApplied _ => true
  | .supplyReset _ level => level.rail == 11 && p.belowReset 11 level.mv
  | _ => false

/-- The commands that may blow fuses: SEC_CMD COMMIT_VERSION, by its own row or by a register write (R588). -/
def Instr.commits : Instr → Bool
  | .commitVersion _ => true
  | .registerWrite _ o be v => Machine.commitsVersion o be v
  | _ => false

/-- The core, the slots and the op of a command that issues a control word's slot. -/
def Instr.coreCmd : Instr → Option (Nat × List Nat × Nat)
  | .agStep _ c => some (c, [1, 2, 3], 1)
  | .agHold _ c => some (c, [1, 2, 3], 2)
  | .agSetdesc _ c => some (c, [1, 2, 3], 3)
  | .agSetbase _ c => some (c, [1, 2, 3], 4)
  | .agReset _ c => some (c, [1, 2, 3], 5)
  | .agAddbase _ c => some (c, [1, 2, 3], 6)
  | .sclAdd _ c => some (c, [9], 1)
  | .sclSub _ c => some (c, [9], 2)
  | .sclMul _ c => some (c, [9], 3)
  | .sclAddi _ c => some (c, [9], 4)
  | .sclMovi _ c => some (c, [9], 5)
  | .sclSetlc _ c => some (c, [9], 6)
  | .sclCtset _ c => some (c, [9], 7)
  | .sclCtinc _ c => some (c, [9], 8)
  | .sclCpset _ c => some (c, [9], 9)
  | .flowLoop _ c => some (c, [0], 1)
  | .flowJump _ c => some (c, [0], 2)
  | .flowBreak _ c => some (c, [0], 3)
  | .flowEnd _ c => some (c, [0], 4)
  | .mxeMma _ c => some (c, [4], 1)
  | .mxeWriteout _ c => some (c, [4], 2)
  | .vxeLoad _ c => some (c, [5], 1)
  | .vxeStore _ c => some (c, [5], 2)
  | .vxeAdd _ c => some (c, [5], 3)
  | .vxeSub _ c => some (c, [5], 4)
  | .vxeMul _ c => some (c, [5], 5)
  | .vxeFma _ c => some (c, [5], 6)
  | .vxeDiv _ c => some (c, [5], 7)
  | .vxeSqrt _ c => some (c, [5], 8)
  | .vxeMax _ c => some (c, [5], 9)
  | .vxeMin _ c => some (c, [5], 0xA)
  | .vxeAbs _ c => some (c, [5], 0xB)
  | .vxeNeg _ c => some (c, [5], 0xC)
  | .vxeCopysign _ c => some (c, [5], 0xD)
  | .vxeCmp _ c => some (c, [5], 0xE)
  | .vxeSelect _ c => some (c, [5], 0xF)
  | .vxeAddk _ c => some (c, [5], 0x10)
  | .vxeMulk _ c => some (c, [5], 0x11)
  | .vxeExp _ c => some (c, [5], 0x12)
  | .vxeExp2 _ c => some (c, [5], 0x13)
  | .vxeLn _ c => some (c, [5], 0x14)
  | .vxeLog2 _ c => some (c, [5], 0x15)
  | .vxeTanh _ c => some (c, [5], 0x16)
  | .vxeSigmoid _ c => some (c, [5], 0x17)
  | .vxeTeval _ c => some (c, [5], 0x18)
  | .vxeTderiv _ c => some (c, [5], 0x19)
  | .vxeTableLoad _ c => some (c, [5], 0x1A)
  | .vxeMov _ c => some (c, [5], 0x1B)
  | .normFwd _ c => some (c, [6], 1)
  | .rmsFwd _ c => some (c, [6], 2)
  | .smaxFwd _ c => some (c, [6], 3)
  | .normBwd _ c => some (c, [6], 4)
  | .rmsBwd _ c => some (c, [6], 5)
  | .smaxBwd _ c => some (c, [6], 6)
  | .spillSet _ c => some (c, [6], 7)
  | .gather _ c => some (c, [7], 1)
  | .scatter _ c => some (c, [7], 2)
  | .txeCopyIn _ c => some (c, [8], 1)
  | .txeCopyOut _ c => some (c, [8], 2)
  | .txeReduce _ c => some (c, [8], 3)
  | .txeRelay _ c => some (c, [8], 4)
  | .syncWait _ c => some (c, [10], 1)
  | _ => none

/-- The cluster and the op of a command that runs one operation of an update program. -/
def Instr.upeCmd : Instr → Option (Nat × Nat)
  | .upeLoad _ c => some (c, 1)
  | .upeStore _ c => some (c, 2)
  | .upeAdd _ c => some (c, 3)
  | .upeSub _ c => some (c, 4)
  | .upeMul _ c => some (c, 5)
  | .upeFma _ c => some (c, 6)
  | .upeDiv _ c => some (c, 7)
  | .upeSqrt _ c => some (c, 8)
  | .upeRsqrt _ c => some (c, 9)
  | .upeMax _ c => some (c, 0xA)
  | .upeMin _ c => some (c, 0xB)
  | .upeAbs _ c => some (c, 0xC)
  | .upeSelect _ c => some (c, 0xD)
  | .upeCmp _ c => some (c, 0xE)
  | .upeConv _ c => some (c, 0xF)
  | .upeClamp _ c => some (c, 0x10)
  | _ => none

/-- The opcode, the arrival port and the packet of a command that takes a packet of one opcode; peer notices apart. -/
def Instr.packet : Instr → Option (Nat × Option Nat × Machine.Packet)
  | .eirData _ a k => some (Machine.opEIRDATA, a, k)
  | .eirTail _ a k => some (Machine.opEIRTAIL, a, k)
  | .eirFinalData _ a k => some (Machine.opEIRFDATA, a, k)
  | .eirFinalTail _ a k => some (Machine.opEIRFTAIL, a, k)
  | .eirRedo _ a k => some (Machine.opEIRREDO, a, k)
  | .write _ a k => some (Machine.opWRITE, a, k)
  | .read _ a k => some (Machine.opREAD, a, k)
  | .readData _ a k => some (Machine.opREADDATA, a, k)
  | .relay _ a k => some (Machine.opRELAY, a, k)
  | .ack _ a k => some (Machine.opACK, a, k)
  | .nack _ a k => some (Machine.opNACK, a, k)
  | .vote _ a k => some (Machine.opVOTE, a, k)
  | .voteResult _ a k => some (Machine.opVOTERES, a, k)
  | .voidNotice _ a k => some (Machine.opVOID, a, k)
  | .faultNoticeRx _ a k => some (Machine.opFAULT, a, k)
  | _ => none

end Sys2Proof

namespace Sys2Proof.Machine

/-- The command completes: it answers a next state, of which `P` holds. -/
def Answers (o : Host.Outcome State Fault Refusal) (P : State → Prop) : Prop := ∃ u, o = .next u ∧ P u

/-! ### The invariant -/

/-- The fuses hold a legal identity: a grade of R33, a minimum security version of at most 64 steps (R588), four revocation bits (R592). -/
def Fuses.Legal (f : Fuses) : Prop := 1 ≤ f.grade ∧ f.grade ≤ 3 ∧ f.minSec ≤ 64 ∧ f.revoked < 16

/-- The block's invariant: legal fuses, and a queue of commands that name only units the hardware has. -/
def State.Inv (s : State) : Prop := s.pkg.fuses.Legal ∧ ∀ i ∈ s.pending, i.wf = true

/-- Fuses only ever go one way: the identity stays, the minimum security version never falls, a revoked key stays revoked (R588, R592). -/
def Fuses.Later (f g : Fuses) : Prop :=
  g.serial = f.serial ∧ g.grade = f.grade ∧ g.revision = f.revision ∧ g.cores = f.cores ∧ g.fp64 = f.fp64 ∧
  g.columns = f.columns ∧ g.memPorts = f.memPorts ∧ g.staging = f.staging ∧ g.ports = f.ports ∧ g.serdes = f.serdes ∧
  g.debugLock = f.debugLock ∧ f.minSec ≤ g.minSec ∧ ∀ i, f.revoked.testBit i = true → g.revoked.testBit i = true

/-! ### Words of a core -/

/-- A command's word: core `c` runs task `k` from image `img`, and the word `w` it has in hand holds the command's op in one of its slots. -/
structure InHand (p : Pkg) (c k : Nat) (img : Image) (w : CWord) (slots : List Nat) (op : Nat) : Prop where
  ready : p.ready c = .word k img w
  holds : (slots.any fun j => w.has j && w.op j == op) = true

/-- Nothing stops the repeat in hand: it breaks no rule (R209), neither an interlock, a WAIT nor a full transfer table holds it (R203, R204, R206), and no fence refuses its transfers (R489). -/
structure Goes (p : Pkg) (c k : Nat) (img : Image) (w : CWord) : Prop where
  legal : (p.checkWord c k img w).first = none
  free  : p.holdOf c k w (p.uses c k w (p.core c).rep) = .none
  sent  : p.refused c w = false

/-- A word without an engine or transfer op: it can store nothing. -/
def CWord.quiet (w : CWord) : Prop := ∀ j ∈ [4, 5, 6, 7, 8], w.has j = false

/-- Two packages hold the same memory: every palette, every cluster memory, and GDDR, with their check states. -/
def SameMemory (p q : Pkg) : Prop :=
  (∀ j, (q.core j).pal = (p.core j).pal ∧ (q.core j).palWritten = (p.core j).palWritten ∧
    (q.core j).palPoison = (p.core j).palPoison) ∧
  (∀ j, (q.cluster j).mem = (p.cluster j).mem ∧ (q.cluster j).poison = (p.cluster j).poison) ∧ q.mem = p.mem

/-- Two packages agree on every core but `c`. -/
def OtherCores (c : Nat) (p q : Pkg) : Prop := ∀ j, j ≠ c → q.core j = p.core j

end Sys2Proof.Machine
end

