-- ==== Sys2Proof/Certificates/Slice0/Obligations.lean ====
section
/-! DEFINITION. The statements about the block, for the provers. Each says what a command of the table, an operation or a step does, for every state that meets its hypotheses. -/

open Sys2Proof Sys2Proof.Machine

namespace Sys2Proof.Machine

/-! ### What the statements compare -/

/-- Every command of the list completes: it answers a next state, and takes no command off the queue. -/
def Completes (s : State) (is : List Instr) : Prop := ∀ i ∈ is, ∃ u, exec i s = .next u ∧ u.pending = s.pending

/-- What a scalar slot leaves of the registers `x` it read (R184): the registers `y`. -/
def ScalarEffect (w : CWord) (x y : CoreSt) : Prop :=
  let f := w.slot 9
  let S (n : Nat) : Word := x.sreg.get 0 n
  let keepS := ∀ n, y.sreg.get 0 n = S n
  let keepCt := ∀ n, y.ct.get 0 n = x.ct.get 0 n
  let keepCp := ∀ n, y.cp.get false n = x.cp.get false n
  let keepLc := ∀ n, y.lc.get 0 n = x.lc.get 0 n
  let puts (v : Word) : Prop :=
    y.sreg.get 0 (fld f 27 24) = v ∧ (∀ n, n ≠ fld f 27 24 → y.sreg.get 0 n = S n) ∧ keepCt ∧ keepCp ∧ keepLc
  let a := S (fld f 23 20)
  let b := S (fld f 19 16)
  (w.op 9 = 1 → puts (a + b)) ∧
  (w.op 9 = 2 → puts (a - b)) ∧
  (w.op 9 = 3 → puts (BitVec.ofNat 64 (a.toNat * b.toNat))) ∧
  (w.op 9 = 4 → puts (a + BitVec.ofInt 64 (sext 16 (fld f 19 4)))) ∧
  (w.op 9 = 5 → puts (BitVec.ofNat 64 (w.slot 11).toNat)) ∧
  (w.op 9 = 6 → y.lc.get 0 (fld f 27 26) = BitVec.ofNat 32 (S (fld f 25 22)).toNat ∧
    (∀ n, n ≠ fld f 27 26 → y.lc.get 0 n = x.lc.get 0 n) ∧ keepS ∧ keepCt ∧ keepCp) ∧
  (w.op 9 = 7 → y.ct.get 0 (fld f 27 25) = BitVec.ofNat 32 (S (fld f 24 21)).toNat ∧
    (∀ n, n ≠ fld f 27 25 → y.ct.get 0 n = x.ct.get 0 n) ∧ keepS ∧ keepCp ∧ keepLc) ∧
  (w.op 9 = 8 → y.ct.get 0 (fld f 27 25) = x.ct.get 0 (fld f 27 25) + 1 ∧
    (∀ n, n ≠ fld f 27 25 → y.ct.get 0 n = x.ct.get 0 n) ∧ keepS ∧ keepCp ∧ keepLc) ∧
  (w.op 9 = 9 →
    let src : Int := if bitAt f 25 then (S (fld f 24 21)).toInt else ((x.ct.get 0 (fld f 24 21)).toNat : Int)
    let rhs : Int := (S (fld f 20 17)).toInt
    (y.cp.get false (fld f 27 26) = true ↔
      (fld f 16 14 = 0 ∧ src = rhs) ∨ (fld f 16 14 = 1 ∧ src ≠ rhs) ∨ (fld f 16 14 = 2 ∧ src < rhs) ∨
      (fld f 16 14 = 3 ∧ src ≤ rhs) ∨ (fld f 16 14 = 4 ∧ src > rhs) ∨ (fld f 16 14 = 5 ∧ src ≥ rhs)) ∧
    (∀ n, n ≠ fld f 27 26 → y.cp.get false n = x.cp.get false n) ∧ keepS ∧ keepCt ∧ keepLc)

/-- What an AG slot leaves of the generator `a` that it names (R179): the generator `b`. `used`: units that the word's engines consumed from its stream; `side`: their side bytes. -/
def AgEffect (x : BitVec 96) (op : Nat) (presets : List (BitVec 256)) (sreg : Word) (used side : Nat) (a b : Ag) : Prop :=
  let zero := b.i0 = 0 ∧ b.i1 = 0 ∧ b.i2 = 0 ∧ b.i3 = 0
  let shape := fld b.desc 191 0 = fld a.desc 191 0 ∧ fld b.desc 255 232 = fld a.desc 255 232
  let low40 := sreg.toNat % 2 ^ 40
  (op = 1 → b = { a.at (a.pos + used) with side := a.side + (if a.sideEn then side else 0) }) ∧
  (op = 2 → b = a) ∧
  (op = 3 → b.desc = presets.getD (fld x 39 34) 0 ∧ zero ∧ b.side = b.sideBase) ∧
  (op = 4 → b.base = low40 ∧ shape ∧ zero ∧ b.side = a.side) ∧
  (op = 5 → b.desc = a.desc ∧ zero ∧ b.side = a.sideBase) ∧
  (op = 6 → b.base = (a.base + low40) % 2 ^ 40 ∧ shape ∧ b.i0 = a.i0 ∧ b.i1 = a.i1 ∧ b.i2 = a.i2 ∧ b.i3 = a.i3 ∧ b.side = a.side)

/-- Where a core stands after a FLOW op of the word `w` at `x.pc` (R186, R187): the loops open then and the next index, before the ends of bodies are handled. `cp` and `lc` are the flags and counts that the op reads. -/
def FlowEffect (ws : List (BitVec 16)) (w : CWord) (x : CoreSt) (cp : Tbl Bool) (lc : Tbl (BitVec 32)) : List LoopLvl × Nat :=
  let f := w.slot 0
  let next := x.pc + w.len
  if w.op 0 = 1 then
    let n := if bitAt f 25 then fld f 11 0 else (lc.get 0 (fld f 27 26)).toNat
    let stop := skipWords ws (fld f 24 12) next
    if n = 0 then (x.loops, stop) else (⟨fld f 27 26, next, stop, n⟩ :: x.loops, next)
  else if w.op 0 = 2 then
    (x.loops, if bitAt f 27 = false ∨ cp.get false (fld f 26 25) = bitAt f 24 then fld f 16 0 else next)
  else if w.op 0 = 3 then
    if bitAt f 25 = false ∨ cp.get false (fld f 24 23) = bitAt f 22 then
      match x.loops.dropWhile (fun l => l.level != fld f 27 26) with
      | l :: ls => (ls, l.stop)
      | [] => (x.loops, next)
    else (x.loops, next)
  else (x.loops, next)

/-- The byte at a core-local address (R129). -/
def Pkg.lByte (p : Pkg) (c a : Nat) : Byte := (p.lRead c a 1).getD 0 0

/-- Whether a core-local address lies in one of the ranges. -/
def inRanges (rs : List (Nat × Nat)) (a : Nat) : Prop := ∃ r ∈ rs, r.1 ≤ a ∧ a < r.1 + r.2

/-- Core-local memory after a list of writes, and only those. -/
def Lands (p q : Pkg) (c : Nat) (ws : List LWrite) : Prop :=
  (∀ a, q.lByte c a = (ws.foldl (fun s l => s.lWrite c l) p).lByte c a) ∧
  ∀ a, ¬ inRanges (ws.map fun l => (l.addr, l.data.length)) a → q.lByte c a = p.lByte c a

/-- No slot of the engines but `j`, and no transfer, is in the word. -/
def CWord.only (w : CWord) (j : Nat) : Prop := ∀ i ∈ [4, 5, 6, 7, 8], i ≠ j → w.has i = false

/-- The package as a state's command at time `t` finds it. -/
def State.at (s : State) (t : Nat) : Pkg := s.pkg.tick t

/-- The newest event record is this one: its code, its unit and its context. -/
def Logged (q : Pkg) (event unit : Nat) (ctx : Option Nat) : Prop :=
  ∃ e rest, q.log.recs = e :: rest ∧ e.event = event ∧ e.unit = unit ∧ e.ctx = ctx

/-- A port `q` that differs from `p` at most in what waits for it and in the room of its receive buffer. -/
def SameButRoom (p q : Port) : Prop :=
  q = { p with waiting := q.waiting, held := q.held, heldPool := q.heldPool, freed := q.freed, freedPool := q.freedPool }

/-- Whether a value is legal for STROKE_CFG (R43, R52). -/
def strokeCfgOk (v : Word) : Prop :=
  40 ≤ fld v 11 0 ∧ fld v 11 0 ≤ 4000 ∧ 2 ≤ fld v 20 16 ∧ fld v 20 16 ≤ 16 ∧ 1 ≤ fld v 55 40 ∧ 1 ≤ fld v 39 37

/-- The writable fields of STROKE_CFG in `w` are those of `v`, and its reserved bits are 0 (R15, R52). -/
def strokeCfgIs (w v : Word) : Prop :=
  fld w 11 0 = fld v 11 0 ∧ fld w 15 12 = 0 ∧ fld w 20 16 = fld v 20 16 ∧ fld w 23 21 = 0 ∧ fld w 55 24 = fld v 55 24 ∧ fld w 63 56 = 0

/-- The next operation of a cluster's update engine is `f`, and nothing stops it: task `k` is in work on a program `ops`, its block has begun, and the die's clock runs (R288). -/
structure UpeReady (p : Pkg) (cl k : Nat) (ops : List UpeF) (f : UpeF) : Prop where
  task  : (p.cluster cl).upe.task = some k
  going : (p.cluster cl).upe.done = false
  begun : (p.cluster cl).upe.began = true
  prog  : ops = progOps (p.group (p.slotGroup k (p.cluster cl).upe.slot)).prog
  next  : ops[(p.cluster cl).upe.pc]? = some f
  clock : p.dieStopped (cl / 4) = false

/-- What an operation between temporaries gives in lane `n` of its block (R291, R294). -/
def Pkg.upeResult (p : Pkg) (cl k : Nat) (f : UpeF) (n : Nat) : Nat :=
  let u := (p.cluster cl).upe
  let g := p.gradient k
  let a := u.lane f.a n
  if f.op = 0xF then
    let e := gradAt g (p.slotTensor k u.slot 0) u.slot ((p.slotTensor k u.slot 0).local (u.elem + n))
    let d := srU (p.ctx (p.task k).ctx).seed.toNat (p.task k).step g.id ((1 + u.pc) * 65536 + (p.task k).rstream % 65536) e.index
    if u.raw.mem f.a then (convLane f true d (rawValue g a)).1 else (convLane f false d (fp32.decode a)).1
  else (upeLane f a (u.lane f.b n) (u.lane f.c n)).1

/-- Where the engine `v` stands after an operation of the block that `u` had in work (R286): the next operation, or after the last the next block of the slot, the next slot, or the end, with no temporary carried over. -/
def UpeMoves (u v : UpeSt) (ops count : Nat) : Prop :=
  v.task = u.task ∧ v.params = u.params ∧
  (u.pc + 1 < ops → v.pc = u.pc + 1 ∧ v.slot = u.slot ∧ v.elem = u.elem ∧ v.mask = u.mask ∧ v.masked = u.masked ∧ v.began = true ∧ v.done = false) ∧
  (ops ≤ u.pc + 1 → v.temps = [] ∧ v.raw = [] ∧ v.mask = [] ∧ v.began = false ∧ v.pc = 0 ∧
    (u.elem + 256 < count → v.elem = u.elem + 256 ∧ v.slot = u.slot ∧ v.masked = u.masked ∧ v.done = false) ∧
    (count ≤ u.elem + 256 → v.elem = 0 ∧ v.masked = 0 ∧
      (∀ r, nextSlot u.params (u.slot + 1) = some r → v.slot = r ∧ v.done = false) ∧
      (nextSlot u.params (u.slot + 1) = none → v.slot = u.slot ∧ v.done = true)))

/-- A context's entry is taken from its ring: its consumer index is one higher here and in host memory (R222). -/
def EntryTaken (p q : Pkg) (c : Nat) : Prop :=
  (q.ctx c).sqCons = (p.ctx c).sqCons + 1 ∧
  ∃ rest, q.out = p.out ++ Output.hostWrite (p.doorbell + 0x10000 + 8 * c) (leBytes 8 ((p.ctx c).sqCons + 1)) :: rest

/-- The entry of context `c` is answered by a record of kind 2 that is still held or has gone out: its code, and the entry's kind as its tag (R231). -/
def Answered (q : Pkg) (c code kind : Nat) : Prop :=
  let bs := recBytes code 2 0 0 0xFFFFFFFF kind q.stroke.number 0 0 0
  (∃ r ∈ (q.ctx c).cqHeld, r.out q.stroke.number = bs) ∨ ∃ a ph, Output.hostWrite a (bs ++ leBytes 1 ph) ∈ q.out

/-- What a SLOT_SET or SLOT_CLEAR entry `e` of context `c` comes to (R230): `p` the package before, `r` as it reads the descriptor, `q` after. -/
def SlotOutcome (p r q : Pkg) (c : Nat) (e : Bytes) : Prop :=
  let n := le e 4 2
  let set := le e 0 1 = 2
  let formed := zeros e 1 3 = true ∧ zeros e 6 2 = true ∧ (if set then zeros e 16 48 = true else zeros e 8 56 = true) ∧ n < 16384
  let may := (p.slots.find n).map (·.owner) = some c ∨ set ∧ p.slots.find n = none
  let free := (q.ctx c).ringHeld = .none
  (¬ (formed ∧ may) → q.slots = p.slots ∧ Answered q c Code.invalidDescriptor (le e 0 1) ∧ free) ∧
  (formed → may → p.slotBusy n = true → q.slots = p.slots ∧ (q.ctx c).ringHeld = .slotTasks ∧ (q.ctx c).ringEntry = e) ∧
  (formed → may → p.slotBusy n = false → ¬ set → q.slots = p.slots.erase n ∧ Answered q c Code.ok (le e 0 1) ∧ free) ∧
  (formed → may → p.slotBusy n = false → set →
    (∀ m, (r.readSlot c (le e 8 8)).1 = some m → q.slots = p.slots.set n m ∧ m.owner = c ∧ Answered q c Code.ok 2 ∧ free) ∧
    ((r.readSlot c (le e 8 8)).1 = none → q.slots = p.slots ∧ Answered q c Code.invalidDescriptor 2 ∧ free))

/-- Whether OPEN accepts the selected context (R215, R218, R439, R524). -/
def Opens (p : Pkg) : Prop :=
  let x := p.ctx p.sel
  x.phase = .free ∧ (4 ≤ fld x.sq 4 0 ∧ fld x.sq 4 0 ≤ 16) ∧ (4 ≤ fld x.cq 4 0 ∧ fld x.cq 4 0 ≤ 16) ∧ x.root ≠ 0 ∧
  bitAt (p.reg Reg.doorbellBase) 0 = true ∧ x.addersClash = false ∧ p.selfTesting = false

/-- Two packages agree on every context but `c`. -/
def OtherCtxs (c : Nat) (p q : Pkg) : Prop := ∀ d, d ≠ c → q.ctx d = p.ctx d

/-- The package with an arriving packet counted on its port; a packet from an endpoint of the package is on none. -/
def Pkg.entered (p : Pkg) (arr : Option Nat) (k : Packet) : Pkg :=
  match arr with
  | some n => p.delivered n k
  | none => p

/-- The package is not halted (R539), and the port that a packet arrives by, if any, exists and is up, and it received the block that completed the packet (R346). -/
def ArrivesUp (p : Pkg) (arr : Option Nat) : Prop :=
  p.frozen = false ∧ ∀ n, arr = some n → p.portPresent n = true ∧ (p.port n).state = 4 ∧ (p.port n).rxOk = true

/-- The direction that a packet arrives from. -/
def Pkg.from_ (p : Pkg) (arr : Option Nat) : Option Nat := arr.map fun n => portDir (p.port n).cfg

/-- A good packet for an endpoint of this package whose die's clock runs (R550), under its context's tag or of the management class (R350, R352, R364, R488). -/
structure ForUs (p : Pkg) (arr : Option Nat) (k : Packet) : Prop where
  range : ∀ n, arr = some n → n < 24
  up    : ArrivesUp p arr
  good  : k.good = true
  here  : eidPkg k.hd.dst = p.self ∧ p.fab.selfIdx ≠ none
  ep    : epOk (eidEp k.hd.dst) = true
  runs  : p.epStopped (eidEp k.hd.dst) = false
  tag   : k.hd.cls = 3 ∨ ((p.ctx k.hd.ctx).phase = .open ∧ (p.ctx k.hd.ctx).gen = k.hd.gen)

/-- The next packet of its flow: the first of a flow without an entry, or the one that the entry, not poisoned (R457), expects, with none waiting behind it (R364). -/
def InTurn (p : Pkg) (h : Hd) : Prop :=
  (p.rxFlow h = none ∧ h.seq = 0 ∧ h.start = true ∧ (p.dieFlows h.die).length < 0x40000) ∨
  ∃ f, p.rxFlow h = some f ∧ f.poison = false ∧ f.early = [] ∧ f.bad = [] ∧ f.next = h.seq ∧ h.start = false

/-- A tile's attempt is on record: the package has seen it, or a later one (R323). -/
def Seen (q : Pkg) (k : TileKey) (a : Nat) : Prop := ∃ e ∈ q.fab.seen, e.key = k ∧ a ≤ e.attempt

/-- A record of an event and a unit has been written since. -/
def NewlyLogged (p q : Pkg) (event unit : Nat) : Prop :=
  ∃ e ∈ q.log.recs, p.log.nextSeq ≤ e.seq ∧ e.event = event ∧ e.unit = unit

/-- One fault notice of a kind and unit sent: counted as sent, or as withheld where one went out in this stroke (R422). -/
def Noticed (p q : Pkg) (unit kind : Nat) : Prop :=
  q.reg Reg.noticesSent = p.reg Reg.noticesSent + BitVec.ofNat 64 (p.noticeFree unit kind).toNat ∧
  q.reg Reg.noticesSuppressed = p.reg Reg.noticesSuppressed + BitVec.ofNat 64 (!p.noticeFree unit kind).toNat

/-- No context, task, core, cluster or byte of GDDR changes, and no command is taken or added. -/
def WorkKept (s u : State) : Prop :=
  u.pkg.ctxs = s.pkg.ctxs ∧ u.pkg.tasks = s.pkg.tasks ∧ u.pkg.cores = s.pkg.cores ∧ u.pkg.clusters = s.pkg.clusters ∧
  u.pkg.mem = s.pkg.mem ∧ u.pending = s.pending

/-- A domain's reset has begun: recorded with its cause, counted, and in effect on the units of the domain (R471, R472, R473, R484). -/
def ResetBegun (p q : Pkg) (d cause : Nat) : Prop :=
  (∃ r ∈ q.rst.running, r.unit = d ∧ r.cause = cause ∧ r.fenced = false) ∧
  (∀ r ∈ q.rst.running, r.unit = d ∨ domIn d r.unit = false) ∧
  q.rst.lastUnit = d ∧ q.rst.lastCause = cause ∧ q.rst.history.get [] d = p.now :: p.rst.history.get [] d ∧
  q.reg Reg.domainResets = p.reg Reg.domainResets + 1 ∧
  (∀ c < 512, domIn d (Unit.core c) = true →
    (q.core c).task = none ∧ (q.core c).store = [] ∧ (q.core c).pal = [] ∧ (q.core c).sreg = [] ∧ (q.core c).acc = []) ∧
  (∀ c < 64, domIn d (Unit.cluster c) = true → (q.cluster c).xfers = [] ∧ (q.cluster c).upe = {}) ∧
  (∀ n < 32, domIn d (Unit.memPort n) = true → (q.memPort n).state = 1) ∧
  (∀ n < 24, domIn d (Unit.port n) = true → p.portPresent n = true → (q.port n).state = 6)

/-- The package has been reset: what a package reset clears is clear, what it keeps is kept, BRINGUP_STATUS among it, the sideband's address and identifier and the temperatures read as at reset (R16), and bring-up begins at step 2 unless something holds it, fails step 1 where THERM_TRIP_N is asserted (R538, R555), or stays stopped where a step of it has failed and the reset is not the sideband's (R471, R494, R553, R556). -/
def PackageReset (p q : Pkg) (cause : Nat) : Prop :=
  q.rst.pkgCause = cause ∧ q.rst.pkgHistory = p.now :: p.rst.pkgHistory ∧
  q.reg Reg.packageResets = p.reg Reg.packageResets + 1 ∧ NewlyLogged p q Ev.packageReset Unit.package ∧
  q.ctxs = [] ∧ q.tasks = [] ∧ q.cores = [] ∧ q.clusters = [] ∧ q.slots = [] ∧ q.groups = [] ∧ q.fab.plan = [] ∧ q.fab.ports = [] ∧
  q.rst.running = [] ∧ q.rst.oos = [] ∧ q.rst.fences = [] ∧ q.rst.pkgOos = p.rst.pkgOos ∧
  (fld p.resetCfg 27 24 ≤ min 255 ({ p with rst := { p.rst with pkgHistory := p.now :: p.rst.pkgHistory } } : Pkg).pkgResetCount → q.rst.oosDue = true) ∧ q.rst.history = p.rst.history ∧ q.rst.dump.retained = p.rst.dump.retained ∧
  q.stroke.number = 0 ∧ q.stroke.sync = .unsync ∧ q.power.ready = false ∧ q.sec.scope = 0 ∧
  q.meter = p.meter ∧ q.fuses = p.fuses ∧ q.now = p.now ∧
  q.power.last = p.power.last ∧ q.sec.temps = [] ∧ q.side = {} ∧
  (let kept := q.power.failStep = p.power.failStep ∧ q.power.failCode = p.power.failCode
   let trips := p.power.pwrGood = true ∧ p.power.trip = true
   (p.power.stopped = true → cause ≠ 2 → q.power.step = none ∧ kept) ∧
   (p.power.stopped = false ∨ cause = 2 →
     let free := p.power.pwrGood = true ∧ p.power.perst = false ∧ p.power.supplyHold = false ∧ p.power.halted = false
     (trips → q.power.step = none ∧ q.power.stopped = true ∧ q.power.failStep = 1 ∧ NewlyLogged p q Ev.bringupFailed Unit.package) ∧
     (¬ trips → kept ∧ (free → q.power.step = some 2 ∧ q.power.waiting = false) ∧ (¬ free → q.power.step = none ∧ q.power.waiting = true))))

/-- An Easel operation has ended: code and results are written, the port is idle, and the operation is counted (R517). -/
def EaselEnded (p q : Pkg) (code : Nat) (results : List Nat) : Prop :=
  q.easel.run = none ∧ q.easel.code = code ∧ q.easel.results = (results ++ [0, 0, 0, 0]).take 4 ∧ q.reg 0x010028 = p.reg 0x010028 + 1

/-- The command that starts an Easel operation: its op, the image it reads, and whether its arguments and preconditions pass (R518, R519, R521). -/
def EaselStarts (p : Pkg) (t tag : Nat) (b : Bytes) (i : Instr) (op : Nat) (ok : Prop) : Prop :=
  let r : EaselRun := { op := op, tag := tag, args := p.easelArgs, image := b }
  let a (n : Nat) : Nat := (p.reg (0x010040 + 8 * n)).toNat
  (i = .firmwareLoad t tag b ∧ op = 1 ∧ ok = (r.others [0, 1] = true ∧ a 0 % 4096 = 0 ∧ 4096 ≤ a 1 ∧ a 1 ≤ 0x4000000 ∧ a 1 % 4096 = 0 ∧
    b.length = a 1 ∧ p.fwVerify b = 0)) ∨
  (i = .planLoad t tag b ∧ op = 2 ∧ ok = (r.others [0] = true ∧ a 0 % 64 = 0 ∧ p.planOk b = true)) ∨
  (i = .tableLoad t tag b ∧ op = 3 ∧ ok = (r.others [0, 1] = true ∧ a 0 % 4096 = 0 ∧ a 1 < 2 ∧ b.length = 131072 ∧
    bankImageOk p.self 0 b = true ∧ p.fab.selfIdx ≠ none ∧ ((p.bank (a 1)).state = .empty ∨ (p.bank (a 1)).state = .ready))) ∨
  (i = .gesso t tag b ∧ op = 4 ∧ ok = (r.others [0, 1, 2] = true ∧ r.rangesOk p.mem.usable = true)) ∨
  (i = .scrubSweep t tag b ∧ op = 5 ∧ ok = (r.others [1, 2] = true ∧ r.rangesOk p.mem.usable = true)) ∨
  (i = .portRetrain t tag ∧ b = [] ∧ op = 6 ∧ ok = (r.others [0] = true ∧ a 0 < 32 ∧ (p.memPort (a 0)).state = 2)) ∨
  (i = .selfTest t tag ∧ b = [] ∧ op = 7 ∧ ok = (r.others [] = true ∧ (∀ x ∈ p.ctxs.vals, x.phase = .free) ∧ ∀ n < 24, (p.port n).state ≠ 4)) ∨
  (i = .easelCrashDump t tag ∧ b = [] ∧ op = 8 ∧ ok = (if a 0 = 0 then r.others [0] = true else
    a 0 = 1 ∧ r.others [0, 1, 2] = true ∧ a 1 % 4096 = 0 ∧ 0x100000 ≤ a 2))

/-- A package reset that the host did not command, as DUMP_CFG has it: at once, or after a dump that has begun (R494, R495). -/
def ResetOrDump (p q : Pkg) (cause : Nat) : Prop :=
  (¬ (bitAt (p.reg Reg.dumpCfg) 1 = true ∧ p.rst.dump.running = none) → PackageReset p q cause) ∧
  (bitAt (p.reg Reg.dumpCfg) 1 = true → p.rst.dump.running = none →
    q.rst.dump.running = some 5 ∧ q.rst.dump.begins = some (cause, 0xFFFF))

/-- An interval has been closed: its record stands at its place by number, every other record is as it was, and it says what the meter held (R565, R568, R569). -/
def Recorded (m n : MeterSt) (serial ticks flags : Nat) : Prop :=
  n.seq = m.seq + 1 ∧ (∀ j, j ≠ (m.seq + 1) % 4096 → n.records.find j = m.records.find j) ∧
  ∃ b, n.records.find ((m.seq + 1) % 4096) = some b ∧ le b 0 4 = (m.seq + 1) % 2 ^ 32 ∧ le b 4 2 = 1 ∧ le b 6 2 = flags % 65536 ∧
    le b 8 8 = serial % 2 ^ 64 ∧ le b 16 8 = (if m.calFault then 0 else (m.energy - m.startE) % 2 ^ 64) ∧ le b 24 8 = m.energy % 2 ^ 64 ∧
    le b 32 8 = m.startT % 2 ^ 64 ∧ le b 40 4 = (ticks - m.startT) % 2 ^ 32 ∧ le b 44 4 = m.events % 2 ^ 32 ∧
    le b 54 1 = (if m.isSealed then 0x5E else 0) ∧ le b 55 1 = m.bank % 256

/-- An SPDM request: its transport's state must have come to `need`, and comes to at least `stage`; the answer's code, and when the request is one that is answered and not an InvalidRequest (R590, R591). -/
def SpdmRequest (p : Pkg) (t tr : Nat) (req : Bytes) (i : Instr) (code need stage : Nat) (ok : Prop) : Prop :=
  (i = .getVersion t tr req ∧ code = 0x04 ∧ need = 0 ∧ stage = 1 ∧ ok = True) ∨ (i = .getCapabilities t tr req ∧ code = 0x61 ∧ need = 1 ∧ stage = 2 ∧ ok = True) ∨
  (i = .negotiateAlgorithms t tr req ∧ code = 0x63 ∧ need = 2 ∧ stage = 3 ∧ ok = ((le req 8 4).testBit 7 = true ∧ (le req 12 4).testBit 1 = true)) ∨
  (i = .getDigests t tr req ∧ code = 0x01 ∧ need = 3 ∧ stage = 0 ∧ ok = True) ∨
  (i = .getCertificate t tr req ∧ code = 0x02 ∧ need = 3 ∧ stage = 0 ∧ ok = (le req 2 1 % 16 = 0 ∧ (le req 4 2 < p.sec.chain.length ∨ le req 4 2 = 0))) ∨
  (i = .challenge t tr req ∧ code = 0x03 ∧ need = 3 ∧ stage = 0 ∧ ok = (le req 2 1 = 0)) ∨
  (i = .getMeasurements t tr req ∧ code = 0x60 ∧ need = 3 ∧ stage = 0 ∧
    ok = (((le req 2 1).testBit 0 = true → le req 36 1 % 16 = 0) ∧ (le req 3 1 ≤ 5 ∨ le req 3 1 = 0xFF)))



end Sys2Proof.Machine

/-- A repeat that breaks no rule and that nothing holds issues. For every command of a control word's slot: where the word in hand holds its op, breaks no rule and is not held, exec answers a next state in which one repeat is counted as issued, none as skipped and none as held; the core is not held; the word's next repeat is in hand, or after its last repeat repeat 0 of another word; the task has progressed in this stroke; and the queue is as it was. (R172, R187, R190, R206, R212.) -/
def Obligations.CoreWordIssues : Prop :=
  ∀ (s : State) (i : Instr) (c k op : Nat) (slots : List Nat) (img : Image) (w : CWord),
    i.coreCmd = some (c, slots, op) → c < 512 →
    InHand (s.pkg.tick i.time) c k img w slots op → Goes (s.pkg.tick i.time) c k img w →
    Answers (exec i s) fun u =>
      let x := s.pkg.core c
      let y := u.pkg.core c
      y.ctr.get 0 0x60 = x.ctr.get 0 0x60 + 1 ∧ y.ctr.get 0 0x58 = x.ctr.get 0 0x58 ∧ y.ctr.get 0 0x68 = x.ctr.get 0 0x68 ∧
      y.hold = .none ∧ y.task = x.task ∧ y.image = x.image ∧ y.store = x.store ∧
      (x.rep + 1 < w.repeats → y.rep = x.rep + 1 ∧ y.pc = x.pc ∧ y.loops = x.loops ∧ y.ended = x.ended) ∧
      (w.repeats ≤ x.rep + 1 → y.rep = 0) ∧
      ((s.pkg.tasks.find k).isSome → (u.pkg.task k).progress = s.pkg.stroke.number) ∧
      u.pkg.stroke.number = s.pkg.stroke.number ∧ u.pending = s.pending

/-- A repeat that breaks a rule is skipped. For every command of a control word's slot: where the word in hand breaks a rule, exec answers a next state in which none of the repeat's slots has taken effect (registers, generators, accumulators, vector registers, statistics, palettes, cluster memories, GDDR and every other core are as before), the skip count has risen by one and the issue count not, the newest event record is CW_SKIPPED with the detail of R210 and the task's context, and the core goes on with the word that follows, a skipped LOOP after its body. (R209, R210, R211.) -/
def Obligations.CoreWordSkipped : Prop :=
  ∀ (s : State) (i : Instr) (c k op : Nat) (slots : List Nat) (img : Image) (w : CWord) (slot reason : Nat),
    i.coreCmd = some (c, slots, op) → c < 512 →
    InHand (s.pkg.tick i.time) c k img w slots op →
    ((s.pkg.tick i.time).checkWord c k img w).first = some (slot, reason) →
    Answers (exec i s) fun u =>
      let x := s.pkg.core c
      let y := u.pkg.core c
      y.ctr.get 0 0x58 = x.ctr.get 0 0x58 + 1 ∧ y.ctr.get 0 0x60 = x.ctr.get 0 0x60 ∧
      y.sreg = x.sreg ∧ y.ct = x.ct ∧ y.cp = x.cp ∧ y.lc = x.lc ∧ y.ags = x.ags ∧ y.acc = x.acc ∧ y.vreg = x.vreg ∧
      y.tps = x.tps ∧ y.stats = x.stats ∧ y.spill = x.spill ∧ y.busy = x.busy ∧ y.ended = false ∧ y.rep = 0 ∧
      (y.loops, y.pc) = loopEnds x.loops
        (if w.has 0 = true ∧ w.op 0 = 1 then skipWords img.words (fld (w.slot 0) 24 12) (x.pc + w.len) else x.pc + w.len) ∧
      SameMemory s.pkg u.pkg ∧ OtherCores c s.pkg u.pkg ∧
      (∃ e rest, u.pkg.log.recs = e :: rest ∧ e.event = Ev.cwSkipped ∧ e.ctx = some (s.pkg.task k).ctx ∧
        e.stroke = s.pkg.stroke.number ∧
        e.detail = skipDetail x.pc x.rep reason slot x.image (s.pkg.task k).idx) ∧
      u.pending = s.pending

/-- A repeat that an interlock, a WAIT or a full transfer table holds only waits. For every command of a control word's slot: where the word in hand breaks no rule but is held, exec answers a next state that differs from the one before only in package time and in why the core is held. (R203, R204, R206.) -/
def Obligations.CoreWordHeld : Prop :=
  ∀ (s : State) (i : Instr) (c k op : Nat) (slots : List Nat) (img : Image) (w : CWord) (h : Hold),
    i.coreCmd = some (c, slots, op) → c < 512 →
    InHand (s.pkg.tick i.time) c k img w slots op →
    ((s.pkg.tick i.time).checkWord c k img w).first = none →
    (s.pkg.tick i.time).holdOf c k w ((s.pkg.tick i.time).uses c k w (s.pkg.core c).rep) = h → h ≠ .none →
    exec i s = .next { s with pkg := (s.pkg.tick i.time).updCore c fun x => { x with hold := h } }

/-- A held repeat issues once what held it has gone. INTERLOCK_RELEASE, SYNC_WAIT_RELEASE and TXE_SLOT_FREE: where the core is held for that reason and the repeat, with the operations that held it and those of the same engine before them taken away, breaks no rule and is not held or refused again, exec answers a next state in which the repeat has issued, is counted, and the cycles of the hold are counted too (those of a full transfer table also in the cluster's counter); where the core is not held for that reason, or its die's clock has stopped, only package time moves. (R203, R204, R206, R212.) -/
def Obligations.HeldWordReleased : Prop :=
  ∀ (s : State) (t c k n : Nat) (h : Hold) (i : Instr) (img : Image) (w : CWord),
    c < 512 →
    ((h = .interlock ∧ i = .interlockRelease t c n) ∨ (h = .wait ∧ i = .syncWaitRelease t c n) ∨
      (h = .txe ∧ i = .txeSlotFree t c n)) →
    let p := s.pkg.tick t
    let ended (b : BusyOp) : Bool := match h with
      | .interlock => interlocked [b] (p.busyOf c w (p.uses c k w (s.pkg.core c).rep))
      | .wait => waitSelects (w.slot 10) b
      | _ => false
    let free := p.updCore c fun x =>
      { x with hold := .none, busy := stillBusy x.busy ended, ctr := x.ctr.upd 0 0x68 (· + n) }
    let q := if h = .txe then free.clusterCount (clusterOf c) 0x10 n else free
    ((s.pkg.core c).hold = h → q.ready c = .word k img w → Goes q c k img w →
      Answers (exec i s) fun u =>
        (u.pkg.core c).hold = .none ∧
        (u.pkg.core c).ctr.get 0 0x60 = (s.pkg.core c).ctr.get 0 0x60 + 1 ∧
        (u.pkg.core c).ctr.get 0 0x68 = (s.pkg.core c).ctr.get 0 0x68 + n ∧
        (h = .txe → (u.pkg.cluster (clusterOf c)).ctr.get 0 0x10 = (s.pkg.cluster (clusterOf c)).ctr.get 0 0x10 + n) ∧
        u.pending = s.pending) ∧
    ((s.pkg.core c).hold ≠ h ∨ p.dieStopped (c / 32) = true → exec i s = .next { s with pkg := p })

/-- The scalar slot's ops. SCL ADD, SUB, MUL, ADDI, MOVI, SETLC, CTSET, CTINC and CPSET: where the word in hand issues, exec answers a next state in which the register, counter, flag or loop count that the slot names has the value of R184, computed from the values before the repeat, and every other one is as it was; where the word holds no engine or transfer slot, no memory and no other core changes. (R183, R184, R185.) -/
def Obligations.ScalarOps : Prop :=
  ∀ (s : State) (i : Instr) (c k op : Nat) (img : Image) (w : CWord),
    i.coreCmd = some (c, [9], op) → c < 512 →
    InHand (s.pkg.tick i.time) c k img w [9] op → Goes (s.pkg.tick i.time) c k img w →
    Answers (exec i s) fun u =>
      ScalarEffect w (s.pkg.core c) (u.pkg.core c) ∧
      (w.quiet → SameMemory s.pkg u.pkg ∧ OtherCores c s.pkg u.pkg) ∧ u.pending = s.pending

/-- The address generators' ops. AG STEP, HOLD, SETDESC, SETBASE, RESET and ADDBASE: where the word in hand issues, exec answers a next state in which every generator that an AG slot of the word names has moved or been configured as R179 says, and every generator that no slot names is as it was; where the word holds no engine or transfer slot, no memory, no scalar register and no other core changes. (R176, R177, R178, R179.) -/
def Obligations.GeneratorOps : Prop :=
  ∀ (s : State) (i : Instr) (c k op : Nat) (img : Image) (w : CWord),
    i.coreCmd = some (c, [1, 2, 3], op) → c < 512 →
    InHand (s.pkg.tick i.time) c k img w [1, 2, 3] op → Goes (s.pkg.tick i.time) c k img w →
    Answers (exec i s) fun u =>
      let p := s.pkg.tick i.time
      let us := p.uses c k w (s.pkg.core c).rep
      (∀ j ∈ [1, 2, 3], w.has j = true → w.op j ≠ 0 →
        let mine := us.filter fun v => v.stream == j - 1
        let a := s.pkg.ag c (fld (w.slot j) 43 40)
        AgEffect (w.slot j) (w.op j) img.presets (s.pkg.sreg c (fld (w.slot j) 33 30))
          ((mine.map fun v => v.units a.transpose).sum) ((mine.map (·.side)).sum) a (u.pkg.ag c (fld (w.slot j) 43 40))) ∧
      (∀ g, (∀ j ∈ [1, 2, 3], w.has j = true → w.op j ≠ 0 → fld (w.slot j) 43 40 ≠ g) → u.pkg.ag c g = s.pkg.ag c g) ∧
      (w.quiet → SameMemory s.pkg u.pkg ∧ OtherCores c s.pkg u.pkg) ∧
      (w.quiet → w.has 9 = false → (u.pkg.core c).sreg = (s.pkg.core c).sreg) ∧ u.pending = s.pending

/-- Loops, jumps, breaks and the end of a program. FLOW LOOP, JUMP, BREAK and END: where the word in hand issues its last repeat, exec answers a next state in which the loops that are open and the next halfword are those of R186 and R187 (an op reads the flags and counts as the word leaves them, the model's DEDUCED reading, log entry 12), repeat 0 is in hand, and the core has ended exactly where the op is END; a core that has ended has no word to run; where the word holds no engine or transfer slot, no memory and no other core changes. (R186, R187, R190.) -/
def Obligations.FlowOps : Prop :=
  ∀ (s : State) (i : Instr) (c k op : Nat) (img : Image) (w : CWord),
    i.coreCmd = some (c, [0], op) → c < 512 →
    InHand (s.pkg.tick i.time) c k img w [0] op → Goes (s.pkg.tick i.time) c k img w →
    w.repeats ≤ (s.pkg.core c).rep + 1 →
    Answers (exec i s) fun u =>
      let x := s.pkg.core c
      let y := u.pkg.core c
      let r := FlowEffect img.words w x y.cp y.lc
      (y.loops, y.pc) = loopEnds r.1 r.2 ∧ y.rep = 0 ∧ (y.ended = true ↔ op = 4) ∧
      (op = 4 → u.pkg.ready c = .no) ∧
      (w.quiet → SameMemory s.pkg u.pkg ∧ OtherCores c s.pkg u.pkg) ∧ u.pending = s.pending

/-- The vector engine's register ops. Every VXE op but LOAD, STORE and TABLE_LOAD: where the word in hand issues, exec answers a next state in which each lane of the destination register is the op's result on the same lanes of its sources (128 lanes of FP64, else 256 of 32 bits), and every other vector register and every table-pair slot is as it was; where the word holds no other engine or transfer slot, no memory and no other core changes, and the lanes' flags are raised for the task. (R104, R106, R107, R108, R144, R146, R148, R196, R197.) -/
def Obligations.VectorRegisterOps : Prop :=
  ∀ (s : State) (i : Instr) (c k op : Nat) (img : Image) (w : CWord),
    i.coreCmd = some (c, [5], op) → op ≠ 1 → op ≠ 2 → op ≠ 0x1A → c < 512 →
    InHand (s.pkg.tick i.time) c k img w [5] op → Goes (s.pkg.tick i.time) c k img w →
    Answers (exec i s) fun u =>
      let f := vxeF (w.slot 5)
      let x := s.pkg.core c
      let y := u.pkg.core c
      let wd := if f.fmt = 1 then 64 else 32
      let tb := if op = 0x18 ∨ op = 0x19 then x.tps.get ⟨0, [], false⟩ f.tp else ⟨0, [], false⟩
      let lane (r n : Nat) : Nat := (x.vreg.get {} r).lane wd n
      (∀ n < 8192 / wd, (y.vreg.get {} f.vd).lane wd n = (vxeLane f tb (lane f.va n) (lane f.vb n) (lane f.vc n)).1 % 2 ^ wd) ∧
      (∀ r, r ≠ f.vd → y.vreg.get {} r = x.vreg.get {} r) ∧ y.tps = x.tps ∧
      (w.only 5 → SameMemory s.pkg u.pkg ∧ OtherCores c s.pkg u.pkg ∧
        ((s.pkg.tasks.find k).isSome → (u.pkg.task k).ieee = (s.pkg.task k).ieee.or (s.pkg.vxeResult c f).2)) ∧
      u.pending = s.pending

/-- The vector engine's LOAD, STORE and TABLE_LOAD. Where the word in hand issues and holds no other engine or transfer slot: LOAD puts the stream's elements, decoded with their block scale, tile offset and tensor scale, into its register and leaves core-local memory alone; STORE lands the converted elements and block scales at the units of its stream and the bytes at the side pointer, and nowhere else, and changes no register; TABLE_LOAD puts the pair of table images, tagged with the task's context, into its slot. None of them changes GDDR. (R103, R147, R197.) -/
def Obligations.VectorLoadStore : Prop :=
  ∀ (s : State) (i : Instr) (c k op : Nat) (img : Image) (w : CWord),
    i.coreCmd = some (c, [5], op) → op = 1 ∨ op = 2 ∨ op = 0x1A → c < 512 →
    InHand (s.pkg.tick i.time) c k img w [5] op → Goes (s.pkg.tick i.time) c k img w → w.only 5 →
    Answers (exec i s) fun u =>
      let p := s.pkg.tick i.time
      let f := vxeF (w.slot 5)
      let x := s.pkg.core c
      let y := u.pkg.core c
      (op = 1 → ∀ t, (s.pkg.task k).tensor f.tensor = some t →
        y.vreg.get {} f.vd = (p.vxeLoad c k w f t).1 ∧ (∀ r, r ≠ f.vd → y.vreg.get {} r = x.vreg.get {} r) ∧ y.tps = x.tps ∧
        SameMemory s.pkg u.pkg) ∧
      (op = 2 → Lands s.pkg u.pkg c (p.vxeStoreIssue p c k w f).2 ∧ y.vreg = x.vreg ∧ y.tps = x.tps) ∧
      (op = 0x1A → y.tps.get ⟨0, [], false⟩ f.tp = p.tablePair c k w f ∧ (y.tps.get ⟨0, [], false⟩ f.tp).ctx = (s.pkg.task k).ctx ∧
        (∀ r, r ≠ f.tp → y.tps.find r = x.tps.find r) ∧ y.vreg = x.vreg ∧ SameMemory s.pkg u.pkg) ∧
      u.pkg.mem = s.pkg.mem ∧ OtherCores c s.pkg u.pkg ∧ u.pending = s.pending

/-- The matrix engine's MMA and WRITEOUT. Where the word in hand issues: MMA leaves in the set it names the products added to the set's start value, marked filled and not written out, and every other set as it was, and counts its steps and the zero groups it skipped; WRITEOUT marks its set written out, keeps its elements, and leaves every other set; where the word holds no other engine or transfer slot, MMA changes no memory, and WRITEOUT changes core-local memory only in the units of its stream (266 of a pair of contribution frames, else four for each bit of the format) and the 64 bytes at its generator's side pointer. (R138, R139, R141, R142, R191, R192, R194.) -/
def Obligations.MatrixOps : Prop :=
  ∀ (s : State) (i : Instr) (c k op : Nat) (img : Image) (w : CWord),
    i.coreCmd = some (c, [4], op) → c < 512 →
    InHand (s.pkg.tick i.time) c k img w [4] op → Goes (s.pkg.tick i.time) c k img w →
    Answers (exec i s) fun u =>
      let p := s.pkg.tick i.time
      let x := s.pkg.core c
      let y := u.pkg.core c
      let f := mmaF (w.slot 4)
      let g := outF (w.slot 4)
      let r := p.mmaOut c k w x.rep
      (op = 1 → y.acc.get {} f.acc = r.acc ∧ r.acc.filled = true ∧ r.acc.written = false ∧
        (∀ n, n ≠ f.acc → y.acc.get {} n = x.acc.get {} n) ∧
        y.ctr.get 0 0 = x.ctr.get 0 0 + r.steps ∧ y.ctr.get 0 0x20 = x.ctr.get 0 0x20 + r.zeros ∧
        (w.only 4 → SameMemory s.pkg u.pkg ∧ OtherCores c s.pkg u.pkg)) ∧
      (op = 2 → (s.pkg.task k).tensorOk g.ten = true →
        y.acc.get {} g.acc = { x.acc.get {} g.acc with written := true } ∧
        (∀ n, n ≠ g.acc → y.acc.get {} n = x.acc.get {} n) ∧ y.ctr.get 0 0 = x.ctr.get 0 0 ∧
        (w.only 4 → OtherCores c s.pkg u.pkg ∧
          ∀ a, (∀ q, w.stream g.st = some q →
              let n := if g.dest = 2 then 266 else 4 * fmtWidth g.fmt
              let side := (s.pkg.ag c q.1).side
              ¬ inRanges (((s.pkg.ag c q.1).units q.2 n).map fun b => (b, 64)) a ∧ ¬ (side ≤ a ∧ a < side + 64)) →
            u.pkg.lByte c a = s.pkg.lByte c a)) ∧
      u.pending = s.pending

/-- The row engine's forward ops save the statistics of their rows. NORM_FWD, RMS_FWD and SMAX_FWD: where the word in hand issues, exec answers a next state in which the core holds, for the op's last row, the statistics that the row's values give under the task's context and the op's tag, unless the row's entry already lay in the spill region; accumulators, vector registers and the spill selection are as they were where the word holds no other engine. (R150, R151, R152, R198, R199.) -/
def Obligations.RowForward : Prop :=
  ∀ (s : State) (i : Instr) (c k op : Nat) (img : Image) (w : CWord),
    i.coreCmd = some (c, [6], op) → op = 1 ∨ op = 2 ∨ op = 3 → c < 512 →
    InHand (s.pkg.tick i.time) c k img w [6] op → Goes (s.pkg.tick i.time) c k img w →
    Answers (exec i s) fun u =>
      let p := s.pkg.tick i.time
      let f := rweF (w.slot 6)
      let tag := fld (s.pkg.sreg c f.tagR) 31 0
      let row := (fld (s.pkg.sreg c f.rowR) 19 0 + (f.rows - 1)) % 2 ^ 20
      let xs := p.rweRows c w f.inS f.inF (p.rweLen c f) f.rows
      let q := rowFwd f.op f.empty (fld (s.pkg.sreg c f.epsR) 31 0) (xs.getD (f.rows - 1) ([], false)).1
      let hit (e : StatEntry) : Bool := e.ctx == (s.pkg.task k).ctx && e.tag == tag && e.row == row
      (s.pkg.spillDesc c = none → ∃ e, (u.pkg.core c).stats.find? hit = some e ∧ e.stat0 = q.s0.1 ∧ e.stat1 = q.s1.1) ∧
      (w.only 6 → (u.pkg.core c).acc = (s.pkg.core c).acc ∧ (u.pkg.core c).vreg = (s.pkg.core c).vreg ∧
        (u.pkg.core c).spill = (s.pkg.core c).spill ∧ OtherCores c s.pkg u.pkg) ∧ u.pending = s.pending

/-- The row engine's backward ops look their rows' statistics up; SPILL_SET selects a region. NORM_BWD, RMS_BWD and SMAX_BWD: where the word in hand issues, exec answers a next state in which STATS_MISS_COUNT has risen by the number of rows whose statistics neither the core nor its spill region held, and no entry's statistics have changed; SPILL_SET: the selected descriptor is the one at the address of the op's stream, and the statistics are as they were. (R153, R155, R156, R198.) -/
def Obligations.RowBackward : Prop :=
  ∀ (s : State) (i : Instr) (c k op : Nat) (img : Image) (w : CWord),
    i.coreCmd = some (c, [6], op) → op = 4 ∨ op = 5 ∨ op = 6 ∨ op = 7 → c < 512 →
    InHand (s.pkg.tick i.time) c k img w [6] op → Goes (s.pkg.tick i.time) c k img w →
    Answers (exec i s) fun u =>
      let x := s.pkg.core c
      let y := u.pkg.core c
      let f := rweF (w.slot 6)
      let tag := fld (s.pkg.sreg c f.tagR) 31 0
      let row (r : Nat) : Nat := (fld (s.pkg.sreg c f.rowR) 19 0 + r) % 2 ^ 20
      let lost (r : Nat) : Bool := (s.pkg.statRead c k tag (row r) false).1.isNone
      (op ≠ 7 → y.ctr.get 0 0x38 = x.ctr.get 0 0x38 + ((List.range f.rows).filter lost).length ∧
        y.stats.map (fun e => (e.ctx, e.tag, e.row, e.stat0, e.stat1)) = x.stats.map (fun e => (e.ctx, e.tag, e.row, e.stat0, e.stat1)) ∧
        y.spill = x.spill) ∧
      (op = 7 → y.stats = x.stats ∧ ∀ q, w.stream f.inS = some q → y.spill = some ((s.pkg.ag c q.1).addr q.2)) ∧
      (w.only 6 → OtherCores c s.pkg u.pkg) ∧ u.pending = s.pending

/-- GATHER groups rows, SCATTER combines them. Where the word in hand issues and holds no other engine or transfer slot, exec answers a next state in which core-local memory is as the op's writes leave it and unchanged everywhere else: GATHER's admitted rows in the order of their groups, its group table and its deferral records; SCATTER's combined rows; GATHER has counted at least the entries it found out of range; GDDR and every register are as they were. (R161, R162, R163, R164, R200, R201.) -/
def Obligations.GatherScatter : Prop :=
  ∀ (s : State) (i : Instr) (c k op : Nat) (img : Image) (w : CWord),
    i.coreCmd = some (c, [7], op) → c < 512 →
    InHand (s.pkg.tick i.time) c k img w [7] op → Goes (s.pkg.tick i.time) c k img w → w.only 7 →
    Answers (exec i s) fun u =>
      let p := s.pkg.tick i.time
      let f := sdeF (w.slot 7)
      let d := p.sdeParams c w f
      let x := s.pkg.core c
      let y := u.pkg.core c
      (op = 1 → Lands s.pkg u.pkg c (p.gather p c k f d).2 ∧
        x.ctr.get 0 0x40 + (p.routes c f d).2 ≤ y.ctr.get 0 0x40) ∧
      (op = 2 → Lands s.pkg u.pkg c (p.scatter p c k f d).2 ∧ y.ctr.get 0 0x40 = x.ctr.get 0 0x40) ∧
      (w.has 9 = false → y.sreg = x.sreg) ∧ y.acc = x.acc ∧ y.vreg = x.vreg ∧ y.stats = x.stats ∧
      u.pkg.mem = s.pkg.mem ∧ OtherCores c s.pkg u.pkg ∧ u.pending = s.pending

/-- The transfer engine's ops as issued. TXE COPY_IN, COPY_OUT, REDUCE and RELAY: where the word in hand issues, exec answers a next state in which the cluster has counted the slot's transfers; REDUCE has taken one tracked transfer for each contribution frame, on the lowest free indices, after those already tracked; a copy whose other end lies on another package that is not absent has taken one, aimed at that package; where the tensor lies on this package, a copy-in has changed nothing outside the units of its stream; RELAY has taken one aimed at the map's neighbour, where that is not absent. Where a fence refuses the transfers of a word that would issue, the refusal is counted, and the cluster tracks no transfer that it did not track before. (R202, R203, R316, R390, R489.) -/
def Obligations.TransferOps : Prop :=
  ∀ (s : State) (i : Instr) (c k op : Nat) (img : Image) (w : CWord) (t : TensorRef),
    i.coreCmd = some (c, [8], op) → c < 512 →
    InHand (s.pkg.tick i.time) c k img w [8] op → w.only 8 →
    let p := s.pkg.tick i.time
    let f := txeF (w.slot 8)
    let cl := clusterOf c
    let m := if (s.pkg.ctx (s.pkg.task k).ctx).herdEn then p.taskMap k else none
    let far := p.remoteOf m (f.sel (s.pkg.sreg c f.offR))
    ((p.checkWord c k img w).first = none → p.holdOf c k w (p.uses c k w (s.pkg.core c).rep) = .none → p.refused c w = true →
      (s.pkg.task k).phase = .running → Answers (exec i s) fun u =>
        u.pkg.reg Reg.fenceRefusals = s.pkg.reg Reg.fenceRefusals + 1 ∧
        (∀ x ∈ (u.pkg.cluster cl).xfers, ∃ y ∈ (s.pkg.cluster cl).xfers, y.id = x.id) ∧ u.pending = s.pending) ∧
    (Goes p c k img w → f.ref (s.pkg.task k) (s.pkg.sreg c f.offR) = some t →
    Answers (exec i s) fun u =>
      (u.pkg.cluster cl).ctr.get 0 0 = (s.pkg.cluster cl).ctr.get 0 0 + w.txeSlots ∧
      (op = 3 → ((u.pkg.cluster cl).xfers.map fun x => (x.id, x.task, x.kind)) =
        ((s.pkg.cluster cl).xfers.map fun x => (x.id, x.task, x.kind)) ++
          ((s.pkg.cluster cl).freeXfers w.txeSlots).map fun n => (n, k, XferKind.reduce)) ∧
      (op = 1 ∨ op = 2 → ∀ q, far = some q → p.isAbsent q = false →
        ((u.pkg.cluster cl).xfers.map fun x => (x.id, x.task, x.kind, x.dst)) =
          ((s.pkg.cluster cl).xfers.map fun x => (x.id, x.task, x.kind, x.dst)) ++
            ((s.pkg.cluster cl).freeXfers 1).map fun n =>
              (n, k, if op = 1 then XferKind.copyIn else XferKind.copyOut, eidOf q cl)) ∧
      (op = 1 → far = none → ∀ a, ¬ inRanges ((p.txeUnits c w f).map fun b => (b, 64)) a → u.pkg.lByte c a = s.pkg.lByte c a) ∧
      (op = 4 → ∀ r mp q, relaySel m (f.sel (s.pkg.sreg c f.offR)) = some r → m = some mp →
        mp.neighbour r.axis r.dir = some q → p.isAbsent q = false →
        ((u.pkg.cluster cl).xfers.map fun x => (x.id, x.task, x.kind, x.dst)) =
          ((s.pkg.cluster cl).xfers.map fun x => (x.id, x.task, x.kind, x.dst)) ++
            ((s.pkg.cluster cl).freeXfers 1).map fun n => (n, k, XferKind.relay, eidOf q cl)) ∧
      u.pending = s.pending)

/-- A boundary opens the next stroke. STROKE_BOUNDARY: while the strokes run, exec answers a next state in which the stroke number is one higher in 48 bits, an accepted write of STROKE_CFG is in force, the maintenance slot has begun, the stroke opened at the command's time and the next boundary lies one period later; period and slot are the register's, or those last received where the package follows marks; a source is locked (the model's reading, log entry 14), and any other package's sync state is as it was. While the strokes do not run, only package time moves. (R44, R45, R48, R52, R54, R55.) -/
def Obligations.StrokeOpens : Prop :=
  ∀ (s : State) (t : Nat),
    let p := s.at t
    let k := s.pkg.stroke
    let cfg := k.cfgNext.getD k.cfg
    (p.strokesRun = false → exec (.strokeBoundary t) s = .next { s with pkg := p }) ∧
    (p.strokesRun = true → Answers (exec (.strokeBoundary t) s) fun u =>
      let k' := u.pkg.stroke
      k'.number = (k.number + 1) % 2 ^ 48 ∧ k'.cfg = cfg ∧ k'.cfgNext = none ∧ k'.inSlot = true ∧
      k'.openedAt = p.now ∧ k'.nextAt = p.now + 1000 * k'.curPeriod ∧ k'.sync = (if bitAt cfg 36 = true then .locked else k.sync) ∧ k'.lastMark = k.lastMark ∧
      (k.lastMark = none ∨ bitAt cfg 36 = true → k'.curPeriod = fld cfg 11 0 ∧ k'.curSlot = fld cfg 20 16) ∧
      (∀ m, k.lastMark = some m → bitAt cfg 36 = false → (k'.curPeriod, k'.curSlot) = m) ∧
      u.pending = s.pending)

/-- The end of the maintenance slot. MAINT_SLOT_END: in the slot, exec answers a next state in which the slot is over and the rest of the stroke clock is as it was; a memory port whose retrain ran in the slot is back in use, trained now, with nothing held for it; every copy of a critical word that disagreed has been rewritten and counted; GDDR's contents, the contexts, the tasks, the cores and the clusters are as they were. Outside the slot only package time moves. (R54, R55, R443, R444, R456, R459.) -/
def Obligations.SlotEnds : Prop :=
  ∀ (s : State) (t : Nat),
    let p := s.at t
    (s.pkg.stroke.inSlot = false → exec (.maintSlotEnd t) s = .next { s with pkg := p }) ∧
    (s.pkg.stroke.inSlot = true → Answers (exec (.maintSlotEnd t) s) fun u =>
      u.pkg.stroke = { s.pkg.stroke with inSlot := false } ∧
      (s.pkg.easel.run = none → ∀ n < 32, (s.pkg.memPort n).state = 3 →
        (u.pkg.memPort n).state = 2 ∧ (u.pkg.memPort n).lastAt = p.now ∧ (u.pkg.memPort n).last = s.pkg.stroke.number ∧
        (u.pkg.memPort n).turn = false ∧ (u.pkg.memPort n).waiting = 0 ∧ (u.pkg.memPort n).abandoned = 0) ∧
      (∀ n, (s.pkg.memPort n).state ≠ 3 → (u.pkg.memPort n).state = (s.pkg.memPort n).state) ∧
      (∀ w, u.pkg.rst.copies.get [] w = []) ∧
      u.pkg.reg Reg.tmrCorrected = s.pkg.reg Reg.tmrCorrected + BitVec.ofNat 64 ((s.pkg.rst.copies.vals.map (·.length)).sum) ∧
      u.pkg.mem.bytes = s.pkg.mem.bytes ∧ u.pkg.ctxs = s.pkg.ctxs ∧ u.pkg.tasks = s.pkg.tasks ∧
      u.pkg.cores = s.pkg.cores ∧ u.pkg.clusters = s.pkg.clusters ∧ u.pending = s.pending)

/-- A stroke mark accepted, and marks that stay away. STROKE_MARK_ACCEPT on a port of the hardware, for a mark arriving now: the sender's boundary is the arrival less mark_offset (10 ps units), the port's measured delay (100 ps units) and 320 ns, and the phase is its distance from this package's own. A package that hears marks on the port (while locked, the port that delivers them now; else its valid parent ports), while it is locked or in holdover, and whose number and boundary (within 2 µs) the mark meets, moves its boundary by the phase, takes the mark's period and slot, records offset and port, gives the mark to every other port that is up for its next symbol after the nominal departure, and is locked; a mark that does not match, on the port that delivers the marks now, leaves it stroke lost with its own number, and on another changes nothing; a package that is unsynchronised or stroke lost adopts number and phase, with every open context committed through the stroke before and no transfer outstanding; a mark on any other port, or on the source, changes nothing, but that one on the parent port, while the alternate delivers the marks, is remembered (log entry 116). MARK_TIMEOUT: a locked package that no mark has reached takes the alternate parent where it is valid, whatever the state of its port, or from the alternate goes back to the parent port where that has delivered marks in this stroke (DEDUCED, log entry 116), and logs STROKE_PARENT_SWITCH; else it enters holdover, with no stroke of holdover counted yet. HOLDOVER_LIMIT_EXPIRE: past the limit the package is stroke lost, its number going on. In every other case either command changes nothing but package time. (R46, R47, R49, R50, R51.) -/
def Obligations.StrokeMarks : Prop :=
  (∀ (s : State) (t port n period slot offset : Nat) (alt : Bool), port < 24 →
    let p := s.at t
    let k := s.pkg.stroke
    let phase : Int := (p.now : Int) - ((offset + 10 * (s.pkg.port port).delay) / 100 : Nat) - 320 - (k.openedAt : Int)
    let i : Instr := .strokeMarkAccept t port n period slot offset
    let runs := p.strokesRun = true ∧ k.source = false ∧ (p.port port).state = 4
    let follows := runs ∧ p.hears port = some alt
    let good := n = k.number ∧ -2000 ≤ phase ∧ phase ≤ 2000
    let opened := ((k.openedAt : Int) + phase).toNat
    let kept := { k with openedAt := opened, nextAt := opened + 1000 * period, curPeriod := period, curSlot := slot,
                         offset := BitVec.ofInt 16 phase, markPort := port, lastMark := some (period, slot), marked := true, onAlt := alt }
    (¬ runs → exec i s = .next { s with pkg := p }) ∧
    (runs → p.hears port = none → exec i s = .next { s with pkg := if k.fromParent port then { p with stroke := { k with parentHeard := true } } else p }) ∧
    (follows → k.sync = .locked → good → Answers (exec i s) fun u =>
      u.pkg.stroke = kept ∧ (∀ q, q ∈ p.markPorts (some port) → u.pkg.port q = { s.pkg.port q with markOut := some (n, period, slot) }) ∧
      (∀ q, q ∉ p.markPorts (some port) → u.pkg.port q = s.pkg.port q) ∧ u.pkg.ctxs = s.pkg.ctxs ∧ u.pkg.mem = s.pkg.mem ∧
      u.pkg.out = p.out ∧ u.pending = s.pending) ∧
    (follows → k.sync = .holdover → good → Answers (exec i s) fun u =>
      u.pkg.stroke = { kept with sync := .locked } ∧ (∀ q ∈ p.markPorts (some port), (u.pkg.port q).markOut = some (n, period, slot)) ∧
      u.pending = s.pending) ∧
    (follows → k.sync = .holdover → ¬ good → k.parent ≠ some port → exec i s = .next { s with pkg := p }) ∧
    (follows → k.sync = .locked ∨ k.sync = .holdover → ¬ good → k.parent = some port → Answers (exec i s) fun u =>
      u.pkg.stroke.sync = .lost ∧ u.pkg.stroke.number = k.number ∧ u.pkg.stroke.openedAt = k.openedAt ∧ u.pending = s.pending) ∧
    (follows → k.sync = .unsync ∨ k.sync = .lost → Answers (exec i s) fun u =>
      u.pkg.stroke.sync = .locked ∧ u.pkg.stroke.number = n ∧ u.pkg.stroke.openedAt = opened ∧
      (∀ c, (u.pkg.ctx c).phase = .open → (u.pkg.ctx c).committed = n - 1 ∧ (u.pkg.ctx c).closed = []) ∧
      (∀ c, (u.pkg.cluster c).xfers = []) ∧ u.pending = s.pending)) ∧
  (∀ (s : State) (t : Nat),
    let p := s.at t
    let k := s.pkg.stroke
    let waits := k.source = false ∧ k.marked = false ∧ k.sync = .locked
    let alt := (k.onAlt = false ∧ bitAt k.cfg 35 = true) ∨ (k.onAlt = true ∧ k.parentHeard = true)
    (¬ waits → exec (.markTimeout t) s = .next { s with pkg := p }) ∧
    (waits → alt → Answers (exec (.markTimeout t) s) fun u =>
      u.pkg.stroke = { k with onAlt := !k.onAlt } ∧ Logged u.pkg Ev.strokeParentSwitch Unit.controlDie none ∧ u.pending = s.pending) ∧
    (waits → ¬ alt → Answers (exec (.markTimeout t) s) fun u =>
      u.pkg.stroke = { k with sync := .holdover, holdovers := 0 } ∧ u.pending = s.pending) ∧
    (¬ (k.sync = .holdover ∧ fld k.cfg 55 40 < k.holdovers) → exec (.holdoverLimitExpire t) s = .next { s with pkg := p }) ∧
    (k.sync = .holdover → fld k.cfg 55 40 < k.holdovers → Answers (exec (.holdoverLimitExpire t) s) fun u =>
      u.pkg.stroke.sync = .lost ∧ u.pkg.stroke.number = k.number ∧ u.pkg.stroke.openedAt = k.openedAt ∧ u.pending = s.pending))

/-- Writes of STROKE_CFG, STROKE_NUMBER and SPARE_POOL_CFG. While BAR0 is served: STROKE_CFG keeps a legal write for the next boundary, and any other is discarded and logged, with the register as it was; STROKE_NUMBER is written where the package is unsynchronised and the register has source set, and is read-only elsewhere; SPARE_POOL_CFG is written, with the whole pool free, where no context is open, the size is in range and the pool ends inside usable GDDR, and is discarded and logged elsewhere. Where BAR0 is not decoded, none of the three changes anything. (R15, R43, R52, R53, R68.) -/
def Obligations.StrokeRegisterWrites : Prop :=
  ∀ (s : State) (t : Nat) (v : Word),
    let p := s.at t
    let k := s.pkg.stroke
    let n := fld v 51 32
    let poolOk := (∀ x ∈ s.pkg.ctxs.vals, x.phase ≠ .open) ∧ 4096 ≤ n ∧ n ≤ 131072 ∧ fld v 31 16 * 0x200000 + n * 0x40000 ≤ s.pkg.mem.usable
    (p.barPhase = .off → ∀ i ∈ [Instr.strokeCfgWrite t v, .strokeNumberWrite t v, .sparePoolCfgWrite t v],
      exec i s = .next { s with pkg := p }) ∧
    (p.barPhase = .on → strokeCfgOk v → ∃ w, strokeCfgIs w v ∧
      exec (.strokeCfgWrite t v) s = .next { s with pkg := { p with stroke := { k with cfgNext := some w } } }) ∧
    (p.barPhase = .on → ¬ strokeCfgOk v → exec (.strokeCfgWrite t v) s = .next { s with pkg := p.discard Reg.strokeCfg v }) ∧
    (p.barPhase = .on → k.sync = .unsync → bitAt (k.cfgNext.getD k.cfg) 36 = true → Answers (exec (.strokeNumberWrite t v) s) fun u =>
      u = { s with pkg := { p with stroke := { k with number := v.toNat % 2 ^ 48 } } }) ∧
    (p.barPhase = .on → ¬ (k.sync = .unsync ∧ bitAt (k.cfgNext.getD k.cfg) 36 = true) → exec (.strokeNumberWrite t v) s = .next { s with pkg := p }) ∧
    (p.barPhase = .on → poolOk → Answers (exec (.sparePoolCfgWrite t v) s) fun u =>
      u.pkg.stroke.freeFrames = n ∧ fld u.pkg.stroke.spareCfg 51 16 = fld v 51 16 ∧ bitAt u.pkg.stroke.spareCfg 0 = bitAt v 0 ∧
      fld u.pkg.stroke.spareCfg 15 1 = 0 ∧ fld u.pkg.stroke.spareCfg 63 52 = 0 ∧ u.pkg.stroke.number = k.number ∧
      u.pkg.ctxs = s.pkg.ctxs ∧ u.pkg.mem = s.pkg.mem ∧ u.pending = s.pending) ∧
    (p.barPhase = .on → ¬ poolOk → exec (.sparePoolCfgWrite t v) s = .next { s with pkg := p.discard Reg.sparePoolCfg v })

/-- Frames recycled, and staged writes resumed. FRAME_RECYCLE: the version records of every context are first folded over the windows that have committed (where one context alone has a record with pending frames, and the fold frees a frame, the record is rewritten and the frames that it frees join those that wait); then none waits to be recycled any longer, every superseded frame of the pool's region is free, every other has joined the pool, and of the contexts, tasks, slots, cores and clusters nothing changes but which records have pending frames. STAGED_WRITE_RESUME on a context with one write waiting completes, under the translations that the write started with: the write lands where its page now has a frame for it, or operates there, its flags going to its task and its bytes counted as arrived where it is a remote one; it is discarded, with GDDR's bytes as they were, where it faults; and it waits on, in the same place, where its page still has no frame, counted where it finds the pool empty for the first time. (R65, R66, R67, R69, R85, R86.) -/
def Obligations.SparePoolAtWork : Prop :=
  ∀ (s : State) (t : Nat),
    let p := s.at t
    let k := s.pkg.stroke
    let b := poolBase k.spareCfg
    (∃ waits : List Nat, (∀ f ∈ k.recycle, f ∈ waits) ∧ Answers (exec (.frameRecycle t) s) fun u =>
      u.pkg.stroke = { k with recycle := [], used := u.pkg.stroke.used, joined := u.pkg.stroke.joined } ∧
      u.pkg.tasks = s.pkg.tasks ∧ u.pkg.slots = s.pkg.slots ∧ u.pkg.cores = s.pkg.cores ∧ u.pkg.clusters = s.pkg.clusters ∧
      (∀ c, u.pkg.ctx c = { s.pkg.ctx c with dirty := (u.pkg.ctx c).dirty }) ∧
      (∀ c r, s.pkg.ctxs.keys.Nodup → (s.pkg.ctx c).dirty = [r] → (∀ d, d ≠ c → (s.pkg.ctx d).dirty = []) → p.memStopped = false → s.pkg.dBad r 32 = false →
        let f := (s.pkg.vrec r).fold (s.pkg.ctx c).committed
        f.2 ≠ [] → u.pkg.mem.bytes = s.pkg.mem.bytes.writeN r f.1.bytes ∧ waits = k.recycle ++ f.2) ∧
      (∀ f ∈ waits, b ≤ f → f < b + poolPages k.spareCfg → u.pkg.stroke.used.mem (f - b) = false) ∧
      (∀ f ∈ waits, ¬ (b ≤ f ∧ f < b + poolPages k.spareCfg) → u.pkg.stroke.joined.mem f = true) ∧
      (∀ f, u.pkg.stroke.used.mem f = true → k.used.mem f = true) ∧ (∀ f, k.joined.mem f = true → u.pkg.stroke.joined.mem f = true) ∧
      u.pending = s.pending) ∧
    ∀ (c : Nat) (w : StagedWrite), c < 4096 → (s.pkg.ctx c).stagedWrites = [w] →
      let q := p.updCtx c fun x => { x with stagedWrites := [] }
      Answers (exec (.stagedWriteResume t c) s) fun u =>
        u.pending = s.pending ∧
        match (q.started c w.old).vWrite1 c w.addr w.by_ w.data w.bad (if w.by_.pkt.isSome then .remoteWrite else .write) with
        | .done r fl =>
          let r := if w.by_.arrives then r.arrive c w.addr w.data.length else r
          let r := match w.by_.task with
            | some (j, _) => r.taskFlags j fl
            | none => r
          u.pkg = { r.resumed q c w.old with now := p.now, fuses := p.fuses }
        | .fault _ =>
          (u.pkg.ctx c).stagedWrites = [] ∧ u.pkg.mem.bytes = s.pkg.mem.bytes ∧ u.pkg.stroke = k ∧
          (w.by_.task.isSome = true → u.pkg.reg Reg.ptFaults = s.pkg.reg Reg.ptFaults + 1)
        | .staged _ n e =>
          (u.pkg.ctx c).stagedWrites = [{ w with record := some n, counted := w.counted || e }] ∧
          u.pkg.mem.bytes = s.pkg.mem.bytes ∧ u.pkg.stroke = k ∧
          u.pkg.reg Reg.poolEmpty = s.pkg.reg Reg.poolEmpty + BitVec.ofNat 64 (e && !w.counted).toNat

/-- Transfers and packets past their lifetime. TRANSFER_AGED: at its second boundary a tracked transfer is dropped, and none of that number that is so old is left in any cluster; before that the command changes nothing but package time. PACKET_AGE_DROP: the packets of a port's queue, and those in its receive buffer that wait for a reduction slot, that have waited for longer than one stroke period are dropped and counted; the younger ones stay in order, the room that the dropped ones held in receive buffers is free again, and no context, no GDDR byte and no other port's queue changes. (R81.) -/
def Obligations.LifetimeBound : Prop :=
  ∀ (s : State) (t : Nat),
    let p := s.at t
    let n := if s.pkg.stroke.nextAt ≤ p.now then s.pkg.stroke.number + 1 else s.pkg.stroke.number
    (∀ cl id, cl < 64 → id < 1024 →
      let due (x : Xfer) : Prop := x.cluster = cl ∧ x.id = id ∧ x.stroke + 2 ≤ n
      ((∀ c ∈ s.pkg.clusters.vals, ∀ x ∈ c.xfers, ¬ due x) → exec (.transferAged t cl id) s = .next { s with pkg := p }) ∧
      ((∃ c ∈ s.pkg.clusters.vals, ∃ x ∈ c.xfers, due x) → Answers (exec (.transferAged t cl id) s) fun u =>
        (∀ c, ∀ x ∈ (u.pkg.cluster c).xfers, ¬ due x ∧ x ∈ (s.pkg.cluster c).xfers) ∧ u.pending = s.pending)) ∧
    (∀ port, port < 24 →
      let old (x : Nat × Moving) : Bool := decide (x.1 + 1000 * s.pkg.stroke.curPeriod < p.now)
      let q := s.pkg.port port
      let late := s.pkg.fab.redRoom.filter fun x => decide (x.1 + 1000 * s.pkg.stroke.curPeriod < p.now) && x.2.2.port == port
      let gone := (q.waiting.filter old).length + late.length
      let ends (x : Packet) : Bool := late.any fun y => y.2.1 == x
      let rooms := (q.waiting.filter old).filterMap (fun x => x.2.room) ++
        ((s.pkg.fab.redRoom.filter fun x => ends x.2.1 || !s.pkg.fab.redWait.contains (.packet x.2.1)).map fun x => x.2.2)
      (gone = 0 → exec (.packetAgeDrop t port) s = .next { s with pkg := p }) ∧
      (0 < gone → Answers (exec (.packetAgeDrop t port) s) fun u =>
        (u.pkg.port port).waiting = q.waiting.filter (fun x => !old x) ∧
        (∀ m, SameButRoom (s.pkg.port m) (u.pkg.port m)) ∧ (∀ m, m ≠ port → (u.pkg.port m).waiting = (s.pkg.port m).waiting) ∧
        (∀ m ch, (u.pkg.port m).freed.get 0 ch = (s.pkg.port m).freed.get 0 ch +
          ((rooms.filter fun r => r.port == m && r.chan == ch).map (·.own)).sum) ∧
        (∀ x, RedWait.packet x ∈ u.pkg.fab.redWait ↔ RedWait.packet x ∈ s.pkg.fab.redWait ∧ ends x = false) ∧
        u.pkg.reg Reg.agedDrops = s.pkg.reg Reg.agedDrops + BitVec.ofNat 64 gone ∧
        u.pkg.ctxs = s.pkg.ctxs ∧ u.pkg.mem = s.pkg.mem ∧ u.pending = s.pending))

/-- The window of a local context at a boundary. Step 2 of the slot, on an open context without a herd whose window of the ended stroke is closed: where no task overran and nothing is being pulled, the context's committed-through stroke is that stroke, the window's state has become its committed state, its deferrals are counted anew, and COMMIT_COUNT has risen; where one did, and the deferrals are not used up, nothing is committed and one more deferral is counted. (R66, R67, R70.) -/
def Obligations.WindowCommits : Prop :=
  ∀ (p : Pkg) (c : Nat) (st : WinState) (before later : List (Nat × WinState)),
    let x := p.ctx c
    let e := p.stroke.number - 1
    let q := p.localStep c
    let y := q.ctx c
    x.phase = .open → x.herdEn = false → x.closed = before ++ (e, st) :: later →
    (∀ w ∈ before, w.1 < e) → (∀ w ∈ later, e < w.1) → x.committed ≤ e →
    (x.overran = false → x.pulling = false →
      y.committed = e ∧ y.com = st ∧ y.closed = later ∧ y.defers = 0 ∧ y.cur = x.cur ∧ y.gen = x.gen ∧ y.phase = .open ∧
      (∀ d, d ≠ c → q.ctx d = p.ctx d) ∧ q.reg Reg.commitCount = p.reg Reg.commitCount + 1) ∧
    (x.overran = true ∨ x.pulling = true → x.defers + 1 ≤ fld p.stroke.cfg 39 37 →
      y.committed = x.committed ∧ y.com = x.com ∧ y.closed = before ++ later ∧ y.defers = x.defers + 1 ∧ y.cur = x.cur ∧
      y.gen = x.gen ∧ (∀ d, d ≠ c → q.ctx d = p.ctx d) ∧ q.reg Reg.deferCount = p.reg Reg.deferCount + 1)

/-- The update engine's operations between temporaries. UPE ADD, SUB, MUL, FMA, DIV, SQRT, RSQRT, MAX, MIN, ABS, SELECT, CMP, CONV and CLAMP: where it is the next operation of the cluster's block, exec answers a next state in which each lane of the destination temporary is the operation's result on the same lane of its sources (read while the program goes on in the block), every other temporary is as it was, the engine stands at the next operation or the next block, four cycles are counted, and no memory and no core has changed. (R286, R291, R294, R304.) -/
def Obligations.UpeArithmetic : Prop :=
  ∀ (s : State) (i : Instr) (cl op k : Nat) (ops : List UpeF) (f : UpeF),
    i.upeCmd = some (cl, op) → 3 ≤ op → cl < 64 → UpeReady (s.at i.time) cl k ops f → f.op = op →
    Answers (exec i s) fun q =>
      let p := s.at i.time
      let u := (s.pkg.cluster cl).upe
      let v := (q.pkg.cluster cl).upe
      let count := (s.pkg.slotTensor k u.slot 0).count
      UpeMoves u v ops.length count ∧
      (u.pc + 1 < ops.length →
        (∀ n < u.lanes count, v.lane f.d n = p.upeResult cl k f n % 2 ^ 64) ∧
        (∀ d, d ≠ f.d → v.temps.get 0 d = u.temps.get 0 d) ∧ v.raw.mem f.d = false) ∧
      (q.pkg.cluster cl).ctr.get 0 0x18 = (s.pkg.cluster cl).ctr.get 0 0x18 + 4 ∧
      (ops.length ≤ u.pc + 1 → (q.pkg.cluster cl).ctr.get 0 0x20 = (s.pkg.cluster cl).ctr.get 0 0x20 + 1) ∧
      SameMemory s.pkg q.pkg ∧ q.pkg.cores = s.pkg.cores ∧ q.pending = s.pending

/-- The update engine's LOAD and STORE. UPE LOAD: each lane of the destination temporary is the lane's gradient element (an EIR32 element as its integer and tile exponent), its element of the slot tensor that sel names as FP32, the two halves of a split master joined, a power, a parameter of the group in force, 1 minus a power, or the immediate; GDDR's contents are as they were. UPE STORE: the temporaries are as they were, GDDR is as the store of the unmasked lanes leaves it, and where every lane is masked and the copy is not block-scaled nothing is written. Both leave the engine at the next operation or block. Where a fence refuses the engine's requests, the refusal is counted. (R286, R292, R293, R304, R328, R489.) -/
def Obligations.UpeLoadStore : Prop :=
  ∀ (s : State) (i : Instr) (cl op k : Nat) (ops : List UpeF) (f : UpeF),
    i.upeCmd = some (cl, op) → op = 1 ∨ op = 2 → cl < 64 → UpeReady (s.at i.time) cl k ops f → f.op = op →
    ((s.at i.time).fencedFrom (Unit.clusterEngine cl 1) = true → Answers (exec i s) fun q =>
      q.pkg.reg Reg.fenceRefusals = s.pkg.reg Reg.fenceRefusals + 1 ∧ q.pending = s.pending) ∧
    ((s.at i.time).fencedFrom (Unit.clusterEngine cl 1) = false → Answers (exec i s) fun q =>
      let p := s.at i.time
      let u := (s.pkg.cluster cl).upe
      let v := (q.pkg.cluster cl).upe
      let w := s.pkg.slotTensor k u.slot 0
      let g := s.pkg.gradient k
      let ps := u.params.get [] u.slot
      let rd (t : TensorRef) (e : ElemAt) : ElemRd := (p.elemRead (s.pkg.task k).ctx t e).1
      let place (n : Nat) := w.local (u.elem + n)
      let value (n : Nat) : Nat :=
        if f.sel = 0 then
          let r := rd g (gradAt g w u.slot (place n))
          if g.fmt = 0xE then r.bits + ofInt 8 r.t * 2 ^ 32 else (toF32 r.val).1
        else if f.sel ≤ 4 then
          let t := s.pkg.slotTensor k u.slot (f.sel - 1)
          (toF32 (rd t (t.at (place n))).val).1
        else if f.sel = 5 then
          let t := s.pkg.slotTensor k u.slot 1
          (rd w (w.at (place n))).bits * 65536 + (rd t (t.at (place n))).bits
        else if f.sel = 13 then (fp32.sub .rne 0x3F800000 (ps.getD 5 0)).1
        else if f.sel = 14 then (fp32.sub .rne 0x3F800000 (ps.getD 6 0)).1
        else if f.sel = 15 then f.imm
        else ps.getD (if f.sel ≤ 7 then f.sel - 1 else f.sel - 8) 0
      UpeMoves u v ops.length w.count ∧
      (op = 1 → u.pc + 1 < ops.length →
        (∀ n < u.lanes w.count, v.lane f.d n = value n % 2 ^ 64) ∧ (∀ d, d ≠ f.d → v.temps.get 0 d = u.temps.get 0 d)) ∧
      (op = 1 → q.pkg.mem.bytes = s.pkg.mem.bytes) ∧
      (op = 2 → q.pkg.mem = (p.upeStore cl k f).mem ∧ (u.pc + 1 < ops.length → v.temps = u.temps)) ∧
      (op = 2 → (∀ n < u.lanes w.count, (u.mask.find n).isSome = true) → ¬ (f.sel = 1 ∧ fmtBlock w.fmt = true) →
        q.pkg.mem = s.pkg.mem) ∧
      (q.pkg.cluster cl).ctr.get 0 0x18 = (s.pkg.cluster cl).ctr.get 0 0x18 + 4 ∧ q.pkg.cores = s.pkg.cores ∧ q.pending = s.pending)

/-- Ring indices, the entries that a poll takes, and held records released. DOORBELL_POLL with one producer index: on an open context a legal index becomes the ring's, and an illegal one is ignored, and counted and logged once for each distinct value. With one NOP entry at the front of a ring: the entry is taken with no other effect on the context. CQ_RECORDS_RELEASE: a legal consumer index becomes the ring's; the oldest held records, as many as the ring now has room for, are written, each at the next place of the ring with the phase of its turn, the task slots that they held are free, and the rest stay held in order, a ring that becomes full counted and logged once; where no record waits nothing else changes. While rings are not processed, both only move package time. (R218, R219, R221, R222, R223, R231, R233.) -/
def Obligations.RingIndices : Prop :=
  ∀ (s : State) (t c v : Nat), c < 4096 →
    let p := s.at t
    let x := s.pkg.ctx c
    (p.ringsOn = false → exec (.doorbellPoll t [(c, v)] []) s = .next { s with pkg := p } ∧
      exec (.cqRecordsRelease t c v) s = .next { s with pkg := p }) ∧
    (p.ringsOn = true → x.phase = .open → x.sqProd ≤ v → v ≤ x.sqCons + 2 ^ fld x.sq 4 0 →
      exec (.doorbellPoll t [(c, v)] []) s = .next { s with pkg := p.setCtx c { x with sqProd := v } }) ∧
    (p.ringsOn = true → x.phase = .open → v < x.sqProd ∨ x.sqCons + 2 ^ fld x.sq 4 0 < v → v ∉ x.badSq →
      Answers (exec (.doorbellPoll t [(c, v)] []) s) fun u =>
        u.pkg.ctx c = { x with badSq := NatSet.ins x.badSq v } ∧ u.pkg.reg Reg.ringIndexInvalid = s.pkg.reg Reg.ringIndexInvalid + 1 ∧
        Logged u.pkg Ev.ringIndexInvalid Unit.controlDie (some c) ∧ u.pending = s.pending) ∧
    (p.ringsOn = true → x.phase = .open → v ∈ x.badSq → v < x.sqProd ∨ x.sqCons + 2 ^ fld x.sq 4 0 < v →
      exec (.doorbellPoll t [(c, v)] []) s = .next { s with pkg := p }) ∧
    (∀ e, p.entryReady c = true → le e 0 1 = 0 → Answers (exec (.doorbellPoll t [] [(c, e)]) s) fun u =>
      EntryTaken p u.pkg c ∧ u.pkg.ctx c = { x with sqCons := x.sqCons + 1 } ∧ u.pkg.tasks = s.pkg.tasks ∧ u.pending = s.pending) ∧
    (p.ringsOn = true → x.phase ≠ .free → x.cqCons ≤ v → v ≤ x.cqProd → x.cqHeld = [] →
      exec (.cqRecordsRelease t c v) s = .next { s with pkg := p.setCtx c { x with cqCons := v } }) ∧
    (p.ringsOn = true → x.phase = .open → x.cqCons ≤ v → v ≤ x.cqProd →
      let k := fld x.cq 4 0
      let n := min x.cqHeld.length (v + 2 ^ k - x.cqProd)
      Answers (exec (.cqRecordsRelease t c v) s) fun u =>
        u.pkg.ctx c = { x with cqCons := v, cqHeld := x.cqHeld.drop n, cqProd := x.cqProd + n, cqFull := if x.cqHeld = [] then x.cqFull else decide (n < x.cqHeld.length) } ∧
        (n < x.cqHeld.length → x.cqFull = false → u.pkg.reg Reg.cqFullCount = s.pkg.reg Reg.cqFullCount + 1 ∧
          Logged u.pkg Ev.cqFull Unit.controlDie (some c)) ∧
        (∀ j r, j < n → x.cqHeld[j]? = some r →
          Output.hostWrite (fld x.cq 63 12 * 4096 + 64 * ((x.cqProd + j) % 2 ^ k))
            (r.out s.pkg.stroke.number ++ leBytes 1 (((x.cqProd + j) >>> k) % 2)) ∈ u.pkg.out) ∧
        u.pkg.tasks = s.pkg.tasks.filter (fun y => !(x.cqHeld.take n).any fun r => r.slots.contains y.1) ∧
        (∀ d, d ≠ c → u.pkg.ctx d = s.pkg.ctx d) ∧ u.pending = s.pending)

/-- A sketch is admitted, or waits for task slots. SKETCH at the front of a ring takes the entry and a sketch sequence number. Where the sketch's count is within the context's limit but too few task slots are free, the entry waits, counted once; SKETCH_ADMIT_RESUME leaves it waiting while that lasts. Where slots are free, a sketch of one task that reads and checks in order is admitted on the lowest free slot, waiting, with its code still 0. Where no entry is ready, or none waits, the commands only move package time. (R222, R224, R235, R236.) -/
def Obligations.SketchAdmission : Prop :=
  ∀ (s : State) (t c : Nat) (e : Bytes), c < 4096 →
    let p := s.at t
    let x := s.pkg.ctx c
    let lim := fld x.sched 15 0
    (p.entryReady c = false → exec (.sketch t c e) s = .next { s with pkg := p }) ∧
    (x.ringHeld ≠ .sketchSlots → exec (.sketchAdmitResume t c) s = .next { s with pkg := p }) ∧
    (p.entryReady c = true → 1 ≤ le e 16 4 → le e 16 4 ≤ 32768 → le e 16 4 ≤ lim →
      lim < s.pkg.inFlight c + le e 16 4 ∨ 32768 < s.pkg.tasks.length + le e 16 4 →
      Answers (exec (.sketch t c e) s) fun u =>
        EntryTaken p u.pkg c ∧ (u.pkg.ctx c).ringHeld = .sketchSlots ∧ (u.pkg.ctx c).ringEntry = e ∧
        (u.pkg.ctx c).sketchSeq = x.sketchSeq + 1 ∧ u.pkg.tasks = s.pkg.tasks ∧
        u.pkg.reg Reg.admitWait = s.pkg.reg Reg.admitWait + BitVec.ofNat 64 (!x.waitNoted).toNat ∧ u.pending = s.pending) ∧
    (p.ringsOn = true → x.phase = .open → x.ringHeld = .sketchSlots → x.waitNoted = true →
      1 ≤ le x.ringEntry 16 4 → le x.ringEntry 16 4 ≤ 32768 → le x.ringEntry 16 4 ≤ lim →
      lim < s.pkg.inFlight c + le x.ringEntry 16 4 ∨ 32768 < s.pkg.tasks.length + le x.ringEntry 16 4 →
      Answers (exec (.sketchAdmitResume t c) s) fun u =>
        u.pkg.ctx c = x ∧ u.pkg.tasks = s.pkg.tasks ∧ u.pkg.regs = s.pkg.regs ∧ u.pending = s.pending) ∧
    (∀ (i : Instr) (e : Bytes) (r p1 p2 : Pkg) (seq j : Nat) (b : Bytes) (k : Task),
      (i = .sketch t c e ∧ p.entryReady c = true ∧ seq = x.sketchSeq + 1 ∧
        r = (p.takeEntry c).updCtx c fun y => { y with sketchSeq := y.sketchSeq + 1, ringHeld := .none, ringEntry := [], waitNoted := false }) ∨
      (i = .sketchAdmitResume t c ∧ p.ringsOn = true ∧ x.phase = .open ∧ x.ringHeld = .sketchSlots ∧ e = x.ringEntry ∧ seq = x.sketchSeq ∧
        r = p.updCtx c fun y => { y with ringHeld := .none, ringEntry := [], waitNoted := false }) →
      le e 1 1 < 4 → zeros e 20 44 = true → le e 16 4 = 1 → le e 8 8 % 128 = 0 →
      s.pkg.inFlight c + 1 ≤ lim → s.pkg.tasks.length + 1 ≤ 32768 → s.pkg.freeSlots 1 = [j] →
      r.rdStruct c (le e 8 8) 128 = (.ok b, p1) → p1.readTask (taskOf c seq 0 b) = (k, [], p2) →
      (taskOf c seq 0 b).succCount = 0 → (taskOf c seq 0 b).depCount = 0 →
      Answers (exec i s) fun u =>
        u.pkg.tasks.find j = some { k with code := 0, atCompletion := false } ∧ k.phase = .waiting ∧ k.ctx = c ∧ k.seq = seq ∧ k.deps = 0 ∧
        (∀ m, m ≠ j → u.pkg.tasks.find m = s.pkg.tasks.find m) ∧
        (u.pkg.ctx c).sketches = x.sketches ++ [sketchOf e seq] ∧ (u.pkg.ctx c).ringHeld = .none ∧
        u.pkg.reg Reg.tasksAdmitted = s.pkg.reg Reg.tasksAdmitted + 1 ∧ u.pending = s.pending)

/-- Model slots set and cleared. SLOT_SET and SLOT_CLEAR at the front of a ring take their entry, and SLOT_ENTRY_RESUME goes on with one that waited; each completes. A legal SLOT_SET whose descriptor checks leaves the slot with what it describes; one whose descriptor does not check, one for another context's slot and a malformed one leave every slot as it was; a SLOT_CLEAR by the owner frees the slot, and by any other leaves it; each is answered by a record, of code OK where it was carried out and INVALID_DESCRIPTOR where not. An entry whose slot an admitted task still names waits, with every slot as it was. Where no such entry is ready, or none waits, the commands only move package time. (R222, R223, R229, R230, R231, R299.) -/
def Obligations.SlotEntries : Prop :=
  ∀ (s : State) (t c : Nat), c < 4096 →
    let p := s.at t
    let x := s.pkg.ctx c
    (∀ e, p.entryReady c = true → le e 0 1 = 2 → Answers (exec (.slotSet t c e) s) fun u =>
      EntryTaken p u.pkg c ∧ SlotOutcome s.pkg (p.takeEntry c) u.pkg c e ∧ u.pending = s.pending) ∧
    (∀ e, p.entryReady c = true → le e 0 1 = 3 → Answers (exec (.slotClear t c e) s) fun u =>
      EntryTaken p u.pkg c ∧ SlotOutcome s.pkg (p.takeEntry c) u.pkg c e ∧ u.pending = s.pending) ∧
    (p.ringsOn = true → x.phase = .open → x.ringHeld = .slotTasks → Answers (exec (.slotEntryResume t c) s) fun u =>
      SlotOutcome s.pkg p u.pkg c x.ringEntry ∧ u.pending = s.pending) ∧
    (∀ e, ¬ (p.entryReady c = true ∧ le e 0 1 = 2) → exec (.slotSet t c e) s = .next { s with pkg := p }) ∧
    (∀ e, ¬ (p.entryReady c = true ∧ le e 0 1 = 3) → exec (.slotClear t c e) s = .next { s with pkg := p }) ∧
    (¬ (p.ringsOn = true ∧ x.phase = .open ∧ x.ringHeld = .slotTasks) → exec (.slotEntryResume t c) s = .next { s with pkg := p })

/-- Arrival windows. ARRIVAL_SET at the front of a ring takes the entry and completes. A legal one that enables the window sets it with its counter at 0, in every window of the context (that the reset reaches the committed and closed values too is the model's choice, log entry 88); one that disables it removes it; every other window and counter stays, and a task of an earlier entry that awaits the counter finds the value that it had; an ill-formed one, an unaligned or empty window and one that overlaps another enabled window change no window and are answered with INVALID_DESCRIPTOR. Where no such entry is ready the command only moves package time. (R84, R222, R231, R238, R239.) -/
def Obligations.ArrivalWindows : Prop :=
  ∀ (s : State) (t c : Nat) (e : Bytes), c < 4096 →
    let p := s.at t
    let x := s.pkg.ctx c
    let n := le e 1 1
    let base := le e 8 8
    let len := le e 16 8
    let on := (le e 2 1).testBit 0 = true
    let formed := le e 2 1 < 4 ∧ zeros e 3 5 = true ∧ zeros e 24 40 = true
    let legal := base % 64 = 0 ∧ 1 ≤ len ∧ len % 64 = 0 ∧
      ∀ w ∈ x.arrWin, w.1 ≠ n → w.1 < 256 → w.2.base + w.2.len ≤ base ∨ base + len ≤ w.2.base
    (¬ (p.entryReady c = true ∧ le e 0 1 = 4) → exec (.arrivalSet t c e) s = .next { s with pkg := p }) ∧
    (p.entryReady c = true → le e 0 1 = 4 → Answers (exec (.arrivalSet t c e) s) fun u =>
      let y := u.pkg.ctx c
      EntryTaken p u.pkg c ∧ u.pending = s.pending ∧
      (formed → (on → legal) →
        y = { x with sqCons := x.sqCons + 1, arrWin := y.arrWin, cur := y.cur, com := y.com, closed := y.closed, arrDirect := y.arrDirect } ∧
        (on → y.arrWin.find n = some { base := base, len := len, buffered := (le e 2 1).testBit 1, poison := false }) ∧
        (∀ m, m ≠ n → m < 256 → y.arrWin.find m = x.arrWin.find m ∧ y.cur.arr.find m = x.cur.arr.find m ∧
          y.com.arr.find m = x.com.arr.find m ∧ y.arrDirect.find m = x.arrDirect.find m) ∧
        y.cur = { x.cur with arr := y.cur.arr } ∧ y.com = { x.com with arr := y.com.arr } ∧
        (∀ k, s.pkg.task k = { u.pkg.task k with awaits := (s.pkg.task k).awaits }) ∧
        (x.arrWin.sorted → x.cur.arr.sorted → x.arrDirect.sorted →
          (∀ k, 256 ≤ k → x.arrWin.find k = none → x.cur.arr.find k = none ∧ x.arrDirect.find k = none) →
          ∀ j z i, s.pkg.tasks.find j = some z → z.ctx = c → z.phase ≠ .reported → i < 2 → z.awaitEn i = true →
            (∀ v ∈ z.awaits.vals, 256 ≤ v) → y.arrival ((u.pkg.task j).awaitKey i) = x.arrival (z.awaitKey i)) ∧
        (on → x.cur.arr.sorted → x.arrDirect.sorted → y.arrival n = 0) ∧
        (¬ on → x.arrWin.sorted → y.arrWin.find n = none)) ∧
      (¬ (formed ∧ (on → legal)) → y.arrWin = x.arrWin ∧ y.cur = x.cur ∧ Answered u.pkg c Code.invalidDescriptor 4))

/-- Dispatch of tasks. TASK_DISPATCH and UPDATE_TASK_DISPATCH: in the maintenance slot, and of a task whose turn it is not or that cannot be placed on the unit, nothing but package time changes; the task whose turn it is is ready, and no task of its context that can run has a lower sketch sequence, or the same and a lower index. A task that fits the window at its fastest but not the time left stays ready, and is counted once. A task that fits and whose scale records and image read in order runs: it is running on the core since now, the core has it in hand at its image's entry with nothing issued, its generators hold the image's presets, S0 to S3 hold the core's logical index, the task's index, step and tensor array, and every other core is as it was. An update task whose records read in order runs on the cluster's update engine. (R54, R57, R58, R78, R170, R183, R237, R240, R242, R288.) -/
def Obligations.TaskDispatch : Prop :=
  ∀ (s : State) (t k unit : Nat) (update : Bool), k < 32768 → unit < (if update then 64 else 512) →
    let p := s.at t
    let x := s.pkg.task k
    let i : Instr := if update then .updateTaskDispatch t k unit else .taskDispatch t k unit
    let may := p.power.ready = true ∧ p.frozen = false ∧ p.stroke.inSlot = false ∧ x.update = update ∧ p.nextTask = some k ∧ p.canPlace x unit = true
    (p.nextTask = some k → p.isReady k = true ∧ ∀ j, p.canRun j = true → (s.pkg.task j).ctx = x.ctx →
      x.seq < (s.pkg.task j).seq ∨ (x.seq = (s.pkg.task j).seq ∧ x.idx ≤ (s.pkg.task j).idx)) ∧
    (¬ may → exec i s = .next { s with pkg := p }) ∧
    (may → p.neverFits x = false → p.fits x unit = false → Answers (exec i s) fun u =>
      u.pkg.task k = { x with budgetHeld := true } ∧
      u.pkg.reg Reg.budgetHold = s.pkg.reg Reg.budgetHold + BitVec.ofNat 64 (!x.budgetHeld).toNat ∧
      u.pkg.cores = s.pkg.cores ∧ u.pkg.clusters = s.pkg.clusters ∧ u.pending = s.pending) ∧
    (may → p.neverFits x = false → p.fits x unit = true → (∀ r ∈ x.tensors, r.epoch = (s.pkg.ctx x.ctx).cur.epoch) →
      let slots := p.slotDescs x
      ∀ ts q ss q2, p.readScales k true x.tensors = (some ts, q) → q.readScales k false slots.vals = (some ss, q2) →
      (update = false → ∀ img q', (q2.updTask k fun y => { y with tensors := ts, slotRefs := slots.keys.zip ss }).copyImage unit k = (.ok img, q') →
        Answers (exec i s) fun u =>
          let y := u.pkg.core unit
          (u.pkg.task k).phase = .running ∧ (u.pkg.task k).core = unit ∧ (u.pkg.task k).at0 = p.now ∧ (u.pkg.task k).tensors = ts ∧
          y.task = some k ∧ y.ended = false ∧ y.image = x.image ∧ y.pc = fld img.hdr 48 32 ∧ y.rep = 0 ∧ y.loops = [] ∧ y.hold = .none ∧
          y.busy = [] ∧ y.vreg = [] ∧ y.acc = [] ∧ (∀ n d, img.presets[n]? = some d → y.ags.find n = some { desc := d, side := fld d 253 232 }) ∧ y.sreg.get 0 0 = BitVec.ofNat 64 (p.logicalOf unit) ∧
          y.sreg.get 0 1 = BitVec.ofNat 64 x.idx ∧ y.sreg.get 0 2 = BitVec.ofNat 64 x.step ∧ y.sreg.get 0 3 = BitVec.ofNat 64 x.tensorArr ∧
          y.stats = (s.pkg.core unit).stats ∧ y.tps = (s.pkg.core unit).tps ∧
          OtherCores unit s.pkg u.pkg ∧ u.pkg.clusters = s.pkg.clusters ∧ u.pending = s.pending) ∧
      (update = true → Answers (exec i s) fun u =>
        (u.pkg.task k).phase = .running ∧ (u.pkg.task k).core = unit ∧ (u.pkg.task k).at0 = p.now ∧
        (u.pkg.cluster unit).upe.task = some k ∧ (u.pkg.cluster unit).upe.elem = 0 ∧ (u.pkg.cluster unit).upe.began = false ∧
        u.pkg.cores = s.pkg.cores ∧ u.pending = s.pending))

/-- Completion of tasks. TASK_COMPLETE: where the core's task has reached END and every transfer of it is acknowledged and none of its writes waits for a frame, the core is free; a replayable task is completed, in the current stroke's window, and each task of its sketch that it names as a successor waits for as many tasks fewer as it is listed. UPDATE_TASK_COMPLETE: the same for the task of an update engine that is done. Where the task has not come to its end, or its die's clock has stopped, either command only moves package time. (R60, R75, R85, R190, R236, R237, R283.) -/
def Obligations.TaskCompletion : Prop :=
  ∀ (s : State) (t unit k : Nat) (update : Bool), unit < (if update then 64 else 512) →
    let p := s.at t
    let x := s.pkg.task k
    let i : Instr := if update then .updateTaskComplete t unit else .taskComplete t unit
    (if update then (s.pkg.cluster unit).upe.task = some k else (s.pkg.core unit).task = some k) →
    let ends := x.phase = .running ∧ s.pkg.stagedFor k = false ∧ p.dieStopped (if update then unit / 4 else unit / 32) = false ∧ (if update then (s.pkg.cluster unit).upe.done = true
      else (s.pkg.core unit).ended = true ∧ s.pkg.taskXfers k none = [])
    (¬ ends → exec i s = .next { s with pkg := p }) ∧
    (ends → x.core = unit → x.update = update → Answers (exec i s) fun u =>
      (if update then (u.pkg.cluster unit).upe.task = none else (u.pkg.core unit).task = none ∧ (u.pkg.core unit).hold = .none) ∧
      (x.replayable = true → (s.pkg.tasks.find k).isSome = true →
        (u.pkg.task k).phase = .completed ∧ (u.pkg.task k).window = s.pkg.stroke.number ∧
        u.pkg.stroke.completeNo = s.pkg.stroke.completeNo + 1 ∧ (u.pkg.task k).order = s.pkg.stroke.completeNo + 1 ∧
        ∀ j y, j ≠ k → s.pkg.tasks.find j = some y →
          (u.pkg.task j).deps = (if y.ctx = x.ctx ∧ y.seq = x.seq ∧ x.succs.contains y.idx = true then y.deps - x.listed y.idx else y.deps) ∧
          (u.pkg.task j).phase = y.phase) ∧
      u.pkg.stroke.number = s.pkg.stroke.number ∧ u.pending = s.pending)

/-- Contexts opened, closed and scheduled. CTX_OPEN: a free context with legal rings, a root, the doorbell area enabled and no overlapping adder windows is open, with its rings empty, its generation tag that of CTX_GEN, its windows committed through the stroke before, its re-sharding registers as they were, and OPEN's error cleared; any other OPEN leaves it as it was but for INVALID_DESCRIPTOR in the error field, or NOT_READY where the package is not ready. CTX_CLOSE: an open context is closing under its next tag, no transfer of it is outstanding and every task of it is reported; a context that is not open is left, and the write discarded and logged. CTX_SCHED: a legal value is stored, another discarded. No other context changes on OPEN and on CTX_SCHED. (R214, R215, R216, R217, R403, R487, R491.) -/
def Obligations.ContextOpenClose : Prop :=
  ∀ (s : State) (t : Nat) (zero : Bool) (v : Word),
    let p := s.at t
    let c := s.pkg.sel
    let x := s.pkg.ctx c
    (p.barPhase = .on → Opens p → Answers (exec (.ctxOpen t zero) s) fun u =>
      let y := u.pkg.ctx c
      y.phase = .open ∧ y.openError = 0 ∧ y.gen = x.genCfg ∧ y.zeroFill = zero ∧ y.committed = s.pkg.stroke.number - 1 ∧
      y.sq = x.sq ∧ y.cq = x.cq ∧ y.herd = x.herd ∧ y.seed = x.seed ∧ y.root = x.root ∧ y.sched = x.sched ∧
      y.sqProd = 0 ∧ y.sqCons = 0 ∧ y.cqProd = 0 ∧ y.cqCons = 0 ∧ y.sketches = [] ∧ y.closed = [] ∧ y.cur = {} ∧ y.com = {} ∧
      y.arrWin = [] ∧ y.ledger = [] ∧ y.reshard.desc = x.reshard.desc ∧ y.reshard.stroke = x.reshard.stroke ∧ OtherCtxs c s.pkg u.pkg ∧ u.pkg.tasks = s.pkg.tasks ∧ u.pkg.mem = s.pkg.mem ∧
      u.pkg.log = s.pkg.log ∧ u.pending = s.pending) ∧
    (p.barPhase = .on → ¬ Opens p →
      exec (.ctxOpen t zero) s = .next { s with pkg := p.setCtx c { x with openError := Code.invalidDescriptor } }) ∧
    (p.barPhase = .limited → exec (.ctxOpen t zero) s = .next { s with pkg := p.setCtx c { x with openError := Code.notReady } }) ∧
    (p.barPhase = .on → x.phase = .open → Answers (exec (.ctxClose t zero) s) fun u =>
      let y := u.pkg.ctx c
      y.phase = .closing ∧ y.closeCode = Code.contextClosed ∧ y.teardown = .waiting 2 ∧ y.gen = (x.gen + 1) % 65536 ∧
      y.zeroFill = (x.zeroFill || zero) ∧ (∀ d, ∀ f ∈ (u.pkg.cluster d).xfers, f.ctx ≠ c) ∧
      (∀ k z, u.pkg.tasks.find k = some z → z.ctx = c → z.phase = .reported) ∧ u.pending = s.pending) ∧
    (p.barPhase = .on → x.phase ≠ .open →
      exec (.ctxClose t zero) s = .next { s with pkg := p.discard Reg.ctxCmd (if zero then 18 else 2) }) ∧
    (p.barPhase = .on →
      let legal := 1 ≤ fld v 23 16 ∧ 1 ≤ fld v 15 0 ∧ fld v 15 0 ≤ 32768 ∧ fld v 63 44 = 0 ∧ fld v 31 24 = 0
      (legal → exec (.ctxSchedWrite t v) s = .next { s with pkg := p.setCtx c { x with sched := v } }) ∧
      (¬ legal → exec (.ctxSchedWrite t v) s = .next { s with pkg := p.discard Reg.ctxSched v })) ∧
    (p.barPhase = .off → ∀ i ∈ [Instr.ctxOpen t zero, .ctxClose t zero, .ctxSchedWrite t v], exec i s = .next { s with pkg := p })

/-- The release of a closed context. CONTEXT_RELEASE: at its second boundary a closing context gives back its model slots and groups, its statistics with their spill marks, table-pair slots and image copies in every core, and its flows, whose packets in the reorder store are counted as dropped; then its context record is written and it is free, or it goes into its release zero-fill where one was asked for. RELEASE_ZERO_FILL_DONE: the context record is written and the context is free, and GDDR is as the zero-fill of its unshared pages leaves it. Where the completion ring has no room for the records held and the context record, or the host port is in D3hot, the context stays closing until they are written (the model's reading, log entry 83), and CQ_RECORDS_RELEASE that makes the room frees it. Earlier, both only move package time. (R231, R233, R298, R372, R491, R492.) -/
def Obligations.ContextRelease : Prop :=
  ∀ (s : State) (t c : Nat), c < 4096 →
    let p := s.at t
    let x := s.pkg.ctx c
    let gives (u : Pkg) : Prop :=
      (∀ n m, u.slots.find n = some m → (n, m) ∈ s.pkg.slots ∧ m.owner ≠ c) ∧
      (∀ n ∈ u.groups, n ∈ s.pkg.groups ∧ ¬ (n.2.isOpen = true ∧ n.2.owner = c)) ∧
      (∀ f ∈ u.fab.rxFlows, f ∈ s.pkg.fab.rxFlows ∧ f.ctx ≠ c) ∧
      u.reg Reg.genDrops = s.pkg.reg Reg.genDrops +
        BitVec.ofNat 64 ((s.pkg.fab.rxFlows.filter fun f => f.ctx == c).map fun f => f.early.length).sum ∧
      ∀ j, (∀ e ∈ (u.core j).stats, e.ctx ≠ c) ∧ (∀ e ∈ (u.core j).store, e.ctx ≠ c) ∧ (∀ e ∈ (u.core j).tps, e.2.ctx ≠ c) ∧
        ∀ m ∈ (u.core j).spillMarks, m.2.1 ≠ c
    let ends (u : Pkg) : Prop :=
      (s.pkg.host.d3 = false → x.cqProd + x.cqHeld.length < x.cqCons + 2 ^ fld x.cq 4 0 → (u.ctx c).phase = .free ∧
        ∃ a ph, Output.hostWrite a (recBytes x.closeCode 3 0 0 0xFFFFFFFF 0 s.pkg.stroke.number 0 0 0 ++ leBytes 1 ph) ∈ u.out) ∧
      (¬ (s.pkg.host.d3 = false ∧ x.cqProd + x.cqHeld.length < x.cqCons + 2 ^ fld x.cq 4 0) →
        (u.ctx c).phase = .closing ∧ (u.ctx c).teardown = .record ∧ (u.ctx c).cqHeld ≠ [])
    (¬ (x.phase = .closing ∧ x.teardown = .waiting 0) → exec (.contextRelease t c) s = .next { s with pkg := p }) ∧
    (x.phase = .closing → x.teardown = .waiting 0 → x.zeroFill = false → Answers (exec (.contextRelease t c) s) fun u =>
      ends u.pkg ∧ gives u.pkg ∧ u.pending = s.pending) ∧
    (x.phase = .closing → x.teardown = .waiting 0 → x.zeroFill = true → Answers (exec (.contextRelease t c) s) fun u =>
      (u.pkg.ctx c).phase = .closing ∧ (u.pkg.ctx c).teardown = .filling ∧ gives u.pkg ∧ u.pending = s.pending) ∧
    (¬ (x.phase = .closing ∧ x.teardown = .filling) → exec (.releaseZeroFillDone t c) s = .next { s with pkg := p }) ∧
    (x.phase = .closing → x.teardown = .filling → Answers (exec (.releaseZeroFillDone t c) s) fun u =>
      ends u.pkg ∧ u.pkg.mem = (p.zeroRelease c).mem ∧ u.pkg.cores = s.pkg.cores ∧ u.pending = s.pending) ∧
    (∀ v, p.ringsOn = true → x.phase = .closing → x.teardown = .record → x.cqHeld ≠ [] → x.cqCons ≤ v → v ≤ x.cqProd →
      x.cqProd + x.cqHeld.length ≤ v + 2 ^ fld x.cq 4 0 → Answers (exec (.cqRecordsRelease t c v) s) fun u =>
        (u.pkg.ctx c).phase = .free ∧ (u.pkg.ctx c).cqHeld = [] ∧ u.pending = s.pending)

/-- The numerics mode of a context or a herd. NUMERICS_MODE on the selected context, or on every open context of the herd that it names: a legal write names the mode after the switch step and keeps the mode so far for the steps before it; one whose step lies below a last switch of those contexts, or below which an unreported task of one of them already stands, leaves their modes and is noted in each as refused and logged; a reserved mode is discarded, as is any write before the package is ready. Nothing else changes but the log. (R247, R248.) -/
def Obligations.NumericsMode : Prop :=
  ∀ (s : State) (t : Nat) (v : Word),
    let p := s.at t
    let k := (s.pkg.reg Reg.numericsModeStep).toNat
    let herd := bitAt v 2 = true
    let named (d : Nat) : Prop :=
      let x := s.pkg.ctx d
      (herd → x.phase = .open ∧ x.herdEn = true ∧ x.herdId = fld v 31 16) ∧ (¬ herd → d = s.pkg.sel ∧ x.phase ≠ .free)
    let early := ∃ d, named d ∧ (k < (s.pkg.ctx d).switchStep ∨
      ∃ y ∈ s.pkg.tasks.vals, y.ctx = d ∧ y.phase ≠ .reported ∧ y.step < (s.pkg.ctx d).switchStep)
    (p.barPhase = .off → exec (.numericsModeWrite t v) s = .next { s with pkg := p }) ∧
    (p.barPhase = .limited ∨ (p.barPhase = .on ∧ 2 ≤ fld v 1 0) →
      exec (.numericsModeWrite t v) s = .next { s with pkg := p.discard Reg.numericsMode v }) ∧
    (p.barPhase = .on → fld v 1 0 < 2 → ¬ early → Answers (exec (.numericsModeWrite t v) s) fun u =>
      (∀ d, named d → u.pkg.ctx d = { s.pkg.ctx d with
        modeBefore := (s.pkg.ctx d).modeAfter, modeAfter := fld v 1 0 == 1, switchStep := k, lastRefused := false }) ∧
      (∀ d, ¬ named d → u.pkg.ctx d = s.pkg.ctx d) ∧ u.pkg.tasks = s.pkg.tasks ∧ u.pkg.mem = s.pkg.mem ∧ u.pkg.log = s.pkg.log ∧
      u.pkg.regs = s.pkg.regs ∧ u.pending = s.pending) ∧
    (p.barPhase = .on → fld v 1 0 < 2 → early → Answers (exec (.numericsModeWrite t v) s) fun u =>
      (∀ d, named d → u.pkg.ctx d = { s.pkg.ctx d with lastRefused := true }) ∧ (∀ d, ¬ named d → u.pkg.ctx d = s.pkg.ctx d) ∧
      Logged u.pkg Ev.numericsModeRefused Unit.controlDie (if bitAt v 2 then none else some s.pkg.sel) ∧
      u.pkg.tasks = s.pkg.tasks ∧ u.pkg.mem = s.pkg.mem ∧ u.pending = s.pending)

/-- Parameter groups opened, changed and closed. GROUP OPEN by an open context, with staged parameters in range, a readable program that is in order and no policy reserved: the group is open and owned, its parameters are the staged ones in every step, and its counter and powers are fresh in the window in work and in the committed state. PARAMS by the owner, for a step not below the last switch and with no unreported update task of an earlier step: the staged parameters hold from the switch step on. CLOSE by the owner with no slot in the group: the group is free. Every other group command leaves the group's parameters and ownership, puts INVALID_DESCRIPTOR in its error field and logs GROUP_CMD_REFUSED; and no command changes another group. (R289, R295, R296, R297, R298, R300.) -/
def Obligations.GroupCommands : Prop :=
  ∀ (s : State) (t : Nat),
    let p := s.at t
    let c := s.pkg.sel
    let n := s.pkg.gsel
    let g := s.pkg.group n
    let fl := s.pkg.reg Reg.groupFlags
    let a := fld (s.pkg.reg Reg.groupProg) 47 0
    let k := (s.pkg.reg Reg.groupStep).toNat
    let others (u : Pkg) : Prop := ∀ m, m ≠ n → u.group m = s.pkg.group m
    let refused (i : Instr) (params : Bool) : Prop := Answers (exec i s) fun u =>
      u.pkg.group n = { g with error := Code.invalidDescriptor, refused := g.refused || params } ∧ others u.pkg ∧
      Logged u.pkg Ev.groupCmdRefused Unit.controlDie (some c) ∧ u.pending = s.pending
    let opens := s.pkg.staged ≠ none ∧ g.isOpen = false ∧ (s.pkg.ctx c).phase = .open ∧ fld fl 3 2 ≠ 3 ∧ a % 32 = 0
    let changes := s.pkg.staged ≠ none ∧ g.isOpen = true ∧ g.owner = c ∧ g.switch ≤ k ∧ s.pkg.groupLate n = false
    let closes := g.isOpen = true ∧ g.owner = c ∧ ∀ m ∈ s.pkg.slots.vals, ¬ (m.owner = c ∧ m.group = n)
    p.barPhase = .on →
    (∀ b q st, opens → s.pkg.staged = some st → p.rdStruct c a 288 = (.ok b, q) → progOk b (bitAt fl 1) = true →
      Answers (exec (.groupOpen t) s) fun u =>
        u.pkg.group n = { isOpen := true, owner := c, cls := bitAt fl 1, policy := fld fl 3 2, prog := b, before := st, after := st } ∧
        (u.pkg.ctx c).cur.grp.get {} n = {} ∧ (u.pkg.ctx c).com.grp.get {} n = {} ∧ others u.pkg ∧ u.pending = s.pending) ∧
    (∀ b q, opens → p.rdStruct c a 288 = (.ok b, q) → progOk b (bitAt fl 1) = false → refused (.groupOpen t) false) ∧
    (∀ o q, opens → p.rdStruct c a 288 = (.error o, q) → refused (.groupOpen t) false) ∧
    (¬ opens → refused (.groupOpen t) false) ∧
    (∀ st, changes → s.pkg.staged = some st → exec (.groupParams t) s = .next
      { s with pkg := p.setGroup n { g with before := g.after, after := st, switch := k, error := 0, refused := false } }) ∧
    (¬ changes → refused (.groupParams t) true) ∧
    (closes → Answers (exec (.groupClose t) s) fun u =>
      u.pkg.group n = { refused := g.refused } ∧ (u.pkg.group n).isOpen = false ∧ others u.pkg ∧ u.pending = s.pending) ∧
    (¬ closes → refused (.groupClose t) false)

/-- A packet arrives: dropped, routed on, or turned away. Every packet command, and PACKET_FORWARD, answers a next state that keeps the queue. With a packet of the command's opcode: at a halted package, or by a port that is absent or not up, or that did not receive the block that completed it, it has no effect, and link padding has none; a bad header is dropped, counted and logged; a packet for another package leaves by the port that the route gives it, in whose block, open or kept for replay, it then stands, or waits in that port's queue with the room that it holds where it arrived, or is dropped, counted and logged with the reason; a packet for an endpoint that does not exist is dropped, counted and logged; one under a stale generation tag, or for a context that is not open, is dropped and counted. None of these changes a context, a task or memory. A packet of another opcode is not the command's and changes nothing. (R346, R348, R350, R351, R352, R356, R364, R366, R488.) -/
def Obligations.PacketArrival : Prop :=
  ∀ (s : State) (i : Instr) (arr : Option Nat) (k : Packet), (∀ n, arr = some n → n < 24) →
    let p := s.at i.time
    let h := k.hd
    let up := ArrivesUp p arr
    let home := eidPkg h.dst = p.self ∧ p.fab.selfIdx ≠ none
    let same (u : State) : Prop := u.pkg.ctxs = s.pkg.ctxs ∧ u.pkg.tasks = s.pkg.tasks ∧ u.pkg.mem = s.pkg.mem ∧
      u.pkg.cores = s.pkg.cores ∧ u.pkg.clusters = s.pkg.clusters ∧ u.pending = s.pending
    ((∃ t, i = .packetForward t arr k) ∨ (∃ op, i.packet = some (op, arr, k)) → Answers (exec i s) fun u => u.pending = s.pending) ∧
    (∀ op, i.packet = some (op, arr, k) → h.op ≠ op → exec i s = .next { s with pkg := p }) ∧
    ((∃ t, i = .packetForward t arr k) ∨ i.packet = some (h.op, arr, k) →
      (¬ up → exec i s = .next { s with pkg := p }) ∧
      (h.op = 0 → exec i s = .next { s with pkg := p }) ∧
      (up → h.op ≠ 0 → k.good = false → Answers (exec i s) fun u =>
        u.pkg.reg Reg.endpointDrops = s.pkg.reg Reg.endpointDrops + 1 ∧
        Logged u.pkg Ev.badHeader ((arr.map Unit.port).getD Unit.controlDie) none ∧
        (∀ m, arr ≠ some m → u.pkg.port m = s.pkg.port m) ∧ u.pkg.fab.rxFlows = s.pkg.fab.rxFlows ∧ same u) ∧
      (∀ r, up → h.op ≠ 0 → k.good = true → p.route k (p.from_ arr) = .drop r → Answers (exec i s) fun u =>
        let reg := if r = 1 then Reg.hopDrops else if r = 2 then Reg.epochDrops else Reg.unreachDrops
        u.pkg.reg reg = s.pkg.reg reg + 1 ∧ Logged u.pkg Ev.routeDrop ((arr.map Unit.port).getD (epUnit (eidEp h.src))) none ∧ same u) ∧
      (∀ n x e, up → h.op ≠ 0 → k.good = true → p.route k (p.from_ arr) = .send n x e → Answers (exec i s) fun u =>
        ((p.port n).canSend (p.port n).waiting x = true →
          (∃ rest, u.pkg.out = s.pkg.out ++ rest ∧ Output.packet n x.hd.chan x ∈ rest) ∧
          (let m : Moving := ⟨k, arr, x, none⟩
           m ∈ (u.pkg.port n).txPkts ∨ ∃ b ∈ (u.pkg.port n).unacked, m ∈ b.pkts) ∧
          (u.pkg.port n).waiting = (p.port n).waiting) ∧
        ((p.port n).canSend (p.port n).waiting x = false → u.pkg.out = s.pkg.out ∧
          (u.pkg.port n).waiting = (p.port n).waiting ++ [(p.now, ⟨k, arr, x, arr.map fun m => (p.port m).roomFor m k⟩)] ∧
          (u.pkg.port n).unacked = (p.port n).unacked ∧ (u.pkg.port n).txPkts = (p.port n).txPkts) ∧ same u) ∧
      (up → h.op ≠ 0 → k.good = true → home → epOk (eidEp h.dst) = false → Answers (exec i s) fun u =>
        u.pkg.reg Reg.endpointDrops = s.pkg.reg Reg.endpointDrops + 1 ∧ Logged u.pkg Ev.badEndpoint Unit.controlDie none ∧ same u) ∧
      (up → h.op ≠ 0 → k.good = true → home → epOk (eidEp h.dst) = true → h.cls ≠ 3 →
        (s.pkg.ctx h.ctx).phase ≠ .open ∨ (s.pkg.ctx h.ctx).gen ≠ h.gen → Answers (exec i s) fun u =>
        u.pkg.reg Reg.genDrops = s.pkg.reg Reg.genDrops + 1 ∧ u.pkg.fab.rxFlows = s.pkg.fab.rxFlows ∧ same u))

/-- Packets of a flow in order, out of order, twice, and refused. A sequenced packet for this package: one that its flow has had already, or holds, is dropped and counted; one that comes too early waits in its memory die's reorder store, and the flow still expects the one before; the one in turn that stage 3 refuses is answered by a NACK, counted, takes no effect on memory, and the flow expects the next number. (R364, R365, R436, R489, R490.) -/
def Obligations.FlowOrder : Prop :=
  ∀ (s : State) (i : Instr) (op : Nat) (arr : Option Nat) (k : Packet), i.packet = some (op, arr, k) → k.hd.op = op → op ≠ opACK → op ≠ opNACK →
    let p := s.at i.time
    let h := k.hd
    ForUs p arr k →
    (∀ f, p.rxFlow h = some f → f.poison = false → h.start = false →
      let d := (h.seq + 2 ^ 32 - f.next) % 2 ^ 32
      (2 ^ 31 ≤ d ∨ (∃ q ∈ f.early, q.hd.seq = h.seq) → Answers (exec i s) fun u =>
        u.pkg.reg Reg.dupDrops = s.pkg.reg Reg.dupDrops + 1 ∧ (u.pkg.rxFlow h).map (·.next) = some f.next ∧
        (u.pkg.rxFlow h).map (·.early) = some f.early ∧ u.pkg.mem = s.pkg.mem ∧ u.pkg.ctxs = s.pkg.ctxs ∧ u.pending = s.pending) ∧
      (0 < d → d < 2 ^ 31 → (∀ q ∈ f.early, q.hd.seq ≠ h.seq ∧ q.hd.seq ≠ f.next) → p.reorderBytes h.die + 32 + k.payload.length ≤ 0x400000 →
        Answers (exec i s) fun u =>
          (u.pkg.rxFlow h).map (·.next) = some f.next ∧ (u.pkg.rxFlow h).map (·.early) = some (f.early ++ [k]) ∧
          u.pkg.mem = s.pkg.mem ∧ u.pkg.ctxs = s.pkg.ctxs ∧ u.pending = s.pending)) ∧
    (∀ code, InTurn p h → p.refusal k = some code → Answers (exec i s) fun u =>
      u.pkg.reg Reg.nacksSent = s.pkg.reg Reg.nacksSent + 1 ∧ (u.pkg.rxFlow h).map (·.next) = some ((h.seq + 1) % 2 ^ 32) ∧
      (code = Code.fenced → u.pkg.reg Reg.fenceRefusals = s.pkg.reg Reg.fenceRefusals + 1) ∧
      u.pkg.mem = s.pkg.mem ∧ u.pkg.cores = s.pkg.cores ∧ u.pkg.clusters = s.pkg.clusters ∧ u.pending = s.pending)

/-- WRITE, READ, READ_DATA and RELAY in turn. In turn and not refused: WRITE leaves GDDR and the destination context as a remote write of its payload into that context leaves them, whatever window it lies in, its bytes counted as arrived where they land and its transfer going on from the packet before and to the packet after it (R434), and a store that touches a memory-side adder window is counted; READ changes no byte and answers with one READ_DATA packet for every 512 bytes, in the flow back; READ_DATA leaves its units in the stream of the copy that asked for them, which is done when its last unit is in; RELAY deposits its data as a remote write in the same way, counted as arrived at once where no copy of it goes on, and a block's first packet is counted; the context of one whose first packet checks a version is the version check's business. Each leaves its flow expecting the next number. (R64, R202, R239, R364, R365, R389, R391, R392, R434, R440, R452.) -/
def Obligations.DataPackets : Prop :=
  ∀ (s : State) (t : Nat) (arr : Option Nat) (k : Packet),
    let p := s.at t
    let h := k.hd
    ForUs p arr k → InTurn p h → h.cls ≠ 3 → p.refusal k = none →
    let turned (u : State) : Prop := (u.pkg.rxFlow h).map (·.next) = some ((h.seq + 1) % 2 ^ 32) ∧ u.pending = s.pending
    let before : Nat := match (p.rxFlow h).bind (·.run) with
      | some (va, n, w) => if va = h.addr ∧ p.sameFrame h.ctx va w = true then n else 0
      | none => 0
    let lands (u : State) (by_ : WrBy) (old : Option (Tbl (Word × Bool))) (b : Bytes) (check : Prop) : Prop :=
      let q := p.under h.ctx old fun p => (p.vWriteAs { by_ with pkt := some ⟨h.src, h.dst, h.gen, h.cls, h.seq⟩ } h.ctx h.addr b false).1
      u.pkg.mem = q.mem ∧ (¬ check → u.pkg.ctx h.ctx = q.ctx h.ctx) ∧
      u.pkg.reg Reg.adderRemote = s.pkg.reg Reg.adderRemote + BitVec.ofNat 64 ((s.pkg.ctx h.ctx).adderTouched h.addr b.length).toNat
    (h.op = opWRITE → Answers (exec (.write t arr k) s) fun u =>
      lands u { arrives := true, head := before, more := nbits h.aux 0 0 == 0 } none k.payload False ∧ u.pkg.cores = s.pkg.cores ∧ u.pkg.clusters = s.pkg.clusters ∧ turned u) ∧
    (h.op = opREAD → Answers (exec (.read t arr k) s) fun u =>
      u.pkg.mem.bytes = s.pkg.mem.bytes ∧ u.pkg.cores = s.pkg.cores ∧ u.pkg.clusters = s.pkg.clusters ∧
      (1 ≤ h.readUnits → (∀ f ∈ s.pkg.fab.txFlows, ¬ (f.src = h.dst ∧ f.dst = h.src ∧ f.ctx = h.ctx ∧ f.gen = h.gen ∧ f.cls = 1)) →
        ∃ f ∈ u.pkg.fab.txFlows, f.src = h.dst ∧ f.dst = h.src ∧ f.ctx = h.ctx ∧ f.gen = h.gen ∧ f.cls = 1 ∧
          f.next = (h.readUnits + 7) / 8) ∧ turned u) ∧
    (h.op = opREADDATA → eidEp h.dst < 64 → ∀ x,
      p.findXfer (eidEp h.dst * 1024 + nbits h.aux 9 0) = some x → x.kind = .copyIn → x.ctx = h.ctx → x.cluster = eidEp h.dst →
      x.id = nbits h.aux 9 0 → nbits h.aux 10 10 = 1 → x.units ≤ x.done + x.asked → Answers (exec (.readData t arr k) s) fun u =>
        (∀ y ∈ (u.pkg.cluster x.cluster).xfers, y.id ≠ x.id) ∧ u.pkg.mem = s.pkg.mem ∧
        Lands s.pkg u.pkg x.core ((chunk (k.payload.length / 64 + 1) 64 k.payload).zipIdx.map fun (d, n) =>
          { slot := 8, addr := (x.ag.at (x.ag.pos + (x.done + h.addr / 64) + n)).addr x.agOff, data := d, poison := false }) ∧ turned u) ∧
    (h.op = opRELAY → Answers (exec (.relay t arr k) s) fun u =>
      let first := (p.relayOf h).isNone
      let data := if first then k.payload.drop 32 else k.payload
      let hdr := ((p.relayOf h).map (·.hdr)).getD (slice k.payload 0 32)
      let fl := le hdr 23 1
      let left := ((p.relayOf h).map (·.left)).getD (64 * le hdr 26 3)
      let next := (if le hdr 24 1 = 0 then none else (p.lineMap h.ctx).bind fun m => m.neighbour (nbits fl 1 0) (nbits fl 2 2)).filter fun q => !p.isAbsent q
      lands u { arrives := next.isNone, head := ((p.relayOf h).map (·.head)).getD 0, more := decide (data.length < left) }
        ((p.relayOf h).bind (·.old)) data (first = true ∧ nbits fl 4 3 = 2) ∧
      u.pkg.reg Reg.relayDep = s.pkg.reg Reg.relayDep + BitVec.ofNat 64 first.toNat ∧
      u.pkg.cores = s.pkg.cores ∧ u.pkg.clusters = s.pkg.clusters ∧ turned u)

/-- ACK, NACK, the acknowledgement timer and the end of a flow's entry. ACK: every packet of the flow up to its number is no longer outstanding, and a copy to another package that had only such packets outstanding is done. NACK: the packet it names is no longer outstanding, and a code other than FENCED is recorded for the task whose transfer it was, and a contribution of a REDUCE that had only it outstanding is complete. ACK_TIMER: a flow with packets applied since the last ACK, and none held back by a relay or by a write that waits, is acknowledged through the last. FLOW_ENTRY_EXPIRE: at the fourth boundary without arrivals the entry is free; earlier it stays. Memory is as it was. (R85, R364, R365, R384, R393.) -/
def Obligations.Acknowledgements : Prop :=
  ∀ (s : State) (t : Nat) (arr : Option Nat) (k : Packet),
    let p := s.at t
    let h := k.hd
    let back (x : Pending) : Prop := x.src = h.dst ∧ x.dst = h.src ∧ x.ctx = h.ctx ∧ x.gen = h.gen ∧ x.cls = nbits h.aux 1 0
    let covered (x : Pending) : Prop := back x ∧ (h.seq + 2 ^ 32 - x.seq) % 2 ^ 32 < 2 ^ 31
    (ForUs p arr k → h.op = opACK → Answers (exec (.ack t arr k) s) fun u =>
      (∀ x ∈ u.pkg.fab.pending, x ∈ s.pkg.fab.pending ∧ ¬ covered x) ∧
      (∀ x ∈ s.pkg.fab.pending, ¬ covered x → (∀ y ∈ s.pkg.fab.pending, covered y → y.xfer ≠ x.xfer) → x ∈ u.pkg.fab.pending) ∧
      (∀ x f, s.pkg.fab.pending = [x] → covered x → p.findXfer x.xfer = some f → f.kind = .copyOut → f.left = 1 →
        u.pkg.findXfer x.xfer = none) ∧
      u.pkg.mem = s.pkg.mem ∧ u.pkg.tasks = s.pkg.tasks ∧ u.pending = s.pending) ∧
    (ForUs p arr k → h.op = opNACK → ∀ x f, s.pkg.fab.pending = [x] → back x → x.seq = h.seq → p.findXfer x.xfer = some f →
      nbits h.aux 15 8 ≠ Code.fenced → (s.pkg.tasks.find f.task).isSome = true → Answers (exec (.nack t arr k) s) fun u =>
        u.pkg.fab.pending = [] ∧ nbits h.aux 15 8 ≤ (u.pkg.task f.task).code ∧
        (f.kind = .reduce → u.pkg.findXfer x.xfer = none) ∧ u.pkg.mem = s.pkg.mem ∧ u.pending = s.pending) ∧
    (∀ src dst ctx gen cls,
      let g : Hd := { src := src, dst := dst, ctx := ctx, gen := gen, cls := cls }
      (p.rxFlow g = none → exec (.ackTimer t src dst ctx gen cls) s = .next { s with pkg := p }) ∧
      (∀ f, p.rxFlow g = some f → 1 ≤ f.next → p.ackable f = f.next → cls ≠ 1 → cls ≠ 3 → f.ackedTo ≠ some (f.next - 1) →
        Answers (exec (.ackTimer t src dst ctx gen cls) s) fun u =>
          (u.pkg.rxFlow g).map (·.ackedTo) = some (some (f.next - 1)) ∧ (u.pkg.rxFlow g).map (·.unackN) = some 0 ∧
          u.pkg.mem = s.pkg.mem ∧ u.pending = s.pending) ∧
      Answers (exec (.flowEntryExpire t src dst ctx gen cls) s) fun u =>
        u.pkg = { p with fab := { p.fab with rxFlows := u.pkg.fab.rxFlows } } ∧
        (∀ f, f ∈ u.pkg.fab.rxFlows ↔ f ∈ s.pkg.fab.rxFlows ∧ ¬ (f.of g = true ∧ f.arrived + 4 ≤ s.pkg.stroke.number)) ∧
        u.pending = s.pending)

/-- Frames and tiles of an exact reduction. REDUCE_FRAME_SEND: the REDUCE that holds the index has sent its frame, and its attempt is on record, or it waits for a reduction slot; with none to send, or while the die's clock is stopped, only package time moves. A tile is named by its context, tag, tensor, number and the low 12 bits of its step, which every packet of it carries. A packet of an attempt below the one seen is dropped and counted. One whose memory die has no free slot, or behind which packets of its tile wait, waits, its tile counted once. Else EIR_DATA and EIR_FINAL_DATA leave their piece in the tile's slot; EIR_TAIL takes its source's pieces out of the slot, combined, and puts the attempt on record; EIR_FINAL_TAIL frees the slot and completes the tile's own transfer, counted; EIR_REDO puts the new attempt on record. REDUCTION_SLOT_FREE takes what waits, once a slot is free for it. (R81, R316, R319, R320, R321, R323, R325, R351, R436.) -/
def Obligations.ReductionPackets : Prop :=
  ∀ (s : State) (t : Nat) (arr : Option Nat) (k : Packet),
    let p := s.at t
    let h := k.hd
    let keyOf (h : Hd) : TileKey := ⟨h.ctx, h.gen, h.eirTensor, h.eirTile, h.eirStepLow⟩
    let key := keyOf h
    let a := h.eirAttempt
    let a' := le k.payload 25 1
    let ready := ForUs p arr k ∧ InTurn p h ∧ h.cls ≠ 3 ∧ p.refusal k = none
    let late (i : Instr) : Prop := Answers (exec i s) fun u =>
      u.pkg.reg Reg.eirStale = s.pkg.reg Reg.eirStale + 1 ∧ u.pkg.fab.redSlots = s.pkg.fab.redSlots ∧ u.pending = s.pending
    let stored (u : State) (k : Packet) : Prop :=
      ∃ r, u.pkg.redSlot (keyOf k.hd) k.hd.eirAttempt = some r ∧ (k.hd.src, k.hd.eirPiece, unpack 32 128 k.payload) ∈ r.data
    let queued := ∃ w, RedWait.packet w ∈ s.pkg.fab.redWait ∧ keyOf w.hd = key ∧ w.hd.eirAttempt = a
    let room (key : TileKey) (a : Nat) : Prop :=
      (p.redSlot key a).isSome = true ∨ (s.pkg.fab.redSlots.filter fun r => r.tile % 4 == key.tile % 4).length < 4096
    let goes := ready ∧ p.attemptSeen key ≤ a ∧ ¬ queued ∧ room key a
    let tiles : List (Nat × Instr) := [(opEIRDATA, .eirData t arr k), (opEIRTAIL, .eirTail t arr k),
      (opEIRFDATA, .eirFinalData t arr k), (opEIRFTAIL, .eirFinalTail t arr k)]
    (∀ x ∈ tiles, ready → h.op = x.1 → a < p.attemptSeen key → late x.2) ∧
    (ready → h.op = opEIRREDO → a' < p.attemptSeen key → late (.eirRedo t arr k)) ∧
    (∀ x ∈ tiles, ready → h.op = x.1 → p.attemptSeen key ≤ a → queued ∨ ¬ room key a → Answers (exec x.2 s) fun u =>
      u.pkg.fab.redWait = s.pkg.fab.redWait ++ [.packet k] ∧ u.pkg.fab.redSlots = s.pkg.fab.redSlots ∧
      (queued → u.pkg.reg Reg.eirSlotWaits = s.pkg.reg Reg.eirSlotWaits) ∧
      (¬ queued → u.pkg.reg Reg.eirSlotWaits = s.pkg.reg Reg.eirSlotWaits + 1) ∧ u.pending = s.pending) ∧
    (goes → h.op = opEIRDATA → Answers (exec (.eirData t arr k) s) fun u => stored u k ∧ Seen u.pkg key a ∧ u.pending = s.pending) ∧
    (goes → h.op = opEIRTAIL → Answers (exec (.eirTail t arr k) s) fun u =>
      Seen u.pkg key a ∧ (∀ r ∈ u.pkg.fab.redSlots, r.key = key → r.attempt = a → ∀ d ∈ r.data, d.1 ≠ h.src) ∧ u.pending = s.pending) ∧
    (goes → h.op = opEIRFDATA → Answers (exec (.eirFinalData t arr k) s) fun u => stored u k ∧ u.pending = s.pending) ∧
    (goes → h.op = opEIRFTAIL → ∀ x, p.redXfer key = some x → Answers (exec (.eirFinalTail t arr k) s) fun u =>
      u.pkg.reg Reg.eirCompleted = s.pkg.reg Reg.eirCompleted + 1 ∧ (∀ y ∈ (u.pkg.cluster (x.key / 1024)).xfers, y.id ≠ x.key % 1024) ∧
      (∀ r ∈ u.pkg.fab.redSlots, ¬ (r.key = key ∧ r.attempt = a')) ∧ u.pending = s.pending) ∧
    (ready → h.op = opEIRREDO → p.attemptSeen key ≤ a' → Answers (exec (.eirRedo t arr k) s) fun u =>
      Seen u.pkg key a' ∧ u.pending = s.pending) ∧
    (s.pkg.fab.redWait = [] → Answers (exec (.reductionSlotFree t) s) fun u =>
      u.pkg.fab.redWait = [] ∧ u.pkg.fab.redSlots = s.pkg.fab.redSlots ∧ u.pkg.ctxs = s.pkg.ctxs ∧ u.pkg.tasks = s.pkg.tasks ∧
      u.pkg.mem = s.pkg.mem ∧ u.pkg.cores = s.pkg.cores ∧ u.pkg.clusters = s.pkg.clusters ∧ u.pkg.regs = s.pkg.regs ∧ u.pending = s.pending) ∧
    (∀ w, s.pkg.fab.redWait = [.packet w] → room (keyOf w.hd) w.hd.eirAttempt → Answers (exec (.reductionSlotFree t) s) fun u =>
      u.pkg.fab.redWait = [] ∧
      (w.hd.op = opEIRDATA → p.attemptSeen (keyOf w.hd) ≤ w.hd.eirAttempt → stored u w) ∧ u.pending = s.pending) ∧
    (∀ key' c g n x, s.pkg.fab.redWait = [.own key' c g n] → p.findXfer key' = some x → room x.tileKey (p.frameAttempt x) →
      Answers (exec (.reductionSlotFree t) s) fun u => u.pkg.fab.redWait = [] ∧ u.pending = s.pending) ∧
    (∀ cl id, cl < 64 → id < 1024 →
      let mine (x : Xfer) : Bool := x.id == id && x.kind == .reduce && !x.sent
      ((s.pkg.cluster cl).xfers.find? mine = none → exec (.reduceFrameSend t cl id) s = .next { s with pkg := p }) ∧
      (p.dieStopped (cl / 4) = true → exec (.reduceFrameSend t cl id) s = .next { s with pkg := p }) ∧
      (∀ x, p.dieStopped (cl / 4) = false → (s.pkg.cluster cl).xfers.find? mine = some x → x.cluster = cl → Answers (exec (.reduceFrameSend t cl id) s) fun u =>
        let tile := (FrameHdr.ofBytes (p.frameBytesOf x)).tile
        (∀ y ∈ (u.pkg.cluster cl).xfers, y.id = id → y.sent = true) ∧
        ((∃ b, Seen u.pkg ⟨x.ctx, x.gen, x.tensor.id, tile, x.step % 4096⟩ b) ∨ RedWait.own x.key x.ctx x.gen tile ∈ u.pkg.fab.redWait) ∧
        u.pending = s.pending))

/-- Votes, results, notices and peer notices in turn. In turn on a management flow: VOTE leaves the child's vote in the round; VOTE_RESULT leaves the result in a round that has none; VOID_NOTICE leaves a notice not seen before for the coming slot, and none a second time; FAULT_NOTICE_RX writes two event records of the unit it names; a good peer notice under this plan is counted, and adds the package to the absent set, takes it from it, or arms the candidate bank for its stroke as a write of ROUTE_SWITCH does; a bad one is dropped, counted and logged. VOTE_WAIT_EXPIRY: at a package without a parent the round's result is this package's vote and that of every child; with one, the vote has gone on in the parent's phase. (R71, R73, R77, R379, R422, R423, R424, R659.) -/
def Obligations.ManagementPackets : Prop :=
  ∀ (s : State) (t : Nat) (arr : Option Nat) (k : Packet),
    let p := s.at t
    let h := k.hd
    let b := k.payload
    let herd := le b 0 2
    let st := le b 2 6
    let bit := (le b 8 1).testBit 0
    let note : VoidNote := ⟨herd, st, le b 10 2⟩
    let ready := ForUs p arr k ∧ InTurn p h ∧ h.cls = 3
    let known := 1 ≤ le b 0 1 ∧ le b 0 1 ≤ 3 ∧ zeros b 1 7 = true ∧ zeros b 18 6 = true ∧ zeros b 30 34 = true ∧
      le b 8 8 = (s.pkg.reg Reg.planId).toNat
    let counted (u : State) : Prop := u.pkg.reg Reg.noticesReceived = s.pkg.reg Reg.noticesReceived + 1 ∧ u.pending = s.pending
    (ready → h.op = opVOTE → s.pkg.stroke.number < st + 2 → p.round herd st = none → Answers (exec (.vote t arr k) s) fun u =>
      (u.pkg.round herd st).map (·.votes) = some [(le b 9 1, eidPkg h.src, bit)] ∧ u.pending = s.pending) ∧
    (∀ v, ready → h.op = opVOTE → s.pkg.stroke.number < st + 2 → p.round herd st = some v → v.sent = [] → v.own = none →
      (∀ x ∈ v.votes, x.2.1 ≠ eidPkg h.src) → Answers (exec (.vote t arr k) s) fun u =>
        (u.pkg.round herd st).map (·.votes) = some (v.votes ++ [(le b 9 1, eidPkg h.src, bit)]) ∧ u.pending = s.pending) ∧
    (∀ v, ready → h.op = opVOTERES → p.round herd st = some v → v.result = none → Answers (exec (.voteResult t arr k) s) fun u =>
      (u.pkg.round herd st).map (·.result) = some (some bit) ∧ u.pending = s.pending) ∧
    (ready → h.op = opVOID → Answers (exec (.voidNotice t arr k) s) fun u =>
      u.pkg.fab.voidSent.contains note = true ∧
      u.pkg.fab.voidIn = (if s.pkg.fab.voidSent.contains note then s.pkg.fab.voidIn else s.pkg.fab.voidIn ++ [note]) ∧ u.pending = s.pending) ∧
    (ready → h.op = opFAULT → Answers (exec (.faultNoticeRx t arr k) s) fun u =>
      ∃ e f rest, u.pkg.log.recs = e :: f :: rest ∧ f.event = Ev.faultNoticeRx ∧ e.event = Ev.faultNoticeRx ∧ f.unit = le b 2 2 ∧
        e.unit = le b 2 2 ∧ f.detail = slice b 0 32 ∧ e.detail = slice b 32 32 ∧ u.pending = s.pending) ∧
    (ready → h.op = opPEER → known → le b 0 1 = 1 → Answers (exec (.peerAbsent t arr k) s) fun u =>
      NatSet.mem u.pkg.fab.absent (le b 16 2) = true ∧ counted u) ∧
    (ready → h.op = opPEER → known → le b 0 1 = 2 → Answers (exec (.peerPresent t arr k) s) fun u =>
      NatSet.mem u.pkg.fab.absent (le b 16 2) = false ∧ counted u) ∧
    (∀ c, ready → h.op = opPEER → known → le b 0 1 = 3 → p.armCandidate (le b 24 6) = some c → Answers (exec (.tableSwitch t arr k) s) fun u =>
      (u.pkg.bank c).swStroke = le b 24 6 ∧ (u.pkg.bank c).state = (if s.pkg.activeBank = none then .active else .armed) ∧
      u.pkg.reg Reg.routeSwitch = BitVec.ofNat 64 (le b 24 6 + 2 ^ 48) ∧ counted u) ∧
    (∀ i ∈ [Instr.peerAbsent t arr k, .peerPresent t arr k, .tableSwitch t arr k], ∀ n, ready → h.op = opPEER → ¬ known →
      le b 0 1 = n → (n = 1 ∧ i = .peerAbsent t arr k ∨ n = 2 ∧ i = .peerPresent t arr k ∨ n = 3 ∧ i = .tableSwitch t arr k) →
      Answers (exec i s) fun u =>
        u.pkg.reg Reg.noticesDropped = s.pkg.reg Reg.noticesDropped + 1 ∧ Logged u.pkg Ev.peerNoticeRejected Unit.controlDie none ∧
        u.pkg.fab.absent = s.pkg.fab.absent ∧ u.pending = s.pending) ∧
    (∀ hd stroke v own, p.round hd stroke = some v → v.own = some own → v.sent = [] → v.result = none →
      let m := p.herdMap hd
      let kids : List Nat := (m.map fun m => m.voteKids.map (·.2)).getD []
      let all := own && kids.all fun q => v.votes.any fun x => x.2.1 == q && x.2.2
      (m.bind (·.voteParent) = none → Answers (exec (.voteWaitExpiry t hd stroke) s) fun u =>
        (u.pkg.round hd stroke).map (·.result) = some (some all) ∧ u.pending = s.pending) ∧
      (∀ a q, m.bind (·.voteParent) = some (a, q) → Answers (exec (.voteWaitExpiry t hd stroke) s) fun u =>
        (u.pkg.round hd stroke).map (·.sent) = some [a] ∧ (u.pkg.round hd stroke).map (·.result) = some none ∧ u.pending = s.pending))

/-- PORT_CFG is written only on a disabled port without a plan. PORT_CFG_WRITE on a port of the package, while BAR0 is served: on a disabled port with no plan loaded the port's fields [6:0] become the value's and nothing else changes; in every other case, a loaded plan among them, the port's configuration stays, and the write is counted and logged as discarded. (R426.) -/
def Obligations.PortConfiguration : Prop :=
  ∀ (s : State) (t n : Nat) (v : Word), n < 24 →
    let p := s.at t
    let x := s.pkg.port n
    p.barPhase = .on → p.portPresent n = true →
    (x.state = 1 → s.pkg.fab.plan = [] →
      exec (.portCfgWrite t n v) s = .next { s with pkg := p.setPort n { x with cfg := v &&& 0x7F } }) ∧
    (¬ (x.state = 1 ∧ s.pkg.fab.plan = []) → Answers (exec (.portCfgWrite t n v) s) fun u =>
      u.pkg.fab = s.pkg.fab ∧ Logged u.pkg Ev.regWriteDiscarded Unit.controlDie none ∧
      u.pkg.reg Reg.discardedWrites = s.pkg.reg Reg.discardedWrites + 1 ∧ WorkKept s u)

/-- A link control symbol on an up port. LINK_CONTROL_SYMBOL always answers a next state that keeps the queue. At a halted package, or on a port that is absent or not up, it only moves package time. On an up port: a good symbol's acknowledgement takes every block up to it out of the retry buffer, its credits are given back up to the full count, and a replay request sends every block left again, counted; the block it closes is received where its data is good and it is the next in order, so that the packets it completes count, and is otherwise left, with a replay request raised unless it is a good copy of one received before; the block before a symbol whose check is bad is taken as the next in order only while no replay is asked for; slots stalled and codewords corrected and lost are counted; the port answers with a symbol of good check that closes the block it was filling, which is kept for replay, and holds its acknowledgement; its replay request, if it has one, and the mark that it has to send, once the nominal departure has come, with mark_offset the time since then in units of 10 ps, go out with the first symbol, and there are no freed credits left to give. A block of idle flits that finds the retry buffer full takes no number (the model's choice, log entry 91). Without a mark, no context, task or memory changes. (R344, R345, R346, R348, R349, R371.) -/
def Obligations.LinkSymbols : Prop :=
  ∀ (s : State) (t n : Nat) (b : Bytes) (dataOk : Bool) (stalled fixed broken : Nat), n < 24 →
    let p := s.at t
    let i : Instr := .linkControlSymbol t n b dataOk stalled fixed broken
    let x := s.pkg.port n
    let good := symbolGood b = true
    let frame := good ∧ (le b 4 1).testBit 2 = true
    let used := good ∧ ¬ frame
    let mark := used ∧ (le b 4 1).testBit 1 = true
    let again := used ∧ (le b 4 1).testBit 0 = true
    let data := dataOk = true ∧ broken = 0 ∧ (good ∨ x.replayReq = false)
    let runs := p.frozen = false ∧ p.portPresent n = true ∧ x.state = 4
    ∀ (kept : List TxBlk) (num : Nat), (used → kept = x.unacked.filter fun u => !blockLe u.seq (le b 2 2)) → (¬ used → kept = x.unacked) →
    (good → num = le b 0 2) → (¬ good → num = x.rxExpect) →
    let taken := data ∧ num = x.rxExpect ∧ ¬ frame
    let copy := data ∧ num ≠ x.rxExpect ∧ blockLe num x.rxAck = true
    (Answers (exec i s) fun u => u.pending = s.pending) ∧
    (¬ runs → exec i s = .next { s with pkg := p }) ∧
    (runs → Answers (exec i s) fun u =>
      let y := u.pkg.port n
      (∃ sent, y.unacked = kept ++ sent ∧ (x.waiting = [] → ¬ mark →
        sent = if x.txData = [] ∧ 50 ≤ kept.length then [] else [⟨x.txNext, x.txData, x.txPkts⟩])) ∧
      (taken → y.rxOk = true) ∧ (¬ taken → ¬ frame → y.rxOk = false) ∧
      (taken → y.rxAck = num ∧ y.rxExpect = (num + 1) % 65536) ∧ (¬ taken → y.rxAck = x.rxAck ∧ y.rxExpect = x.rxExpect) ∧
      (used → x.waiting = [] → ¬ mark → y.pool = min 2048 (x.pool + le b 28 2) ∧
        ∀ ch < 10, y.credits.get 512 ch = min 512 (x.credits.get 512 ch + le b (8 + 2 * ch) 2)) ∧
      (again → (∀ k ∈ kept, ∀ m ∈ k.pkts, Output.packet n m.pkt.hd.chan m.pkt ∈ u.pkg.out) ∧ y.ctr.get 0 0xD8 = x.ctr.get 0 0xD8 + kept.length) ∧
      (¬ again → y.ctr.get 0 0xD8 = x.ctr.get 0 0xD8) ∧
      y.ctr.get 0 0xD0 = x.ctr.get 0 0xD0 + stalled ∧ y.ctr.get 0 0xE0 = x.ctr.get 0 0xE0 + fixed ∧ y.ctr.get 0 0xE8 = x.ctr.get 0 0xE8 + broken ∧
      (∃ pre e, u.pkg.out = s.pkg.out ++ pre ++ [Output.symbol n e] ∧ symbolGood e = true ∧ le e 2 2 = y.rxAck % 65536 ∧
        let asks := ¬ taken ∧ (frame ∨ copy → x.replayReq = true)
        (asks → ∃ f, Output.symbol n f ∈ pre ++ [Output.symbol n e] ∧ (le f 4 1).testBit 0 = true) ∧
        (¬ asks → ∀ f, Output.symbol n f ∈ pre ++ [Output.symbol n e] → (le f 4 1).testBit 0 = false) ∧
        ∀ st period slot, x.markOut = some (st, period, slot) → ¬ mark → s.pkg.stroke.openedAt + 320 ≤ p.now →
          y.markOut = none ∧ ∃ f, Output.symbol n f ∈ pre ++ [Output.symbol n e] ∧ (le f 4 1).testBit 1 = true ∧ le f 30 6 = st % 2 ^ 48 ∧
            le f 36 2 = period % 4096 ∧ le f 38 1 = slot % 32 ∧ le f 40 3 = 100 * (p.now - (s.pkg.stroke.openedAt + 320)) % 2 ^ 24) ∧
      y.freed = [] ∧ y.freedPool = 0 ∧ y.cfg = x.cfg ∧ y.state = 4 ∧ (∀ m, m ≠ n → (u.pkg.port m).state = (s.pkg.port m).state) ∧
      (¬ mark → WorkKept s u ∧ u.pkg.stroke = s.pkg.stroke) ∧ u.pending = s.pending)

/-- Ports disabled, set to train, and failed; their peaks cleared. While BAR0 is served, on a port of the package: PORT_CMD disable leaves the port disabled for reason 6, with no identity of a neighbour; PORT_CMD train on a port that is in service, of a package in service, while the link reference is present, leaves it training since now, with nothing of the last training, in listening form where the plan marks it absent, and on any other only moves package time; either on an up port that it takes down sends one PORT_FAILED notice; neither changes another port's state, a context, a task or memory. QDEPTH_CLEAR clears the port's peaks and nothing else. An absent port's registers ignore each, and so does every port where BAR0 is not decoded. LANE_LOCK_LOSS on a trained port that is not failed, SYMBOL_TIMEOUT on a port that exchanges symbols, and REPLAY_LIMIT on an up port whose oldest block has been replayed 8 times: the port is failed, for reason 1, 2 and 3, one PORT_FAILED notice is sent and the failure is logged; no other port's state, no context, task or memory changes. In every other case each only moves package time. (R340, R342, R347, R358, R371, R418, R421, R427, R485, R541.) -/
def Obligations.PortsDownAndUp : Prop :=
  (∀ (s : State) (t n : Nat) (v : Word), n < 24 →
    let p := s.at t
    let x := s.pkg.port n
    let all := [Instr.portCmdDisable t n, .portCmdTrain t n, .portCfgWrite t n v, .qdepthClear t n v]
    let left (u : State) : Prop := (u.pkg.port n).cfg = x.cfg ∧ (u.pkg.port n).identity = none ∧ (u.pkg.port n).trained = false ∧
      (u.pkg.port n).check = 0 ∧ (∀ m, m ≠ n → (u.pkg.port m).state = (s.pkg.port m).state) ∧
      (x.state = 4 → Noticed s.pkg u.pkg (Unit.port n) 0x01) ∧ WorkKept s u
    (p.barPhase = .off → ∀ i ∈ all, exec i s = .next { s with pkg := p }) ∧
    (p.barPhase = .on → p.portPresent n = false → ∀ i ∈ all, exec i s = .next { s with pkg := p }) ∧
    (p.barPhase = .on → p.portPresent n = true →
      (Answers (exec (.portCmdDisable t n) s) fun u => (u.pkg.port n).state = 1 ∧ (u.pkg.port n).reason = 6 ∧ left u) ∧
      (p.canTrain n = false → exec (.portCmdTrain t n) s = .next { s with pkg := p }) ∧
      (p.canTrain n = true → Answers (exec (.portCmdTrain t n) s) fun u => (u.pkg.port n).state = 2 ∧ (u.pkg.port n).reason = 0 ∧
        (u.pkg.port n).trainFrom = p.now ∧ (u.pkg.port n).listening = p.planAbsent n ∧ left u) ∧
      exec (.qdepthClear t n v) s = .next { s with pkg := p.setPort n { x with peak := [] } })) ∧
  (∀ (s : State) (t n : Nat), n < 24 →
    let p := s.at t
    let x := s.pkg.port n
    let there := p.portPresent n = true
    ∀ (i : Instr) (r : Nat) (hit : Prop),
      (i = .laneLockLoss t n ∧ r = 1 ∧ hit = (there ∧ x.trained = true ∧ 2 ≤ x.state ∧ x.state ≤ 5) ∨
       i = .symbolTimeout t n ∧ r = 2 ∧ hit = (there ∧ 3 ≤ x.state ∧ x.state ≤ 5) ∨
       i = .replayLimit t n ∧ r = 3 ∧ hit = (there ∧ x.state = 4 ∧ 8 ≤ x.replays)) →
    (¬ hit → exec i s = .next { s with pkg := p }) ∧
    (hit → Answers (exec i s) fun u =>
      (u.pkg.port n).state = 6 ∧ (u.pkg.port n).reason = r ∧ (u.pkg.port n).cfg = x.cfg ∧ (u.pkg.port n).identity = x.identity ∧
      Noticed s.pkg u.pkg (Unit.port n) 0x01 ∧
      (x.state ≠ 4 ∨ x.unacked = [] ∧ x.txPkts = [] ∧ x.waiting = [] → NewlyLogged s.pkg u.pkg Ev.portFailed (Unit.port n)) ∧
      (∀ m, m ≠ n → (u.pkg.port m).state = (s.pkg.port m).state) ∧ WorkKept s u))

/-- Training done, identity frames and the training limit. LINK_TRAINING_DONE on a training port: a delay above its reach class fails the port for reason 4; else the delay is held, and the port goes by the first check of R416 that applies to the frame it has, or trains on where it has none. IDENTITY_FRAME: a new frame with a good check on a port that trains, waits or is quarantined is held, and a trained port goes by the first check that applies; any other frame changes nothing. TRAINING_TIMEOUT: a port still training 200 ms after its start fails for reason 5; one in listening form that heard nothing is disabled, with no event and no notice; before that it changes nothing. (R343, R412, R413, R416, R417, R418, R419, R420, R421.) -/
def Obligations.PortsEvaluated : Prop :=
  ∀ (s : State) (t n delay : Nat) (f : Bytes), n < 24 →
    let p := s.at t
    let x := s.pkg.port n
    let there := p.portPresent n = true
    let trains := there ∧ x.state = 2 ∧ x.trained = false
    let judged (g : Bytes) (u : State) : Prop :=
      let y := u.pkg.port n
      let c := p.portCheck n g
      (c = 8 → y.state = 4 ∧ y.rxExpect = 0 ∧ y.digTx = 0 ∧ y.digRx = 0 ∧
        (bitAt (s.pkg.reg Reg.noticeCfg) 32 = false → y.unacked = [] ∧ y.waiting = [] ∧ y.txNext = 0 ∧ y.pool = 2048 ∧ y.credits = []) ∧
        Noticed s.pkg u.pkg (Unit.port n) 0x03) ∧
      (c = 3 ∨ c = 7 → y.state = 3) ∧
      (c ≠ 3 → c ≠ 7 → c ≠ 8 → y.state = 5 ∧ (x.state ≠ 5 → Noticed s.pkg u.pkg (Unit.port n) 0x02 ∧
        NewlyLogged s.pkg u.pkg Code.linkQuarantined (Unit.port n) ∧ u.pkg.reg Reg.quarantines = s.pkg.reg Reg.quarantines + 1)) ∧
      (c ≠ 8 → y.check = c) ∧ y.identity = some g ∧ y.trained = true ∧ y.cfg = x.cfg ∧
      (le g 5 1 = 2 → y.revision = 512 + min (le g 6 1) (fld p.linkRev 7 0)) ∧ WorkKept s u
    let times := there ∧ x.state = 2 ∧ x.trainFrom + 200000000 ≤ p.now
    let alone := x.listening = true ∧ x.identity = none
    let heard := there ∧ (x.state = 2 ∨ x.state = 3 ∨ x.state = 5) ∧ symbolGood f = true ∧ (le f 4 1).testBit 2 = true ∧ x.identity ≠ some f
    (¬ trains → exec (.linkTrainingDone t n delay) s = .next { s with pkg := p }) ∧
    (trains → reachLimit (fld x.cfg 6 5) < delay → Answers (exec (.linkTrainingDone t n delay) s) fun u =>
      (u.pkg.port n).state = 6 ∧ (u.pkg.port n).reason = 4 ∧ Noticed s.pkg u.pkg (Unit.port n) 0x01 ∧ WorkKept s u) ∧
    (trains → delay ≤ reachLimit (fld x.cfg 6 5) → x.identity = none → Answers (exec (.linkTrainingDone t n delay) s) fun u =>
      u.pkg.port n = { x with delay := min delay 0xFFFF, trained := true } ∧
      (∃ e, u.pkg.out = s.pkg.out ++ [Output.identity n e] ∧ symbolGood e = true ∧ (le e 4 1).testBit 2 = true) ∧ WorkKept s u) ∧
    (trains → delay ≤ reachLimit (fld x.cfg 6 5) → ∀ g, x.identity = some g → Answers (exec (.linkTrainingDone t n delay) s) fun u =>
      (u.pkg.port n).delay = min delay 0xFFFF ∧ judged g u) ∧
    (¬ heard → exec (.identityFrame t n f) s = .next { s with pkg := p }) ∧
    (heard → x.trained = false → exec (.identityFrame t n f) s = .next { s with pkg := p.setPort n { x with identity := some f } }) ∧
    (heard → x.trained = true → Answers (exec (.identityFrame t n f) s) fun u => (u.pkg.port n).delay = x.delay ∧ judged f u) ∧
    (¬ times → exec (.trainingTimeout t n) s = .next { s with pkg := p }) ∧
    (times → alone → exec (.trainingTimeout t n) s = .next { s with pkg := p.setPort n { x with state := 1, reason := 0 } }) ∧
    (times → ¬ alone → Answers (exec (.trainingTimeout t n) s) fun u =>
      (u.pkg.port n).state = 6 ∧ (u.pkg.port n).reason = 5 ∧ (u.pkg.port n).cfg = x.cfg ∧ Noticed s.pkg u.pkg (Unit.port n) 0x01 ∧
      NewlyLogged s.pkg u.pkg Ev.portFailed (Unit.port n) ∧ WorkKept s u)

/-- Route banks armed, switched to and emptied. ROUTE_SWITCH_WRITE while BAR0 is served: without arm the register keeps the value; with arm, a stroke fewer than two ahead, or no bank that is ready or armed, discards the write, and no bank changes; beside an active bank the other, ready or armed, is armed for the stroke; with no bank active the one ready bank, or the later loaded of two, is active at once. ROUTE_BANK_DRAIN_END: a draining bank at its second boundary is empty; before that nothing changes. (R368.) -/
def Obligations.RouteBanks : Prop :=
  ∀ (s : State) (t b : Nat) (v : Word), b < 2 →
    let p := s.at t
    let bank := s.pkg.bank
    let n := fld v 47 0
    let i : Instr := .routeSwitchWrite t v
    let set (c : Nat) (x : Bank) (u : State) : Prop := u.pkg.bank c = x ∧ u.pkg.bank (1 - c) = bank (1 - c) ∧ fld (u.pkg.reg Reg.routeSwitch) 48 0 = fld v 48 0 ∧ WorkKept s u
    let waits (c : Nat) : Prop := (bank c).state = .ready ∨ (bank c).state = .armed
    (p.barPhase = .on →
      (bitAt v 48 = false → Answers (exec i s) fun u => u.pkg.fab = s.pkg.fab ∧ fld (u.pkg.reg Reg.routeSwitch) 48 0 = fld v 48 0 ∧ WorkKept s u) ∧
      (bitAt v 48 = true → n < s.pkg.stroke.number + 2 → exec i s = .next { s with pkg := p.discard Reg.routeSwitch v }) ∧
      (bitAt v 48 = true → s.pkg.stroke.number + 2 ≤ n →
        (∀ a, a < 2 → (bank a).state = .active → (bank (1 - a)).state ≠ .active →
          (¬ waits (1 - a) → exec i s = .next { s with pkg := p.discard Reg.routeSwitch v }) ∧
          (waits (1 - a) → Answers (exec i s) (set (1 - a) { bank (1 - a) with state := .armed, swStroke := n }))) ∧
        ((bank 0).state ≠ .active → (bank 1).state ≠ .active →
          (¬ waits 0 → ¬ waits 1 → exec i s = .next { s with pkg := p.discard Reg.routeSwitch v }) ∧
          (∀ c, c < 2 → (bank c).state = .ready → (bank (1 - c)).state ≠ .ready ∨ (bank (1 - c)).loaded < (bank c).loaded →
            Answers (exec i s) (set c { bank c with state := .active, swStroke := n }))))) ∧
    (¬ ((bank b).state = .draining ∧ (bank b).drainEnd ≤ s.pkg.stroke.number) → exec (.routeBankDrainEnd t b) s = .next { s with pkg := p }) ∧
    ((bank b).state = .draining → (bank b).drainEnd ≤ s.pkg.stroke.number →
      exec (.routeBankDrainEnd t b) s = .next { s with pkg := p.setBank b { bank b with state := .empty, entries := [] } })

/-- Axis maps loaded, cleared and armed. While BAR0 is served: AXMAP_LOAD of a legal image, of no more packages than the grade's herds have, that no loaded map of its herd contradicts puts it into the empty selected slot, loaded and not active, with the error cleared; any other leaves every map, sets INVALID_DESCRIPTOR and is logged. AXMAP_CLEAR empties the selected slot and takes back a switch armed for it, or leaves every map where the slot is empty; it is refused where the map is active beside an open context of its herd, or a task slot has latched it. AXMAP_SWITCH with arm: the named loaded map of the herd is active at once where no map of the herd is, and else armed, as the herd's only armed switch, for a stroke at least two ahead; any other is discarded and changes no switch. A command before DEVICE_READY, or at a halted package, is refused with NOT_READY. (R3, R374, R375, R376, R377.) -/
def Obligations.AxisMaps : Prop :=
  ∀ (s : State) (t : Nat) (image : Bytes) (v : Word),
    let p := s.at t
    let fab := s.pkg.fab
    let j := s.pkg.axSel
    let m : AxMap := { image := image }
    let empty := fab.maps.find j = none
    let legal := m.ok fab.selfIdx (if s.pkg.fuses.grade = 3 then 8 else 24576) = true ∧ ∀ x ∈ fab.maps.vals, x.herd = m.herd → x.agrees m = true
    let busy (x : AxMap) : Prop := (x.active = true ∧ ∃ c ∈ s.pkg.ctxs.vals, c.phase = .open ∧ c.herdEn = true ∧ c.herdId = x.herd) ∨
      ∃ k ∈ s.pkg.tasks.vals, k.map = some j
    let refused (i : Instr) (code : Nat) : Prop := Answers (exec i s) fun u =>
      u.pkg.fab = { fab with axErr := fab.axErr.set j code } ∧ Logged u.pkg Ev.axmapCmdRefused Unit.controlDie none ∧ WorkKept s u
    let k := fld (s.pkg.reg Reg.axSwitchStroke) 47 0
    let slot := fld v 37 32
    let herd := fld v 15 0
    let set : Instr := .axmapSwitchWrite t v
    (p.barPhase = .limited → refused (.axmapLoad t image) Code.notReady ∧ refused (.axmapClear t) Code.notReady) ∧
    (p.barPhase = .on →
      (empty → legal → exec (.axmapLoad t image) s = .next { s with
        pkg := { p with fab := { fab with maps := fab.maps.set j m, axErr := fab.axErr.set j 0 } } }) ∧
      (¬ (empty ∧ legal) → refused (.axmapLoad t image) Code.invalidDescriptor) ∧
      (empty → exec (.axmapClear t) s = .next { s with pkg := { p with fab := { fab with axErr := fab.axErr.set j 0 } } }) ∧
      (∀ x, fab.maps.find j = some x → busy x → refused (.axmapClear t) Code.invalidDescriptor) ∧
      (∀ x, fab.maps.find j = some x → ¬ busy x → Answers (exec (.axmapClear t) s) fun u =>
        u.pkg.fab = { fab with maps := fab.maps.erase j, axSwitch := fab.axSwitch.filter fun a => a.slot ≠ j, axErr := fab.axErr.set j 0 } ∧ WorkKept s u) ∧
      (bitAt v 40 = false → Answers (exec set s) fun u => u.pkg.fab = fab ∧ fld (u.pkg.reg Reg.axSwitch) 15 0 = herd ∧ WorkKept s u) ∧
      (bitAt v 40 = true → (fab.maps.find slot).map (·.herd) ≠ some herd ∨ k < s.pkg.stroke.number + 2 →
        exec set s = .next { s with pkg := p.discard Reg.axSwitch v }) ∧
      (∀ x, bitAt v 40 = true → fab.maps.find slot = some x → x.herd = herd → s.pkg.stroke.number + 2 ≤ k →
        ((∀ y ∈ fab.maps.vals, ¬ (y.active = true ∧ y.herd = herd)) → Answers (exec set s) fun u =>
          (u.pkg.fab.maps.find slot) = some { x with active := true } ∧
          (∀ a y, fab.maps.find a = some y → a ≠ slot → y.herd ≠ herd → u.pkg.fab.maps.find a = some y) ∧
          (∀ a ∈ u.pkg.fab.axSwitch, a.herd ≠ herd) ∧ WorkKept s u) ∧
        ((∃ y ∈ fab.maps.vals, y.active = true ∧ y.herd = herd) → Answers (exec set s) fun u =>
          u.pkg.fab.maps = fab.maps ∧ u.pkg.fab.axSwitch = (fab.axSwitch.filter fun a => a.herd ≠ herd) ++ [⟨herd, slot, k⟩] ∧ WorkKept s u)))

/-- Re-shardings armed and cancelled, and peer notices sent. While BAR0 is served: RESHARD ARM on a context that is open, with its map active where it is of a herd, not holding or moving, for a stroke at least two ahead, whose descriptor reads in order and passes every check, is armed with its entries; every other leaves the re-sharding but for its error, and is logged. CANCEL returns an armed one to idle, is refused while one holds or moves, and changes nothing where none is armed. NOTICE_TX_SEND: without a plan it is discarded; without send it changes nothing; to the package itself it takes the notice's effect on the absent set or the route banks, or is dropped, counted and logged; to another it is the packet of a flow of the management class from control die to control die, and leaves the absent set and the banks. (R403, R404, R405, R423, R424.) -/
def Obligations.ReshardAndNotices : Prop :=
  ∀ (s : State) (t : Nat) (v : Word),
    let p := s.at t
    let fab := s.pkg.fab
    let c := s.pkg.sel
    let x := s.pkg.ctx c
    let r := x.reshard
    let refused (i : Instr) : Prop := Answers (exec i s) fun u =>
      u.pkg.ctx c = { x with reshard := { r with error := Code.invalidDescriptor } } ∧ OtherCtxs c s.pkg u.pkg ∧
      Logged u.pkg Ev.reshardRefused Unit.controlDie (some c) ∧ u.pkg.tasks = s.pkg.tasks ∧ u.pending = s.pending
    let may := (r.phase = .idle ∨ r.phase = .armed) ∧ x.phase = .open ∧ (x.herdEn = true → (p.lineMap c).isSome = true) ∧
      s.pkg.stroke.number + 2 ≤ fld r.stroke 47 0
    let a := fld r.desc 47 0
    let b := (List.range 8).flatMap fun i => leBytes 8 (s.pkg.reg (0x0A0520 + 8 * i)).toNat
    let dest := fld v 15 0
    let fine := 1 ≤ le b 0 1 ∧ le b 0 1 ≤ 3 ∧ zeros b 1 7 = true ∧ zeros b 18 6 = true ∧ zeros b 30 34 = true ∧ le b 8 8 = (s.pkg.reg Reg.planId).toNat
    let here := fab.plan ≠ [] ∧ bitAt v 16 = true ∧ dest = s.pkg.self
    let send : Instr := .noticeTxSend t v
    p.barPhase = .on →
    (¬ may → refused (.reshardArm t)) ∧
    (∀ h q, may → p.rdStruct c a 64 = (.ok h, q) → 1 ≤ le h 0 4 → le h 0 4 ≤ 1024 → zeros h 4 60 = true →
      ∀ es ts q', q.readEntries c (p.lineMap c) (a + 64) (le h 0 4) = (some (es, ts), q') → Answers (exec (.reshardArm t) s) fun u =>
        (u.pkg.ctx c).reshard.phase = .armed ∧ (u.pkg.ctx c).reshard.entries = es ∧ (u.pkg.ctx c).reshard.tensors = ts ∧
        (u.pkg.ctx c).reshard.error = 0 ∧ (u.pkg.ctx c).reshard.voids = 0 ∧ es.length = le h 0 4 ∧
        (u.pkg.ctx c).cur = x.cur ∧ OtherCtxs c s.pkg u.pkg ∧ u.pkg.tasks = s.pkg.tasks ∧ u.pending = s.pending) ∧
    (∀ h q, may → p.rdStruct c a 64 = (.ok h, q) →
      (le h 0 4 = 0 ∨ 1024 < le h 0 4 ∨ zeros h 4 60 = false ∨ (q.readEntries c (p.lineMap c) (a + 64) (le h 0 4)).1 = none) → refused (.reshardArm t)) ∧
    (∀ e q, may → p.rdStruct c a 64 = (.error e, q) → refused (.reshardArm t)) ∧
    (r.phase = .armed → exec (.reshardCancel t) s = .next
      { s with pkg := p.setCtx c { x with reshard := { desc := r.desc, stroke := r.stroke, voids := r.voids } } }) ∧
    (r.phase = .holding ∨ r.phase = .moving → refused (.reshardCancel t)) ∧
    (r.phase = .idle → exec (.reshardCancel t) s = .next { s with pkg := p }) ∧
    (fab.plan = [] → exec send s = .next { s with pkg := p.discard 0x0A0560 v }) ∧
    (fab.plan ≠ [] → bitAt v 16 = false → exec send s = .next { s with pkg := p }) ∧
    (here → ¬ fine → Answers (exec send s) fun u => u.pkg.fab = fab ∧ u.pkg.reg Reg.noticesDropped = s.pkg.reg Reg.noticesDropped + 1 ∧
      Logged u.pkg Ev.peerNoticeRejected Unit.controlDie none ∧ WorkKept s u) ∧
    (here → fine → Answers (exec send s) fun u =>
      u.pkg.reg Reg.noticesReceived = s.pkg.reg Reg.noticesReceived + 1 ∧
      (le b 0 1 = 1 → u.pkg.fab = { fab with absent := NatSet.ins fab.absent (le b 16 2) }) ∧
      (le b 0 1 = 2 → u.pkg.fab = { fab with absent := NatSet.del fab.absent (le b 16 2) }) ∧
      (le b 0 1 = 3 → ∀ k, p.armCandidate (le b 24 6) = some k → (u.pkg.bank k).swStroke = le b 24 6 ∧
        u.pkg.reg Reg.routeSwitch = BitVec.ofNat 64 (le b 24 6 + 2 ^ 48)) ∧
      (le b 0 1 = 3 → p.armCandidate (le b 24 6) = none → u.pkg.fab = fab) ∧ WorkKept s u) ∧
    (fab.plan ≠ [] → bitAt v 16 = true → dest ≠ s.pkg.self → Answers (exec send s) fun u =>
      (∃ f ∈ u.pkg.fab.txFlows, f.src = eidOf s.pkg.self 80 ∧ f.dst = eidOf dest 80 ∧ f.ctx = 0 ∧ f.gen = 0 ∧ f.cls = 3 ∧
        f.lastStroke = s.pkg.stroke.number) ∧
      u.pkg.fab.absent = fab.absent ∧ u.pkg.fab.banks = fab.banks ∧
      u.pkg.reg Reg.noticesReceived = s.pkg.reg Reg.noticesReceived ∧ WorkKept s u)

/-- Memory ports, on-die errors and error injection. MEM_CRC_RETRY_EXHAUSTED for an access whose first attempts have failed counts each retry, at most four; after the fifth failure the access is held and a retrain asked for out of turn. MEM_RETRAIN_ABANDONED on a retraining port gives it back with that request, counted and logged; the third in a row, and CE_THRESHOLD_EXCEEDED with a count above the port's threshold, lose the port and put the package OUT_OF_SERVICE; CE_WINDOW_EXPIRE starts the count anew. SRAM_SCRUB counts a single error; poisons, counts and logs a double one, in a write that waits its granule's part; marks the reduction slot, flow, waiting packet, version, ledger count, arrival counter, step flag or control-store copy that a double error of its structure hits; drops a statistics entry, a table slot, a control-store copy or a route entry with bad parity; aborts a replayable task for a register file's, whichever engine's it is; holds a copy of a critical word that disagrees until the next vote of the words, and puts the package OUT_OF_SERVICE where all three copies differ. MEM_INJECT is written only while debug opens it. (R430, R431, R445, R447, R457, R458, R459, R460, R464, R486, R592.) -/
def Obligations.MemoryProtection : Prop :=
  ∀ (s : State) (t n : Nat) (v : Word), n < 32 →
    let p := s.at t
    let x := s.pkg.memPort n
    let others (u : State) : Prop := ∀ m, m ≠ n → u.pkg.memPort m = s.pkg.memPort m
    let lost (cause : Nat) (u : State) : Prop := (u.pkg.memPort n).state = 4 ∧ (u.pkg.memPort n).cause = cause ∧
      u.pkg.rst.pkgOos = true ∧ (s.pkg.rst.pkgOos = false → u.pkg.power.ready = false) ∧ u.pending = s.pending
    let above := fld (s.pkg.regOr (Reg.mpCfg n) 0x100) 15 0 < x.window ∧ x.state ≠ 4
    let counted (reg : Nat) (u : State) : Prop := u.pkg.reg reg = s.pkg.reg reg + 1
    let tested (f : SramFault) : Host.Outcome State Fault Refusal := exec (.sramScrub t f) s
    (∀ failed, 1 ≤ failed → failed ≤ 5 → Answers (exec (.memCrcRetryExhausted t ⟨n, failed⟩) s) fun u =>
      u.pkg.memPort n = (if failed = 5 then { x with turn := true, waiting := x.waiting + 1 } else x) ∧ others u ∧
      u.pkg.reg (Reg.mpBlock n + 0x118) = s.pkg.reg (Reg.mpBlock n + 0x118) + BitVec.ofNat 64 (min failed 4) ∧ WorkKept s u) ∧
    (x.state ≠ 3 → s.pkg.easel.run = none → exec (.memRetrainAbandoned t n) s = .next { s with pkg := p }) ∧
    (x.state = 3 → x.abandoned < 2 → Answers (exec (.memRetrainAbandoned t n) s) fun u =>
      u.pkg.memPort n = { x with state := 2, turn := true, abandoned := x.abandoned + 1 } ∧ others u ∧
      counted (Reg.mpBlock n + 0x128) u ∧ NewlyLogged s.pkg u.pkg Ev.memRetrainAbandoned (Unit.memPort n) ∧ WorkKept s u) ∧
    (x.state = 3 → 2 ≤ x.abandoned → Answers (exec (.memRetrainAbandoned t n) s) (lost 2)) ∧
    (¬ above → exec (.ceThresholdExceeded t n) s = .next { s with pkg := p }) ∧
    (above → Answers (exec (.ceThresholdExceeded t n) s) (lost 3)) ∧
    (Answers (exec (.ceWindowExpire t n) s) fun u => u.pkg.memPort n = { x with window := 0 } ∧ others u ∧ u.pkg.regs = s.pkg.regs ∧ WorkKept s u) ∧
    tested .clean = .next { s with pkg := p } ∧
    (Answers (tested .single) fun u => counted Reg.sramCe u ∧ WorkKept s u) ∧
    (∀ c w, c < 512 → w < 0x80000 → p.corePresent c = true → Answers (tested (.palette c w)) fun u =>
      u.pkg.core c = { s.pkg.core c with palPoison := (s.pkg.core c).palPoison.ins w } ∧ OtherCores c s.pkg u.pkg ∧ counted Reg.sramUe u ∧
      Logged u.pkg Ev.sramUncorrectable (Unit.core c) none ∧ u.pending = s.pending) ∧
    (∀ c w, c < 64 → w < 0x400000 → Answers (tested (.clusterMem c w)) fun u =>
      u.pkg.cluster c = { s.pkg.cluster c with poison := (s.pkg.cluster c).poison.ins w } ∧ u.pkg.cores = s.pkg.cores ∧ counted Reg.sramUe u ∧
      Logged u.pkg Ev.sramUncorrectable (Unit.cluster c) none ∧ u.pending = s.pending) ∧
    (∀ d c i w, d < 4 → Answers (tested (.staging d c i w)) fun u =>
      let waits := (s.pkg.ctx c).stagedWrites
      counted Reg.sramUe u ∧ Logged u.pkg Ev.sramUncorrectable (Unit.memDie d) none ∧ u.pkg.tasks = s.pkg.tasks ∧ u.pkg.cores = s.pkg.cores ∧
      u.pkg.mem = s.pkg.mem ∧ u.pending = s.pending ∧ (waits[i]? = none → u.pkg.ctxs = s.pkg.ctxs) ∧
      (∀ x, waits[i]? = some x → u.pkg.ctx c = { s.pkg.ctx c with stagedWrites := waits.take i ++ x.poisonWord w ++ waits.drop (i + 1) })) ∧
    (∀ c ctx tag row, c < 512 → ctx < 4096 → Answers (tested (.stat c ctx tag row)) fun u =>
      (∀ e ∈ (u.pkg.core c).stats, ¬ (e.ctx = ctx ∧ e.tag = tag ∧ e.row = row)) ∧
      (∀ e ∈ (s.pkg.core c).stats, ¬ (e.ctx = ctx ∧ e.tag = tag ∧ e.row = row) → e ∈ (u.pkg.core c).stats) ∧
      OtherCores c s.pkg u.pkg ∧ counted Reg.parityErrors u ∧ u.pkg.tasks = s.pkg.tasks ∧ u.pending = s.pending) ∧
    (∀ c i, c < 512 → i < 16 → Answers (tested (.table c i)) fun u =>
      (u.pkg.core c).tps = (s.pkg.core c).tps.erase i ∧ OtherCores c s.pkg u.pkg ∧ counted Reg.parityErrors u ∧ u.pkg.tasks = s.pkg.tasks ∧ u.pending = s.pending) ∧
    (∀ c ctx a, c < 512 → ctx < 4096 → (s.pkg.core c).task = none → Answers (tested (.storeCopy c ctx a)) fun u =>
      (∀ e ∈ (u.pkg.core c).store, ¬ (e.ctx = ctx ∧ e.addr = a)) ∧ OtherCores c s.pkg u.pkg ∧ counted Reg.parityErrors u ∧ u.pkg.tasks = s.pkg.tasks ∧
      u.pending = s.pending) ∧
    (∀ b i, b < 2 → i < 65536 → Answers (tested (.route b i)) fun u =>
      u.pkg.bank b = { s.pkg.bank b with entries := (s.pkg.bank b).entries.erase i } ∧ u.pkg.bank (1 - b) = s.pkg.bank (1 - b) ∧
      counted Reg.parityErrors u ∧ WorkKept s u) ∧
    (∀ c e k, c < 512 → e < 5 → p.corePresent c = true → (s.pkg.core c).task = some k → (s.pkg.task k).phase = .running → (s.pkg.task k).core = c →
      (s.pkg.task k).update = false → (s.pkg.task k).replayable = true → (s.pkg.ctx (s.pkg.task k).ctx).phase = .open →
      Answers (tested (.coreRegs c e)) fun u => (u.pkg.task k).phase = .waiting ∧ (u.pkg.task k).replay = true ∧ (u.pkg.core c).task = none ∧
        counted Reg.parityErrors u ∧ u.pkg.reg Reg.voidCount = s.pkg.reg Reg.voidCount + 1 ∧ u.pending = s.pending) ∧
    (∀ c k, c < 64 → (s.pkg.cluster c).upe.task = some k → (s.pkg.task k).phase = .running → (s.pkg.task k).core = c →
      (s.pkg.task k).update = true → (s.pkg.task k).replayable = true → (s.pkg.ctx (s.pkg.task k).ctx).phase = .open →
      Answers (tested (.upeTemps c)) fun u => (u.pkg.task k).phase = .waiting ∧ (u.pkg.cluster c).upe.task = none ∧
        counted Reg.parityErrors u ∧ u.pkg.reg Reg.voidCount = s.pkg.reg Reg.voidCount + 1 ∧ u.pending = s.pending) ∧
    (∀ w c, w < 6 → c < 3 →
      let bad := NatSet.ins (s.pkg.rst.copies.get [] w) c
      (bad.length < 2 → exec (.sramScrub t (.vote w c)) s = .next
        { s with pkg := { p with rst := { p.rst with copies := p.rst.copies.set w bad } } }) ∧
      (2 ≤ bad.length → Answers (tested (.vote w c)) fun u => u.pkg.rst.pkgOos = true ∧ u.pending = s.pending)) ∧
    (∀ c ctx a w, c < 512 → ctx < 4096 → p.corePresent c = true → Answers (tested (.storeSram c ctx a w)) fun u =>
      u.pkg.core c = { s.pkg.core c with store := (s.pkg.core c).store.map fun i =>
        if i.ctx = ctx ∧ i.addr = a then { i with poison := i.poison.ins w } else i } ∧ OtherCores c s.pkg u.pkg ∧ counted Reg.sramUe u ∧
      Logged u.pkg Ev.sramUncorrectable (Unit.core c) none ∧ u.pending = s.pending) ∧
    (let marked (d : Nat) (u : State) : Prop := counted Reg.sramUe u ∧ Logged u.pkg Ev.sramUncorrectable (Unit.memDie d) none ∧
       u.pkg.tasks = s.pkg.tasks ∧ u.pkg.cores = s.pkg.cores ∧ u.pkg.clusters = s.pkg.clusters ∧ u.pkg.mem = s.pkg.mem ∧ u.pending = s.pending
     (∀ d i w, d < 4 → w < 552 → Answers (tested (.redSlot d i w)) fun u => marked d u ∧
       ∀ r, (s.pkg.fab.redSlots.filter fun r => r.tile % 4 == d)[i]? = some r →
         (u.pkg.redSlot r.key r.attempt).map (·.poison) = (p.redSlot r.key r.attempt).map fun x => x.poison.ins w) ∧
     (∀ d i, d < 4 → Answers (tested (.flow d i)) fun u => marked d u ∧ ∀ f, (p.dieFlows d)[i]? = some f →
       u.pkg.fab.rxFlows = s.pkg.fab.rxFlows.map fun x => if x = f then { x with poison := true } else x) ∧
     (∀ d i j w, d < 4 → Answers (tested (.reorder d i j w)) fun u => marked d u ∧ ∀ f k, (p.dieFlows d)[i]? = some f → f.early[j]? = some k →
       u.pkg.fab.rxFlows = s.pkg.fab.rxFlows.map fun x => if x = f then { x with bad := x.bad ++ [(k.hd.seq, w)] } else x) ∧
     (∀ i, Answers (tested (.version i)) fun u => marked 0 u ∧
       ∀ j, u.pkg.fab.versions[j]? = s.pkg.fab.versions[j]?.map fun e => if j = i then { e with poison := true } else e) ∧
     (∀ c i, c < 4096 → (s.pkg.ctx c).phase ≠ .free → Answers (tested (.ledger c i)) fun u => marked 0 u ∧
       ∀ j, (u.pkg.ctx c).ledger[j]? = (s.pkg.ctx c).ledger[j]?.map fun e => if j = i then { e with poison := true } else e) ∧
     (∀ c n, c < 4096 → n < 256 → (s.pkg.ctx c).phase ≠ .free → Answers (tested (.arrival c n)) fun u => marked 0 u ∧
       (u.pkg.ctx c).arrWin.find n = ((s.pkg.ctx c).arrWin.find n).map fun w => { w with poison := true }) ∧
     (∀ c n, c < 4096 → n < 4 → (s.pkg.ctx c).phase ≠ .free → Answers (tested (.stepFlag c n)) fun u => marked 0 u ∧
       (u.pkg.ctx c).cur.flags.find n = ((s.pkg.ctx c).cur.flags.find n).map fun e => { e with poison := true })) ∧
    (∀ w, Answers (tested (.voteLost w)) fun u => u.pkg.rst.pkgOos = true ∧ (s.pkg.rst.pkgOos = false → u.pkg.power.ready = false) ∧ u.pending = s.pending) ∧
    (p.barPhase = .on → s.pkg.sec.scope.testBit 0 = false → exec (.memInjectWrite t v) s = .next { s with pkg := p.discard 0x0C8018 v }) ∧
    (p.barPhase = .on → s.pkg.sec.scope.testBit 0 = true → Answers (exec (.memInjectWrite t v) s) fun u =>
      u.pkg.mem = { s.pkg.mem with inject := u.pkg.mem.inject } ∧ fld u.pkg.mem.inject 28 0 = fld v 28 0 ∧ fld u.pkg.mem.inject 38 32 = fld v 38 32 ∧
      fld u.pkg.mem.inject 46 40 = fld v 46 40 ∧ fld u.pkg.mem.inject 63 62 = fld v 63 62 ∧ fld u.pkg.mem.inject 31 29 = 0 ∧
      fld u.pkg.mem.inject 61 47 = 0 ∧ u.pkg.tasks = s.pkg.tasks ∧ u.pkg.ctxs = s.pkg.ctxs ∧ u.pending = s.pending)

/-- RESET_CMD, fences and the watchdog. Where BAR0 is decoded: RESET of a code that names no domain is discarded and logged; of a domain out of service it is refused; of a domain inside one that is being reset it is merged; of a domain otherwise the reset begins, and in compatibility mode waits behind a fence; of the package it is the package reset. FENCE and UNFENCE in compatibility mode set and lift a domain's fence, and are discarded otherwise. DUMP starts a dump, or is ignored and counted while one runs. FENCE_DRAIN_TIMEOUT leaves no transfer of the domain outstanding and begins the reset that waited. WATCHDOG_EXPIRE is a package reset with cause 8, after a dump where DUMP_CFG asks for one. (R471, R472, R473, R474, R484, R489, R494, R495.) -/
def Obligations.ResetRequests : Prop :=
  ∀ (s : State) (t unit : Nat), unit < 65536 →
    let p := s.at t
    let rst := s.pkg.rst
    let compat := bitAt p.resetCfg 0 = true
    let reset : Instr := .resetCmdReset t unit
    let fenced (r : DomRun) : Prop := r.unit = unit ∧ r.fenced = true
    (p.barPhase = .off → ∀ i ∈ [reset, .resetCmdFence t unit, .resetCmdUnfence t unit, .resetCmdDump t unit], exec i s = .next { s with pkg := p }) ∧
    (p.barPhase ≠ .off →
      (p.domainOf unit = none → exec reset s = .next { s with pkg := p.discard Reg.resetCmd (BitVec.ofNat 64 (unit + 65536)) }) ∧
      (p.domainOf unit = some Unit.package → Answers (exec reset s) fun u => PackageReset p u.pkg 1 ∧ u.pending = s.pending) ∧
      (∀ d, p.domainOf unit = some d → d ≠ Unit.package →
        (p.unitOos d = true → exec reset s = .next { s with pkg := { p with rst := { rst with refused := Code.outOfService } } }) ∧
        (p.unitOos d = false → ¬ (compat ∧ domFences d = true) →
          ((∃ r ∈ rst.running, domIn r.unit d = true ∧ r.fenced = false) → exec reset s = .next { s with pkg := p }) ∧
          ((∀ r ∈ rst.running, ¬ (domIn r.unit d = true ∧ r.fenced = false)) → Answers (exec reset s) fun u =>
            ResetBegun p u.pkg d 1 ∧ u.pending = s.pending)) ∧
        (p.unitOos d = false → compat → domFences d = true →
          ((∃ r ∈ rst.running, domIn r.unit d = true) → exec reset s = .next { s with pkg := p }) ∧
          ((∀ r ∈ rst.running, domIn r.unit d = false) → Answers (exec reset s) fun u =>
            u.pkg.rst = { rst with fences := rst.fences.ins d, running := rst.running ++ [{ unit := d, cause := 1, ctx := 0xFFFF, fenced := true }] } ∧
            Logged u.pkg Ev.fenceAsserted d none ∧ WorkKept s u))) ∧
      (p.fenceDomain unit = none →
        exec (.resetCmdFence t unit) s = .next { s with pkg := p.discard Reg.resetCmd (BitVec.ofNat 64 (unit + 131072)) } ∧
        exec (.resetCmdUnfence t unit) s = .next { s with pkg := p.discard Reg.resetCmd (BitVec.ofNat 64 (unit + 196608)) }) ∧
      (∀ d, p.fenceDomain unit = some d →
        (rst.fences.mem d = true → exec (.resetCmdFence t unit) s = .next { s with pkg := p }) ∧
        (rst.fences.mem d = false → Answers (exec (.resetCmdFence t unit) s) fun u =>
          u.pkg.rst = { rst with fences := rst.fences.ins d } ∧ u.pkg.rst.fences.mem d = true ∧ Logged u.pkg Ev.fenceAsserted d none ∧ WorkKept s u) ∧
        (Answers (exec (.resetCmdUnfence t unit) s) fun u =>
          u.pkg = { p with rst := { rst with fences := u.pkg.rst.fences } } ∧ u.pkg.rst.fences.mem d = false ∧
          (∀ e, e ≠ d → u.pkg.rst.fences.mem e = rst.fences.mem e) ∧ u.pending = s.pending)) ∧
      (rst.dump.running = none → Answers (exec (.resetCmdDump t unit) s) fun u =>
        u.pkg.rst.dump.running = some 1 ∧ u.pkg.rst.dump.at_ = p.now ∧ u.pkg.rst.dump.sections = [] ∧ u.pkg.rst.dump.retained = rst.dump.retained ∧ WorkKept s u) ∧
      (rst.dump.running ≠ none → Answers (exec (.resetCmdDump t unit) s) fun u =>
        u.pkg.rst = rst ∧ u.pkg.reg Reg.dumpsIgnored = s.pkg.reg Reg.dumpsIgnored + 1 ∧ WorkKept s u)) ∧
    (rst.fences.mem unit = false → (∀ r ∈ rst.running, ¬ fenced r) → exec (.fenceDrainTimeout t unit) s = .next { s with pkg := p }) ∧
    (rst.fences.mem unit = true ∨ (∃ r ∈ rst.running, fenced r) → Answers (exec (.fenceDrainTimeout t unit) s) fun u =>
      (∀ c, ∀ x ∈ (u.pkg.cluster c).xfers, ¬ (domIn unit (Unit.cluster x.cluster) = true ∨ domIn unit (Unit.core x.core) = true)) ∧
      ((∃ r ∈ rst.running, fenced r) → ∃ r ∈ u.pkg.rst.running, domIn r.unit unit = true ∧ r.fenced = false) ∧ u.pending = s.pending) ∧
    (bitAt (s.pkg.reg Reg.dumpCfg) 1 = true → rst.dump.running = none → Answers (exec (.watchdogExpire t) s) fun u =>
      u.pkg.rst.dump.running = some 5 ∧ u.pkg.rst.dump.begins = some (8, 0xFFFF) ∧ WorkKept s u) ∧
    (¬ (bitAt (s.pkg.reg Reg.dumpCfg) 1 = true ∧ rst.dump.running = none) → Answers (exec (.watchdogExpire t) s) fun u =>
      PackageReset p u.pkg 8 ∧ u.pending = s.pending)

/-- Resets that end, hangs, stranded tasks and dumps. DOMAIN_RESET_DONE of a reset that runs: it runs no more, its fence and those of the resets that it took over are lifted, memory ports are in use and torus ports that can train do; where the count of resets in the window has come to the limit, the domain is out of service with its ports disabled, or for memory the package is. HANG_DETECTED on an engine with a domain that is not being reset: counted, the domain's reset begun or waiting behind a fence, the suspects held and put to the test, or the suspect under test convicted and closed; on the attachment of the control die's link die it is a package reset with the rule as its cause, or the conviction's. STRANDED_TASK_FAIL on a task stranded for hang_strokes boundaries reports it. DUMP_READ_TIMEOUT ends a section of the running dump without an answer. CRASH_DUMP_COMPLETE ends the dump, leaves its image in the buffer unless that is locked, writes the host copy where there is room, and goes on to the package reset that waited. In every other case each only moves package time. (R471, R480, R481, R482, R483, R484, R485, R498, R499.) -/
def Obligations.ResetsEndAndHangs : Prop :=
  ∀ (s : State) (t unit rule streak kind k : Nat), unit < 65536 → k < 32768 →
    let p := s.at t
    let rst := s.pkg.rst
    let d := rst.dump
    let done : Instr := .domainResetDone t unit
    let runs (r : DomRun) : Prop := rst.running.find? (fun x => x.unit == unit && !x.fenced) = some r
    let reached (e : Nat) : Prop := fld p.resetCfg 11 8 ≤ p.resetCount e ∧ rst.oos.mem e = false
    let full := reached unit
    let memory := unit / 4096 = 5 ∨ unit / 4096 = 6
    let hang : Instr := .hangDetected t unit rule streak
    let part := d.running ≠ none ∧ (∃ x ∈ d.takes, x.1 = kind ∧ x.2.1 = unit) ∧ ∀ x ∈ d.sections, ¬ (x.1 = kind ∧ x.2.1 = unit)
    ((∀ r ∈ rst.running, ¬ (r.unit = unit ∧ r.fenced = false)) → exec done s = .next { s with pkg := p }) ∧
    (∀ r, runs r → (∀ e ∈ unit :: r.inner, ¬ reached e) → Answers (exec done s) fun u =>
      r ∉ u.pkg.rst.running ∧ (∀ e ∈ unit :: r.inner, u.pkg.rst.fences.mem e = false) ∧ u.pkg.rst.oos = rst.oos ∧
      (∀ n < 32, domIn unit (Unit.memPort n) = true → (u.pkg.memPort n).state = 2 ∧ (u.pkg.memPort n).lastAt = p.now) ∧
      (∀ n < 24, domIn unit (Unit.port n) = true → p.canTrain n = true → (u.pkg.port n).state = 2 ∧ (u.pkg.port n).trained = false) ∧
      u.pending = s.pending) ∧
    (∀ r, runs r → full → memory → Answers (exec done s) fun u => u.pkg.rst.pkgOos = true ∧ u.pending = s.pending) ∧
    (∀ r, runs r → full → ¬ memory → Answers (exec done s) fun u =>
      r ∉ u.pkg.rst.running ∧ u.pkg.rst.oos.mem unit = true ∧
      (∀ n < 24, domIn unit (Unit.port n) = true → p.portPresent n = true → (u.pkg.port n).state = 1) ∧ u.pending = s.pending) ∧
    (p.hangDomain unit = none → exec hang s = .next { s with pkg := p }) ∧
    (∀ m, p.hangDomain unit = some m →
      ((∃ r ∈ rst.running, domIn r.unit m = true) → exec hang s = .next { s with pkg := p }) ∧
      ((∀ r ∈ rst.running, domIn r.unit m = false) → m = Unit.package →
        let conv := (rst.tests.find? (·.unit == m)).bind (·.current)
        let cause := if conv.isSome then 5 else rule
        (bitAt (s.pkg.reg Reg.dumpCfg) 1 = false → Answers (exec hang s) fun u => u.pkg.ctxs = [] ∧ u.pkg.tasks = [] ∧ u.pkg.rst.pkgCause = cause ∧
          NewlyLogged s.pkg u.pkg Ev.packageReset Unit.package ∧ NewlyLogged s.pkg u.pkg Ev.hangDetected unit ∧ u.pending = s.pending) ∧
        (bitAt (s.pkg.reg Reg.dumpCfg) 1 = true → bitAt (s.pkg.reg Reg.dumpCfg) 0 = false → d.running = none → Answers (exec hang s) fun u =>
          u.pkg.rst.dump.begins = some (cause, conv.getD 0xFFFF) ∧ u.pending = s.pending)) ∧
      ((∀ r ∈ rst.running, domIn r.unit m = false) → m ≠ Unit.package →
        let tested := (rst.tests.find? (·.unit == m)).bind (·.current)
        let cs := p.suspects p m (s.pkg.stroke.number - 1)
        let begun (u : State) : Prop := u.pkg.reg Reg.hangsDetected = s.pkg.reg Reg.hangsDetected + 1 ∧
          (∃ r ∈ u.pkg.rst.running, r.unit = m ∧ (r.fenced = true ↔ bitAt p.resetCfg 0 = true ∧ domFences m = true)) ∧ u.pending = s.pending
        (tested = none → Answers (exec hang s) fun u => begun u ∧ (∀ c ∈ cs, (u.pkg.ctx c).suspectHeld = true) ∧
          (cs ≠ [] → ∃ x ∈ u.pkg.rst.tests, x.unit = m ∧ x.waiting = cs ∧ x.current = none)) ∧
        (∀ c, tested = some c → Answers (exec hang s) fun u => begun u ∧ (u.pkg.ctx c).phase ≠ .open ∧
          u.pkg.reg Reg.convictions = s.pkg.reg Reg.convictions + 1))) ∧
    (let due := p.isStranded k = true ∧ p.hangStrokes ≤ (s.pkg.task k).stranded
     (¬ due → exec (.strandedTaskFail t k) s = .next { s with pkg := p }) ∧
     (due → Answers (exec (.strandedTaskFail t k) s) fun u => (∀ z, u.pkg.tasks.find k = some z → z.phase = .reported) ∧ u.pending = s.pending)) ∧
    (¬ part → exec (.dumpReadTimeout t kind unit) s = .next { s with pkg := p }) ∧
    (part → exec (.dumpReadTimeout t kind unit) s = .next
      { s with pkg := { p with rst := { rst with dump := { d with sections := d.sections ++ [(kind, unit, 1)] } } } }) ∧
    (d.running = none → exec (.crashDumpComplete t) s = .next { s with pkg := p }) ∧
    (∀ g, d.running = some g → d.begins = none → Answers (exec (.crashDumpComplete t) s) fun u =>
      let e := u.pkg.rst.dump
      e.running = none ∧ e.trigger = g ∧ NewlyLogged s.pkg u.pkg Ev.crashDumpDone Unit.package ∧ Noticed s.pkg u.pkg Unit.package 0x0C ∧
      (bitAt (s.pkg.reg Reg.dumpCfg) 3 = true → d.retained ≠ [] → e.retained = d.retained) ∧
      (¬ (bitAt (s.pkg.reg Reg.dumpCfg) 3 = true ∧ d.retained ≠ []) → le e.retained 0 2 = 1 ∧ le e.retained 2 1 = g % 256 ∧ le e.retained 8 8 = s.pkg.fuses.serial % 2 ^ 64) ∧
      (p.dumpHost = true → ∃ b, Output.hostWrite (s.pkg.reg Reg.dumpBase).toNat b ∈ u.pkg.out ∧ le b 2 1 = g % 256) ∧ WorkKept s u) ∧
    (∀ g cause ctx, d.running = some g → d.begins = some (cause, ctx) → Answers (exec (.crashDumpComplete t) s) fun u =>
      u.pkg.rst.pkgCause = cause ∧ u.pkg.ctxs = [] ∧ u.pkg.tasks = [] ∧ u.pkg.rst.dump.running = none ∧ u.pending = s.pending)

/-- The host port: link events, apertures, reads of host memory and requests. HOT_RESET and PERST_N, after DEVICE_READY has risen, are a package reset with cause 1, one for an assertion, PERST_N also while THERM_TRIP_N is asserted (R635); PERST_N's end lets a bring-up that waits begin. D3hot is entered and left with nothing held after. An aperture read of an enabled aperture on an open context is answered with the data, poisoned where a granule is, and is aborted, counted and logged on a fault; an aperture write lands as a write of its context, or is discarded, counted and logged. A host read that fails is counted and recorded and ends an Easel operation whose image has not been read whole with its code; one that succeeds completes the image, and a route-table load's bank is loading from then on. A 64-bit write sets the fields of a plain register and is ignored by a read-only one; any narrower access outside the MSI-X table is a bad access. A bad read is aborted and recorded. Configuration requests are not answered without PWR_GOOD, retried before DEVICE_READY first rises, and served after: the class code, the payload limit, the types and sizes of the BARs, the serial number and No_Soft_Reset read as the spec gives them, and a write changes the writable bits of its dword, the power state or the MSI-X control word. Without PWR_GOOD no completion is sent at all. (R13, R14, R15, R453, R503, R506, R507, R508, R510, R511, R512, R514.) -/
def Obligations.HostPort : Prop :=
  ∀ (s : State) (t n off len be : Nat) (v : Word) (b : Bytes), n < 64 → off < 0x80000000 →
    let p := s.at t
    let power := s.pkg.power
    let host := s.pkg.host
    let a := s.pkg.reg (0x021000 + 8 * n)
    let c := fld a 59 48
    let va := fld a 47 21 * 0x200000 + off
    let answer (status : Nat) (d : Bytes) (bad : Bool) (u : State) : Prop :=
      (power.pwrGood = true → ∃ pre, u.pkg.out = s.pkg.out ++ pre ++ [Output.completion status d bad]) ∧
      (power.pwrGood = false → ∀ x ∈ u.pkg.out, x ∈ s.pkg.out ∨ ∀ st d bad, x ≠ Output.completion st d bad)
    let faulted (x : Option Nat) (u : State) : Prop := u.pkg.host.faults = host.faults + 1 ∧ Logged u.pkg Ev.remoteAccessFault Unit.hostPort x ∧ WorkKept s u
    let read : Instr := .apertureRead t n off len
    let write : Instr := .apertureWrite t n off b
    let fails (i : Instr) (code : Nat) : Prop := (∃ r, s.pkg.easel.run = some r ∧ r.read = false) → Answers (exec i s) fun u =>
      u.pkg.host.readErrors = host.readErrors + 1 ∧ u.pkg.host.aer = host.aer + 1 ∧ EaselEnded s.pkg u.pkg code [] ∧ WorkKept s u
    let misses (i : Instr) (bit : Nat) : Prop := exec i s = .next { s with
      pkg := { p with host := { host with readErrors := host.readErrors + 1, aer := host.aer + 1, aerBits := host.aerBits.ins bit } } }
    (power.risen = false → exec (.hotReset t) s = .next { s with pkg := p } ∧ exec (.d3hotEntry t) s = .next { s with pkg := p }) ∧
    (power.risen = true → Answers (exec (.hotReset t) s) fun u => PackageReset p u.pkg 1 ∧ u.pending = s.pending) ∧
    (power.risen = true ∨ power.trip = true → power.perst = false → Answers (exec (.perstAssert t) s) fun u =>
      PackageReset { p with power := { power with perst := true } } u.pkg 1 ∧ u.pkg.power.perst = true ∧ u.pending = s.pending) ∧
    (power.risen = false ∧ power.trip = false ∨ power.perst = true → exec (.perstAssert t) s = .next { s with pkg := p }) ∧
    (power.waiting = false → exec (.perstDeassert t) s = .next { s with pkg := { p with power := { power with perst := false } } }) ∧
    (power.waiting = true → power.pwrGood = true → power.trip = false → power.supplyHold = false → power.halted = false →
      Answers (exec (.perstDeassert t) s) fun u => u.pkg.power.step = some 2 ∧ u.pkg.power.waiting = false ∧ u.pkg.power.perst = false ∧ WorkKept s u) ∧
    (power.risen = true → exec (.d3hotEntry t) s = .next { s with pkg := { p with host := { host with d3 := true } } }) ∧
    (host.d3 = false → exec (.d0Return t) s = .next { s with pkg := p }) ∧
    (host.d3 = true → Answers (exec (.d0Return t) s) fun u => u.pkg.host.d3 = false ∧ u.pkg.host.held = [] ∧
      (∀ h ∈ host.held, h.1 = false → Output.hostWrite h.2.1 h.2.2 ∈ u.pkg.out) ∧ WorkKept s u) ∧
    (p.barPhase ≠ .on ∨ bitAt a 63 = false → Answers (exec read s) fun u => answer 1 [] false u ∧ WorkKept s u) ∧
    (p.barPhase = .on → bitAt a 63 = true →
      let r := p.vRead c va len .read false
      ((s.pkg.ctx c).phase = .open → r.fault = false → Answers (exec read s) fun u => answer 0 r.bytes r.poison u ∧
        (r.poison = true → Logged u.pkg Ev.hostPoisonRead Unit.hostPort (some c)) ∧ u.pkg.mem.bytes = s.pkg.mem.bytes ∧ u.pkg.ctxs = s.pkg.ctxs ∧ u.pending = s.pending) ∧
      ((s.pkg.ctx c).phase ≠ .open ∨ r.fault = true → Answers (exec read s) fun u => answer 4 [] false u ∧ faulted (some c) u)) ∧
    (p.barPhase ≠ .on → exec write s = .next { s with pkg := p }) ∧
    (p.barPhase = .on → bitAt a 63 = false → Answers (exec write s) (faulted none)) ∧
    (p.barPhase = .on → bitAt a 63 = true →
      let lands := (s.pkg.ctx c).phase = .open ∧ bitAt a 62 = true ∧ (∀ x ∈ piecesOf va b.length, p.classAt c x.1 = some false) ∧ p.vMapped c va b.length .write = true
      (lands → Answers (exec write s) fun u => u.pkg.mem = (p.vWrite c va b false).1.mem ∧ u.pkg.host.faults = host.faults ∧
        u.pkg.cores = s.pkg.cores ∧ u.pkg.tasks = s.pkg.tasks ∧ u.pending = s.pending) ∧
      (¬ lands → Answers (exec write s) (faulted (some c)))) ∧
    (∀ k, k ≠ .easel ∨ s.pkg.easel.run = none → exec (.hostReadCompletion t k false) s = .next { s with pkg := p }) ∧
    (∀ r, s.pkg.easel.run = some r → Answers (exec (.hostReadCompletion t .easel false) s) fun u => u.pkg.easel = { s.pkg.easel with run := some { r with read := true } } ∧
      (r.op = 3 → u.pkg.bank (r.arg 1) = { s.pkg.bank (r.arg 1) with state := .loading, entries := [] }) ∧ (r.op ≠ 3 → u.pkg.fab = s.pkg.fab) ∧ WorkKept s u) ∧
    (∀ k, k = .index ∨ k = .entry → misses (.hostReadCompletion t k true) 12 ∧ misses (.hostReadTimeout t k) 14) ∧
    fails (.hostReadCompletion t .easel true) Code.invalidDescriptor ∧ fails (.hostReadTimeout t .easel) Code.timeout ∧
    (∀ x, Answers (exec (.hostReadTimeout t .axisMap) s) fun u => u.pkg.host.readErrors = host.readErrors + 1 ∧
      u.pkg.fab.axErr.get x s.pkg.axSel = Code.invalidDescriptor ∧ u.pkg.fab.maps = s.pkg.fab.maps ∧ Logged u.pkg Ev.axmapCmdRefused Unit.controlDie none ∧ WorkKept s u) ∧
    (∀ o, o < 0x1000000 → be < 256 →
      let i : Instr := .registerWrite t o be v
      (p.barPhase = .off → exec i s = .next { s with pkg := p }) ∧
      (∀ m, p.barPhase = .on → be = 0xFF → o % 8 = 0 → plainMask o = some m → exec i s = .next { s with pkg := p.setReg o (v &&& m) }) ∧
      (p.barPhase = .on → be = 0xFF → o % 8 = 0 → roOffset o = true → exec i s = .next { s with pkg := p }) ∧
      (p.barPhase = .on → be ≠ 0xFF → ¬ (0x7F00 ≤ o ∧ o < 0x10000) → Answers (exec i s) fun u =>
        u.pkg.reg Reg.badAccess = s.pkg.reg Reg.badAccess + 1 ∧ Logged u.pkg Ev.regWriteDiscarded Unit.controlDie none ∧ WorkKept s u)) ∧
    (p.barPhase = .off → Answers (exec (.bar0BadRead t) s) fun u => answer 1 [] false u ∧ u.pkg.host = host ∧ WorkKept s u) ∧
    (p.barPhase ≠ .off → Answers (exec (.bar0BadRead t) s) fun u => answer 4 [] false u ∧ u.pkg.host.aer = host.aer + 1 ∧ WorkKept s u) ∧
    (let d := off / 4 * 4
     let asks (q : ConfigReq) : Host.Outcome State Fault Refusal := exec (.configurationRequest t q) s
     let serves := power.pwrGood = true ∧ power.risen = true
     (∀ q, power.pwrGood = false → asks q = .next { s with pkg := p }) ∧
     (∀ q, power.pwrGood = true → power.risen = false → Answers (asks q) fun u => answer 2 [] false u ∧ u.pkg.host = host ∧ WorkKept s u) ∧
     (serves → Answers (asks (.read off)) fun u => answer 0 (leBytes 4 (p.configRead off)) false u ∧ u.pkg.host = host ∧ WorkKept s u) ∧
     (∀ x ∈ [(0x008, 0x12000000 + s.pkg.fuses.revision % 256), (0x018, 0xC), (0x04C, 0x8022), (0x154, s.pkg.fuses.serial % 2 ^ 32),
        (0x158, s.pkg.fuses.serial / 2 ^ 32 % 2 ^ 32)], d = x.1 → p.configRead off = x.2) ∧
     (d = 0x010 → p.configRead off % 2 ^ 24 = 4) ∧ (d = 0x044 → p.configRead off = 0x8 + 3 * host.d3.toNat) ∧
     (∀ w, serves → d ≠ 0x044 → d ≠ 0x088 → d ≠ 0x104 → Answers (asks (.write off w)) fun u => answer 0 [] false u ∧ WorkKept s u ∧
       u.pkg.host = if (p.cfgDword d).2 = 0 then host else { host with config := host.config.set d (w % 2 ^ 32 &&& (p.cfgDword d).2) }) ∧
     (∀ w, serves → d = 0x044 → Answers (asks (.write off w)) fun u => answer 0 [] false u ∧ WorkKept s u ∧
       (w % 4 = 3 → u.pkg.host.d3 = true) ∧ (w % 4 = 0 → u.pkg.host.d3 = false)) ∧
     (∀ en m, serves → Answers (asks (.msix en m)) fun u => answer 0 [] false u ∧ WorkKept s u ∧ u.pkg.host.msixEn = en ∧ u.pkg.host.msixMask = m))

/-- Easel operations started, refused and ended. A command that starts an Easel operation: on a busy port it is refused with EASEL_BUSY, and after DEVICE_READY has fallen, but for CRASH_DUMP, with NOT_READY, counted and logged; with a failed check it ends at once with INVALID_DESCRIPTOR and changes nothing else; else the port is busy with it, its arguments latched. EASEL_OP_END: the operation's effect, results and code: the image is in the inactive flash slot, marked; the plan is in force, with its index, identifier and port configurations; the bank holds the image's entries and is ready (it is loading only once the image has been read, and an operation that ends before leaves it as it was); the ranges hold the pattern, or are scrubbed; the memory port is back; a failed self-test puts the package OUT_OF_SERVICE. EASEL_TIMEOUT ends it with TIMEOUT. Neither acts on a load that waits for a sideband update, nor on a GESSO or SCRUB_SWEEP that touches a memory port in reset. FIRMWARE_UPDATE_END frees a load that waits, and marks the slot that the sideband wrote. With no operation the ends only move package time. (R354, R415, R455, R456, R516, R517, R518, R519, R520, R522, R523, R526.) -/
def Obligations.EaselPort : Prop :=
  ∀ (s : State) (t tag : Nat) (b : Bytes), tag < 65536 →
    let p := s.at t
    let e := s.pkg.easel
    (∀ (i : Instr) (op : Nat) (ok : Prop), EaselStarts p t tag b i op ok →
      let refused (code : Nat) : Prop := Answers (exec i s) fun u => u.pkg.easel = { e with refusedCode := code } ∧
        u.pkg.reg Reg.easelRefused = s.pkg.reg Reg.easelRefused + 1 ∧ Logged u.pkg code Unit.controlDie none ∧ u.pkg.fab = s.pkg.fab ∧ WorkKept s u
      (p.barPhase = .off → exec i s = .next { s with pkg := p }) ∧
      (p.barPhase ≠ .off → e.run ≠ none → refused Code.easelBusy) ∧
      (p.barPhase = .limited → e.run = none → op ≠ 8 → refused Code.notReady) ∧
      (p.barPhase = .on → e.run = none → ¬ ok → Answers (exec i s) fun u =>
        EaselEnded s.pkg u.pkg Code.invalidDescriptor [] ∧ u.pkg.easel.op = op ∧ u.pkg.easel.tag = tag ∧ u.pkg.fab = s.pkg.fab ∧
        u.pkg.sec = s.pkg.sec ∧ u.pkg.msys = s.pkg.msys ∧ WorkKept s u) ∧
      (p.barPhase = .on → e.run = none → ok → op ≠ 8 → Answers (exec i s) fun u =>
        u.pkg.easel.run = some { op := op, tag := tag, args := p.easelArgs, image := b, waits := op == 1 && s.pkg.side.fw } ∧
        u.pkg.easel.op = op ∧ u.pkg.easel.tag = tag ∧ u.pkg.easel.code = 0 ∧ u.pkg.easel.results = e.results ∧
        u.pkg.fab.banks = s.pkg.fab.banks ∧
        (op = 6 → (u.pkg.memPort (s.pkg.reg 0x010040).toNat).state = 3) ∧ WorkKept s u) ∧
      (p.barPhase ≠ .off → e.run = none → ok → op = 8 → s.pkg.rst.dump.running = none → s.pkg.rst.dump.retained ≠ [] → Answers (exec i s) fun u =>
        u.pkg.easel.run ≠ none ∧ u.pkg.easel.op = 8 ∧ (s.pkg.reg 0x010040 = 0 → u.pkg.rst.dump.running = some 2) ∧ WorkKept s u)) ∧
    (e.run = none → ∀ x n, exec (.easelOpEnd t x) s = .next { s with pkg := p } ∧ exec (.easelTimeout t n) s = .next { s with pkg := p }) ∧
    (∀ (r : EaselRun) (x : EaselResult), e.run = some r →
      let ends := Answers (exec (.easelOpEnd t x) s)
      let us := r.units
      (r.op = 1 → r.waits = true → exec (.easelOpEnd t x) s = .next { s with pkg := p }) ∧
      (p.easelWaits r = true → exec (.easelOpEnd t x) s = .next { s with pkg := p }) ∧
      (∀ n, r.waits = true ∨ p.easelWaits r = true → exec (.easelTimeout t n) s = .next { s with pkg := p }) ∧
      (r.op = 1 → r.waits = false → ends fun u =>
        let j := s.pkg.sec.inactive
        EaselEnded s.pkg u.pkg 0 [fwVersion r.image, j] ∧ u.pkg.sec = { s.pkg.sec with flash := s.pkg.sec.flash.set j r.image, mark := j } ∧ WorkKept s u) ∧
      (r.op = 2 → p.planOk r.image = true → ends fun u =>
        EaselEnded s.pkg u.pkg 0 [le r.image 8 8] ∧ u.pkg.fab.plan = r.image ∧ u.pkg.fab.selfIdx = some (le r.image 2 2) ∧
        u.pkg.reg Reg.planId = BitVec.ofNat 64 (le r.image 8 8) ∧ (∀ n < 24, p.portPresent n = true → (u.pkg.port n).cfg = planCfg r.image n) ∧ WorkKept s u) ∧
      (r.op = 2 → p.planOk r.image = false → ends fun u => EaselEnded s.pkg u.pkg Code.invalidDescriptor [] ∧ u.pkg.fab = s.pkg.fab ∧ WorkKept s u) ∧
      (r.op = 3 → ends fun u =>
        let k := u.pkg.bank (r.arg 1)
        k.state = .ready ∧ k.entries = bankEntries 0 r.image ∧ EaselEnded s.pkg u.pkg 0 [(k.entries.filter fun q => bitAt q.2 3).length] ∧
        (∀ m, m ≠ r.arg 1 → u.pkg.bank m = s.pkg.bank m) ∧ WorkKept s u) ∧
      (r.op = 4 → p.easelWaits r = false → ends fun u => EaselEnded s.pkg u.pkg 0 [65536 * us.length] ∧
        u.pkg.mem = (p.gessoUnits (BitVec.ofNat 64 (r.arg 0)) us).mem ∧ u.pkg.ctxs = s.pkg.ctxs ∧ u.pkg.tasks = s.pkg.tasks ∧ u.pending = s.pending) ∧
      (r.op = 5 → p.easelWaits r = false → ends fun u => EaselEnded s.pkg u.pkg 0 (p.sweepUnits us).1 ∧ u.pkg.mem = (p.sweepUnits us).2.mem ∧
        u.pkg.mem.bytes = s.pkg.mem.bytes ∧ u.pkg.ctxs = s.pkg.ctxs ∧ u.pkg.tasks = s.pkg.tasks ∧ u.pending = s.pending) ∧
      (r.op = 6 → x.converged = true → (s.pkg.memPort (r.arg 0)).state = 3 → ends fun u => EaselEnded s.pkg u.pkg 0 [1] ∧
        (u.pkg.memPort (r.arg 0)).state = 2 ∧ (u.pkg.memPort (r.arg 0)).lastAt = p.now ∧ (u.pkg.memPort (r.arg 0)).abandoned = 0 ∧ WorkKept s u) ∧
      (r.op = 6 → x.converged = false → ends fun u => EaselEnded s.pkg u.pkg Code.timeout [0] ∧
        ((s.pkg.memPort (r.arg 0)).abandoned < 2 → WorkKept s u) ∧ u.pending = s.pending) ∧
      (r.op = 7 → x.failing = 0 → ends fun u => EaselEnded s.pkg u.pkg 0 [x.checkers, 0] ∧ WorkKept s u) ∧
      (r.op = 7 → x.failing ≠ 0 → ends fun u => EaselEnded s.pkg u.pkg Code.outOfService [x.checkers, x.failing] ∧ u.pkg.rst.pkgOos = true ∧ u.pending = s.pending) ∧
      (r.op = 8 → r.arg 0 ≠ 0 → ends fun u =>
        EaselEnded s.pkg u.pkg 0 [le s.pkg.rst.dump.retained 4 4, le s.pkg.rst.dump.retained 36 4] ∧ WorkKept s u) ∧
      (∀ n, r.waits = false → p.easelWaits r = false → Answers (exec (.easelTimeout t n) s) fun u =>
        u.pkg.easel.run = none ∧ u.pkg.easel.code = Code.timeout ∧ u.pkg.reg 0x010028 = s.pkg.reg 0x010028 + 1 ∧
        (r.op = 3 → n = 0 → r.read = false → u.pkg.fab = s.pkg.fab) ∧
        (r.op ≠ 6 ∨ (s.pkg.memPort (r.arg 0)).abandoned < 2 → u.pkg.ctxs = s.pkg.ctxs ∧ u.pkg.tasks = s.pkg.tasks ∧ u.pkg.cores = s.pkg.cores) ∧
        u.pending = s.pending)) ∧
    (Answers (exec (.firmwareUpdateEnd t) s) fun u => u.pkg.side.fw = false ∧ (∀ r, e.run = some r → u.pkg.easel.run = some { r with waits := false }) ∧
      (e.run = none → u.pkg.easel.run = none) ∧
      u.pkg.sec = (if s.pkg.side.fw = true then { s.pkg.sec with mark := s.pkg.sec.inactive } else s.pkg.sec) ∧ WorkKept s u)

/-- A rail below its reset threshold. SUPPLY_RESET of a rail but VDD_CTL, while PWR_GOOD is asserted, with a voltage that counts as below reset: SUPPLY_RESET is written with the rail's index, the package is reset with cause 0x06 (after a dump where DUMP_CFG asks for one), and bring-up waits: the end of a PERST_N leaves it waiting. SUPPLY_RESET_HOLD_END, when every main rail has stayed above warning for 1 ms, lets it restart from step 2; while a main rail is below its warning threshold that command does nothing. A voltage within the rail's reset limits does nothing. SUPPLY_RESET of VDD_CTL below its limit is the loss of VDD_CTL: package time starts anew, and the log, the dump buffer and the escalation state are cleared. (R536.) -/
def Obligations.SupplyReset : Prop :=
  ∀ (s : State) (t : Nat) (x : RailLevel), x.rail ≤ 12 →
    let p := s.at t
    let power := s.pkg.power
    let low := p.belowReset x.rail x.mv = true
    let dipped : Pkg := if p.belowWarn x.rail x.mv then p.setDips (power.dips.upd { since := p.now, low := x.mv } x.rail fun d => { d with past := true }) else p
    let held : Pkg := { dipped with power := { dipped.power with supplyHold := true } }
    let main := ∀ r ∈ power.dips.keys, r = 11
    (x.rail ≠ 11 → power.pwrGood = true → low → Answers (exec (.supplyReset t x) s) fun u =>
      (∃ e ∈ u.pkg.log.recs, s.pkg.log.nextSeq ≤ e.seq ∧ e.event = Ev.supplyReset ∧ e.unit = Unit.package ∧ e.detail = [BitVec.ofNat 8 x.rail]) ∧
      ResetOrDump held u.pkg 6 ∧ u.pkg.power.supplyHold = true ∧ u.pending = s.pending) ∧
    (x.rail ≠ 11 → power.pwrGood = false → exec (.supplyReset t x) s = .next { s with pkg := p }) ∧
    (¬ low → exec (.supplyReset t x) s = .next { s with pkg := p }) ∧
    (power.supplyHold = true → power.waiting = true → power.trip = false → Answers (exec (.perstDeassert t) s) fun u =>
      u.pkg.power.waiting = true ∧ u.pkg.power.step = power.step ∧ u.pkg.power.supplyHold = true ∧ u.pending = s.pending) ∧
    (power.supplyHold = true → main → power.waiting = true → power.pwrGood = true → power.perst = false → power.trip = false → power.halted = false →
      Answers (exec (.supplyResetHoldEnd t) s) fun u => u.pkg.power.step = some 2 ∧ u.pkg.power.waiting = false ∧ u.pkg.power.supplyHold = false ∧ WorkKept s u) ∧
    (power.supplyHold = false ∨ ¬ main → exec (.supplyResetHoldEnd t) s = .next { s with pkg := p }) ∧
    (x.rail = 11 → low → Answers (exec (.supplyReset t x) s) fun u => u.pkg.now = 0 ∧ u.pkg.log.recs = [] ∧ u.pkg.log.nextSeq = 1 ∧ u.pkg.rst.dump.retained = [] ∧
      u.pkg.rst.history = [] ∧ u.pkg.rst.pkgHistory = [] ∧ u.pkg.power.ctl = false ∧ u.pkg.power.pwrGood = false ∧ u.pkg.ctxs = [] ∧ u.pkg.tasks = [] ∧
      u.pkg.meter = { s.pkg.meter with disturbed := false } ∧ u.pkg.fuses = s.pkg.fuses ∧ u.pending = s.pending)

/-- PWR_GOOD, bring-up, dips, temperatures and power-off. PWR_GOOD rises, with VDD_CTL applied: a package reset of cause 9, logged; a rail found low stops bring-up at step 1, logged; else bring-up is at step 2, the straps sampled, unless PERST_N holds it. A step of bring-up that fails stops it, with step and code on record (a code that no rule gives is a free one of R19's, log entry 10); one that is done leads to the next: step 2 boots the slot that verifies and derives its keys, falls back and logs where the marked one does not, step 3 loads the fuse shadows and fails with OUT_OF_SERVICE at the first die whose fuses disagree with the grade, step 4 sets the core clocks where both references run, step 6 starts the training of the memory ports, step 7 puts them into use, step 10 raises DEVICE_READY unless the package is OUT_OF_SERVICE, or becomes it because this reset reached pkg_count. PWR_GOOD falls: all but the standby state is lost, and a debug scope that was open is logged as locked. A dip of a rail that is watched below its warning threshold stretches the core clocks, where they run, and disturbs the meter; a rail's return ends the disturbance with the last, and is counted and logged unless the rail fell to its reset threshold; 10 µs after the last the stretch ends, its time added. A sample gives each die the highest of its sensors: at a die's warning level it warns, until every die is 3 °C below; at the trip level it resets the package with cause 7 as well. POWER_CMD stops every running task, halts the package and drops the contents of GDDR. VDD_CTL applied starts package time at 0. Without VDD_CTL every output but the meter's is released, DEVICE_READY is high while the package is ready, and a halted package releases MPn_RESET_N. (R430, R531, R532, R533, R535, R538, R539, R555, R556, R603, R604, R619.) -/
def Obligations.PowerAndBringup : Prop :=
  ∀ (s : State) (t : Nat),
    let p := s.at t
    let power := s.pkg.power
    let sec := s.pkg.sec
    (∀ low board, power.pwrGood = true ∨ power.ctl = false → (∀ r, low = some r → r ≤ 12) → exec (.pwrGoodAssert t low board) s = .next { s with pkg := p }) ∧
    (∀ board, power.pwrGood = false → power.ctl = true → Answers (exec (.pwrGoodAssert t none board) s) fun u =>
      u.pkg.power.pwrGood = true ∧ u.pkg.power.ready = false ∧ u.pkg.rst.pkgCause = 9 ∧ NewlyLogged s.pkg u.pkg Ev.packageReset Unit.package ∧
      (∀ i < 3, u.pkg.clk.present.mem i = board.refs.testBit i) ∧
      (power.perst = false → u.pkg.power.step = some 2 ∧ u.pkg.power.bootSrc = board.straps % 4 ∧ u.pkg.power.pkgPos = board.straps / 16 % 8) ∧ (power.perst = true → u.pkg.power.step = none ∧ u.pkg.power.waiting = true) ∧
      u.pkg.ctxs = [] ∧ u.pkg.tasks = [] ∧ u.pkg.meter = s.pkg.meter ∧ u.pending = s.pending) ∧
    (∀ r board, power.pwrGood = false → power.ctl = true → r ≤ 12 → Answers (exec (.pwrGoodAssert t (some r) board) s) fun u =>
      u.pkg.power.step = none ∧ u.pkg.power.failStep = 1 ∧ u.pkg.power.offReq = true ∧ Output.pin Pin.off true ∈ u.pkg.out ∧
      NewlyLogged s.pkg u.pkg Ev.supplySequenceFault Unit.package ∧ NewlyLogged s.pkg u.pkg Ev.bringupFailed Unit.package ∧ u.pending = s.pending) ∧
    (∀ r : StepResult,
      let i : Instr := .bringupStepDone t r
      let failed (n code unit : Nat) (u : State) : Prop := u.pkg.power.step = none ∧ u.pkg.power.waiting = false ∧ u.pkg.power.failStep = n ∧
        u.pkg.power.failCode = code ∧ code ≠ 0 ∧ (n ≠ 7 → NewlyLogged s.pkg u.pkg Ev.bringupFailed unit) ∧ u.pending = s.pending
      let next (n : Nat) (u : State) : Prop := u.pkg.power.step = some (n + 1) ∧ u.pkg.power.last = n ∧ u.pkg.ctxs = s.pkg.ctxs ∧ u.pkg.tasks = s.pkg.tasks ∧ u.pending = s.pending
      let now_ : PowerSt := { power with strapPins := r.straps.getD power.strapPins }
      let src := power.bootSrc
      let boot : Pkg := match r.flash with
        | some (a, b, m) => { p with sec := { sec with flash := [a, b], mark := m % 2 } }
        | none => p
      (power.step = none → exec i s = .next { s with pkg := p }) ∧
      (∀ n unit, power.step = some n → r.fail = some unit → Answers (exec i s) (failed n (stepCode n) unit)) ∧
      (∀ n, power.step = some n → r.fail = none → n ≠ 2 → n ≠ 3 → n ≠ 4 → n ≠ 6 → n ≠ 7 → n ≠ 10 →
        exec i s = .next { s with pkg := { p with power := { now_ with step := some (n + 1), last := n } } }) ∧
      (power.step = some 6 → r.fail = none → Answers (exec i s) fun u => next 6 u ∧ ∀ n < 32, (u.pkg.memPort n).state = 1) ∧
      (power.step = some 2 → src < 4 → r.fail = none →
        Answers (exec i s) fun u =>
          (∀ j fb, boot.bootSlot src = some (j, fb) → next 2 u ∧ u.pkg.sec.slot = j ∧ u.pkg.sec.fallback = fb ∧
            u.pkg.sec.header = slice (boot.sec.flash.getD j []) 0 512 ∧
            u.pkg.sec.idKey = Config.identityKey s.pkg.fuses.identity ∧
            u.pkg.sec.aliasKey = Config.aliasKey s.pkg.fuses.identity (Config.sha384 (boot.sec.flash.getD j [])) ∧ (fb = true → Logged u.pkg Ev.secureBootFallback Unit.controlDie none)) ∧
          (boot.bootSlot src = none → (src = 0 → u.pkg.sec.fallback = true ∧ NewlyLogged s.pkg u.pkg Ev.secureBootFallback Unit.controlDie) ∧
            (src ≠ 3 → NewlyLogged s.pkg u.pkg Ev.firmwareRejected Unit.controlDie) ∧
            failed 2 (if src = 3 then Code.invalidDescriptor else stepCode 2) Unit.controlDie u)) ∧
      (power.step = some 3 → r.fail = none →
        (∀ die, s.pkg.fuses.clash = some die → Answers (exec i s) (failed 3 Code.outOfService die)) ∧
        (s.pkg.fuses.clash = none →
          exec i s = .next { s with pkg := { p with power := { now_ with step := some 4, last := 3, shadow := some s.pkg.fuses } } })) ∧
      (power.step = some 4 → r.fail = none →
        let runs := s.pkg.clk.present.mem 0 = true ∧ s.pkg.clk.present.mem 1 = true
        (runs → Answers (exec i s) fun u => next 4 u ∧ ∀ d < 16, (u.pkg.coreClk d).stopped = false ∧
          (u.pkg.coreClk d).mhz = if bitAt (p.clkCfg d) 12 then 400 else fld (p.clkCfg d) 10 0) ∧
        (¬ runs → Answers (exec i s) (failed 4 (stepCode 4) Unit.controlDie))) ∧
      (power.step = some 7 → r.fail = none →
        (r.density = 1 ∨ r.density = 2 → Answers (exec i s) fun u => next 7 u ∧ (∀ n < 32, (u.pkg.memPort n).state = 2 ∧ (u.pkg.memPort n).lastAt = p.now) ∧
          u.pkg.mem.usable = if r.density = 1 then 62 * 2 ^ 30 else 124 * 2 ^ 30) ∧
        (r.density ≠ 1 → r.density ≠ 2 → Answers (exec i s) (failed 7 (stepCode 7) Unit.package))) ∧
      (power.step = some 10 → r.fail = none →
        (s.pkg.rst.pkgOos = false → s.pkg.rst.oosDue = false → Answers (exec i s) fun u => u.pkg.power.ready = true ∧ u.pkg.power.risen = true ∧ u.pkg.power.step = none ∧
          u.pkg.power.last = 10 ∧ u.pkg.stroke.openedAt = p.now ∧ u.pkg.stroke.nextAt = p.now + 1000 * s.pkg.stroke.curPeriod ∧
          Output.pin Pin.ready true ∈ u.pkg.out ∧ WorkKept s u) ∧
        (s.pkg.rst.pkgOos = false → s.pkg.rst.oosDue = true → Answers (exec i s) fun u => failed 10 Code.outOfService Unit.package u ∧
          u.pkg.rst.pkgOos = true ∧ u.pkg.rst.oosDue = false ∧ u.pkg.power.ready = false ∧ u.pkg.power.hold10 = true) ∧
        (s.pkg.rst.pkgOos = true → Answers (exec i s) fun u => failed 10 Code.outOfService Unit.package u ∧ u.pkg.power.hold10 = true))) ∧
    (power.pwrGood = false → exec (.pwrGoodDeassert t) s = .next { s with pkg := p }) ∧
    (power.pwrGood = true → Answers (exec (.pwrGoodDeassert t) s) fun u => u.pkg.power.pwrGood = false ∧ u.pkg.power.ready = false ∧ u.pkg.power.step = none ∧
      NewlyLogged s.pkg u.pkg Ev.powerOff Unit.package ∧ u.pkg.ctxs = [] ∧ u.pkg.tasks = [] ∧ u.pkg.cores = [] ∧ u.pkg.rst.history = s.pkg.rst.history ∧
      (sec.scope ≠ 0 → NewlyLogged s.pkg u.pkg Ev.debugLocked Unit.controlDie) ∧
      u.pkg.meter = { s.pkg.meter with disturbed := !(power.dips.filterV fun r _ => r == 11).isEmpty } ∧ u.pending = s.pending) ∧
    (∀ rail mv, rail ≤ 12 →
      let dip := power.dips.find rail
      let warns := p.watched rail = true ∧ p.belowWarn rail mv = true ∧ dip = none
      (¬ warns → exec (.supplyWarn t rail mv) s = .next { s with pkg := p }) ∧
      (warns → Answers (exec (.supplyWarn t rail mv) s) fun u =>
        u.pkg.power.dips.find rail = some { since := p.now, low := mv } ∧ u.pkg.power.warned.mem rail = true ∧
        (power.pwrGood = true → u.pkg.power.stretched = some (p.stretchRelease.power.stretched.getD p.now)) ∧
        u.pkg.meter.disturbed = true ∧ u.pkg.meter.flags.testBit 0 = true ∧ WorkKept s u) ∧
      (dip = none → exec (.railReturnsAboveWarning t rail mv) s = .next { s with pkg := p }) ∧
      (∀ d, dip = some d → power.dips.sorted → Answers (exec (.railReturnsAboveWarning t rail mv) s) fun u =>
        u.pkg.power.dips.find rail = none ∧ u.pkg.power.lastUp = p.now ∧ u.pkg.meter.disturbed = !(power.dips.erase rail).isEmpty ∧
        (d.past = true → u.pkg.log = s.pkg.log ∧ u.pkg.regs = s.pkg.regs) ∧
        (d.past = false → u.pkg.reg Reg.supplyWarns = s.pkg.reg Reg.supplyWarns + 1 ∧ ∃ e rest, u.pkg.log.recs = e :: rest ∧ e.event = Ev.supplyWarn ∧ le e.detail 0 1 = rail ∧ le e.detail 2 2 = min d.low mv % 65536 ∧
          le e.detail 4 4 = min (p.now - d.since) 0xFFFFFFFF) ∧ WorkKept s u)) ∧
    (¬ (power.stretched ≠ none ∧ power.dips = [] ∧ power.lastUp + 10000 ≤ p.now) → exec (.stretchRelease t) s = .next { s with pkg := p }) ∧
    (∀ a, power.stretched = some a → power.dips = [] → power.lastUp + 10000 ≤ p.now → Answers (exec (.stretchRelease t) s) fun u =>
      u.pkg.power = { power with stretched := none } ∧ u.pkg.reg Reg.stretchNs = s.pkg.reg Reg.stretchNs + BitVec.ofNat 64 (power.lastUp + 10000 - a) ∧ WorkKept s u) ∧
    (∀ (dies : List (List Int)) (devs : List Nat), dies.length = 26 →
      let i : Instr := .thermalSample t dies devs
      let at_ (d : Nat) (c : Int) : Prop := d < 26 ∧ dieTemp d (dies.getD d []) = some c
      let trips := ∃ d c, at_ d c ∧ 115 ≤ c
      (power.ctl = false → exec i s = .next { s with pkg := p }) ∧
      (power.ctl = true → Answers (exec i s) fun u => (∀ d c, at_ d c → p.warnC ≤ c → sec.warnDies.mem d = false →
        NewlyLogged s.pkg u.pkg Ev.thermalWarn (dieUnit d)) ∧ u.pending = s.pending) ∧
      (power.ctl = true → trips → power.pwrGood = true → power.trip = false → Answers (exec i s) fun u =>
        u.pkg.power.trip = true ∧ Output.pin Pin.trip true ∈ u.pkg.out ∧ (∃ d c, at_ d c ∧ 115 ≤ c ∧ NewlyLogged s.pkg u.pkg Ev.thermalTrip (dieUnit d)) ∧
        (bitAt (s.pkg.reg Reg.dumpCfg) 1 = false → u.pkg.rst.pkgCause = 7 ∧ u.pkg.tasks = [] ∧ u.pkg.ctxs = []) ∧ u.pending = s.pending) ∧
      (power.ctl = true → ¬ trips → Answers (exec i s) fun u =>
        (∀ d c, at_ d c → u.pkg.sec.temps.get 0 d = c) ∧ (∀ n < devs.length, n < 32 → (u.pkg.memPort n).temp = devs.getD n 0 % 256) ∧
        (∀ d c, at_ d c → p.warnC ≤ c → u.pkg.sec.warnDies.mem d = true ∧ (sec.warnDies.mem d = false → u.pkg.power.alert = true)) ∧
        (∀ d c, at_ d c → d < 16 → p.throttleC ≤ c → p.frozen = false → (s.pkg.coreClk d).mhz ≠ 0 → u.pkg.sec.throttling.mem d = true) ∧
        ((∀ d c, at_ d c → c ≤ p.warnC - 3) → sec.warning = true → u.pkg.power.alert = false ∧ u.pkg.sec.warnDies = [] ∧
          ∃ e rest, u.pkg.log.recs = e :: rest ∧ e.event = Ev.thermalWarnEnd) ∧ WorkKept s u)) ∧
    (p.barPhase = .on → power.pwrGood = true → Answers (exec (.powerCmdOff t) s) fun u =>
      u.pkg.power.halted = true ∧ u.pkg.power.ready = false ∧ u.pkg.power.offReq = true ∧ Output.pin Pin.off true ∈ u.pkg.out ∧
      Logged u.pkg Ev.powerOff Unit.package none ∧
      (∀ k, (s.pkg.task k).phase = .running → (s.pkg.task k).update = false → (u.pkg.core (s.pkg.task k).core).task ≠ some k) ∧
      u.pkg.mem = { usable := s.pkg.mem.usable } ∧ u.pending = s.pending) ∧
    (Answers (exec (.vddCtlApplied t) s) fun u => u.pkg.now = 0 ∧ u.pkg.log.recs = [] ∧ u.pkg.power.ctl = true ∧ u.pkg.power.pwrGood = false ∧ u.pkg.ctxs = [] ∧
      u.pkg.meter = { s.pkg.meter with disturbed := false } ∧ u.pkg.fuses = s.pkg.fuses ∧ u.pending = s.pending) ∧
    (power.ctl = false → ∀ o, o ≠ OutPin.metSda → o ≠ OutPin.metXout → p.drive o = .released) ∧
    (power.ctl = true → power.ready = true → p.drive .deviceReady = .high) ∧ (∀ n, power.halted = true → p.drive (.mpResetN n) = .released)

/-- Core clocks, the fabric clock, references and gates. THROTTLE_STEP, REFCLK_LOST, REFCLK_RESTORED, OSC_TRIM_UPDATE, CLK_CORE_CFG_WRITE, AVS_SETPOINT_REACHED, PLL_LOCK_DONE, PLL_UNLOCK, PLL_RELOCK_TIMEOUT, CLK_FAB_CFG_WRITE and CLK_GATE_ON, _OFF and _HOLD each complete in every state, and what each does there is said next. CLK_CORE_CFG: a value out of range is discarded; a legal one on an idle clock without a throttle ceiling raises the setpoint first where it must and waits until the regulator has reached what the die needs, then programs the other PLL, or switches to bypass; during a change it is held. AVS_SETPOINT_REACHED goes on to the PLL. A switch leaves the work of the package as it was where no packet waits for the die's clock (R550). PLL_LOCK_DONE switches the clock, counted and logged. PLL_UNLOCK stops the die's clock, and of the fabric PLL resets the package; PLL_RELOCK_TIMEOUT leaves the clock stopped. CLK_FAB_CFG is accepted only with nothing in use. THROTTLE_STEP counts its millisecond and lowers the ceiling from the clock in force, or raises it, in bypass too. A reference lost resets the package (PCIE), fails the up ports (LINK) or changes the trim source (SYS); OSC_TRIM_UPDATE follows the source. CLK_GATE ON, OFF and HOLD set the unit's gate, OFF is refused where the unit is in use, ON where it is out of service. (R507, R529, R541, R542, R546, R547, R548, R550, R551, R552, R605.) -/
def Obligations.ClocksAndGates : Prop :=
  ∀ (s : State) (t n unit i : Nat) (v : Word) (corr : Int), n < 16 → unit < 65536 → i < 3 →
    let p := s.at t
    let clk := s.pkg.clk
    let x := s.pkg.coreClk n
    let here (ep : Nat) : Prop := ep < 64 ∧ ep / 4 = n
    let calm := (∀ k ∈ s.pkg.fab.stalled, ¬ here (eidEp k.hd.dst)) ∧
      ∀ f ∈ s.pkg.fab.rxFlows, here (eidEp f.dst) → ∀ k ∈ f.early, k.hd.seq ≠ f.next
    let kept (u : State) : Prop := (calm → WorkKept s u) ∧ u.pending = s.pending
    let switched (mhz : Nat) (bypass : Bool) (u : State) : Prop :=
      (u.pkg.coreClk n).mhz = mhz ∧ (u.pkg.coreClk n).bypass = bypass ∧ (u.pkg.coreClk n).phase = .idle ∧ (u.pkg.coreClk n).stopped = false ∧
      u.pkg.reg Reg.clockSwitches = s.pkg.reg Reg.clockSwitches + 1 ∧ Logged u.pkg Ev.clockSwitched (Unit.computeDie n) none ∧ kept u
    let f := fld v 10 0
    let legal := bitAt v 12 = true ∨ (200 ≤ f ∧ f ≤ s.pkg.fuses.maxMhz ∧ f % 25 = 0)
    let r : ClkReq := if bitAt v 12 then ⟨400, true, 0⟩ else ⟨f, false, 0⟩
    let g := n / 4
    let need := p.groupNeed n r.mhz
    let waits := p.groupReached g < railNeed n r.mhz
    let rises := p.groupSet g < need
    let asks := Output.avsRead (avsMaster g) g
    let write : Instr := .clkCoreCfgWrite t n v
    let word (cmd : Nat) : Word := BitVec.ofNat 64 (unit + 65536 * cmd)
    let busy := (∃ c ∈ s.pkg.ctxs.vals, c.phase ≠ .free) ∨ (∃ m < 24, (s.pkg.port m).state = 4) ∨ s.pkg.easel.run ≠ none
    let hot := s.pkg.sec.temps.get 0 n
    let full := if bitAt (p.clkCfg n) 12 then 400 else fld (p.clkCfg n) 10 0
    let floor := max 200 (clk.fab / 2)
    let cur := min full (x.ceiling.getD full)
    let ms (u : State) : Prop := u.pkg.reg Reg.throttleMs = s.pkg.reg Reg.throttleMs + 1 ∧ kept u
    Completes s [.throttleStep t n, .refclkLost t i, .refclkRestored t i, .oscTrimUpdate t corr, .clkCoreCfgWrite t n v, .avsSetpointReached t n,
      .pllLockDone t n, .pllUnlock t n, .pllRelockTimeout t n, .clkFabCfgWrite t v, .clkGateOn t unit, .clkGateOff t unit, .clkGateHold t unit] ∧
    (p.barPhase = .on → ¬ legal → exec write s = .next { s with pkg := p.discard (Reg.clkCoreCfg n) v }) ∧
    (p.barPhase = .on → legal → x.ceiling = none → x.phase ≠ .idle ∨ x.stopped = true → Answers (exec write s) fun u =>
      u.pkg.coreClk n = { x with held := some r } ∧ fld (u.pkg.reg (Reg.clkCoreCfg n)) 12 0 = fld (v &&& 0x17FF) 12 0 ∧ WorkKept s u) ∧
    (p.barPhase = .on → legal → x.ceiling = none → x.phase = .idle → x.stopped = false →
      Answers (exec write s) fun u => kept u ∧
        (rises → u.pkg.coreClk n = { x with target := r, phase := .raising } ∧ u.pkg.groupSet g = need ∧
          u.pkg.out = s.pkg.out ++ [Output.avs (avsMaster g) g (5 * need), asks]) ∧
        (¬ rises → waits → u.pkg.coreClk n = { x with target := r, phase := .raising } ∧ u.pkg.out = s.pkg.out ++ [asks]) ∧
        (¬ rises → ¬ waits → r.bypass = false → u.pkg.coreClk n = { x with target := r, phase := .locking } ∧ u.pkg.out = s.pkg.out) ∧
        (¬ rises → ¬ waits → r.bypass = true → switched 400 true u)) ∧
    (x.phase ≠ .raising → exec (.avsSetpointReached t n) s = .next { s with pkg := p }) ∧
    (x.phase = .raising → x.target.bypass = false → Answers (exec (.avsSetpointReached t n) s) fun u => u.pkg.coreClk n = { x with phase := .locking } ∧
      u.pkg.groupReached g = max (p.groupReached g) (min (p.groupSet g) (railNeed n x.target.mhz)) ∧ u.pkg.out = s.pkg.out ∧ WorkKept s u) ∧
    (x.phase = .raising → x.target.bypass = true → x.held = none → Answers (exec (.avsSetpointReached t n) s) (switched x.target.mhz true)) ∧
    (x.phase ≠ .locking → x.phase ≠ .relock → exec (.pllLockDone t n) s = .next { s with pkg := p }) ∧
    (x.phase = .locking ∨ x.phase = .relock → x.held = none → Answers (exec (.pllLockDone t n) s) fun u =>
      switched x.target.mhz x.target.bypass u ∧ (x.target.bypass = false → (u.pkg.coreClk n).pllB = !x.pllB)) ∧
    (∀ h, x.phase = .locking ∨ x.phase = .relock → x.held = some h → Answers (exec (.pllLockDone t n) s) fun u =>
      (u.pkg.coreClk n).held = none ∧ (u.pkg.coreClk n).target = h ∧ ((u.pkg.coreClk n).phase = .idle → (u.pkg.coreClk n).mhz = h.mhz) ∧ kept u) ∧
    (x.mhz = 0 ∨ x.bypass = true ∨ x.stopped = true → exec (.pllUnlock t n) s = .next { s with pkg := p }) ∧
    (x.mhz ≠ 0 → x.bypass = false → x.stopped = false → Answers (exec (.pllUnlock t n) s) fun u =>
      (u.pkg.coreClk n).stopped = true ∧ (u.pkg.coreClk n).phase = .relock ∧ (u.pkg.coreClk n).target.mhz = x.mhz ∧
      Logged u.pkg Ev.pllUnlock (Unit.computeDie n) none ∧ WorkKept s u) ∧
    (Answers (exec (.pllUnlock t (n + 16)) s) fun u => ResetOrDump p u.pkg 8 ∧ u.pending = s.pending) ∧
    (x.phase ≠ .relock → exec (.pllRelockTimeout t n) s = .next { s with pkg := p }) ∧
    (x.phase = .relock → exec (.pllRelockTimeout t n) s = .next { s with pkg := p.setCoreClk n { x with phase := .idle } }) ∧
    (p.barPhase = .on → fld v 1 0 = 3 ∨ busy → exec (.clkFabCfgWrite t v) s = .next { s with pkg := p.discard Reg.clkFabCfg v }) ∧
    (p.barPhase = .on → fld v 1 0 ≠ 3 → ¬ busy → Answers (exec (.clkFabCfgWrite t v) s) fun u =>
      u.pkg.clk = { clk with fab := if fld v 1 0 = 0 then 1400 else if fld v 1 0 = 1 then 700 else 350 } ∧
      u.pkg.reg Reg.clockSwitches = s.pkg.reg Reg.clockSwitches + 1 ∧ Logged u.pkg Ev.clockSwitched Unit.package none ∧ WorkKept s u) ∧
    (s.pkg.sec.throttling.mem n = false → exec (.throttleStep t n) s = .next { s with pkg := p }) ∧
    (s.pkg.sec.throttling.mem n = true →
      (p.throttleC ≤ hot → cur ≤ floor → Answers (exec (.throttleStep t n) s) fun u => ms u ∧ u.pkg.clk = clk) ∧
      (p.throttleC ≤ hot → floor < cur → Answers (exec (.throttleStep t n) s) fun u => ms u ∧ (u.pkg.coreClk n).ceiling = some (max floor (cur - 100))) ∧
      (hot ≤ p.throttleC - 3 → full ≤ cur + 100 → Answers (exec (.throttleStep t n) s) fun u => ms u ∧ (u.pkg.coreClk n).ceiling = none ∧
        u.pkg.sec.throttling.mem n = false ∧ Logged u.pkg Ev.thermalThrottleEnd (Unit.computeDie n) none) ∧
      (hot ≤ p.throttleC - 3 → cur + 100 < full → Answers (exec (.throttleStep t n) s) fun u => ms u ∧ (u.pkg.coreClk n).ceiling = some (cur + 100)) ∧
      (p.throttleC - 3 < hot → hot < p.throttleC → Answers (exec (.throttleStep t n) s) fun u => ms u ∧ u.pkg.clk = clk)) ∧
    (Answers (exec (.oscTrimUpdate t corr) s) fun u => u.pkg.clk.trim = p.trimSource ∧ u.pkg.clk.core = clk.core ∧
      (p.trimSource = 1 ∨ p.trimSource = 2 → u.pkg.clk.correction = ofInt 16 corr) ∧ (p.trimSource ≠ 1 → p.trimSource ≠ 2 → u.pkg.clk.correction = clk.correction) ∧
      (p.trimSource ≠ clk.trim → Logged u.pkg Ev.oscTrimSource Unit.controlDie none) ∧ WorkKept s u) ∧
    (clk.present.mem i = false → exec (.refclkLost t i) s = .next { s with pkg := p }) ∧
    (clk.present.mem i = true → Answers (exec (.refclkLost t i) s) fun u => (i ≠ 1 → NewlyLogged s.pkg u.pkg Ev.refclkLost Unit.controlDie) ∧ u.pkg.clk.present.mem i = false ∧
      (i = 0 → s.pkg.power.risen = true → PackageReset p u.pkg 1) ∧ (i ≠ 0 ∨ s.pkg.power.risen = false → u.pkg.clk.lost.mem i = true ∧ WorkKept s u) ∧ u.pending = s.pending) ∧
    (clk.present.mem 1 = true → Answers (exec (.refclkLost t 1) s) fun u =>
      ∀ m < 24, (u.pkg.port m).state = if (s.pkg.port m).state = 4 then 6 else (s.pkg.port m).state) ∧
    (clk.present.mem i = true → exec (.refclkRestored t i) s = .next { s with pkg := p }) ∧
    (clk.present.mem i = false → Answers (exec (.refclkRestored t i) s) fun u => u.pkg.clk.present.mem i = true ∧ u.pkg.clk.lost = clk.lost ∧
      NewlyLogged s.pkg u.pkg Ev.refclkRestored Unit.controlDie ∧ WorkKept s u) ∧
    (p.barPhase = .on → p.gateable unit = false → exec (.clkGateOn t unit) s = .next { s with pkg := p.discard Reg.clkGateCmd (word 1) } ∧
      exec (.clkGateOff t unit) s = .next { s with pkg := p.discard Reg.clkGateCmd (word 2) } ∧
      exec (.clkGateHold t unit) s = .next { s with pkg := p.discard Reg.clkGateCmd (word 3) }) ∧
    (p.barPhase = .on → p.gateable unit = true →
      let done (code : Nat) (u : State) : Prop := u.pkg.clk.lastUnit = unit ∧ u.pkg.clk.lastCode = code ∧ u.pkg.clk.core = clk.core ∧ WorkKept s u
      let refuses := p.unitInUse unit = true ∧ p.unitOos unit = false
      (p.unitOos unit = true → Answers (exec (.clkGateOn t unit) s) fun u => done Code.outOfService u ∧ u.pkg.clk.off = clk.off ∧ u.pkg.clk.hold = clk.hold) ∧
      (p.unitOos unit = false → Answers (exec (.clkGateOn t unit) s) fun u => done 0 u ∧ (∀ a ∈ ancestors unit, u.pkg.clk.off.mem a = false) ∧
        (∀ a, a ∉ ancestors unit → u.pkg.clk.off.mem a = clk.off.mem a) ∧ u.pkg.clk.hold.mem unit = false ∧ u.pkg.clk.onCmd.mem unit = true) ∧
      (refuses → Answers (exec (.clkGateOff t unit) s) fun u => done Code.gateRefused u ∧ u.pkg.clk.off = clk.off ∧ u.pkg.clk.hold = clk.hold ∧
        u.pkg.reg Reg.gateRefusals = s.pkg.reg Reg.gateRefusals + 1 ∧ Logged u.pkg Code.gateRefused unit none) ∧
      (¬ refuses → Answers (exec (.clkGateOff t unit) s) fun u => done 0 u ∧ u.pkg.clk.off.mem unit = true ∧ u.pkg.clk.hold = clk.hold ∧ u.pkg.clk.onCmd.mem unit = false) ∧
      (Answers (exec (.clkGateHold t unit) s) fun u => done 0 u ∧ u.pkg.clk.hold.mem unit = true ∧ u.pkg.clk.off = clk.off))

/-- The sealed meter: samples, records, varnish, readout, and the mirror. METER_SAMPLE, METER_INTERVAL_BOUNDARY, METER_SECOND_CHECK, VDD_MET_FALL, VDD_MET_RETURN, MET_CAL_EN_ASSERT and _DEASSERT, CAL_BANK_WRITE, SEAL, INTERVAL_LENGTH_REQUEST, ENERGY_READOUT_LATCH, METER_SNAPSHOT and MIRROR_STALE_TIMEOUT each complete in every state, and what each does there is said next. METER_SAMPLE adds the rails' power, at most 2,400 W, to the energy register, and one sample of time. METER_INTERVAL_BOUNDARY and VDD_MET_FALL close the interval: its record stands at seq mod 4,096 with what the meter held, the other records stand, and the mirror shows the new record while no package reset holds it; a length that waits takes effect; the boundary opens the next interval at the register and time where this one ended. METER_SECOND_CHECK sets the flags of band, clock and calibration. VDD_MET_RETURN takes up time and register where they stood. MET_CAL_EN unseals sealed varnish, counted; a calibration bank is written, and taken, counted, where its three copies read back as received, or spoiled; a SEAL that verifies seals from the next boundary. A legal new interval length waits for the interval's end. A readout from any address latches register and time. A snapshot brings the mirror up to date, and 1 ms without one makes it stale. No command here touches a context, a task or memory, and none lowers the energy register. (R559, R560, R561, R565, R568, R569, R570, R571, R573, R574, R579, R582.) -/
def Obligations.MeterAndMirror : Prop :=
  ∀ (s : State) (t : Nat),
    let p := s.at t
    let m := s.pkg.meter
    let only (i : Instr) (n : MeterSt → Prop) : Prop := Answers (exec i s) fun u => u.pkg = { p with meter := u.pkg.meter } ∧ n u.pkg.meter ∧ u.pending = s.pending
    let same (i : Instr) : Prop := exec i s = .next { s with pkg := p }
    let sends := s.pkg.power.waiting = false ∧ s.pkg.power.ctl = true
    let closes (i : Instr) (n : MeterSt → Prop) : Prop := Answers (exec i s) fun u =>
      u.pkg = { p with meter := u.pkg.meter, mirror := { s.pkg.mirror with record := u.pkg.mirror.record } } ∧
      (sends → u.pkg.mirror.record = u.pkg.meter.records.get [] (u.pkg.meter.seq % 4096)) ∧
      (¬ sends → u.pkg.mirror = s.pkg.mirror) ∧ n u.pkg.meter ∧ u.pending = s.pending
    (∀ rails diff sel l rd sig ok x, Completes s [.meterSample t rails, .meterIntervalBoundary t, .meterSecondCheck t ok diff, .vddMetFall t, .vddMetReturn t,
      .metCalEnAssert t, .metCalEnDeassert t, .calBankWrite t x, .seal t sig, .intervalLengthRequest t sel l, .energyReadoutLatch t rd,
      .meterSnapshot t, .mirrorStaleTimeout t]) ∧
    (∀ rails diff sel l rd sig ok x, m.up = false → same (.meterSample t rails) ∧ same (.meterIntervalBoundary t) ∧ same (.meterSecondCheck t ok diff) ∧
      same (.vddMetFall t) ∧ same (.metCalEnAssert t) ∧ same (.calBankWrite t x) ∧ same (.seal t sig) ∧ same (.intervalLengthRequest t sel l) ∧
      same (.energyReadoutLatch t rd) ∧ same (.meterSnapshot t)) ∧
    (∀ rails : List (Nat × Nat), m.up = true → m.sub < 32 → only (.meterSample t rails) fun n =>
      let w := ((rails.take 12).map fun x => x.1 * x.2).sum
      n.fine = (if m.calFault then m.fine else m.fine + min w 2400000000) ∧ n.ticks * 32 + n.sub = m.ticks * 32 + m.sub + 1 ∧
      (2000000000 < w → n.flags.testBit 2 = true) ∧ n.seq = m.seq ∧ n.records = m.records ∧ n.events = m.events) ∧
    (m.up = true → closes (.meterIntervalBoundary t) fun n =>
      ∃ at_, at_ = m.boundaryAt ∧ Recorded m n s.pkg.fuses.serial at_ m.flags ∧ n.fine = m.fine ∧ n.ticks = at_ ∧ n.startE = m.energy ∧ n.startT = at_ ∧
        n.bank = m.bankNext.getD m.bank ∧ n.len = m.lenNext.getD m.len ∧ n.lenNext = none ∧ (m.lenNext = none → n.events = m.events) ∧
        (m.lenNext ≠ none → m.events < 1023 → n.events = m.events + 1) ∧ (n.flags.testBit 9 = true ↔ m.lenNext ≠ none ∨ m.lenTaken = true) ∧
        (m.sealNext = true → m.spent = false → m.lenNext = none → n.isSealed = true)) ∧
    (∀ ok diff, m.up = true → only (.meterSecondCheck t ok diff) fun n =>
      n.fine = m.fine ∧ n.ticks = m.ticks ∧ n.secFine = 0 ∧ n.clockFault = !ok ∧ n.calFault = (m.calFault || decide (2 ≤ diff)) ∧
      (m.secFine < 150000000 * 1048576 ∨ 1800000000 * 1048576 < m.secFine → n.flags.testBit 1 = true) ∧ (ok = false → n.flags.testBit 4 = true) ∧
      (2 ≤ diff → n.flags.testBit 7 = true) ∧ (diff = 1 → n.tmr = min 0xFFFF (m.tmr + 1)) ∧ (diff ≠ 1 → n.tmr = m.tmr) ∧ n.records = m.records ∧ n.seq = m.seq) ∧
    (m.up = true → closes (.vddMetFall t) fun n => Recorded m n s.pkg.fuses.serial m.ticks (m.flags ||| 8) ∧ n.up = false ∧ n.fine = m.fine ∧ n.ticks = m.ticks ∧
      n.len = m.lenNext.getD m.len ∧ n.lenNext = none ∧ (m.lenNext ≠ none → n.lenTaken = true)) ∧
    (m.up = true → same (.vddMetReturn t)) ∧
    (m.up = false → only (.vddMetReturn t) fun n => n.up = true ∧ n.fine = m.fine ∧ n.ticks = m.ticks ∧ n.startE = m.energy ∧ n.startT = m.ticks ∧
      n.flags.testBit 3 = true ∧ (n.flags.testBit 9 = true ↔ m.lenTaken = true) ∧ n.records = m.records ∧ n.seq = m.seq) ∧
    (m.up = true → m.isSealed = true → only (.metCalEnAssert t) fun n => n.isSealed = false ∧ n.calEn = true ∧ n.flags.testBit 5 = true ∧
      (m.events < 1023 → n.events = m.events + 1) ∧ n.fine = m.fine ∧ n.records = m.records) ∧
    (m.up = true → m.isSealed = false → only (.metCalEnAssert t) fun n => n = { m with calEn := true }) ∧
    (only (.metCalEnDeassert t) fun n => n = { m with calEn := false }) ∧
    (∀ x : CalSet,
      let ok := x.back = List.replicate 3 x.data
      let taken (n : MeterSt) : Prop := n.banks = m.banks.set m.nextFree x.back ∧ n.nextFree = m.nextFree + 1 ∧ n.bank = m.bank ∧ n.fine = m.fine
      let open_ := m.up = true ∧ m.calEn = true ∧ m.isSealed = false ∧ m.nextFree ≤ 7
      (¬ open_ → same (.calBankWrite t x)) ∧
      (open_ → ok → only (.calBankWrite t x) fun n => taken n ∧ n.bankNext = some m.nextFree ∧
        n.flags.testBit 6 = true ∧ (m.events < 1023 → n.events = m.events + 1)) ∧
      (open_ → ¬ ok → only (.calBankWrite t x) fun n => taken n ∧ n.spoiled.mem m.nextFree = true ∧ n.bankNext = m.bankNext ∧ n.events = m.events)) ∧
    (∀ sig,
      let good := m.up = true ∧ m.calEn = true ∧ m.isSealed = false ∧ m.spent = false ∧
        Config.sealSig (leBytes 8 s.pkg.fuses.serial ++ leBytes 4 m.events ++ leBytes 1 m.bank) sig = true
      only (.seal t sig) fun n => (good → n = { m with sealNext := true }) ∧ (¬ good → n = m)) ∧
    (∀ sel l, m.up = true → only (.intervalLengthRequest t sel l) fun n => n.len = m.len ∧ n.events = m.events ∧
      (∀ k, l = some k → 1 ≤ k ∧ 900 % k = 0 ∧ k ≠ m.len → n.lenNext = some k) ∧
      ((∀ k, l = some k → ¬ (1 ≤ k ∧ 900 % k = 0 ∧ k ≠ m.len)) → n.lenNext = m.lenNext) ∧ n.select = sel.getD m.select % 2 ^ 32) ∧
    (∀ rd : MeterRead, m.up = true → Answers (exec (.energyReadoutLatch t rd) s) fun u =>
      ∃ b, u.pkg.out = s.pkg.out ++ [Output.meter b] ∧ b.length = rd.len ∧
        (rd.addr = 0x10 → 16 ≤ rd.len → le b 0 8 = m.energy % 2 ^ 64 ∧ le b 8 8 = m.ticks % 2 ^ 64) ∧
        (rd.addr = 0 → 8 ≤ rd.len → le b 0 8 = s.pkg.fuses.serial % 2 ^ 64) ∧
        (rd.addr = 0x80 → 128 ≤ rd.len → m.selected.length = 128 → b.take 128 = m.selected) ∧
        u.pkg.meter = { m with latch := u.pkg.meter.latch } ∧ WorkKept s u) ∧
    (m.up = true → ¬ sends → same (.meterSnapshot t)) ∧
    (m.up = true → sends → Answers (exec (.meterSnapshot t) s) fun u =>
      let o := u.pkg.mirror
      o.energy = m.energy ∧ o.time = m.ticks ∧ o.events = m.events ∧ o.seq = m.seq ∧ o.flags = m.flags ∧ o.stale = false ∧ o.lastAt = p.now ∧ o.seen = true ∧
      o.record = m.records.get [] (m.seq % 4096) ∧ u.pkg.meter = m ∧
      (s.pkg.mirror.stale = true → NewlyLogged s.pkg u.pkg Ev.meterMirrorRestored Unit.meterDie) ∧
      (s.pkg.mirror.seen = true → s.pkg.mirror.varnish ≠ 0 → m.isSealed = false → NewlyLogged s.pkg u.pkg Ev.meterUnsealed Unit.meterDie) ∧ WorkKept s u) ∧
    (let due := s.pkg.mirror.stale = false ∧ s.pkg.mirror.lastAt + 1000000 ≤ p.now
     (¬ due → same (.mirrorStaleTimeout t)) ∧
     (due → Answers (exec (.mirrorStaleTimeout t) s) fun u => u.pkg.mirror = { s.pkg.mirror with stale := true } ∧ u.pkg.meter = m ∧
       Logged u.pkg Ev.meterMirrorStale Unit.meterDie none ∧ WorkKept s u))

/-- Version commitment, debug unlock and attestation. While BAR0 is served: COMMIT_VERSION raises the minimum security version to the running image's and revokes its mask's keys but the one that signed it, logged, and is discarded where a flash slot holds an image that this would reject; DEBUG_UNLOCK consumes the nonce, and opens the token's scope where the token passes, and is counted and logged as rejected where it does not; DEBUG_LOCK closes every scope; PT_INVALIDATE drops the cached translations of the context that it names, or of every one, and what is in flight keeps those that it started with. An SPDM request is answered on its transport from the end of step 2 of bring-up, every answer with the alias key's signature over request and answer (its extent is the model's choice, log entry 130), with an error where it comes out of order (an order that the model fixes, log entry 61) or asks for what is not offered, and any other request with UnsupportedRequest. No other fuse changes. (R512, R588, R589, R590, R591, R592, R593, R597, R608.) -/
def Obligations.SecurityCommands : Prop :=
  ∀ (s : State) (t tr : Nat) (token req : Bytes) (v : Word), tr < 2 →
    let p := s.at t
    let f := s.pkg.fuses
    let sec := s.pkg.sec
    let h := sec.header
    let low := min 64 (max f.minSec (fwSecurity h))
    let keys := f.revoked ||| (le h 19 1 % 16 &&& (15 - 2 ^ (fwKeySlot h % 4)))
    let clash := ∃ b ∈ sec.flash, b ≠ [] ∧ (fwSecurity b < low ∨ keys.testBit (fwKeySlot b) = true)
    let sent (req : Bytes) (a : SpdmAnswer) : List Output :=
      let b := a.bytes ++ Config.ecdsa384Sign sec.aliasKey (req ++ a.bytes)
      if tr = 1 then sideOut s.pkg.side.eid false Mctp.spdm b else [Output.spdm b]
    (p.barPhase = .on → clash → exec (.commitVersion t) s = .next { s with pkg := p.discard Reg.secCmd 1 }) ∧
    (p.barPhase = .on → ¬ clash → Answers (exec (.commitVersion t) s) fun u => u.pkg.fuses = { f with minSec := low, revoked := keys } ∧
      Logged u.pkg Ev.versionCommitted Unit.controlDie none ∧ WorkKept s u) ∧
    (p.barPhase ≠ .on → Answers (exec (.commitVersion t) s) fun u => u.pkg.fuses = f ∧ WorkKept s u) ∧
    (p.barPhase = .on → Answers (exec (.debugUnlock t token) s) fun u => u.pkg.meter = s.pkg.meter ∧ WorkKept s u ∧
      (p.tokenOk token = true → u.pkg.sec = { sec with nonceNo := sec.nonceNo + 1, scope := le token 16 1 } ∧
        Logged u.pkg Ev.debugUnlocked Unit.controlDie none) ∧
      (p.tokenOk token = false → u.pkg.sec = { sec with nonceNo := sec.nonceNo + 1 } ∧
        u.pkg.reg Reg.debugRejects = s.pkg.reg Reg.debugRejects + 1 ∧ Logged u.pkg Ev.debugTokenRejected Unit.controlDie none)) ∧
    (p.barPhase = .on → Answers (exec (.debugLock t) s) fun u => u.pkg.sec = { sec with scope := 0 } ∧ Logged u.pkg Ev.debugLocked Unit.controlDie none ∧ WorkKept s u) ∧
    (p.barPhase = .off → exec (.ptInvalidate t v) s = .next { s with pkg := p }) ∧
    (p.barPhase = .limited → exec (.ptInvalidate t v) s = .next { s with pkg := p.discard 0x120028 v }) ∧
    (p.barPhase = .on → Answers (exec (.ptInvalidate t v) s) fun u =>
      let hit (c : Nat) : Bool := bitAt v 12 || c == fld v 11 0
      let kept (c : Nat) (o : Option (Tbl (Word × Bool))) : Option (Tbl (Word × Bool)) :=
        match if hit c then s.pkg.tlb.find c else none with
        | some m => some (o.getD m)
        | none => o
      (∀ c, u.pkg.tlb.find c = if hit c then none else s.pkg.tlb.find c) ∧
      (∀ n, (u.pkg.cluster n).xfers = (s.pkg.cluster n).xfers.map fun x => { x with old := kept x.ctx x.old }) ∧
      (∀ c, (u.pkg.ctx c).stagedWrites = (s.pkg.ctx c).stagedWrites.map fun w => { w with old := kept c w.old }) ∧
      u.pkg.fab.relays = s.pkg.fab.relays.map (fun r => { r with old := kept r.ctx r.old }) ∧
      u.pkg.mem = s.pkg.mem ∧ u.pkg.tasks = s.pkg.tasks ∧ u.pkg.cores = s.pkg.cores ∧ u.pending = s.pending) ∧
    (∀ i code need stage ok, SpdmRequest p t tr req i code need stage ok →
      let at_ : Nat := sec.spdm.get 0 tr
      let leaves (u : State) (out : List Output) (spdm : Tbl Nat) : Prop := u.pkg = { p with
        out := s.pkg.out ++ out, sec := { sec with spdm := spdm }, stroke := { s.pkg.stroke with freeNo := u.pkg.stroke.freeNo } } ∧ u.pending = s.pending
      (h = [] → Answers (exec i s) fun u => leaves u [] sec.spdm) ∧
      (h ≠ [] → at_ < need → Answers (exec i s) fun u => leaves u (sent req (.error 0x04)) sec.spdm) ∧
      (h ≠ [] → need ≤ at_ → ¬ ok → Answers (exec i s) fun u => leaves u (sent req (.error 0x01)) sec.spdm) ∧
      (h ≠ [] → need ≤ at_ → ok → Answers (exec i s) fun u => ∃ p1 p2 body spdm, leaves u (sent req (.reply code p1 p2 body)) spdm ∧
        (stage = 1 → spdm.get 0 tr = 1) ∧ (2 ≤ stage → spdm.get 0 tr = max at_ stage) ∧ (stage = 0 → spdm.get 0 tr = at_) ∧
        (∀ j, j ≠ tr → spdm.get 0 j = sec.spdm.get 0 j) ∧
        (code = 0x60 → le req 3 1 = 0xFF → ∃ rest, body = leBytes 1 5 ++ leBytes 3 p.measureBlocks.flatten.length ++ p.measureBlocks.flatten ++ rest) ∧
        (code = 0x01 → body = Config.sha384 sec.chain))) ∧
    (h = [] → exec (.spdmUnsupportedRequest t tr) s = .next { s with pkg := p }) ∧
    (h ≠ [] → exec (.spdmUnsupportedRequest t tr) s = .next { s with pkg := { p with out := p.out ++ sent [] (.error 0x07) } })

/-- The sideband port. Without VDD_CTL the port is silent. With it, messages go out in packets of 64 B, and each vendor-defined command is answered under its code: STATUS with the state of bring-up and OUT_OF_SERVICE where that holds; LOG_READ, REG_READ and DUMP_READ with what they name, a register outside the early blocks only once DEVICE_READY has risen; RESET as a reset request with cause 2; POWER_OFF halts the package; ESC_CLEAR clears the held state, and lets a bring-up held at step 10 end; CRASH_DUMP starts a dump. PLDM and MCTP are answered NOT_READY before DEVICE_READY first rises; a firmware update is refused beside another, else verified, and written, to be marked when its write ends, or refused. MCTP control messages set and read the endpoint identifier; a message with a bad check is counted. An address assignment sets the port's mode and address. (The answers' byte layout is the model's choice, log entry 67.) (R472, R486, R493, R495, R512, R522, R539, R587, R599, R600, R601, R602.) -/
def Obligations.SidebandCommands : Prop :=
  ∀ (s : State) (t n unit : Nat) (image : Bytes), unit < 65536 →
    let p := s.at t
    let power := s.pkg.power
    let side := s.pkg.side
    let opened := power.risen = true ∧ power.halted = false
    let vend (code status : Nat) (data : Bytes) : List Output := sideOut side.eid false Mctp.vendor (vendorBytes ++ (leBytes 1 code ++ leBytes 1 status ++ data))
    let pldm (code status : Nat) (data : Bytes) : List Output := sideOut side.eid false Mctp.pldm (leBytes 1 code ++ leBytes 1 status ++ data)
    let ctl (command code : Nat) (data : Bytes) : List Output := sideOut side.eid false Mctp.control (leBytes 1 0 ++ leBytes 1 command ++ leBytes 1 code ++ data)
    let told (code status : Nat) (u : State) : Prop := ∃ d, u.pkg.out = s.pkg.out ++ vend code status d
    let answers (i : Instr) (out : List Output) : Prop := exec i s = .next { s with pkg := { p with out := p.out ++ out } }
    let late (i : Instr) (code : Nat) : Prop := ¬ opened → answers i (pldm code Code.notReady [])
    let reset : Instr := .sidebandReset t unit
    (power.ctl = false → ∀ seq dyn, ∀ i ∈ [Instr.sidebandStatus t, .sidebandLogRead t seq n, .sidebandDumpRead t n, reset, .sidebandPowerOff t, .escClear t,
      .sidebandCrashDump t, .pldmBaseDiscovery t, .pldmSensorRead t n, .pldmFirmwareUpdate t image, .sidebandAddressAssign t dyn, .mctpSetEndpointId t .bad],
      exec i s = .next { s with pkg := p }) ∧
    (power.ctl = true →
    (Answers (exec (.sidebandStatus t) s) fun u => u.pkg = { p with out := u.pkg.out } ∧
      told 1 (if s.pkg.rst.pkgOos = true ∨ power.stopped = true then Code.outOfService else 0) u ∧ u.pending = s.pending) ∧
    (∀ seq, Answers (exec (.sidebandLogRead t seq n) s) fun u => u.pkg = { p with out := u.pkg.out } ∧ told 2 0 u ∧ u.pending = s.pending) ∧
    (∀ off, off < 0x1000000 →
      let o := off / 8 * 8
      (¬ opened → earlyBlock o = false → answers (.sidebandRegRead t off) (vend 3 Code.notReady [])) ∧
      (opened ∨ earlyBlock o = true → Answers (exec (.sidebandRegRead t off) s) fun u =>
        u.pkg.out = s.pkg.out ++ vend 3 0 (p.barRead o 8) ∧ WorkKept s u)) ∧
    answers (.sidebandDumpRead t n) (vend 4 0 (slice s.pkg.rst.dump.retained n 1024)) ∧
    (p.domainOf unit = none → Answers (exec reset s) fun u => Logged u.pkg Ev.regWriteDiscarded Unit.controlDie none ∧ u.pkg.rst = s.pkg.rst ∧ WorkKept s u) ∧
    (p.domainOf unit = some Unit.package → Answers (exec reset s) fun u => ResetOrDump p u.pkg 2 ∧ u.pending = s.pending) ∧
    (∀ d, p.domainOf unit = some d → d ≠ Unit.package →
      (p.unitOos d = true → Answers (exec reset s) fun u => u.pkg.rst = { s.pkg.rst with refused := Code.outOfService } ∧ told 0x10 0 u ∧ WorkKept s u) ∧
      (p.unitOos d = false → ¬ (bitAt p.resetCfg 0 = true ∧ domFences d = true) → (∀ r ∈ s.pkg.rst.running, ¬ (domIn r.unit d = true ∧ r.fenced = false)) →
        Answers (exec reset s) fun u => ResetBegun p u.pkg d 2 ∧ u.pending = s.pending)) ∧
    (power.halted = true ∨ power.pwrGood = false → answers (.sidebandPowerOff t) (vend 0x11 0 [])) ∧
    (power.halted = false → power.pwrGood = true → Answers (exec (.sidebandPowerOff t) s) fun u =>
      u.pkg.power.halted = true ∧ u.pkg.power.ready = false ∧ Output.pin Pin.off true ∈ u.pkg.out ∧ Logged u.pkg Ev.powerOff Unit.package none ∧
      u.pkg.mem = { usable := s.pkg.mem.usable } ∧ u.pending = s.pending) ∧
    (Answers (exec (.escClear t) s) fun u => u.pkg.rst = { s.pkg.rst with pkgOos := false, oosDue := false, pkgHistory := [] } ∧
      let held := power.hold10 = true
      (¬ held → u.pkg.power = power ∧ told 0x12 0 u) ∧ (held → u.pkg.power.ready = true ∧ u.pkg.power.risen = true) ∧ WorkKept s u) ∧
    (s.pkg.rst.dump.running = none → Answers (exec (.sidebandCrashDump t) s) fun u => u.pkg.rst.dump.running = some 3 ∧ told 0x13 0 u ∧ WorkKept s u) ∧
    (s.pkg.rst.dump.running ≠ none → Answers (exec (.sidebandCrashDump t) s) fun u => u.pkg.rst = s.pkg.rst ∧
      u.pkg.reg Reg.dumpsIgnored = s.pkg.reg Reg.dumpsIgnored + 1 ∧ told 0x13 0 u ∧ WorkKept s u) ∧
    late (.pldmBaseDiscovery t) 0x80 ∧ late (.pldmSensorRead t n) 0x82 ∧ late (.pldmFirmwareUpdate t image) 0x85 ∧
    (n < 256 → ¬ opened → answers (.mctpSetEndpointId t (.setEid n)) (ctl 1 4 [])) ∧
    (opened → answers (.pldmBaseDiscovery t) (pldm 0x80 0 (leBytes 8 0x25))) ∧
    (opened →
      (1 ≤ n → n ≤ 26 → answers (.pldmSensorRead t n)
        (pldm 0x82 0 (leBytes 1 (ofInt 8 (s.pkg.sec.temps.get 0 (n - 1))) ++ leBytes 1 (s.pkg.sec.warnDies.mem (n - 1)).toNat))) ∧
      (32 ≤ n → n ≤ 44 → answers (.pldmSensorRead t n) (pldm 0x82 0 (leBytes 1 ((power.dips.find (n - 32)).isSome).toNat))) ∧
      (n = 48 → answers (.pldmSensorRead t n) (pldm 0x82 0 (leBytes 4 p.meanPower))) ∧
      (¬ (1 ≤ n ∧ n ≤ 26 ∨ 32 ≤ n ∧ n ≤ 44 ∨ n = 48) → answers (.pldmSensorRead t n) (pldm 0x82 Code.invalidDescriptor []))) ∧
    (opened →
      let writing := side.fw = true ∨ ∃ r, s.pkg.easel.run = some r ∧ r.op = 1 ∧ r.waits = false
      (writing → answers (.pldmFirmwareUpdate t image) (pldm 0x85 Code.easelBusy [])) ∧
      (¬ writing → Answers (exec (.pldmFirmwareUpdate t image) s) fun u => WorkKept s u ∧
        (p.fwVerify image = 0 → u.pkg.side = { side with fw := true } ∧
          u.pkg.sec = { s.pkg.sec with flash := s.pkg.sec.flash.set s.pkg.sec.inactive image, mark := s.pkg.sec.slot % 2 }) ∧
        (p.fwVerify image ≠ 0 → u.pkg.sec = s.pkg.sec ∧ u.pkg.side = side ∧ Logged u.pkg Ev.firmwareRejected Unit.controlDie none))) ∧
    (opened → n < 256 → Answers (exec (.mctpSetEndpointId t (.setEid n)) s) fun u => u.pkg.side = { side with eid := n } ∧
      u.pkg.out = s.pkg.out ++ sideOut n false Mctp.control (leBytes 1 0 ++ leBytes 1 1 ++ leBytes 1 0 ++ (leBytes 1 0 ++ leBytes 1 n ++ leBytes 1 0)) ∧ WorkKept s u) ∧
    (opened → answers (.mctpSetEndpointId t .getEid) (ctl 2 0 (leBytes 1 side.eid ++ leBytes 2 0)) ∧
      answers (.mctpSetEndpointId t .types) (ctl 5 0 (leBytes 1 3 ++ leBytes 1 Mctp.pldm ++ leBytes 1 Mctp.spdm ++ leBytes 1 Mctp.vendor)) ∧
      (n < 256 → answers (.mctpSetEndpointId t (.other n)) (ctl n 5 []))) ∧
    (Answers (exec (.mctpSetEndpointId t .bad) s) fun u => u.pkg.reg Reg.sbErrors = s.pkg.reg Reg.sbErrors + 1 ∧ u.pkg.out = s.pkg.out ∧ WorkKept s u) ∧
    (let moves (i : Instr) (mode addr : Nat) : Prop := Answers (exec i s) fun u => u.pkg.side = { side with mode := mode, addr := addr } ∧
       (side.mode ≠ mode → Logged u.pkg Ev.sidebandMode Unit.controlDie none) ∧ WorkKept s u
     (side.mode ≠ 2 → moves (.sidebandAddressAssign t (some n)) 1 (n % 128)) ∧
     (side.mode = 2 → exec (.sidebandAddressAssign t (some n)) s = .next { s with pkg := p }) ∧
     (side.mode = 0 → moves (.sidebandAddressAssign t none) 2 ((0x30 + power.pkgPos) % 128)) ∧
     (side.mode ≠ 0 → exec (.sidebandAddressAssign t none) s = .next { s with pkg := p })))

/-- A step runs the command at the front of the queue. For every command c and every state, a step with c at the front of its queue is exec of c on the state with the queue's rest; with an empty queue the block idles (the model's choice, log entry 2). (R1, R55.) -/
def Obligations.StepRunsFront : Prop :=
  (∀ (c : Instr) (rest : List Instr) (s : State), step { s with pending := c :: rest } = exec c { s with pending := rest }) ∧
  ∀ s : State, step { s with pending := [] } = .next { s with pending := [] }

/-- The state right after reset meets the invariant. State.reset meets the block's invariant: legal fuses, and an empty queue. Nothing runs in it: no context is open, no task is admitted, no stroke is counted, DEVICE_READY is low, package time is 0, and every output ball but that of the sideband is released (R619). (R33, R471, R533, R619.) -/
def Obligations.ResetIsLegal : Prop :=
  State.reset.Inv ∧ State.reset.pending = [] ∧ State.reset.pkg.power.ready = false ∧ State.reset.pkg.now = 0 ∧
  (∀ c, (State.reset.pkg.ctx c).phase = .free) ∧ State.reset.pkg.tasks = [] ∧ State.reset.pkg.stroke.number = 0 ∧
  State.reset.pkg.log.recs = [] ∧ Memory.wf State.reset.pkg.mem.bytes ∧ (∀ o, o ≠ OutPin.sbSda → State.reset.pkg.drive o = .released)

/-- What every step keeps. From every state that meets the invariant a step answers a next state that meets it again, takes the front command off the queue and adds none; fuses only ever go one way: the identity stays, the minimum security version never falls, a revoked key stays revoked, and nothing blows one but COMMIT_VERSION, by its own row or by a write of SEC_CMD; package time never falls, but where VDD_CTL is applied or lost, which start it at 0. (R33, R469, R588, R592.) -/
def Obligations.StepKeepsInvariant : Prop :=
  ∀ s : State, s.Inv → ∃ u, step s = .next u ∧ u.Inv ∧ u.pending = s.pending.tail ∧
    s.pkg.fuses.Later u.pkg.fuses ∧
    ((∀ c ∈ s.pending.head?, c.commits = false) → u.pkg.fuses = s.pkg.fuses) ∧
    (∀ c rest, s.pending = c :: rest → c.restarts s.pkg = true → u.pkg.now = 0) ∧
    ((∀ c ∈ s.pending.head?, c.restarts s.pkg = false) → s.pkg.now ≤ u.pkg.now)
end

