-- ==== Sys2Proof/Laws/State.lean ====
section
/-! SUPPORT. The laws of State's updates: for each update, one lemma per field that it leaves as it was, true by definition. -/

namespace Sys2Proof.Machine

variable (s : Pkg)

/-! `tick` -/

@[simp] theorem Pkg.tick_fuses (t : Nat) : (s.tick t).fuses = s.fuses := rfl
@[simp] theorem Pkg.tick_out (t : Nat) : (s.tick t).out = s.out := rfl
@[simp] theorem Pkg.tick_regs (t : Nat) : (s.tick t).regs = s.regs := rfl
@[simp] theorem Pkg.tick_tasks (t : Nat) : (s.tick t).tasks = s.tasks := rfl
@[simp] theorem Pkg.tick_cores (t : Nat) : (s.tick t).cores = s.cores := rfl
@[simp] theorem Pkg.tick_clusters (t : Nat) : (s.tick t).clusters = s.clusters := rfl
@[simp] theorem Pkg.tick_ctxs (t : Nat) : (s.tick t).ctxs = s.ctxs := rfl
@[simp] theorem Pkg.tick_slots (t : Nat) : (s.tick t).slots = s.slots := rfl
@[simp] theorem Pkg.tick_groups (t : Nat) : (s.tick t).groups = s.groups := rfl
@[simp] theorem Pkg.tick_stroke (t : Nat) : (s.tick t).stroke = s.stroke := rfl
@[simp] theorem Pkg.tick_fab (t : Nat) : (s.tick t).fab = s.fab := rfl
@[simp] theorem Pkg.tick_log (t : Nat) : (s.tick t).log = s.log := rfl
@[simp] theorem Pkg.tick_mem (t : Nat) : (s.tick t).mem = s.mem := rfl
@[simp] theorem Pkg.tick_tlb (t : Nat) : (s.tick t).tlb = s.tlb := rfl
@[simp] theorem Pkg.tick_power (t : Nat) : (s.tick t).power = s.power := rfl
@[simp] theorem Pkg.tick_clk (t : Nat) : (s.tick t).clk = s.clk := rfl
@[simp] theorem Pkg.tick_rst (t : Nat) : (s.tick t).rst = s.rst := rfl
@[simp] theorem Pkg.tick_host (t : Nat) : (s.tick t).host = s.host := rfl
@[simp] theorem Pkg.tick_easel (t : Nat) : (s.tick t).easel = s.easel := rfl
@[simp] theorem Pkg.tick_meter (t : Nat) : (s.tick t).meter = s.meter := rfl
@[simp] theorem Pkg.tick_mirror (t : Nat) : (s.tick t).mirror = s.mirror := rfl
@[simp] theorem Pkg.tick_sec (t : Nat) : (s.tick t).sec = s.sec := rfl
@[simp] theorem Pkg.tick_side (t : Nat) : (s.tick t).side = s.side := rfl
@[simp] theorem Pkg.tick_msys (t : Nat) : (s.tick t).msys = s.msys := rfl

/-! `setReg` -/

@[simp] theorem Pkg.setReg_fuses (off : Nat) (v : Word) : (s.setReg off v).fuses = s.fuses := rfl
@[simp] theorem Pkg.setReg_now (off : Nat) (v : Word) : (s.setReg off v).now = s.now := rfl
@[simp] theorem Pkg.setReg_out (off : Nat) (v : Word) : (s.setReg off v).out = s.out := rfl
@[simp] theorem Pkg.setReg_tasks (off : Nat) (v : Word) : (s.setReg off v).tasks = s.tasks := rfl
@[simp] theorem Pkg.setReg_cores (off : Nat) (v : Word) : (s.setReg off v).cores = s.cores := rfl
@[simp] theorem Pkg.setReg_clusters (off : Nat) (v : Word) : (s.setReg off v).clusters = s.clusters := rfl
@[simp] theorem Pkg.setReg_ctxs (off : Nat) (v : Word) : (s.setReg off v).ctxs = s.ctxs := rfl
@[simp] theorem Pkg.setReg_slots (off : Nat) (v : Word) : (s.setReg off v).slots = s.slots := rfl
@[simp] theorem Pkg.setReg_groups (off : Nat) (v : Word) : (s.setReg off v).groups = s.groups := rfl
@[simp] theorem Pkg.setReg_stroke (off : Nat) (v : Word) : (s.setReg off v).stroke = s.stroke := rfl
@[simp] theorem Pkg.setReg_fab (off : Nat) (v : Word) : (s.setReg off v).fab = s.fab := rfl
@[simp] theorem Pkg.setReg_log (off : Nat) (v : Word) : (s.setReg off v).log = s.log := rfl
@[simp] theorem Pkg.setReg_mem (off : Nat) (v : Word) : (s.setReg off v).mem = s.mem := rfl
@[simp] theorem Pkg.setReg_tlb (off : Nat) (v : Word) : (s.setReg off v).tlb = s.tlb := rfl
@[simp] theorem Pkg.setReg_power (off : Nat) (v : Word) : (s.setReg off v).power = s.power := rfl
@[simp] theorem Pkg.setReg_clk (off : Nat) (v : Word) : (s.setReg off v).clk = s.clk := rfl
@[simp] theorem Pkg.setReg_rst (off : Nat) (v : Word) : (s.setReg off v).rst = s.rst := rfl
@[simp] theorem Pkg.setReg_host (off : Nat) (v : Word) : (s.setReg off v).host = s.host := rfl
@[simp] theorem Pkg.setReg_easel (off : Nat) (v : Word) : (s.setReg off v).easel = s.easel := rfl
@[simp] theorem Pkg.setReg_meter (off : Nat) (v : Word) : (s.setReg off v).meter = s.meter := rfl
@[simp] theorem Pkg.setReg_mirror (off : Nat) (v : Word) : (s.setReg off v).mirror = s.mirror := rfl
@[simp] theorem Pkg.setReg_sec (off : Nat) (v : Word) : (s.setReg off v).sec = s.sec := rfl
@[simp] theorem Pkg.setReg_side (off : Nat) (v : Word) : (s.setReg off v).side = s.side := rfl
@[simp] theorem Pkg.setReg_msys (off : Nat) (v : Word) : (s.setReg off v).msys = s.msys := rfl

/-! `bumpBy` -/

@[simp] theorem Pkg.bumpBy_fuses (off n : Nat) : (s.bumpBy off n).fuses = s.fuses := rfl
@[simp] theorem Pkg.bumpBy_now (off n : Nat) : (s.bumpBy off n).now = s.now := rfl
@[simp] theorem Pkg.bumpBy_out (off n : Nat) : (s.bumpBy off n).out = s.out := rfl
@[simp] theorem Pkg.bumpBy_tasks (off n : Nat) : (s.bumpBy off n).tasks = s.tasks := rfl
@[simp] theorem Pkg.bumpBy_cores (off n : Nat) : (s.bumpBy off n).cores = s.cores := rfl
@[simp] theorem Pkg.bumpBy_clusters (off n : Nat) : (s.bumpBy off n).clusters = s.clusters := rfl
@[simp] theorem Pkg.bumpBy_ctxs (off n : Nat) : (s.bumpBy off n).ctxs = s.ctxs := rfl
@[simp] theorem Pkg.bumpBy_slots (off n : Nat) : (s.bumpBy off n).slots = s.slots := rfl
@[simp] theorem Pkg.bumpBy_groups (off n : Nat) : (s.bumpBy off n).groups = s.groups := rfl
@[simp] theorem Pkg.bumpBy_stroke (off n : Nat) : (s.bumpBy off n).stroke = s.stroke := rfl
@[simp] theorem Pkg.bumpBy_fab (off n : Nat) : (s.bumpBy off n).fab = s.fab := rfl
@[simp] theorem Pkg.bumpBy_log (off n : Nat) : (s.bumpBy off n).log = s.log := rfl
@[simp] theorem Pkg.bumpBy_mem (off n : Nat) : (s.bumpBy off n).mem = s.mem := rfl
@[simp] theorem Pkg.bumpBy_tlb (off n : Nat) : (s.bumpBy off n).tlb = s.tlb := rfl
@[simp] theorem Pkg.bumpBy_power (off n : Nat) : (s.bumpBy off n).power = s.power := rfl
@[simp] theorem Pkg.bumpBy_clk (off n : Nat) : (s.bumpBy off n).clk = s.clk := rfl
@[simp] theorem Pkg.bumpBy_rst (off n : Nat) : (s.bumpBy off n).rst = s.rst := rfl
@[simp] theorem Pkg.bumpBy_host (off n : Nat) : (s.bumpBy off n).host = s.host := rfl
@[simp] theorem Pkg.bumpBy_easel (off n : Nat) : (s.bumpBy off n).easel = s.easel := rfl
@[simp] theorem Pkg.bumpBy_meter (off n : Nat) : (s.bumpBy off n).meter = s.meter := rfl
@[simp] theorem Pkg.bumpBy_mirror (off n : Nat) : (s.bumpBy off n).mirror = s.mirror := rfl
@[simp] theorem Pkg.bumpBy_sec (off n : Nat) : (s.bumpBy off n).sec = s.sec := rfl
@[simp] theorem Pkg.bumpBy_side (off n : Nat) : (s.bumpBy off n).side = s.side := rfl
@[simp] theorem Pkg.bumpBy_msys (off n : Nat) : (s.bumpBy off n).msys = s.msys := rfl

/-! `bump` -/

@[simp] theorem Pkg.bump_fuses (off : Nat) : (s.bump off).fuses = s.fuses := rfl
@[simp] theorem Pkg.bump_now (off : Nat) : (s.bump off).now = s.now := rfl
@[simp] theorem Pkg.bump_out (off : Nat) : (s.bump off).out = s.out := rfl
@[simp] theorem Pkg.bump_tasks (off : Nat) : (s.bump off).tasks = s.tasks := rfl
@[simp] theorem Pkg.bump_cores (off : Nat) : (s.bump off).cores = s.cores := rfl
@[simp] theorem Pkg.bump_clusters (off : Nat) : (s.bump off).clusters = s.clusters := rfl
@[simp] theorem Pkg.bump_ctxs (off : Nat) : (s.bump off).ctxs = s.ctxs := rfl
@[simp] theorem Pkg.bump_slots (off : Nat) : (s.bump off).slots = s.slots := rfl
@[simp] theorem Pkg.bump_groups (off : Nat) : (s.bump off).groups = s.groups := rfl
@[simp] theorem Pkg.bump_stroke (off : Nat) : (s.bump off).stroke = s.stroke := rfl
@[simp] theorem Pkg.bump_fab (off : Nat) : (s.bump off).fab = s.fab := rfl
@[simp] theorem Pkg.bump_log (off : Nat) : (s.bump off).log = s.log := rfl
@[simp] theorem Pkg.bump_mem (off : Nat) : (s.bump off).mem = s.mem := rfl
@[simp] theorem Pkg.bump_tlb (off : Nat) : (s.bump off).tlb = s.tlb := rfl
@[simp] theorem Pkg.bump_power (off : Nat) : (s.bump off).power = s.power := rfl
@[simp] theorem Pkg.bump_clk (off : Nat) : (s.bump off).clk = s.clk := rfl
@[simp] theorem Pkg.bump_rst (off : Nat) : (s.bump off).rst = s.rst := rfl
@[simp] theorem Pkg.bump_host (off : Nat) : (s.bump off).host = s.host := rfl
@[simp] theorem Pkg.bump_easel (off : Nat) : (s.bump off).easel = s.easel := rfl
@[simp] theorem Pkg.bump_meter (off : Nat) : (s.bump off).meter = s.meter := rfl
@[simp] theorem Pkg.bump_mirror (off : Nat) : (s.bump off).mirror = s.mirror := rfl
@[simp] theorem Pkg.bump_sec (off : Nat) : (s.bump off).sec = s.sec := rfl
@[simp] theorem Pkg.bump_side (off : Nat) : (s.bump off).side = s.side := rfl
@[simp] theorem Pkg.bump_msys (off : Nat) : (s.bump off).msys = s.msys := rfl

/-! `emit` -/

@[simp] theorem Pkg.emit_fuses (o : Output) : (s.emit o).fuses = s.fuses := rfl
@[simp] theorem Pkg.emit_now (o : Output) : (s.emit o).now = s.now := rfl
@[simp] theorem Pkg.emit_regs (o : Output) : (s.emit o).regs = s.regs := rfl
@[simp] theorem Pkg.emit_tasks (o : Output) : (s.emit o).tasks = s.tasks := rfl
@[simp] theorem Pkg.emit_cores (o : Output) : (s.emit o).cores = s.cores := rfl
@[simp] theorem Pkg.emit_clusters (o : Output) : (s.emit o).clusters = s.clusters := rfl
@[simp] theorem Pkg.emit_ctxs (o : Output) : (s.emit o).ctxs = s.ctxs := rfl
@[simp] theorem Pkg.emit_slots (o : Output) : (s.emit o).slots = s.slots := rfl
@[simp] theorem Pkg.emit_groups (o : Output) : (s.emit o).groups = s.groups := rfl
@[simp] theorem Pkg.emit_stroke (o : Output) : (s.emit o).stroke = s.stroke := rfl
@[simp] theorem Pkg.emit_fab (o : Output) : (s.emit o).fab = s.fab := rfl
@[simp] theorem Pkg.emit_log (o : Output) : (s.emit o).log = s.log := rfl
@[simp] theorem Pkg.emit_mem (o : Output) : (s.emit o).mem = s.mem := rfl
@[simp] theorem Pkg.emit_tlb (o : Output) : (s.emit o).tlb = s.tlb := rfl
@[simp] theorem Pkg.emit_power (o : Output) : (s.emit o).power = s.power := rfl
@[simp] theorem Pkg.emit_clk (o : Output) : (s.emit o).clk = s.clk := rfl
@[simp] theorem Pkg.emit_rst (o : Output) : (s.emit o).rst = s.rst := rfl
@[simp] theorem Pkg.emit_host (o : Output) : (s.emit o).host = s.host := rfl
@[simp] theorem Pkg.emit_easel (o : Output) : (s.emit o).easel = s.easel := rfl
@[simp] theorem Pkg.emit_meter (o : Output) : (s.emit o).meter = s.meter := rfl
@[simp] theorem Pkg.emit_mirror (o : Output) : (s.emit o).mirror = s.mirror := rfl
@[simp] theorem Pkg.emit_sec (o : Output) : (s.emit o).sec = s.sec := rfl
@[simp] theorem Pkg.emit_side (o : Output) : (s.emit o).side = s.side := rfl
@[simp] theorem Pkg.emit_msys (o : Output) : (s.emit o).msys = s.msys := rfl

/-! `setCore` -/

@[simp] theorem Pkg.setCore_fuses (c : Nat) (v : CoreSt) : (s.setCore c v).fuses = s.fuses := rfl
@[simp] theorem Pkg.setCore_now (c : Nat) (v : CoreSt) : (s.setCore c v).now = s.now := rfl
@[simp] theorem Pkg.setCore_out (c : Nat) (v : CoreSt) : (s.setCore c v).out = s.out := rfl
@[simp] theorem Pkg.setCore_regs (c : Nat) (v : CoreSt) : (s.setCore c v).regs = s.regs := rfl
@[simp] theorem Pkg.setCore_tasks (c : Nat) (v : CoreSt) : (s.setCore c v).tasks = s.tasks := rfl
@[simp] theorem Pkg.setCore_clusters (c : Nat) (v : CoreSt) : (s.setCore c v).clusters = s.clusters := rfl
@[simp] theorem Pkg.setCore_ctxs (c : Nat) (v : CoreSt) : (s.setCore c v).ctxs = s.ctxs := rfl
@[simp] theorem Pkg.setCore_slots (c : Nat) (v : CoreSt) : (s.setCore c v).slots = s.slots := rfl
@[simp] theorem Pkg.setCore_groups (c : Nat) (v : CoreSt) : (s.setCore c v).groups = s.groups := rfl
@[simp] theorem Pkg.setCore_stroke (c : Nat) (v : CoreSt) : (s.setCore c v).stroke = s.stroke := rfl
@[simp] theorem Pkg.setCore_fab (c : Nat) (v : CoreSt) : (s.setCore c v).fab = s.fab := rfl
@[simp] theorem Pkg.setCore_log (c : Nat) (v : CoreSt) : (s.setCore c v).log = s.log := rfl
@[simp] theorem Pkg.setCore_mem (c : Nat) (v : CoreSt) : (s.setCore c v).mem = s.mem := rfl
@[simp] theorem Pkg.setCore_tlb (c : Nat) (v : CoreSt) : (s.setCore c v).tlb = s.tlb := rfl
@[simp] theorem Pkg.setCore_power (c : Nat) (v : CoreSt) : (s.setCore c v).power = s.power := rfl
@[simp] theorem Pkg.setCore_clk (c : Nat) (v : CoreSt) : (s.setCore c v).clk = s.clk := rfl
@[simp] theorem Pkg.setCore_rst (c : Nat) (v : CoreSt) : (s.setCore c v).rst = s.rst := rfl
@[simp] theorem Pkg.setCore_host (c : Nat) (v : CoreSt) : (s.setCore c v).host = s.host := rfl
@[simp] theorem Pkg.setCore_easel (c : Nat) (v : CoreSt) : (s.setCore c v).easel = s.easel := rfl
@[simp] theorem Pkg.setCore_meter (c : Nat) (v : CoreSt) : (s.setCore c v).meter = s.meter := rfl
@[simp] theorem Pkg.setCore_mirror (c : Nat) (v : CoreSt) : (s.setCore c v).mirror = s.mirror := rfl
@[simp] theorem Pkg.setCore_sec (c : Nat) (v : CoreSt) : (s.setCore c v).sec = s.sec := rfl
@[simp] theorem Pkg.setCore_side (c : Nat) (v : CoreSt) : (s.setCore c v).side = s.side := rfl
@[simp] theorem Pkg.setCore_msys (c : Nat) (v : CoreSt) : (s.setCore c v).msys = s.msys := rfl

/-! `updCore` -/

@[simp] theorem Pkg.updCore_fuses (c : Nat) (f : CoreSt → CoreSt) : (s.updCore c f).fuses = s.fuses := rfl
@[simp] theorem Pkg.updCore_now (c : Nat) (f : CoreSt → CoreSt) : (s.updCore c f).now = s.now := rfl
@[simp] theorem Pkg.updCore_out (c : Nat) (f : CoreSt → CoreSt) : (s.updCore c f).out = s.out := rfl
@[simp] theorem Pkg.updCore_regs (c : Nat) (f : CoreSt → CoreSt) : (s.updCore c f).regs = s.regs := rfl
@[simp] theorem Pkg.updCore_tasks (c : Nat) (f : CoreSt → CoreSt) : (s.updCore c f).tasks = s.tasks := rfl
@[simp] theorem Pkg.updCore_clusters (c : Nat) (f : CoreSt → CoreSt) : (s.updCore c f).clusters = s.clusters := rfl
@[simp] theorem Pkg.updCore_ctxs (c : Nat) (f : CoreSt → CoreSt) : (s.updCore c f).ctxs = s.ctxs := rfl
@[simp] theorem Pkg.updCore_slots (c : Nat) (f : CoreSt → CoreSt) : (s.updCore c f).slots = s.slots := rfl
@[simp] theorem Pkg.updCore_groups (c : Nat) (f : CoreSt → CoreSt) : (s.updCore c f).groups = s.groups := rfl
@[simp] theorem Pkg.updCore_stroke (c : Nat) (f : CoreSt → CoreSt) : (s.updCore c f).stroke = s.stroke := rfl
@[simp] theorem Pkg.updCore_fab (c : Nat) (f : CoreSt → CoreSt) : (s.updCore c f).fab = s.fab := rfl
@[simp] theorem Pkg.updCore_log (c : Nat) (f : CoreSt → CoreSt) : (s.updCore c f).log = s.log := rfl
@[simp] theorem Pkg.updCore_mem (c : Nat) (f : CoreSt → CoreSt) : (s.updCore c f).mem = s.mem := rfl
@[simp] theorem Pkg.updCore_tlb (c : Nat) (f : CoreSt → CoreSt) : (s.updCore c f).tlb = s.tlb := rfl
@[simp] theorem Pkg.updCore_power (c : Nat) (f : CoreSt → CoreSt) : (s.updCore c f).power = s.power := rfl
@[simp] theorem Pkg.updCore_clk (c : Nat) (f : CoreSt → CoreSt) : (s.updCore c f).clk = s.clk := rfl
@[simp] theorem Pkg.updCore_rst (c : Nat) (f : CoreSt → CoreSt) : (s.updCore c f).rst = s.rst := rfl
@[simp] theorem Pkg.updCore_host (c : Nat) (f : CoreSt → CoreSt) : (s.updCore c f).host = s.host := rfl
@[simp] theorem Pkg.updCore_easel (c : Nat) (f : CoreSt → CoreSt) : (s.updCore c f).easel = s.easel := rfl
@[simp] theorem Pkg.updCore_meter (c : Nat) (f : CoreSt → CoreSt) : (s.updCore c f).meter = s.meter := rfl
@[simp] theorem Pkg.updCore_mirror (c : Nat) (f : CoreSt → CoreSt) : (s.updCore c f).mirror = s.mirror := rfl
@[simp] theorem Pkg.updCore_sec (c : Nat) (f : CoreSt → CoreSt) : (s.updCore c f).sec = s.sec := rfl
@[simp] theorem Pkg.updCore_side (c : Nat) (f : CoreSt → CoreSt) : (s.updCore c f).side = s.side := rfl
@[simp] theorem Pkg.updCore_msys (c : Nat) (f : CoreSt → CoreSt) : (s.updCore c f).msys = s.msys := rfl

/-! `setCluster` -/

@[simp] theorem Pkg.setCluster_fuses (c : Nat) (v : ClusterSt) : (s.setCluster c v).fuses = s.fuses := rfl
@[simp] theorem Pkg.setCluster_now (c : Nat) (v : ClusterSt) : (s.setCluster c v).now = s.now := rfl
@[simp] theorem Pkg.setCluster_out (c : Nat) (v : ClusterSt) : (s.setCluster c v).out = s.out := rfl
@[simp] theorem Pkg.setCluster_regs (c : Nat) (v : ClusterSt) : (s.setCluster c v).regs = s.regs := rfl
@[simp] theorem Pkg.setCluster_tasks (c : Nat) (v : ClusterSt) : (s.setCluster c v).tasks = s.tasks := rfl
@[simp] theorem Pkg.setCluster_cores (c : Nat) (v : ClusterSt) : (s.setCluster c v).cores = s.cores := rfl
@[simp] theorem Pkg.setCluster_ctxs (c : Nat) (v : ClusterSt) : (s.setCluster c v).ctxs = s.ctxs := rfl
@[simp] theorem Pkg.setCluster_slots (c : Nat) (v : ClusterSt) : (s.setCluster c v).slots = s.slots := rfl
@[simp] theorem Pkg.setCluster_groups (c : Nat) (v : ClusterSt) : (s.setCluster c v).groups = s.groups := rfl
@[simp] theorem Pkg.setCluster_stroke (c : Nat) (v : ClusterSt) : (s.setCluster c v).stroke = s.stroke := rfl
@[simp] theorem Pkg.setCluster_fab (c : Nat) (v : ClusterSt) : (s.setCluster c v).fab = s.fab := rfl
@[simp] theorem Pkg.setCluster_log (c : Nat) (v : ClusterSt) : (s.setCluster c v).log = s.log := rfl
@[simp] theorem Pkg.setCluster_mem (c : Nat) (v : ClusterSt) : (s.setCluster c v).mem = s.mem := rfl
@[simp] theorem Pkg.setCluster_tlb (c : Nat) (v : ClusterSt) : (s.setCluster c v).tlb = s.tlb := rfl
@[simp] theorem Pkg.setCluster_power (c : Nat) (v : ClusterSt) : (s.setCluster c v).power = s.power := rfl
@[simp] theorem Pkg.setCluster_clk (c : Nat) (v : ClusterSt) : (s.setCluster c v).clk = s.clk := rfl
@[simp] theorem Pkg.setCluster_rst (c : Nat) (v : ClusterSt) : (s.setCluster c v).rst = s.rst := rfl
@[simp] theorem Pkg.setCluster_host (c : Nat) (v : ClusterSt) : (s.setCluster c v).host = s.host := rfl
@[simp] theorem Pkg.setCluster_easel (c : Nat) (v : ClusterSt) : (s.setCluster c v).easel = s.easel := rfl
@[simp] theorem Pkg.setCluster_meter (c : Nat) (v : ClusterSt) : (s.setCluster c v).meter = s.meter := rfl
@[simp] theorem Pkg.setCluster_mirror (c : Nat) (v : ClusterSt) : (s.setCluster c v).mirror = s.mirror := rfl
@[simp] theorem Pkg.setCluster_sec (c : Nat) (v : ClusterSt) : (s.setCluster c v).sec = s.sec := rfl
@[simp] theorem Pkg.setCluster_side (c : Nat) (v : ClusterSt) : (s.setCluster c v).side = s.side := rfl
@[simp] theorem Pkg.setCluster_msys (c : Nat) (v : ClusterSt) : (s.setCluster c v).msys = s.msys := rfl

/-! `updCluster` -/

@[simp] theorem Pkg.updCluster_fuses (c : Nat) (f : ClusterSt → ClusterSt) : (s.updCluster c f).fuses = s.fuses := rfl
@[simp] theorem Pkg.updCluster_now (c : Nat) (f : ClusterSt → ClusterSt) : (s.updCluster c f).now = s.now := rfl
@[simp] theorem Pkg.updCluster_out (c : Nat) (f : ClusterSt → ClusterSt) : (s.updCluster c f).out = s.out := rfl
@[simp] theorem Pkg.updCluster_regs (c : Nat) (f : ClusterSt → ClusterSt) : (s.updCluster c f).regs = s.regs := rfl
@[simp] theorem Pkg.updCluster_tasks (c : Nat) (f : ClusterSt → ClusterSt) : (s.updCluster c f).tasks = s.tasks := rfl
@[simp] theorem Pkg.updCluster_cores (c : Nat) (f : ClusterSt → ClusterSt) : (s.updCluster c f).cores = s.cores := rfl
@[simp] theorem Pkg.updCluster_ctxs (c : Nat) (f : ClusterSt → ClusterSt) : (s.updCluster c f).ctxs = s.ctxs := rfl
@[simp] theorem Pkg.updCluster_slots (c : Nat) (f : ClusterSt → ClusterSt) : (s.updCluster c f).slots = s.slots := rfl
@[simp] theorem Pkg.updCluster_groups (c : Nat) (f : ClusterSt → ClusterSt) : (s.updCluster c f).groups = s.groups := rfl
@[simp] theorem Pkg.updCluster_stroke (c : Nat) (f : ClusterSt → ClusterSt) : (s.updCluster c f).stroke = s.stroke := rfl
@[simp] theorem Pkg.updCluster_fab (c : Nat) (f : ClusterSt → ClusterSt) : (s.updCluster c f).fab = s.fab := rfl
@[simp] theorem Pkg.updCluster_log (c : Nat) (f : ClusterSt → ClusterSt) : (s.updCluster c f).log = s.log := rfl
@[simp] theorem Pkg.updCluster_mem (c : Nat) (f : ClusterSt → ClusterSt) : (s.updCluster c f).mem = s.mem := rfl
@[simp] theorem Pkg.updCluster_tlb (c : Nat) (f : ClusterSt → ClusterSt) : (s.updCluster c f).tlb = s.tlb := rfl
@[simp] theorem Pkg.updCluster_power (c : Nat) (f : ClusterSt → ClusterSt) : (s.updCluster c f).power = s.power := rfl
@[simp] theorem Pkg.updCluster_clk (c : Nat) (f : ClusterSt → ClusterSt) : (s.updCluster c f).clk = s.clk := rfl
@[simp] theorem Pkg.updCluster_rst (c : Nat) (f : ClusterSt → ClusterSt) : (s.updCluster c f).rst = s.rst := rfl
@[simp] theorem Pkg.updCluster_host (c : Nat) (f : ClusterSt → ClusterSt) : (s.updCluster c f).host = s.host := rfl
@[simp] theorem Pkg.updCluster_easel (c : Nat) (f : ClusterSt → ClusterSt) : (s.updCluster c f).easel = s.easel := rfl
@[simp] theorem Pkg.updCluster_meter (c : Nat) (f : ClusterSt → ClusterSt) : (s.updCluster c f).meter = s.meter := rfl
@[simp] theorem Pkg.updCluster_mirror (c : Nat) (f : ClusterSt → ClusterSt) : (s.updCluster c f).mirror = s.mirror := rfl
@[simp] theorem Pkg.updCluster_sec (c : Nat) (f : ClusterSt → ClusterSt) : (s.updCluster c f).sec = s.sec := rfl
@[simp] theorem Pkg.updCluster_side (c : Nat) (f : ClusterSt → ClusterSt) : (s.updCluster c f).side = s.side := rfl
@[simp] theorem Pkg.updCluster_msys (c : Nat) (f : ClusterSt → ClusterSt) : (s.updCluster c f).msys = s.msys := rfl

/-! `setCtx` -/

@[simp] theorem Pkg.setCtx_fuses (c : Nat) (v : Ctx) : (s.setCtx c v).fuses = s.fuses := rfl
@[simp] theorem Pkg.setCtx_now (c : Nat) (v : Ctx) : (s.setCtx c v).now = s.now := rfl
@[simp] theorem Pkg.setCtx_out (c : Nat) (v : Ctx) : (s.setCtx c v).out = s.out := rfl
@[simp] theorem Pkg.setCtx_regs (c : Nat) (v : Ctx) : (s.setCtx c v).regs = s.regs := rfl
@[simp] theorem Pkg.setCtx_tasks (c : Nat) (v : Ctx) : (s.setCtx c v).tasks = s.tasks := rfl
@[simp] theorem Pkg.setCtx_cores (c : Nat) (v : Ctx) : (s.setCtx c v).cores = s.cores := rfl
@[simp] theorem Pkg.setCtx_clusters (c : Nat) (v : Ctx) : (s.setCtx c v).clusters = s.clusters := rfl
@[simp] theorem Pkg.setCtx_slots (c : Nat) (v : Ctx) : (s.setCtx c v).slots = s.slots := rfl
@[simp] theorem Pkg.setCtx_groups (c : Nat) (v : Ctx) : (s.setCtx c v).groups = s.groups := rfl
@[simp] theorem Pkg.setCtx_stroke (c : Nat) (v : Ctx) : (s.setCtx c v).stroke = s.stroke := rfl
@[simp] theorem Pkg.setCtx_fab (c : Nat) (v : Ctx) : (s.setCtx c v).fab = s.fab := rfl
@[simp] theorem Pkg.setCtx_log (c : Nat) (v : Ctx) : (s.setCtx c v).log = s.log := rfl
@[simp] theorem Pkg.setCtx_mem (c : Nat) (v : Ctx) : (s.setCtx c v).mem = s.mem := rfl
@[simp] theorem Pkg.setCtx_tlb (c : Nat) (v : Ctx) : (s.setCtx c v).tlb = s.tlb := rfl
@[simp] theorem Pkg.setCtx_power (c : Nat) (v : Ctx) : (s.setCtx c v).power = s.power := rfl
@[simp] theorem Pkg.setCtx_clk (c : Nat) (v : Ctx) : (s.setCtx c v).clk = s.clk := rfl
@[simp] theorem Pkg.setCtx_rst (c : Nat) (v : Ctx) : (s.setCtx c v).rst = s.rst := rfl
@[simp] theorem Pkg.setCtx_host (c : Nat) (v : Ctx) : (s.setCtx c v).host = s.host := rfl
@[simp] theorem Pkg.setCtx_easel (c : Nat) (v : Ctx) : (s.setCtx c v).easel = s.easel := rfl
@[simp] theorem Pkg.setCtx_meter (c : Nat) (v : Ctx) : (s.setCtx c v).meter = s.meter := rfl
@[simp] theorem Pkg.setCtx_mirror (c : Nat) (v : Ctx) : (s.setCtx c v).mirror = s.mirror := rfl
@[simp] theorem Pkg.setCtx_sec (c : Nat) (v : Ctx) : (s.setCtx c v).sec = s.sec := rfl
@[simp] theorem Pkg.setCtx_side (c : Nat) (v : Ctx) : (s.setCtx c v).side = s.side := rfl
@[simp] theorem Pkg.setCtx_msys (c : Nat) (v : Ctx) : (s.setCtx c v).msys = s.msys := rfl

/-! `updCtx` -/

@[simp] theorem Pkg.updCtx_fuses (c : Nat) (f : Ctx → Ctx) : (s.updCtx c f).fuses = s.fuses := rfl
@[simp] theorem Pkg.updCtx_now (c : Nat) (f : Ctx → Ctx) : (s.updCtx c f).now = s.now := rfl
@[simp] theorem Pkg.updCtx_out (c : Nat) (f : Ctx → Ctx) : (s.updCtx c f).out = s.out := rfl
@[simp] theorem Pkg.updCtx_regs (c : Nat) (f : Ctx → Ctx) : (s.updCtx c f).regs = s.regs := rfl
@[simp] theorem Pkg.updCtx_tasks (c : Nat) (f : Ctx → Ctx) : (s.updCtx c f).tasks = s.tasks := rfl
@[simp] theorem Pkg.updCtx_cores (c : Nat) (f : Ctx → Ctx) : (s.updCtx c f).cores = s.cores := rfl
@[simp] theorem Pkg.updCtx_clusters (c : Nat) (f : Ctx → Ctx) : (s.updCtx c f).clusters = s.clusters := rfl
@[simp] theorem Pkg.updCtx_slots (c : Nat) (f : Ctx → Ctx) : (s.updCtx c f).slots = s.slots := rfl
@[simp] theorem Pkg.updCtx_groups (c : Nat) (f : Ctx → Ctx) : (s.updCtx c f).groups = s.groups := rfl
@[simp] theorem Pkg.updCtx_stroke (c : Nat) (f : Ctx → Ctx) : (s.updCtx c f).stroke = s.stroke := rfl
@[simp] theorem Pkg.updCtx_fab (c : Nat) (f : Ctx → Ctx) : (s.updCtx c f).fab = s.fab := rfl
@[simp] theorem Pkg.updCtx_log (c : Nat) (f : Ctx → Ctx) : (s.updCtx c f).log = s.log := rfl
@[simp] theorem Pkg.updCtx_mem (c : Nat) (f : Ctx → Ctx) : (s.updCtx c f).mem = s.mem := rfl
@[simp] theorem Pkg.updCtx_tlb (c : Nat) (f : Ctx → Ctx) : (s.updCtx c f).tlb = s.tlb := rfl
@[simp] theorem Pkg.updCtx_power (c : Nat) (f : Ctx → Ctx) : (s.updCtx c f).power = s.power := rfl
@[simp] theorem Pkg.updCtx_clk (c : Nat) (f : Ctx → Ctx) : (s.updCtx c f).clk = s.clk := rfl
@[simp] theorem Pkg.updCtx_rst (c : Nat) (f : Ctx → Ctx) : (s.updCtx c f).rst = s.rst := rfl
@[simp] theorem Pkg.updCtx_host (c : Nat) (f : Ctx → Ctx) : (s.updCtx c f).host = s.host := rfl
@[simp] theorem Pkg.updCtx_easel (c : Nat) (f : Ctx → Ctx) : (s.updCtx c f).easel = s.easel := rfl
@[simp] theorem Pkg.updCtx_meter (c : Nat) (f : Ctx → Ctx) : (s.updCtx c f).meter = s.meter := rfl
@[simp] theorem Pkg.updCtx_mirror (c : Nat) (f : Ctx → Ctx) : (s.updCtx c f).mirror = s.mirror := rfl
@[simp] theorem Pkg.updCtx_sec (c : Nat) (f : Ctx → Ctx) : (s.updCtx c f).sec = s.sec := rfl
@[simp] theorem Pkg.updCtx_side (c : Nat) (f : Ctx → Ctx) : (s.updCtx c f).side = s.side := rfl
@[simp] theorem Pkg.updCtx_msys (c : Nat) (f : Ctx → Ctx) : (s.updCtx c f).msys = s.msys := rfl

/-! `setTask` -/

@[simp] theorem Pkg.setTask_fuses (k : Nat) (v : Task) : (s.setTask k v).fuses = s.fuses := rfl
@[simp] theorem Pkg.setTask_now (k : Nat) (v : Task) : (s.setTask k v).now = s.now := rfl
@[simp] theorem Pkg.setTask_out (k : Nat) (v : Task) : (s.setTask k v).out = s.out := rfl
@[simp] theorem Pkg.setTask_regs (k : Nat) (v : Task) : (s.setTask k v).regs = s.regs := rfl
@[simp] theorem Pkg.setTask_cores (k : Nat) (v : Task) : (s.setTask k v).cores = s.cores := rfl
@[simp] theorem Pkg.setTask_clusters (k : Nat) (v : Task) : (s.setTask k v).clusters = s.clusters := rfl
@[simp] theorem Pkg.setTask_ctxs (k : Nat) (v : Task) : (s.setTask k v).ctxs = s.ctxs := rfl
@[simp] theorem Pkg.setTask_slots (k : Nat) (v : Task) : (s.setTask k v).slots = s.slots := rfl
@[simp] theorem Pkg.setTask_groups (k : Nat) (v : Task) : (s.setTask k v).groups = s.groups := rfl
@[simp] theorem Pkg.setTask_stroke (k : Nat) (v : Task) : (s.setTask k v).stroke = s.stroke := rfl
@[simp] theorem Pkg.setTask_fab (k : Nat) (v : Task) : (s.setTask k v).fab = s.fab := rfl
@[simp] theorem Pkg.setTask_log (k : Nat) (v : Task) : (s.setTask k v).log = s.log := rfl
@[simp] theorem Pkg.setTask_mem (k : Nat) (v : Task) : (s.setTask k v).mem = s.mem := rfl
@[simp] theorem Pkg.setTask_tlb (k : Nat) (v : Task) : (s.setTask k v).tlb = s.tlb := rfl
@[simp] theorem Pkg.setTask_power (k : Nat) (v : Task) : (s.setTask k v).power = s.power := rfl
@[simp] theorem Pkg.setTask_clk (k : Nat) (v : Task) : (s.setTask k v).clk = s.clk := rfl
@[simp] theorem Pkg.setTask_rst (k : Nat) (v : Task) : (s.setTask k v).rst = s.rst := rfl
@[simp] theorem Pkg.setTask_host (k : Nat) (v : Task) : (s.setTask k v).host = s.host := rfl
@[simp] theorem Pkg.setTask_easel (k : Nat) (v : Task) : (s.setTask k v).easel = s.easel := rfl
@[simp] theorem Pkg.setTask_meter (k : Nat) (v : Task) : (s.setTask k v).meter = s.meter := rfl
@[simp] theorem Pkg.setTask_mirror (k : Nat) (v : Task) : (s.setTask k v).mirror = s.mirror := rfl
@[simp] theorem Pkg.setTask_sec (k : Nat) (v : Task) : (s.setTask k v).sec = s.sec := rfl
@[simp] theorem Pkg.setTask_side (k : Nat) (v : Task) : (s.setTask k v).side = s.side := rfl
@[simp] theorem Pkg.setTask_msys (k : Nat) (v : Task) : (s.setTask k v).msys = s.msys := rfl

/-! `setGroup` -/

@[simp] theorem Pkg.setGroup_fuses (g : Nat) (v : Group) : (s.setGroup g v).fuses = s.fuses := rfl
@[simp] theorem Pkg.setGroup_now (g : Nat) (v : Group) : (s.setGroup g v).now = s.now := rfl
@[simp] theorem Pkg.setGroup_out (g : Nat) (v : Group) : (s.setGroup g v).out = s.out := rfl
@[simp] theorem Pkg.setGroup_regs (g : Nat) (v : Group) : (s.setGroup g v).regs = s.regs := rfl
@[simp] theorem Pkg.setGroup_tasks (g : Nat) (v : Group) : (s.setGroup g v).tasks = s.tasks := rfl
@[simp] theorem Pkg.setGroup_cores (g : Nat) (v : Group) : (s.setGroup g v).cores = s.cores := rfl
@[simp] theorem Pkg.setGroup_clusters (g : Nat) (v : Group) : (s.setGroup g v).clusters = s.clusters := rfl
@[simp] theorem Pkg.setGroup_ctxs (g : Nat) (v : Group) : (s.setGroup g v).ctxs = s.ctxs := rfl
@[simp] theorem Pkg.setGroup_slots (g : Nat) (v : Group) : (s.setGroup g v).slots = s.slots := rfl
@[simp] theorem Pkg.setGroup_stroke (g : Nat) (v : Group) : (s.setGroup g v).stroke = s.stroke := rfl
@[simp] theorem Pkg.setGroup_fab (g : Nat) (v : Group) : (s.setGroup g v).fab = s.fab := rfl
@[simp] theorem Pkg.setGroup_log (g : Nat) (v : Group) : (s.setGroup g v).log = s.log := rfl
@[simp] theorem Pkg.setGroup_mem (g : Nat) (v : Group) : (s.setGroup g v).mem = s.mem := rfl
@[simp] theorem Pkg.setGroup_tlb (g : Nat) (v : Group) : (s.setGroup g v).tlb = s.tlb := rfl
@[simp] theorem Pkg.setGroup_power (g : Nat) (v : Group) : (s.setGroup g v).power = s.power := rfl
@[simp] theorem Pkg.setGroup_clk (g : Nat) (v : Group) : (s.setGroup g v).clk = s.clk := rfl
@[simp] theorem Pkg.setGroup_rst (g : Nat) (v : Group) : (s.setGroup g v).rst = s.rst := rfl
@[simp] theorem Pkg.setGroup_host (g : Nat) (v : Group) : (s.setGroup g v).host = s.host := rfl
@[simp] theorem Pkg.setGroup_easel (g : Nat) (v : Group) : (s.setGroup g v).easel = s.easel := rfl
@[simp] theorem Pkg.setGroup_meter (g : Nat) (v : Group) : (s.setGroup g v).meter = s.meter := rfl
@[simp] theorem Pkg.setGroup_mirror (g : Nat) (v : Group) : (s.setGroup g v).mirror = s.mirror := rfl
@[simp] theorem Pkg.setGroup_sec (g : Nat) (v : Group) : (s.setGroup g v).sec = s.sec := rfl
@[simp] theorem Pkg.setGroup_side (g : Nat) (v : Group) : (s.setGroup g v).side = s.side := rfl
@[simp] theorem Pkg.setGroup_msys (g : Nat) (v : Group) : (s.setGroup g v).msys = s.msys := rfl

/-! `setPort` -/

@[simp] theorem Pkg.setPort_fuses (n : Nat) (v : Port) : (s.setPort n v).fuses = s.fuses := rfl
@[simp] theorem Pkg.setPort_now (n : Nat) (v : Port) : (s.setPort n v).now = s.now := rfl
@[simp] theorem Pkg.setPort_out (n : Nat) (v : Port) : (s.setPort n v).out = s.out := rfl
@[simp] theorem Pkg.setPort_regs (n : Nat) (v : Port) : (s.setPort n v).regs = s.regs := rfl
@[simp] theorem Pkg.setPort_tasks (n : Nat) (v : Port) : (s.setPort n v).tasks = s.tasks := rfl
@[simp] theorem Pkg.setPort_cores (n : Nat) (v : Port) : (s.setPort n v).cores = s.cores := rfl
@[simp] theorem Pkg.setPort_clusters (n : Nat) (v : Port) : (s.setPort n v).clusters = s.clusters := rfl
@[simp] theorem Pkg.setPort_ctxs (n : Nat) (v : Port) : (s.setPort n v).ctxs = s.ctxs := rfl
@[simp] theorem Pkg.setPort_slots (n : Nat) (v : Port) : (s.setPort n v).slots = s.slots := rfl
@[simp] theorem Pkg.setPort_groups (n : Nat) (v : Port) : (s.setPort n v).groups = s.groups := rfl
@[simp] theorem Pkg.setPort_stroke (n : Nat) (v : Port) : (s.setPort n v).stroke = s.stroke := rfl
@[simp] theorem Pkg.setPort_log (n : Nat) (v : Port) : (s.setPort n v).log = s.log := rfl
@[simp] theorem Pkg.setPort_mem (n : Nat) (v : Port) : (s.setPort n v).mem = s.mem := rfl
@[simp] theorem Pkg.setPort_tlb (n : Nat) (v : Port) : (s.setPort n v).tlb = s.tlb := rfl
@[simp] theorem Pkg.setPort_power (n : Nat) (v : Port) : (s.setPort n v).power = s.power := rfl
@[simp] theorem Pkg.setPort_clk (n : Nat) (v : Port) : (s.setPort n v).clk = s.clk := rfl
@[simp] theorem Pkg.setPort_rst (n : Nat) (v : Port) : (s.setPort n v).rst = s.rst := rfl
@[simp] theorem Pkg.setPort_host (n : Nat) (v : Port) : (s.setPort n v).host = s.host := rfl
@[simp] theorem Pkg.setPort_easel (n : Nat) (v : Port) : (s.setPort n v).easel = s.easel := rfl
@[simp] theorem Pkg.setPort_meter (n : Nat) (v : Port) : (s.setPort n v).meter = s.meter := rfl
@[simp] theorem Pkg.setPort_mirror (n : Nat) (v : Port) : (s.setPort n v).mirror = s.mirror := rfl
@[simp] theorem Pkg.setPort_sec (n : Nat) (v : Port) : (s.setPort n v).sec = s.sec := rfl
@[simp] theorem Pkg.setPort_side (n : Nat) (v : Port) : (s.setPort n v).side = s.side := rfl
@[simp] theorem Pkg.setPort_msys (n : Nat) (v : Port) : (s.setPort n v).msys = s.msys := rfl

/-! `updPort` -/

@[simp] theorem Pkg.updPort_fuses (n : Nat) (f : Port → Port) : (s.updPort n f).fuses = s.fuses := rfl
@[simp] theorem Pkg.updPort_now (n : Nat) (f : Port → Port) : (s.updPort n f).now = s.now := rfl
@[simp] theorem Pkg.updPort_out (n : Nat) (f : Port → Port) : (s.updPort n f).out = s.out := rfl
@[simp] theorem Pkg.updPort_regs (n : Nat) (f : Port → Port) : (s.updPort n f).regs = s.regs := rfl
@[simp] theorem Pkg.updPort_tasks (n : Nat) (f : Port → Port) : (s.updPort n f).tasks = s.tasks := rfl
@[simp] theorem Pkg.updPort_cores (n : Nat) (f : Port → Port) : (s.updPort n f).cores = s.cores := rfl
@[simp] theorem Pkg.updPort_clusters (n : Nat) (f : Port → Port) : (s.updPort n f).clusters = s.clusters := rfl
@[simp] theorem Pkg.updPort_ctxs (n : Nat) (f : Port → Port) : (s.updPort n f).ctxs = s.ctxs := rfl
@[simp] theorem Pkg.updPort_slots (n : Nat) (f : Port → Port) : (s.updPort n f).slots = s.slots := rfl
@[simp] theorem Pkg.updPort_groups (n : Nat) (f : Port → Port) : (s.updPort n f).groups = s.groups := rfl
@[simp] theorem Pkg.updPort_stroke (n : Nat) (f : Port → Port) : (s.updPort n f).stroke = s.stroke := rfl
@[simp] theorem Pkg.updPort_log (n : Nat) (f : Port → Port) : (s.updPort n f).log = s.log := rfl
@[simp] theorem Pkg.updPort_mem (n : Nat) (f : Port → Port) : (s.updPort n f).mem = s.mem := rfl
@[simp] theorem Pkg.updPort_tlb (n : Nat) (f : Port → Port) : (s.updPort n f).tlb = s.tlb := rfl
@[simp] theorem Pkg.updPort_power (n : Nat) (f : Port → Port) : (s.updPort n f).power = s.power := rfl
@[simp] theorem Pkg.updPort_clk (n : Nat) (f : Port → Port) : (s.updPort n f).clk = s.clk := rfl
@[simp] theorem Pkg.updPort_rst (n : Nat) (f : Port → Port) : (s.updPort n f).rst = s.rst := rfl
@[simp] theorem Pkg.updPort_host (n : Nat) (f : Port → Port) : (s.updPort n f).host = s.host := rfl
@[simp] theorem Pkg.updPort_easel (n : Nat) (f : Port → Port) : (s.updPort n f).easel = s.easel := rfl
@[simp] theorem Pkg.updPort_meter (n : Nat) (f : Port → Port) : (s.updPort n f).meter = s.meter := rfl
@[simp] theorem Pkg.updPort_mirror (n : Nat) (f : Port → Port) : (s.updPort n f).mirror = s.mirror := rfl
@[simp] theorem Pkg.updPort_sec (n : Nat) (f : Port → Port) : (s.updPort n f).sec = s.sec := rfl
@[simp] theorem Pkg.updPort_side (n : Nat) (f : Port → Port) : (s.updPort n f).side = s.side := rfl
@[simp] theorem Pkg.updPort_msys (n : Nat) (f : Port → Port) : (s.updPort n f).msys = s.msys := rfl

/-! `setBank` -/

@[simp] theorem Pkg.setBank_fuses (b : Nat) (v : Bank) : (s.setBank b v).fuses = s.fuses := rfl
@[simp] theorem Pkg.setBank_now (b : Nat) (v : Bank) : (s.setBank b v).now = s.now := rfl
@[simp] theorem Pkg.setBank_out (b : Nat) (v : Bank) : (s.setBank b v).out = s.out := rfl
@[simp] theorem Pkg.setBank_regs (b : Nat) (v : Bank) : (s.setBank b v).regs = s.regs := rfl
@[simp] theorem Pkg.setBank_tasks (b : Nat) (v : Bank) : (s.setBank b v).tasks = s.tasks := rfl
@[simp] theorem Pkg.setBank_cores (b : Nat) (v : Bank) : (s.setBank b v).cores = s.cores := rfl
@[simp] theorem Pkg.setBank_clusters (b : Nat) (v : Bank) : (s.setBank b v).clusters = s.clusters := rfl
@[simp] theorem Pkg.setBank_ctxs (b : Nat) (v : Bank) : (s.setBank b v).ctxs = s.ctxs := rfl
@[simp] theorem Pkg.setBank_slots (b : Nat) (v : Bank) : (s.setBank b v).slots = s.slots := rfl
@[simp] theorem Pkg.setBank_groups (b : Nat) (v : Bank) : (s.setBank b v).groups = s.groups := rfl
@[simp] theorem Pkg.setBank_stroke (b : Nat) (v : Bank) : (s.setBank b v).stroke = s.stroke := rfl
@[simp] theorem Pkg.setBank_log (b : Nat) (v : Bank) : (s.setBank b v).log = s.log := rfl
@[simp] theorem Pkg.setBank_mem (b : Nat) (v : Bank) : (s.setBank b v).mem = s.mem := rfl
@[simp] theorem Pkg.setBank_tlb (b : Nat) (v : Bank) : (s.setBank b v).tlb = s.tlb := rfl
@[simp] theorem Pkg.setBank_power (b : Nat) (v : Bank) : (s.setBank b v).power = s.power := rfl
@[simp] theorem Pkg.setBank_clk (b : Nat) (v : Bank) : (s.setBank b v).clk = s.clk := rfl
@[simp] theorem Pkg.setBank_rst (b : Nat) (v : Bank) : (s.setBank b v).rst = s.rst := rfl
@[simp] theorem Pkg.setBank_host (b : Nat) (v : Bank) : (s.setBank b v).host = s.host := rfl
@[simp] theorem Pkg.setBank_easel (b : Nat) (v : Bank) : (s.setBank b v).easel = s.easel := rfl
@[simp] theorem Pkg.setBank_meter (b : Nat) (v : Bank) : (s.setBank b v).meter = s.meter := rfl
@[simp] theorem Pkg.setBank_mirror (b : Nat) (v : Bank) : (s.setBank b v).mirror = s.mirror := rfl
@[simp] theorem Pkg.setBank_sec (b : Nat) (v : Bank) : (s.setBank b v).sec = s.sec := rfl
@[simp] theorem Pkg.setBank_side (b : Nat) (v : Bank) : (s.setBank b v).side = s.side := rfl
@[simp] theorem Pkg.setBank_msys (b : Nat) (v : Bank) : (s.setBank b v).msys = s.msys := rfl

/-! `coreCount` -/

@[simp] theorem Pkg.coreCount_fuses (c off n : Nat) : (s.coreCount c off n).fuses = s.fuses := rfl
@[simp] theorem Pkg.coreCount_now (c off n : Nat) : (s.coreCount c off n).now = s.now := rfl
@[simp] theorem Pkg.coreCount_out (c off n : Nat) : (s.coreCount c off n).out = s.out := rfl
@[simp] theorem Pkg.coreCount_regs (c off n : Nat) : (s.coreCount c off n).regs = s.regs := rfl
@[simp] theorem Pkg.coreCount_tasks (c off n : Nat) : (s.coreCount c off n).tasks = s.tasks := rfl
@[simp] theorem Pkg.coreCount_clusters (c off n : Nat) : (s.coreCount c off n).clusters = s.clusters := rfl
@[simp] theorem Pkg.coreCount_ctxs (c off n : Nat) : (s.coreCount c off n).ctxs = s.ctxs := rfl
@[simp] theorem Pkg.coreCount_slots (c off n : Nat) : (s.coreCount c off n).slots = s.slots := rfl
@[simp] theorem Pkg.coreCount_groups (c off n : Nat) : (s.coreCount c off n).groups = s.groups := rfl
@[simp] theorem Pkg.coreCount_stroke (c off n : Nat) : (s.coreCount c off n).stroke = s.stroke := rfl
@[simp] theorem Pkg.coreCount_fab (c off n : Nat) : (s.coreCount c off n).fab = s.fab := rfl
@[simp] theorem Pkg.coreCount_log (c off n : Nat) : (s.coreCount c off n).log = s.log := rfl
@[simp] theorem Pkg.coreCount_mem (c off n : Nat) : (s.coreCount c off n).mem = s.mem := rfl
@[simp] theorem Pkg.coreCount_tlb (c off n : Nat) : (s.coreCount c off n).tlb = s.tlb := rfl
@[simp] theorem Pkg.coreCount_power (c off n : Nat) : (s.coreCount c off n).power = s.power := rfl
@[simp] theorem Pkg.coreCount_clk (c off n : Nat) : (s.coreCount c off n).clk = s.clk := rfl
@[simp] theorem Pkg.coreCount_rst (c off n : Nat) : (s.coreCount c off n).rst = s.rst := rfl
@[simp] theorem Pkg.coreCount_host (c off n : Nat) : (s.coreCount c off n).host = s.host := rfl
@[simp] theorem Pkg.coreCount_easel (c off n : Nat) : (s.coreCount c off n).easel = s.easel := rfl
@[simp] theorem Pkg.coreCount_meter (c off n : Nat) : (s.coreCount c off n).meter = s.meter := rfl
@[simp] theorem Pkg.coreCount_mirror (c off n : Nat) : (s.coreCount c off n).mirror = s.mirror := rfl
@[simp] theorem Pkg.coreCount_sec (c off n : Nat) : (s.coreCount c off n).sec = s.sec := rfl
@[simp] theorem Pkg.coreCount_side (c off n : Nat) : (s.coreCount c off n).side = s.side := rfl
@[simp] theorem Pkg.coreCount_msys (c off n : Nat) : (s.coreCount c off n).msys = s.msys := rfl

/-! `clusterCount` -/

@[simp] theorem Pkg.clusterCount_fuses (c off n : Nat) : (s.clusterCount c off n).fuses = s.fuses := rfl
@[simp] theorem Pkg.clusterCount_now (c off n : Nat) : (s.clusterCount c off n).now = s.now := rfl
@[simp] theorem Pkg.clusterCount_out (c off n : Nat) : (s.clusterCount c off n).out = s.out := rfl
@[simp] theorem Pkg.clusterCount_regs (c off n : Nat) : (s.clusterCount c off n).regs = s.regs := rfl
@[simp] theorem Pkg.clusterCount_tasks (c off n : Nat) : (s.clusterCount c off n).tasks = s.tasks := rfl
@[simp] theorem Pkg.clusterCount_cores (c off n : Nat) : (s.clusterCount c off n).cores = s.cores := rfl
@[simp] theorem Pkg.clusterCount_ctxs (c off n : Nat) : (s.clusterCount c off n).ctxs = s.ctxs := rfl
@[simp] theorem Pkg.clusterCount_slots (c off n : Nat) : (s.clusterCount c off n).slots = s.slots := rfl
@[simp] theorem Pkg.clusterCount_groups (c off n : Nat) : (s.clusterCount c off n).groups = s.groups := rfl
@[simp] theorem Pkg.clusterCount_stroke (c off n : Nat) : (s.clusterCount c off n).stroke = s.stroke := rfl
@[simp] theorem Pkg.clusterCount_fab (c off n : Nat) : (s.clusterCount c off n).fab = s.fab := rfl
@[simp] theorem Pkg.clusterCount_log (c off n : Nat) : (s.clusterCount c off n).log = s.log := rfl
@[simp] theorem Pkg.clusterCount_mem (c off n : Nat) : (s.clusterCount c off n).mem = s.mem := rfl
@[simp] theorem Pkg.clusterCount_tlb (c off n : Nat) : (s.clusterCount c off n).tlb = s.tlb := rfl
@[simp] theorem Pkg.clusterCount_power (c off n : Nat) : (s.clusterCount c off n).power = s.power := rfl
@[simp] theorem Pkg.clusterCount_clk (c off n : Nat) : (s.clusterCount c off n).clk = s.clk := rfl
@[simp] theorem Pkg.clusterCount_rst (c off n : Nat) : (s.clusterCount c off n).rst = s.rst := rfl
@[simp] theorem Pkg.clusterCount_host (c off n : Nat) : (s.clusterCount c off n).host = s.host := rfl
@[simp] theorem Pkg.clusterCount_easel (c off n : Nat) : (s.clusterCount c off n).easel = s.easel := rfl
@[simp] theorem Pkg.clusterCount_meter (c off n : Nat) : (s.clusterCount c off n).meter = s.meter := rfl
@[simp] theorem Pkg.clusterCount_mirror (c off n : Nat) : (s.clusterCount c off n).mirror = s.mirror := rfl
@[simp] theorem Pkg.clusterCount_sec (c off n : Nat) : (s.clusterCount c off n).sec = s.sec := rfl
@[simp] theorem Pkg.clusterCount_side (c off n : Nat) : (s.clusterCount c off n).side = s.side := rfl
@[simp] theorem Pkg.clusterCount_msys (c off n : Nat) : (s.clusterCount c off n).msys = s.msys := rfl

/-! `credit` -/

@[simp] theorem Pkg.credit_fuses (c n : Nat) : (s.credit c n).fuses = s.fuses := rfl
@[simp] theorem Pkg.credit_now (c n : Nat) : (s.credit c n).now = s.now := rfl
@[simp] theorem Pkg.credit_out (c n : Nat) : (s.credit c n).out = s.out := rfl
@[simp] theorem Pkg.credit_regs (c n : Nat) : (s.credit c n).regs = s.regs := rfl
@[simp] theorem Pkg.credit_tasks (c n : Nat) : (s.credit c n).tasks = s.tasks := rfl
@[simp] theorem Pkg.credit_cores (c n : Nat) : (s.credit c n).cores = s.cores := rfl
@[simp] theorem Pkg.credit_clusters (c n : Nat) : (s.credit c n).clusters = s.clusters := rfl
@[simp] theorem Pkg.credit_slots (c n : Nat) : (s.credit c n).slots = s.slots := rfl
@[simp] theorem Pkg.credit_groups (c n : Nat) : (s.credit c n).groups = s.groups := rfl
@[simp] theorem Pkg.credit_stroke (c n : Nat) : (s.credit c n).stroke = s.stroke := rfl
@[simp] theorem Pkg.credit_fab (c n : Nat) : (s.credit c n).fab = s.fab := rfl
@[simp] theorem Pkg.credit_log (c n : Nat) : (s.credit c n).log = s.log := rfl
@[simp] theorem Pkg.credit_mem (c n : Nat) : (s.credit c n).mem = s.mem := rfl
@[simp] theorem Pkg.credit_tlb (c n : Nat) : (s.credit c n).tlb = s.tlb := rfl
@[simp] theorem Pkg.credit_power (c n : Nat) : (s.credit c n).power = s.power := rfl
@[simp] theorem Pkg.credit_clk (c n : Nat) : (s.credit c n).clk = s.clk := rfl
@[simp] theorem Pkg.credit_rst (c n : Nat) : (s.credit c n).rst = s.rst := rfl
@[simp] theorem Pkg.credit_host (c n : Nat) : (s.credit c n).host = s.host := rfl
@[simp] theorem Pkg.credit_easel (c n : Nat) : (s.credit c n).easel = s.easel := rfl
@[simp] theorem Pkg.credit_meter (c n : Nat) : (s.credit c n).meter = s.meter := rfl
@[simp] theorem Pkg.credit_mirror (c n : Nat) : (s.credit c n).mirror = s.mirror := rfl
@[simp] theorem Pkg.credit_sec (c n : Nat) : (s.credit c n).sec = s.sec := rfl
@[simp] theorem Pkg.credit_side (c n : Nat) : (s.credit c n).side = s.side := rfl
@[simp] theorem Pkg.credit_msys (c n : Nat) : (s.credit c n).msys = s.msys := rfl

end Sys2Proof.Machine
end

