-- ==== Sys2Proof/Laws/Ops.lean ====
section
/-! SUPPORT. What the event log, the host's side of the package and the notes on a task leave alone. -/

namespace Sys2Proof.Machine

variable (s : Pkg)

/-! `hostW` -/

@[simp] theorem Pkg.hostW_fuses (a : Nat) (d : Bytes) : (s.hostW a d).fuses = s.fuses := by
  unfold Pkg.hostW; split <;> rfl
@[simp] theorem Pkg.hostW_now (a : Nat) (d : Bytes) : (s.hostW a d).now = s.now := by
  unfold Pkg.hostW; split <;> rfl
@[simp] theorem Pkg.hostW_regs (a : Nat) (d : Bytes) : (s.hostW a d).regs = s.regs := by
  unfold Pkg.hostW; split <;> rfl
@[simp] theorem Pkg.hostW_tasks (a : Nat) (d : Bytes) : (s.hostW a d).tasks = s.tasks := by
  unfold Pkg.hostW; split <;> rfl
@[simp] theorem Pkg.hostW_cores (a : Nat) (d : Bytes) : (s.hostW a d).cores = s.cores := by
  unfold Pkg.hostW; split <;> rfl
@[simp] theorem Pkg.hostW_clusters (a : Nat) (d : Bytes) : (s.hostW a d).clusters = s.clusters := by
  unfold Pkg.hostW; split <;> rfl
@[simp] theorem Pkg.hostW_ctxs (a : Nat) (d : Bytes) : (s.hostW a d).ctxs = s.ctxs := by
  unfold Pkg.hostW; split <;> rfl
@[simp] theorem Pkg.hostW_slots (a : Nat) (d : Bytes) : (s.hostW a d).slots = s.slots := by
  unfold Pkg.hostW; split <;> rfl
@[simp] theorem Pkg.hostW_groups (a : Nat) (d : Bytes) : (s.hostW a d).groups = s.groups := by
  unfold Pkg.hostW; split <;> rfl
@[simp] theorem Pkg.hostW_stroke (a : Nat) (d : Bytes) : (s.hostW a d).stroke = s.stroke := by
  unfold Pkg.hostW; split <;> rfl
@[simp] theorem Pkg.hostW_fab (a : Nat) (d : Bytes) : (s.hostW a d).fab = s.fab := by
  unfold Pkg.hostW; split <;> rfl
@[simp] theorem Pkg.hostW_log (a : Nat) (d : Bytes) : (s.hostW a d).log = s.log := by
  unfold Pkg.hostW; split <;> rfl
@[simp] theorem Pkg.hostW_mem (a : Nat) (d : Bytes) : (s.hostW a d).mem = s.mem := by
  unfold Pkg.hostW; split <;> rfl
@[simp] theorem Pkg.hostW_power (a : Nat) (d : Bytes) : (s.hostW a d).power = s.power := by
  unfold Pkg.hostW; split <;> rfl
@[simp] theorem Pkg.hostW_clk (a : Nat) (d : Bytes) : (s.hostW a d).clk = s.clk := by
  unfold Pkg.hostW; split <;> rfl
@[simp] theorem Pkg.hostW_rst (a : Nat) (d : Bytes) : (s.hostW a d).rst = s.rst := by
  unfold Pkg.hostW; split <;> rfl
@[simp] theorem Pkg.hostW_easel (a : Nat) (d : Bytes) : (s.hostW a d).easel = s.easel := by
  unfold Pkg.hostW; split <;> rfl
@[simp] theorem Pkg.hostW_meter (a : Nat) (d : Bytes) : (s.hostW a d).meter = s.meter := by
  unfold Pkg.hostW; split <;> rfl
@[simp] theorem Pkg.hostW_mirror (a : Nat) (d : Bytes) : (s.hostW a d).mirror = s.mirror := by
  unfold Pkg.hostW; split <;> rfl
@[simp] theorem Pkg.hostW_sec (a : Nat) (d : Bytes) : (s.hostW a d).sec = s.sec := by
  unfold Pkg.hostW; split <;> rfl
@[simp] theorem Pkg.hostW_side (a : Nat) (d : Bytes) : (s.hostW a d).side = s.side := by
  unfold Pkg.hostW; split <;> rfl
@[simp] theorem Pkg.hostW_msys (a : Nat) (d : Bytes) : (s.hostW a d).msys = s.msys := by
  unfold Pkg.hostW; split <;> rfl

/-! `msixNow` -/

@[simp] theorem Pkg.msixNow_fuses (v : Nat) : (s.msixNow v).fuses = s.fuses := by
  unfold Pkg.msixNow; split; · rfl
  split <;> rfl
@[simp] theorem Pkg.msixNow_now (v : Nat) : (s.msixNow v).now = s.now := by
  unfold Pkg.msixNow; split; · rfl
  split <;> rfl
@[simp] theorem Pkg.msixNow_regs (v : Nat) : (s.msixNow v).regs = s.regs := by
  unfold Pkg.msixNow; split; · rfl
  split <;> rfl
@[simp] theorem Pkg.msixNow_tasks (v : Nat) : (s.msixNow v).tasks = s.tasks := by
  unfold Pkg.msixNow; split; · rfl
  split <;> rfl
@[simp] theorem Pkg.msixNow_cores (v : Nat) : (s.msixNow v).cores = s.cores := by
  unfold Pkg.msixNow; split; · rfl
  split <;> rfl
@[simp] theorem Pkg.msixNow_clusters (v : Nat) : (s.msixNow v).clusters = s.clusters := by
  unfold Pkg.msixNow; split; · rfl
  split <;> rfl
@[simp] theorem Pkg.msixNow_ctxs (v : Nat) : (s.msixNow v).ctxs = s.ctxs := by
  unfold Pkg.msixNow; split; · rfl
  split <;> rfl
@[simp] theorem Pkg.msixNow_slots (v : Nat) : (s.msixNow v).slots = s.slots := by
  unfold Pkg.msixNow; split; · rfl
  split <;> rfl
@[simp] theorem Pkg.msixNow_groups (v : Nat) : (s.msixNow v).groups = s.groups := by
  unfold Pkg.msixNow; split; · rfl
  split <;> rfl
@[simp] theorem Pkg.msixNow_stroke (v : Nat) : (s.msixNow v).stroke = s.stroke := by
  unfold Pkg.msixNow; split; · rfl
  split <;> rfl
@[simp] theorem Pkg.msixNow_fab (v : Nat) : (s.msixNow v).fab = s.fab := by
  unfold Pkg.msixNow; split; · rfl
  split <;> rfl
@[simp] theorem Pkg.msixNow_log (v : Nat) : (s.msixNow v).log = s.log := by
  unfold Pkg.msixNow; split; · rfl
  split <;> rfl
@[simp] theorem Pkg.msixNow_mem (v : Nat) : (s.msixNow v).mem = s.mem := by
  unfold Pkg.msixNow; split; · rfl
  split <;> rfl
@[simp] theorem Pkg.msixNow_power (v : Nat) : (s.msixNow v).power = s.power := by
  unfold Pkg.msixNow; split; · rfl
  split <;> rfl
@[simp] theorem Pkg.msixNow_clk (v : Nat) : (s.msixNow v).clk = s.clk := by
  unfold Pkg.msixNow; split; · rfl
  split <;> rfl
@[simp] theorem Pkg.msixNow_rst (v : Nat) : (s.msixNow v).rst = s.rst := by
  unfold Pkg.msixNow; split; · rfl
  split <;> rfl
@[simp] theorem Pkg.msixNow_easel (v : Nat) : (s.msixNow v).easel = s.easel := by
  unfold Pkg.msixNow; split; · rfl
  split <;> rfl
@[simp] theorem Pkg.msixNow_meter (v : Nat) : (s.msixNow v).meter = s.meter := by
  unfold Pkg.msixNow; split; · rfl
  split <;> rfl
@[simp] theorem Pkg.msixNow_mirror (v : Nat) : (s.msixNow v).mirror = s.mirror := by
  unfold Pkg.msixNow; split; · rfl
  split <;> rfl
@[simp] theorem Pkg.msixNow_sec (v : Nat) : (s.msixNow v).sec = s.sec := by
  unfold Pkg.msixNow; split; · rfl
  split <;> rfl
@[simp] theorem Pkg.msixNow_side (v : Nat) : (s.msixNow v).side = s.side := by
  unfold Pkg.msixNow; split; · rfl
  split <;> rfl
@[simp] theorem Pkg.msixNow_msys (v : Nat) : (s.msixNow v).msys = s.msys := by
  unfold Pkg.msixNow; split; · rfl
  split <;> rfl

/-! `raise` -/

@[simp] theorem Pkg.raise_fuses (v : Nat) : (s.raise v).fuses = s.fuses := by
  unfold Pkg.raise; split
  · rfl
  · simp
@[simp] theorem Pkg.raise_now (v : Nat) : (s.raise v).now = s.now := by
  unfold Pkg.raise; split
  · rfl
  · simp
@[simp] theorem Pkg.raise_regs (v : Nat) : (s.raise v).regs = s.regs := by
  unfold Pkg.raise; split
  · rfl
  · simp
@[simp] theorem Pkg.raise_tasks (v : Nat) : (s.raise v).tasks = s.tasks := by
  unfold Pkg.raise; split
  · rfl
  · simp
@[simp] theorem Pkg.raise_cores (v : Nat) : (s.raise v).cores = s.cores := by
  unfold Pkg.raise; split
  · rfl
  · simp
@[simp] theorem Pkg.raise_clusters (v : Nat) : (s.raise v).clusters = s.clusters := by
  unfold Pkg.raise; split
  · rfl
  · simp
@[simp] theorem Pkg.raise_ctxs (v : Nat) : (s.raise v).ctxs = s.ctxs := by
  unfold Pkg.raise; split
  · rfl
  · simp
@[simp] theorem Pkg.raise_slots (v : Nat) : (s.raise v).slots = s.slots := by
  unfold Pkg.raise; split
  · rfl
  · simp
@[simp] theorem Pkg.raise_groups (v : Nat) : (s.raise v).groups = s.groups := by
  unfold Pkg.raise; split
  · rfl
  · simp
@[simp] theorem Pkg.raise_stroke (v : Nat) : (s.raise v).stroke = s.stroke := by
  unfold Pkg.raise; split
  · rfl
  · simp
@[simp] theorem Pkg.raise_fab (v : Nat) : (s.raise v).fab = s.fab := by
  unfold Pkg.raise; split
  · rfl
  · simp
@[simp] theorem Pkg.raise_log (v : Nat) : (s.raise v).log = s.log := by
  unfold Pkg.raise; split
  · rfl
  · simp
@[simp] theorem Pkg.raise_mem (v : Nat) : (s.raise v).mem = s.mem := by
  unfold Pkg.raise; split
  · rfl
  · simp
@[simp] theorem Pkg.raise_power (v : Nat) : (s.raise v).power = s.power := by
  unfold Pkg.raise; split
  · rfl
  · simp
@[simp] theorem Pkg.raise_clk (v : Nat) : (s.raise v).clk = s.clk := by
  unfold Pkg.raise; split
  · rfl
  · simp
@[simp] theorem Pkg.raise_rst (v : Nat) : (s.raise v).rst = s.rst := by
  unfold Pkg.raise; split
  · rfl
  · simp
@[simp] theorem Pkg.raise_easel (v : Nat) : (s.raise v).easel = s.easel := by
  unfold Pkg.raise; split
  · rfl
  · simp
@[simp] theorem Pkg.raise_meter (v : Nat) : (s.raise v).meter = s.meter := by
  unfold Pkg.raise; split
  · rfl
  · simp
@[simp] theorem Pkg.raise_mirror (v : Nat) : (s.raise v).mirror = s.mirror := by
  unfold Pkg.raise; split
  · rfl
  · simp
@[simp] theorem Pkg.raise_sec (v : Nat) : (s.raise v).sec = s.sec := by
  unfold Pkg.raise; split
  · rfl
  · simp
@[simp] theorem Pkg.raise_side (v : Nat) : (s.raise v).side = s.side := by
  unfold Pkg.raise; split
  · rfl
  · simp
@[simp] theorem Pkg.raise_msys (v : Nat) : (s.raise v).msys = s.msys := by
  unfold Pkg.raise; split
  · rfl
  · simp

/-! `logCopy` -/

@[simp] theorem Pkg.logCopy_fuses (e : Event) : (s.logCopy e).fuses = s.fuses := by
  unfold Pkg.logCopy; dsimp only; (repeat' split) <;> simp
@[simp] theorem Pkg.logCopy_now (e : Event) : (s.logCopy e).now = s.now := by
  unfold Pkg.logCopy; dsimp only; (repeat' split) <;> simp
@[simp] theorem Pkg.logCopy_tasks (e : Event) : (s.logCopy e).tasks = s.tasks := by
  unfold Pkg.logCopy; dsimp only; (repeat' split) <;> simp
@[simp] theorem Pkg.logCopy_cores (e : Event) : (s.logCopy e).cores = s.cores := by
  unfold Pkg.logCopy; dsimp only; (repeat' split) <;> simp
@[simp] theorem Pkg.logCopy_clusters (e : Event) : (s.logCopy e).clusters = s.clusters := by
  unfold Pkg.logCopy; dsimp only; (repeat' split) <;> simp
@[simp] theorem Pkg.logCopy_ctxs (e : Event) : (s.logCopy e).ctxs = s.ctxs := by
  unfold Pkg.logCopy; dsimp only; (repeat' split) <;> simp
@[simp] theorem Pkg.logCopy_slots (e : Event) : (s.logCopy e).slots = s.slots := by
  unfold Pkg.logCopy; dsimp only; (repeat' split) <;> simp
@[simp] theorem Pkg.logCopy_groups (e : Event) : (s.logCopy e).groups = s.groups := by
  unfold Pkg.logCopy; dsimp only; (repeat' split) <;> simp
@[simp] theorem Pkg.logCopy_stroke (e : Event) : (s.logCopy e).stroke = s.stroke := by
  unfold Pkg.logCopy; dsimp only; (repeat' split) <;> simp
@[simp] theorem Pkg.logCopy_fab (e : Event) : (s.logCopy e).fab = s.fab := by
  unfold Pkg.logCopy; dsimp only; (repeat' split) <;> simp
@[simp] theorem Pkg.logCopy_mem (e : Event) : (s.logCopy e).mem = s.mem := by
  unfold Pkg.logCopy; dsimp only; (repeat' split) <;> simp
@[simp] theorem Pkg.logCopy_power (e : Event) : (s.logCopy e).power = s.power := by
  unfold Pkg.logCopy; dsimp only; (repeat' split) <;> simp
@[simp] theorem Pkg.logCopy_clk (e : Event) : (s.logCopy e).clk = s.clk := by
  unfold Pkg.logCopy; dsimp only; (repeat' split) <;> simp
@[simp] theorem Pkg.logCopy_rst (e : Event) : (s.logCopy e).rst = s.rst := by
  unfold Pkg.logCopy; dsimp only; (repeat' split) <;> simp
@[simp] theorem Pkg.logCopy_easel (e : Event) : (s.logCopy e).easel = s.easel := by
  unfold Pkg.logCopy; dsimp only; (repeat' split) <;> simp
@[simp] theorem Pkg.logCopy_meter (e : Event) : (s.logCopy e).meter = s.meter := by
  unfold Pkg.logCopy; dsimp only; (repeat' split) <;> simp
@[simp] theorem Pkg.logCopy_mirror (e : Event) : (s.logCopy e).mirror = s.mirror := by
  unfold Pkg.logCopy; dsimp only; (repeat' split) <;> simp
@[simp] theorem Pkg.logCopy_sec (e : Event) : (s.logCopy e).sec = s.sec := by
  unfold Pkg.logCopy; dsimp only; (repeat' split) <;> simp
@[simp] theorem Pkg.logCopy_side (e : Event) : (s.logCopy e).side = s.side := by
  unfold Pkg.logCopy; dsimp only; (repeat' split) <;> simp
@[simp] theorem Pkg.logCopy_msys (e : Event) : (s.logCopy e).msys = s.msys := by
  unfold Pkg.logCopy; dsimp only; (repeat' split) <;> simp

/-! `logWith` -/

@[simp] theorem Pkg.logWith_fuses (e u : Nat) (c : Option Nat) (k : Nat) (b : Bool) (d : Bytes) : (s.logWith e u c k b d).fuses = s.fuses := by
  unfold Pkg.logWith; dsimp only; split <;> simp
@[simp] theorem Pkg.logWith_now (e u : Nat) (c : Option Nat) (k : Nat) (b : Bool) (d : Bytes) : (s.logWith e u c k b d).now = s.now := by
  unfold Pkg.logWith; dsimp only; split <;> simp
@[simp] theorem Pkg.logWith_tasks (e u : Nat) (c : Option Nat) (k : Nat) (b : Bool) (d : Bytes) : (s.logWith e u c k b d).tasks = s.tasks := by
  unfold Pkg.logWith; dsimp only; split <;> simp
@[simp] theorem Pkg.logWith_cores (e u : Nat) (c : Option Nat) (k : Nat) (b : Bool) (d : Bytes) : (s.logWith e u c k b d).cores = s.cores := by
  unfold Pkg.logWith; dsimp only; split <;> simp
@[simp] theorem Pkg.logWith_clusters (e u : Nat) (c : Option Nat) (k : Nat) (b : Bool) (d : Bytes) : (s.logWith e u c k b d).clusters = s.clusters := by
  unfold Pkg.logWith; dsimp only; split <;> simp
@[simp] theorem Pkg.logWith_ctxs (e u : Nat) (c : Option Nat) (k : Nat) (b : Bool) (d : Bytes) : (s.logWith e u c k b d).ctxs = s.ctxs := by
  unfold Pkg.logWith; dsimp only; split <;> simp
@[simp] theorem Pkg.logWith_slots (e u : Nat) (c : Option Nat) (k : Nat) (b : Bool) (d : Bytes) : (s.logWith e u c k b d).slots = s.slots := by
  unfold Pkg.logWith; dsimp only; split <;> simp
@[simp] theorem Pkg.logWith_groups (e u : Nat) (c : Option Nat) (k : Nat) (b : Bool) (d : Bytes) : (s.logWith e u c k b d).groups = s.groups := by
  unfold Pkg.logWith; dsimp only; split <;> simp
@[simp] theorem Pkg.logWith_stroke (e u : Nat) (c : Option Nat) (k : Nat) (b : Bool) (d : Bytes) : (s.logWith e u c k b d).stroke = s.stroke := by
  unfold Pkg.logWith; dsimp only; split <;> simp
@[simp] theorem Pkg.logWith_fab (e u : Nat) (c : Option Nat) (k : Nat) (b : Bool) (d : Bytes) : (s.logWith e u c k b d).fab = s.fab := by
  unfold Pkg.logWith; dsimp only; split <;> simp
@[simp] theorem Pkg.logWith_mem (e u : Nat) (c : Option Nat) (k : Nat) (b : Bool) (d : Bytes) : (s.logWith e u c k b d).mem = s.mem := by
  unfold Pkg.logWith; dsimp only; split <;> simp
@[simp] theorem Pkg.logWith_power (e u : Nat) (c : Option Nat) (k : Nat) (b : Bool) (d : Bytes) : (s.logWith e u c k b d).power = s.power := by
  unfold Pkg.logWith; dsimp only; split <;> simp
@[simp] theorem Pkg.logWith_clk (e u : Nat) (c : Option Nat) (k : Nat) (b : Bool) (d : Bytes) : (s.logWith e u c k b d).clk = s.clk := by
  unfold Pkg.logWith; dsimp only; split <;> simp
@[simp] theorem Pkg.logWith_rst (e u : Nat) (c : Option Nat) (k : Nat) (b : Bool) (d : Bytes) : (s.logWith e u c k b d).rst = s.rst := by
  unfold Pkg.logWith; dsimp only; split <;> simp
@[simp] theorem Pkg.logWith_easel (e u : Nat) (c : Option Nat) (k : Nat) (b : Bool) (d : Bytes) : (s.logWith e u c k b d).easel = s.easel := by
  unfold Pkg.logWith; dsimp only; split <;> simp
@[simp] theorem Pkg.logWith_meter (e u : Nat) (c : Option Nat) (k : Nat) (b : Bool) (d : Bytes) : (s.logWith e u c k b d).meter = s.meter := by
  unfold Pkg.logWith; dsimp only; split <;> simp
@[simp] theorem Pkg.logWith_mirror (e u : Nat) (c : Option Nat) (k : Nat) (b : Bool) (d : Bytes) : (s.logWith e u c k b d).mirror = s.mirror := by
  unfold Pkg.logWith; dsimp only; split <;> simp
@[simp] theorem Pkg.logWith_sec (e u : Nat) (c : Option Nat) (k : Nat) (b : Bool) (d : Bytes) : (s.logWith e u c k b d).sec = s.sec := by
  unfold Pkg.logWith; dsimp only; split <;> simp
@[simp] theorem Pkg.logWith_side (e u : Nat) (c : Option Nat) (k : Nat) (b : Bool) (d : Bytes) : (s.logWith e u c k b d).side = s.side := by
  unfold Pkg.logWith; dsimp only; split <;> simp
@[simp] theorem Pkg.logWith_msys (e u : Nat) (c : Option Nat) (k : Nat) (b : Bool) (d : Bytes) : (s.logWith e u c k b d).msys = s.msys := by
  unfold Pkg.logWith; dsimp only; split <;> simp

/-! `logEv` -/

@[simp] theorem Pkg.logEv_fuses (e u : Nat) (c : Option Nat) (d : Bytes) : (s.logEv e u c d).fuses = s.fuses := by
  simp [Pkg.logEv]
@[simp] theorem Pkg.logEv_now (e u : Nat) (c : Option Nat) (d : Bytes) : (s.logEv e u c d).now = s.now := by
  simp [Pkg.logEv]
@[simp] theorem Pkg.logEv_tasks (e u : Nat) (c : Option Nat) (d : Bytes) : (s.logEv e u c d).tasks = s.tasks := by
  simp [Pkg.logEv]
@[simp] theorem Pkg.logEv_cores (e u : Nat) (c : Option Nat) (d : Bytes) : (s.logEv e u c d).cores = s.cores := by
  simp [Pkg.logEv]
@[simp] theorem Pkg.logEv_clusters (e u : Nat) (c : Option Nat) (d : Bytes) : (s.logEv e u c d).clusters = s.clusters := by
  simp [Pkg.logEv]
@[simp] theorem Pkg.logEv_ctxs (e u : Nat) (c : Option Nat) (d : Bytes) : (s.logEv e u c d).ctxs = s.ctxs := by
  simp [Pkg.logEv]
@[simp] theorem Pkg.logEv_slots (e u : Nat) (c : Option Nat) (d : Bytes) : (s.logEv e u c d).slots = s.slots := by
  simp [Pkg.logEv]
@[simp] theorem Pkg.logEv_groups (e u : Nat) (c : Option Nat) (d : Bytes) : (s.logEv e u c d).groups = s.groups := by
  simp [Pkg.logEv]
@[simp] theorem Pkg.logEv_stroke (e u : Nat) (c : Option Nat) (d : Bytes) : (s.logEv e u c d).stroke = s.stroke := by
  simp [Pkg.logEv]
@[simp] theorem Pkg.logEv_fab (e u : Nat) (c : Option Nat) (d : Bytes) : (s.logEv e u c d).fab = s.fab := by
  simp [Pkg.logEv]
@[simp] theorem Pkg.logEv_mem (e u : Nat) (c : Option Nat) (d : Bytes) : (s.logEv e u c d).mem = s.mem := by
  simp [Pkg.logEv]
@[simp] theorem Pkg.logEv_power (e u : Nat) (c : Option Nat) (d : Bytes) : (s.logEv e u c d).power = s.power := by
  simp [Pkg.logEv]
@[simp] theorem Pkg.logEv_clk (e u : Nat) (c : Option Nat) (d : Bytes) : (s.logEv e u c d).clk = s.clk := by
  simp [Pkg.logEv]
@[simp] theorem Pkg.logEv_rst (e u : Nat) (c : Option Nat) (d : Bytes) : (s.logEv e u c d).rst = s.rst := by
  simp [Pkg.logEv]
@[simp] theorem Pkg.logEv_easel (e u : Nat) (c : Option Nat) (d : Bytes) : (s.logEv e u c d).easel = s.easel := by
  simp [Pkg.logEv]
@[simp] theorem Pkg.logEv_meter (e u : Nat) (c : Option Nat) (d : Bytes) : (s.logEv e u c d).meter = s.meter := by
  simp [Pkg.logEv]
@[simp] theorem Pkg.logEv_mirror (e u : Nat) (c : Option Nat) (d : Bytes) : (s.logEv e u c d).mirror = s.mirror := by
  simp [Pkg.logEv]
@[simp] theorem Pkg.logEv_sec (e u : Nat) (c : Option Nat) (d : Bytes) : (s.logEv e u c d).sec = s.sec := by
  simp [Pkg.logEv]
@[simp] theorem Pkg.logEv_side (e u : Nat) (c : Option Nat) (d : Bytes) : (s.logEv e u c d).side = s.side := by
  simp [Pkg.logEv]
@[simp] theorem Pkg.logEv_msys (e u : Nat) (c : Option Nat) (d : Bytes) : (s.logEv e u c d).msys = s.msys := by
  simp [Pkg.logEv]

/-! `discardBytes` -/

@[simp] theorem Pkg.discardBytes_fuses (o b : Nat) (v : Word) : (s.discardBytes o b v).fuses = s.fuses := by
  simp [Pkg.discardBytes]
@[simp] theorem Pkg.discardBytes_now (o b : Nat) (v : Word) : (s.discardBytes o b v).now = s.now := by
  simp [Pkg.discardBytes]
@[simp] theorem Pkg.discardBytes_tasks (o b : Nat) (v : Word) : (s.discardBytes o b v).tasks = s.tasks := by
  simp [Pkg.discardBytes]
@[simp] theorem Pkg.discardBytes_cores (o b : Nat) (v : Word) : (s.discardBytes o b v).cores = s.cores := by
  simp [Pkg.discardBytes]
@[simp] theorem Pkg.discardBytes_clusters (o b : Nat) (v : Word) : (s.discardBytes o b v).clusters = s.clusters := by
  simp [Pkg.discardBytes]
@[simp] theorem Pkg.discardBytes_ctxs (o b : Nat) (v : Word) : (s.discardBytes o b v).ctxs = s.ctxs := by
  simp [Pkg.discardBytes]
@[simp] theorem Pkg.discardBytes_slots (o b : Nat) (v : Word) : (s.discardBytes o b v).slots = s.slots := by
  simp [Pkg.discardBytes]
@[simp] theorem Pkg.discardBytes_groups (o b : Nat) (v : Word) : (s.discardBytes o b v).groups = s.groups := by
  simp [Pkg.discardBytes]
@[simp] theorem Pkg.discardBytes_stroke (o b : Nat) (v : Word) : (s.discardBytes o b v).stroke = s.stroke := by
  simp [Pkg.discardBytes]
@[simp] theorem Pkg.discardBytes_fab (o b : Nat) (v : Word) : (s.discardBytes o b v).fab = s.fab := by
  simp [Pkg.discardBytes]
@[simp] theorem Pkg.discardBytes_mem (o b : Nat) (v : Word) : (s.discardBytes o b v).mem = s.mem := by
  simp [Pkg.discardBytes]
@[simp] theorem Pkg.discardBytes_power (o b : Nat) (v : Word) : (s.discardBytes o b v).power = s.power := by
  simp [Pkg.discardBytes]
@[simp] theorem Pkg.discardBytes_clk (o b : Nat) (v : Word) : (s.discardBytes o b v).clk = s.clk := by
  simp [Pkg.discardBytes]
@[simp] theorem Pkg.discardBytes_rst (o b : Nat) (v : Word) : (s.discardBytes o b v).rst = s.rst := by
  simp [Pkg.discardBytes]
@[simp] theorem Pkg.discardBytes_easel (o b : Nat) (v : Word) : (s.discardBytes o b v).easel = s.easel := by
  simp [Pkg.discardBytes]
@[simp] theorem Pkg.discardBytes_meter (o b : Nat) (v : Word) : (s.discardBytes o b v).meter = s.meter := by
  simp [Pkg.discardBytes]
@[simp] theorem Pkg.discardBytes_mirror (o b : Nat) (v : Word) : (s.discardBytes o b v).mirror = s.mirror := by
  simp [Pkg.discardBytes]
@[simp] theorem Pkg.discardBytes_sec (o b : Nat) (v : Word) : (s.discardBytes o b v).sec = s.sec := by
  simp [Pkg.discardBytes]
@[simp] theorem Pkg.discardBytes_side (o b : Nat) (v : Word) : (s.discardBytes o b v).side = s.side := by
  simp [Pkg.discardBytes]
@[simp] theorem Pkg.discardBytes_msys (o b : Nat) (v : Word) : (s.discardBytes o b v).msys = s.msys := by
  simp [Pkg.discardBytes]

/-! `discard` -/

@[simp] theorem Pkg.discard_fuses (o : Nat) (v : Word) : (s.discard o v).fuses = s.fuses := by
  simp [Pkg.discard]
@[simp] theorem Pkg.discard_now (o : Nat) (v : Word) : (s.discard o v).now = s.now := by
  simp [Pkg.discard]
@[simp] theorem Pkg.discard_tasks (o : Nat) (v : Word) : (s.discard o v).tasks = s.tasks := by
  simp [Pkg.discard]
@[simp] theorem Pkg.discard_cores (o : Nat) (v : Word) : (s.discard o v).cores = s.cores := by
  simp [Pkg.discard]
@[simp] theorem Pkg.discard_clusters (o : Nat) (v : Word) : (s.discard o v).clusters = s.clusters := by
  simp [Pkg.discard]
@[simp] theorem Pkg.discard_ctxs (o : Nat) (v : Word) : (s.discard o v).ctxs = s.ctxs := by
  simp [Pkg.discard]
@[simp] theorem Pkg.discard_slots (o : Nat) (v : Word) : (s.discard o v).slots = s.slots := by
  simp [Pkg.discard]
@[simp] theorem Pkg.discard_groups (o : Nat) (v : Word) : (s.discard o v).groups = s.groups := by
  simp [Pkg.discard]
@[simp] theorem Pkg.discard_stroke (o : Nat) (v : Word) : (s.discard o v).stroke = s.stroke := by
  simp [Pkg.discard]
@[simp] theorem Pkg.discard_fab (o : Nat) (v : Word) : (s.discard o v).fab = s.fab := by
  simp [Pkg.discard]
@[simp] theorem Pkg.discard_mem (o : Nat) (v : Word) : (s.discard o v).mem = s.mem := by
  simp [Pkg.discard]
@[simp] theorem Pkg.discard_power (o : Nat) (v : Word) : (s.discard o v).power = s.power := by
  simp [Pkg.discard]
@[simp] theorem Pkg.discard_clk (o : Nat) (v : Word) : (s.discard o v).clk = s.clk := by
  simp [Pkg.discard]
@[simp] theorem Pkg.discard_rst (o : Nat) (v : Word) : (s.discard o v).rst = s.rst := by
  simp [Pkg.discard]
@[simp] theorem Pkg.discard_easel (o : Nat) (v : Word) : (s.discard o v).easel = s.easel := by
  simp [Pkg.discard]
@[simp] theorem Pkg.discard_meter (o : Nat) (v : Word) : (s.discard o v).meter = s.meter := by
  simp [Pkg.discard]
@[simp] theorem Pkg.discard_mirror (o : Nat) (v : Word) : (s.discard o v).mirror = s.mirror := by
  simp [Pkg.discard]
@[simp] theorem Pkg.discard_sec (o : Nat) (v : Word) : (s.discard o v).sec = s.sec := by
  simp [Pkg.discard]
@[simp] theorem Pkg.discard_side (o : Nat) (v : Word) : (s.discard o v).side = s.side := by
  simp [Pkg.discard]
@[simp] theorem Pkg.discard_msys (o : Nat) (v : Word) : (s.discard o v).msys = s.msys := by
  simp [Pkg.discard]

/-! `updTask` -/

@[simp] theorem Pkg.updTask_fuses (k : Nat) (f : Task → Task) : (s.updTask k f).fuses = s.fuses := by
  unfold Pkg.updTask; split <;> rfl
@[simp] theorem Pkg.updTask_now (k : Nat) (f : Task → Task) : (s.updTask k f).now = s.now := by
  unfold Pkg.updTask; split <;> rfl
@[simp] theorem Pkg.updTask_out (k : Nat) (f : Task → Task) : (s.updTask k f).out = s.out := by
  unfold Pkg.updTask; split <;> rfl
@[simp] theorem Pkg.updTask_regs (k : Nat) (f : Task → Task) : (s.updTask k f).regs = s.regs := by
  unfold Pkg.updTask; split <;> rfl
@[simp] theorem Pkg.updTask_cores (k : Nat) (f : Task → Task) : (s.updTask k f).cores = s.cores := by
  unfold Pkg.updTask; split <;> rfl
@[simp] theorem Pkg.updTask_clusters (k : Nat) (f : Task → Task) : (s.updTask k f).clusters = s.clusters := by
  unfold Pkg.updTask; split <;> rfl
@[simp] theorem Pkg.updTask_ctxs (k : Nat) (f : Task → Task) : (s.updTask k f).ctxs = s.ctxs := by
  unfold Pkg.updTask; split <;> rfl
@[simp] theorem Pkg.updTask_slots (k : Nat) (f : Task → Task) : (s.updTask k f).slots = s.slots := by
  unfold Pkg.updTask; split <;> rfl
@[simp] theorem Pkg.updTask_groups (k : Nat) (f : Task → Task) : (s.updTask k f).groups = s.groups := by
  unfold Pkg.updTask; split <;> rfl
@[simp] theorem Pkg.updTask_stroke (k : Nat) (f : Task → Task) : (s.updTask k f).stroke = s.stroke := by
  unfold Pkg.updTask; split <;> rfl
@[simp] theorem Pkg.updTask_fab (k : Nat) (f : Task → Task) : (s.updTask k f).fab = s.fab := by
  unfold Pkg.updTask; split <;> rfl
@[simp] theorem Pkg.updTask_log (k : Nat) (f : Task → Task) : (s.updTask k f).log = s.log := by
  unfold Pkg.updTask; split <;> rfl
@[simp] theorem Pkg.updTask_mem (k : Nat) (f : Task → Task) : (s.updTask k f).mem = s.mem := by
  unfold Pkg.updTask; split <;> rfl
@[simp] theorem Pkg.updTask_power (k : Nat) (f : Task → Task) : (s.updTask k f).power = s.power := by
  unfold Pkg.updTask; split <;> rfl
@[simp] theorem Pkg.updTask_clk (k : Nat) (f : Task → Task) : (s.updTask k f).clk = s.clk := by
  unfold Pkg.updTask; split <;> rfl
@[simp] theorem Pkg.updTask_rst (k : Nat) (f : Task → Task) : (s.updTask k f).rst = s.rst := by
  unfold Pkg.updTask; split <;> rfl
@[simp] theorem Pkg.updTask_host (k : Nat) (f : Task → Task) : (s.updTask k f).host = s.host := by
  unfold Pkg.updTask; split <;> rfl
@[simp] theorem Pkg.updTask_easel (k : Nat) (f : Task → Task) : (s.updTask k f).easel = s.easel := by
  unfold Pkg.updTask; split <;> rfl
@[simp] theorem Pkg.updTask_meter (k : Nat) (f : Task → Task) : (s.updTask k f).meter = s.meter := by
  unfold Pkg.updTask; split <;> rfl
@[simp] theorem Pkg.updTask_mirror (k : Nat) (f : Task → Task) : (s.updTask k f).mirror = s.mirror := by
  unfold Pkg.updTask; split <;> rfl
@[simp] theorem Pkg.updTask_sec (k : Nat) (f : Task → Task) : (s.updTask k f).sec = s.sec := by
  unfold Pkg.updTask; split <;> rfl
@[simp] theorem Pkg.updTask_side (k : Nat) (f : Task → Task) : (s.updTask k f).side = s.side := by
  unfold Pkg.updTask; split <;> rfl
@[simp] theorem Pkg.updTask_msys (k : Nat) (f : Task → Task) : (s.updTask k f).msys = s.msys := by
  unfold Pkg.updTask; split <;> rfl

/-! `taskFlags` -/

@[simp] theorem Pkg.taskFlags_fuses (k : Nat) (f : Sticky) : (s.taskFlags k f).fuses = s.fuses := by
  simp [Pkg.taskFlags]
@[simp] theorem Pkg.taskFlags_now (k : Nat) (f : Sticky) : (s.taskFlags k f).now = s.now := by
  simp [Pkg.taskFlags]
@[simp] theorem Pkg.taskFlags_out (k : Nat) (f : Sticky) : (s.taskFlags k f).out = s.out := by
  simp [Pkg.taskFlags]
@[simp] theorem Pkg.taskFlags_regs (k : Nat) (f : Sticky) : (s.taskFlags k f).regs = s.regs := by
  simp [Pkg.taskFlags]
@[simp] theorem Pkg.taskFlags_cores (k : Nat) (f : Sticky) : (s.taskFlags k f).cores = s.cores := by
  simp [Pkg.taskFlags]
@[simp] theorem Pkg.taskFlags_clusters (k : Nat) (f : Sticky) : (s.taskFlags k f).clusters = s.clusters := by
  simp [Pkg.taskFlags]
@[simp] theorem Pkg.taskFlags_ctxs (k : Nat) (f : Sticky) : (s.taskFlags k f).ctxs = s.ctxs := by
  simp [Pkg.taskFlags]
@[simp] theorem Pkg.taskFlags_slots (k : Nat) (f : Sticky) : (s.taskFlags k f).slots = s.slots := by
  simp [Pkg.taskFlags]
@[simp] theorem Pkg.taskFlags_groups (k : Nat) (f : Sticky) : (s.taskFlags k f).groups = s.groups := by
  simp [Pkg.taskFlags]
@[simp] theorem Pkg.taskFlags_stroke (k : Nat) (f : Sticky) : (s.taskFlags k f).stroke = s.stroke := by
  simp [Pkg.taskFlags]
@[simp] theorem Pkg.taskFlags_fab (k : Nat) (f : Sticky) : (s.taskFlags k f).fab = s.fab := by
  simp [Pkg.taskFlags]
@[simp] theorem Pkg.taskFlags_log (k : Nat) (f : Sticky) : (s.taskFlags k f).log = s.log := by
  simp [Pkg.taskFlags]
@[simp] theorem Pkg.taskFlags_mem (k : Nat) (f : Sticky) : (s.taskFlags k f).mem = s.mem := by
  simp [Pkg.taskFlags]
@[simp] theorem Pkg.taskFlags_power (k : Nat) (f : Sticky) : (s.taskFlags k f).power = s.power := by
  simp [Pkg.taskFlags]
@[simp] theorem Pkg.taskFlags_clk (k : Nat) (f : Sticky) : (s.taskFlags k f).clk = s.clk := by
  simp [Pkg.taskFlags]
@[simp] theorem Pkg.taskFlags_rst (k : Nat) (f : Sticky) : (s.taskFlags k f).rst = s.rst := by
  simp [Pkg.taskFlags]
@[simp] theorem Pkg.taskFlags_host (k : Nat) (f : Sticky) : (s.taskFlags k f).host = s.host := by
  simp [Pkg.taskFlags]
@[simp] theorem Pkg.taskFlags_easel (k : Nat) (f : Sticky) : (s.taskFlags k f).easel = s.easel := by
  simp [Pkg.taskFlags]
@[simp] theorem Pkg.taskFlags_meter (k : Nat) (f : Sticky) : (s.taskFlags k f).meter = s.meter := by
  simp [Pkg.taskFlags]
@[simp] theorem Pkg.taskFlags_mirror (k : Nat) (f : Sticky) : (s.taskFlags k f).mirror = s.mirror := by
  simp [Pkg.taskFlags]
@[simp] theorem Pkg.taskFlags_sec (k : Nat) (f : Sticky) : (s.taskFlags k f).sec = s.sec := by
  simp [Pkg.taskFlags]
@[simp] theorem Pkg.taskFlags_side (k : Nat) (f : Sticky) : (s.taskFlags k f).side = s.side := by
  simp [Pkg.taskFlags]
@[simp] theorem Pkg.taskFlags_msys (k : Nat) (f : Sticky) : (s.taskFlags k f).msys = s.msys := by
  simp [Pkg.taskFlags]

/-! `taskEvent` -/

@[simp] theorem Pkg.taskEvent_fuses (k e u c : Nat) (d : Bytes) : (s.taskEvent k e u c d).fuses = s.fuses := by
  simp [Pkg.taskEvent]
@[simp] theorem Pkg.taskEvent_now (k e u c : Nat) (d : Bytes) : (s.taskEvent k e u c d).now = s.now := by
  simp [Pkg.taskEvent]
@[simp] theorem Pkg.taskEvent_cores (k e u c : Nat) (d : Bytes) : (s.taskEvent k e u c d).cores = s.cores := by
  simp [Pkg.taskEvent]
@[simp] theorem Pkg.taskEvent_clusters (k e u c : Nat) (d : Bytes) : (s.taskEvent k e u c d).clusters = s.clusters := by
  simp [Pkg.taskEvent]
@[simp] theorem Pkg.taskEvent_ctxs (k e u c : Nat) (d : Bytes) : (s.taskEvent k e u c d).ctxs = s.ctxs := by
  simp [Pkg.taskEvent]
@[simp] theorem Pkg.taskEvent_slots (k e u c : Nat) (d : Bytes) : (s.taskEvent k e u c d).slots = s.slots := by
  simp [Pkg.taskEvent]
@[simp] theorem Pkg.taskEvent_groups (k e u c : Nat) (d : Bytes) : (s.taskEvent k e u c d).groups = s.groups := by
  simp [Pkg.taskEvent]
@[simp] theorem Pkg.taskEvent_stroke (k e u c : Nat) (d : Bytes) : (s.taskEvent k e u c d).stroke = s.stroke := by
  simp [Pkg.taskEvent]
@[simp] theorem Pkg.taskEvent_fab (k e u c : Nat) (d : Bytes) : (s.taskEvent k e u c d).fab = s.fab := by
  simp [Pkg.taskEvent]
@[simp] theorem Pkg.taskEvent_mem (k e u c : Nat) (d : Bytes) : (s.taskEvent k e u c d).mem = s.mem := by
  simp [Pkg.taskEvent]
@[simp] theorem Pkg.taskEvent_power (k e u c : Nat) (d : Bytes) : (s.taskEvent k e u c d).power = s.power := by
  simp [Pkg.taskEvent]
@[simp] theorem Pkg.taskEvent_clk (k e u c : Nat) (d : Bytes) : (s.taskEvent k e u c d).clk = s.clk := by
  simp [Pkg.taskEvent]
@[simp] theorem Pkg.taskEvent_rst (k e u c : Nat) (d : Bytes) : (s.taskEvent k e u c d).rst = s.rst := by
  simp [Pkg.taskEvent]
@[simp] theorem Pkg.taskEvent_easel (k e u c : Nat) (d : Bytes) : (s.taskEvent k e u c d).easel = s.easel := by
  simp [Pkg.taskEvent]
@[simp] theorem Pkg.taskEvent_meter (k e u c : Nat) (d : Bytes) : (s.taskEvent k e u c d).meter = s.meter := by
  simp [Pkg.taskEvent]
@[simp] theorem Pkg.taskEvent_mirror (k e u c : Nat) (d : Bytes) : (s.taskEvent k e u c d).mirror = s.mirror := by
  simp [Pkg.taskEvent]
@[simp] theorem Pkg.taskEvent_sec (k e u c : Nat) (d : Bytes) : (s.taskEvent k e u c d).sec = s.sec := by
  simp [Pkg.taskEvent]
@[simp] theorem Pkg.taskEvent_side (k e u c : Nat) (d : Bytes) : (s.taskEvent k e u c d).side = s.side := by
  simp [Pkg.taskEvent]
@[simp] theorem Pkg.taskEvent_msys (k e u c : Nat) (d : Bytes) : (s.taskEvent k e u c d).msys = s.msys := by
  simp [Pkg.taskEvent]

/-! `taskCode` -/

@[simp] theorem Pkg.taskCode_fuses (k c : Nat) : (s.taskCode k c).fuses = s.fuses := by
  unfold Pkg.taskCode; dsimp only; split <;> simp
@[simp] theorem Pkg.taskCode_now (k c : Nat) : (s.taskCode k c).now = s.now := by
  unfold Pkg.taskCode; dsimp only; split <;> simp
@[simp] theorem Pkg.taskCode_cores (k c : Nat) : (s.taskCode k c).cores = s.cores := by
  unfold Pkg.taskCode; dsimp only; split <;> simp
@[simp] theorem Pkg.taskCode_clusters (k c : Nat) : (s.taskCode k c).clusters = s.clusters := by
  unfold Pkg.taskCode; dsimp only; split <;> simp
@[simp] theorem Pkg.taskCode_ctxs (k c : Nat) : (s.taskCode k c).ctxs = s.ctxs := by
  unfold Pkg.taskCode; dsimp only; split <;> simp
@[simp] theorem Pkg.taskCode_slots (k c : Nat) : (s.taskCode k c).slots = s.slots := by
  unfold Pkg.taskCode; dsimp only; split <;> simp
@[simp] theorem Pkg.taskCode_groups (k c : Nat) : (s.taskCode k c).groups = s.groups := by
  unfold Pkg.taskCode; dsimp only; split <;> simp
@[simp] theorem Pkg.taskCode_stroke (k c : Nat) : (s.taskCode k c).stroke = s.stroke := by
  unfold Pkg.taskCode; dsimp only; split <;> simp
@[simp] theorem Pkg.taskCode_fab (k c : Nat) : (s.taskCode k c).fab = s.fab := by
  unfold Pkg.taskCode; dsimp only; split <;> simp
@[simp] theorem Pkg.taskCode_mem (k c : Nat) : (s.taskCode k c).mem = s.mem := by
  unfold Pkg.taskCode; dsimp only; split <;> simp
@[simp] theorem Pkg.taskCode_power (k c : Nat) : (s.taskCode k c).power = s.power := by
  unfold Pkg.taskCode; dsimp only; split <;> simp
@[simp] theorem Pkg.taskCode_clk (k c : Nat) : (s.taskCode k c).clk = s.clk := by
  unfold Pkg.taskCode; dsimp only; split <;> simp
@[simp] theorem Pkg.taskCode_rst (k c : Nat) : (s.taskCode k c).rst = s.rst := by
  unfold Pkg.taskCode; dsimp only; split <;> simp
@[simp] theorem Pkg.taskCode_easel (k c : Nat) : (s.taskCode k c).easel = s.easel := by
  unfold Pkg.taskCode; dsimp only; split <;> simp
@[simp] theorem Pkg.taskCode_meter (k c : Nat) : (s.taskCode k c).meter = s.meter := by
  unfold Pkg.taskCode; dsimp only; split <;> simp
@[simp] theorem Pkg.taskCode_mirror (k c : Nat) : (s.taskCode k c).mirror = s.mirror := by
  unfold Pkg.taskCode; dsimp only; split <;> simp
@[simp] theorem Pkg.taskCode_sec (k c : Nat) : (s.taskCode k c).sec = s.sec := by
  unfold Pkg.taskCode; dsimp only; split <;> simp
@[simp] theorem Pkg.taskCode_side (k c : Nat) : (s.taskCode k c).side = s.side := by
  unfold Pkg.taskCode; dsimp only; split <;> simp
@[simp] theorem Pkg.taskCode_msys (k c : Nat) : (s.taskCode k c).msys = s.msys := by
  unfold Pkg.taskCode; dsimp only; split <;> simp

end Sys2Proof.Machine
end

