-- ==== Sys2Proof/Laws/Tbl.lean ====
section
/-! SUPPORT. Sparse tables: reading after setting, erasing and mapping. -/

namespace Sys2Proof.Machine

variable {α : Type}

@[simp] theorem Tbl.find_set_same (t : Tbl α) (i : Nat) (v : α) : Tbl.find (Tbl.set t i v) i = some v := by
  induction t with
  | nil => simp [Tbl.set, Tbl.find]
  | cons h t ih =>
    obtain ⟨k, w⟩ := h
    simp only [Tbl.set]
    split
    · simp [Tbl.find]
    · split
      · simp [Tbl.find]
      · simp [Tbl.find, *]

theorem Tbl.find_set_ne (t : Tbl α) {i j : Nat} (v : α) (h : j ≠ i) : Tbl.find (Tbl.set t i v) j = Tbl.find t j := by
  induction t with
  | nil => simp [Tbl.set, Tbl.find, h.symm]
  | cons x t ih =>
    obtain ⟨k, w⟩ := x
    simp only [Tbl.set]
    split
    · subst_vars; simp [Tbl.find, h.symm]
    · split
      · simp [Tbl.find, h.symm]
      · simp [Tbl.find, ih]

@[simp] theorem Tbl.get_set_same (d : α) (t : Tbl α) (i : Nat) (v : α) : Tbl.get d (Tbl.set t i v) i = v := by
  simp [Tbl.get]

theorem Tbl.get_set_ne (d : α) (t : Tbl α) {i j : Nat} (v : α) (h : j ≠ i) :
    Tbl.get d (Tbl.set t i v) j = Tbl.get d t j := by
  simp [Tbl.get, Tbl.find_set_ne t v h]

theorem Tbl.get_set (d : α) (t : Tbl α) (i j : Nat) (v : α) :
    Tbl.get d (Tbl.set t i v) j = if j = i then v else Tbl.get d t j := by
  split
  · subst_vars; simp
  · exact Tbl.get_set_ne d t v ‹_›

@[simp] theorem Tbl.get_upd_same (d : α) (t : Tbl α) (i : Nat) (f : α → α) :
    Tbl.get d (Tbl.upd d t i f) i = f (Tbl.get d t i) := by simp [Tbl.upd]

theorem Tbl.get_upd_ne (d : α) (t : Tbl α) {i j : Nat} (f : α → α) (h : j ≠ i) :
    Tbl.get d (Tbl.upd d t i f) j = Tbl.get d t j := Tbl.get_set_ne d t _ h

end Sys2Proof.Machine
end

