-- ==== Sys2Proof/Laws/Cores.lean ====
section
/-! SUPPORT. Which operations leave the cores' records alone. -/

namespace Sys2Proof.Machine

variable (s : Pkg)

theorem foldl_cores {α : Type} (f : Pkg → α → Pkg) (h : ∀ s x, (f s x).cores = s.cores) (l : List α) (s : Pkg) :
    (l.foldl f s).cores = s.cores := by
  induction l generalizing s with
  | nil => rfl
  | cons x l ih => rw [List.foldl_cons, ih, h]

theorem foldl_fst_cores {α β : Type} (f : Pkg × β → α → Pkg × β) (h : ∀ r x, (f r x).1.cores = r.1.cores) (l : List α)
    (r : Pkg × β) : (l.foldl f r).1.cores = r.1.cores := by
  induction l generalizing r with
  | nil => rfl
  | cons x l ih => rw [List.foldl_cons, ih, h]

/-! ### Notes, ledgers, memory -/

@[simp] theorem Pkg.fresh_cores : s.fresh.2.cores = s.cores := rfl

@[simp] theorem Pkg.noteFor_cores (k : Option Nat) (c e : Nat) : (s.noteFor k c e).cores = s.cores := by
  unfold Pkg.noteFor; split <;> simp

@[simp] theorem Pkg.raiseFlag_cores (k : Option Nat) (c n : Nat) (b : Bool) : (s.raiseFlag k c n b).cores = s.cores := by
  unfold Pkg.raiseFlag; dsimp only; split <;> simp

@[simp] theorem Pkg.ledgerAdd_cores (c t n m : Nat) (f : LedgerCount → LedgerCount) : (s.ledgerAdd c t n m f).cores = s.cores := by
  unfold Pkg.ledgerAdd; dsimp only; split <;> simp

@[simp] theorem Pkg.localNonfin_cores (k i : Nat) (t : TensorRef) : (s.localNonfin k i t).cores = s.cores := by
  unfold Pkg.localNonfin; dsimp only; split <;> simp

@[simp] theorem Pkg.converted_cores (k i : Nat) (t : TensorRef) (o : Int) (vs : List Num) (cs : List Conv) (r e : Nat) :
    (s.converted k i t o vs cs r e).cores = s.cores := by
  unfold Pkg.converted; dsimp only; (repeat' split) <;> simp

@[simp] theorem Pkg.setMem_cores (m : MemSt) : (s.setMem m).cores = s.cores := rfl
@[simp] theorem Pkg.poisonGranule_cores (g f : Nat) : (s.poisonGranule g f).cores = s.cores := by simp [Pkg.poisonGranule]
@[simp] theorem Pkg.correct_cores (g : Nat) : (s.correct g).cores = s.cores := by simp [Pkg.correct]

@[simp] theorem Pkg.touch1_cores (f g : Nat) : (s.touch1 f g).cores = s.cores := by
  unfold Pkg.touch1; dsimp only; (repeat' split) <;> simp
@[simp] theorem Pkg.fillFrame_cores (p : PageFill) : (s.fillFrame p).cores = s.cores :=
  foldl_cores _ (fun s g => s.touch1_cores 0 g) _ _
@[simp] theorem Pkg.fillBefore_cores (g : Nat) : (s.fillBefore g).cores = s.cores := by
  unfold Pkg.fillBefore; split <;> simp
@[simp] theorem Pkg.touch_cores (f : Nat) (gs : List Nat) : (s.touch f gs).cores = s.cores :=
  foldl_cores _ (fun s g => by simp) _ _
@[simp] theorem Pkg.fillCtx_cores (c : Nat) : (s.fillCtx c).cores = s.cores :=
  foldl_cores _ (fun s p => s.fillFrame_cores p) _ _
@[simp] theorem Pkg.cacheAt_cores (c a : Nat) : (s.cacheAt c a).cores = s.cores := by
  unfold Pkg.cacheAt; split <;> rfl
@[simp] theorem Pkg.took_cores (r : Rd) : (s.took r).cores = s.cores := by
  unfold Pkg.took
  rw [foldl_cores (fun s (p : Nat × Nat) => s.cacheAt p.1 p.2) (fun s p => s.cacheAt_cores p.1 p.2)]
  simp
@[simp] theorem Pkg.tookAll_cores (rs : List Rd) : (s.tookAll rs).cores = s.cores := foldl_cores _ (fun s r => s.took_cores r) _ _
@[simp] theorem Pkg.tookOnce_cores (rs : List Rd) : (s.tookOnce rs).cores = s.cores := by simp [Pkg.tookOnce]

@[simp] theorem Pkg.dWrite_cores (a : Nat) (bs : Bytes) (b r : Bool) (h : Nat) (m : Bool) : (s.dWrite a bs b r h m).cores = s.cores := by
  unfold Pkg.dWrite; split <;> simp
@[simp] theorem Pkg.dLand_cores (op : WrBy) (a : Nat) (bs : Bytes) (b : Bool) : (s.dLand op a bs b).1.cores = s.cores := by
  unfold Pkg.dLand; split <;> simp
@[simp] theorem Pkg.copyFrame_cores (c a b : Nat) : (s.copyFrame c a b).cores = s.cores := by
  unfold Pkg.copyFrame; split <;> simp
@[simp] theorem Pkg.setVrec_cores (r : Nat) (v : VRec) : (s.setVrec r v).cores = s.cores := by
  unfold Pkg.setVrec; split <;> simp
@[simp] theorem Pkg.retire_cores (fs : List Nat) : (s.retire fs).cores = s.cores := rfl

theorem Pkg.takeFrame_cores {f : Nat} {u : Pkg} (h : s.takeFrame = some (f, u)) : u.cores = s.cores := by
  simp only [Pkg.takeFrame] at h
  split at h
  · simp at h
  · split at h
    · rw [Option.some.injEq, Prod.mk.injEq] at h
      rw [← h.2]
    · split at h
      · rw [Option.some.injEq, Prod.mk.injEq] at h
        rw [← h.2]
      · simp at h

theorem Pkg.writeFrame_cores {c r f : Nat} {u : Pkg} {b : Bool} (h : s.writeFrame c r = (some (f, u), b)) : u.cores = s.cores := by
  simp only [Pkg.writeFrame] at h
  split at h
  · rw [Prod.mk.injEq, Option.some.injEq, Prod.mk.injEq] at h
    rw [← h.1.2]
    simp
  · split at h
    · simp at h
    · split at h
      · simp at h
      · rename_i hf
        rw [Prod.mk.injEq, Option.some.injEq, Prod.mk.injEq] at h
        rw [← h.1.2]
        simp [Pkg.takeFrame_cores s hf]

@[simp] theorem Pkg.arrive_cores (c a n : Nat) : (s.arrive c a n).cores = s.cores := by
  unfold Pkg.arrive
  refine foldl_cores _ (fun s w => ?_) _ _
  dsimp only
  split <;> simp

/-- The package that a write's outcome leaves. -/
def WrRes.pkg : WrRes → Pkg
  | .done s _ => s
  | .fault s => s
  | .staged s _ _ => s

theorem Pkg.vWrite1_cores (c a : Nat) (op : WrBy) (bs : Bytes) (b : Bool) (acc : Acc) :
    (s.vWrite1 c a op bs b acc).pkg.cores = s.cores := by
  unfold Pkg.vWrite1
  split
  · simp [WrRes.pkg]
  · simp [WrRes.pkg]
  · dsimp only
    split
    · simp [WrRes.pkg]
    · split
      · rename_i hf
        split
        · simp [WrRes.pkg, Pkg.writeFrame_cores _ hf]
        · simp [WrRes.pkg]
      · simp [WrRes.pkg]

@[simp] theorem Pkg.vWritePart_cores (c : Nat) (w : StagedWrite) : (s.vWritePart c w).1.cores = s.cores := by
  have h := s.vWrite1_cores c w.addr w.by_ w.data w.bad (if w.by_.pkt.isSome then Acc.remoteWrite else .write)
  unfold Pkg.vWritePart
  dsimp only
  split
  · simp
  · split
    · rename_i hw
      rw [hw] at h
      split
      · simpa [WrRes.pkg] using h
      · exact h
    · rename_i hw
      rw [hw] at h
      exact h
    · rename_i hw
      rw [hw] at h
      split
      · simpa [WrRes.pkg] using h
      · simpa [WrRes.pkg] using h

@[simp] theorem Pkg.vWriteAs_cores (b : WrBy) (c a : Nat) (bs : Bytes) (p : Bool) : (s.vWriteAs b c a bs p).1.cores = s.cores := by
  unfold Pkg.vWriteAs
  refine foldl_fst_cores _ (fun r q => ?_) _ _
  exact r.1.vWritePart_cores _ _

@[simp] theorem Pkg.vWrite_cores (c a : Nat) (bs : Bytes) (b : Bool) : (s.vWrite c a bs b).1.cores = s.cores := by
  simp [Pkg.vWrite]

@[simp] theorem Pkg.taskFault_cores (k u : Nat) : (s.taskFault k u).cores = s.cores := by simp [Pkg.taskFault]

@[simp] theorem Pkg.taskRead_cores (k u a n : Nat) : (s.taskRead k u a n).2.cores = s.cores := by
  unfold Pkg.taskRead; dsimp only; (repeat' split) <;> simp

@[simp] theorem Pkg.taskWrite_cores (k u a : Nat) (bs : Bytes) (b : Bool) : (s.taskWrite k u a bs b).cores = s.cores := by
  unfold Pkg.taskWrite; dsimp only; split <;> simp

/-! ### Packets -/

@[simp] theorem Pkg.freeRoom_cores (r : Option Room) : (s.freeRoom r).cores = s.cores := by
  unfold Pkg.freeRoom; split <;> simp

@[simp] theorem Pkg.sendSymbol_cores (n q : Nat) (d : Bytes) : (s.sendSymbol n q d).cores = s.cores := by
  simp [Pkg.sendSymbol]

@[simp] theorem Pkg.closeBlock_cores (n : Nat) : (s.closeBlock n).cores = s.cores := by
  unfold Pkg.closeBlock; dsimp only; split <;> simp

@[simp] theorem Pkg.place_cores (n : Nat) (m : Moving) : (s.place n m).cores = s.cores := by
  unfold Pkg.place; dsimp only; (repeat' split) <;> simp

@[simp] theorem Pkg.transmit_cores (n : Nat) (m : Moving) : (s.transmit n m).cores = s.cores := by
  unfold Pkg.transmit; dsimp only; split <;> simp

@[simp] theorem Pkg.routeDrop_cores (p : Packet) (a : Option Nat) (r : Nat) : (s.routeDrop p a r).cores = s.cores := by
  simp [Pkg.routeDrop]

@[simp] theorem Pkg.forward_cores (p : Packet) (a : Option Nat) (r : Option Room) : (s.forward p a r).cores = s.cores := by
  unfold Pkg.forward; dsimp only; split
  · simp
  · simp
  · split <;> simp

@[simp] theorem Pkg.number_cores (a b c d e : Nat) : (s.number a b c d e).2.cores = s.cores := by
  unfold Pkg.number; dsimp only; split <;> rfl

@[simp] theorem Pkg.inject_cores (h : Hd) (p : Bytes) : (s.inject h p).2.cores = s.cores := by
  simp [Pkg.inject]

@[simp] theorem Pkg.txeMoved_cores (n : Nat) : (s.txeMoved n).cores = s.cores := rfl

@[simp] theorem Pkg.injectTracked_cores (x : Nat) (h : Hd) (p : Bytes) : (s.injectTracked x h p).cores = s.cores := by
  unfold Pkg.injectTracked; dsimp only; split <;> simp

/-! ### Transfers -/

@[simp] theorem Pkg.updXfer_cores (k : Nat) (f : Xfer → Xfer) : (s.updXfer k f).cores = s.cores := rfl
@[simp] theorem Pkg.addXfer_cores (x : Xfer) : (s.addXfer x).cores = s.cores := rfl
@[simp] theorem Pkg.askRead_cores (x : Xfer) : (s.askRead x).cores = s.cores := by simp [Pkg.askRead]

@[simp] theorem Pkg.sendAll_cores (k : Nat) (h : Hd) (ps : List (Nat × Bytes)) : (s.sendAll k h ps).cores = s.cores := by
  induction ps generalizing s with
  | nil => rfl
  | cons p ps ih => simp [Pkg.sendAll, ih]

@[simp] theorem Pkg.deposit_cores (k u c a : Nat) (bs : Bytes) (b : Bool) : (s.deposit k u c a bs b).1.cores = s.cores := by
  simp [Pkg.deposit]

@[simp] theorem Pkg.ctxIrq_cores (c : Nat) : (s.ctxIrq c).cores = s.cores := by
  unfold Pkg.ctxIrq; dsimp only; split <;> simp

@[simp] theorem Pkg.versionMode_cores (m c t n o v : Nat) : (s.versionMode m c t n o v).cores = s.cores := by
  unfold Pkg.versionMode; dsimp only; (repeat' split) <;> simp

@[simp] theorem Pkg.readForWire_cores (k : Nat) (us : List (Bytes × Bool)) : (s.readForWire k us).2.cores = s.cores := by
  unfold Pkg.readForWire; dsimp only; split <;> simp

@[simp] theorem Pkg.copyOutLocal_cores (c k : Nat) (us : List (Bytes × Bool)) (a : Nat) : (s.copyOutLocal c k us a).cores = s.cores := by
  unfold Pkg.copyOutLocal
  dsimp only
  have := foldl_fst_cores (fun (acc : Pkg × Bool × Sticky × Bool) (g : Nat × List (Bytes × Bool)) =>
      ((acc.1.deposit k (Unit.cluster (clusterOf c)) (s.task k).ctx g.1 (g.2.flatMap (·.1)) (g.2.any (·.2))).1,
        acc.2.1 || (acc.1.deposit k (Unit.cluster (clusterOf c)) (s.task k).ctx g.1 (g.2.flatMap (·.1)) (g.2.any (·.2))).2.1,
        acc.2.2.1.or (acc.1.deposit k (Unit.cluster (clusterOf c)) (s.task k).ctx g.1 (g.2.flatMap (·.1)) (g.2.any (·.2))).2.2,
        acc.2.2.2 || g.2.any (·.2))) (fun r x => by simp) (byGranule a us) (s, false, {}, false)
  (repeat' split) <;> simp <;> exact this

end Sys2Proof.Machine
end

