-- ==== Sys2Proof/Laws/Engines.lean ====
section
/-! SUPPORT. What each engine's slot does to the cores' records: every part of them that the slot does not name is kept. -/

namespace Sys2Proof.Machine

/-- Two packages agree, core by core, on what `P` sees. -/
def Keeps {α : Type} (P : CoreSt → α) (u s : Pkg) : Prop := ∀ j, P (u.core j) = P (s.core j)

variable {α : Type} {P : CoreSt → α}

theorem Keeps.refl (s : Pkg) : Keeps P s s := fun _ => rfl
theorem Keeps.trans {u v s : Pkg} (h : Keeps P u v) (k : Keeps P v s) : Keeps P u s := fun j => (h j).trans (k j)
theorem Keeps.of_cores {u s : Pkg} (h : u.cores = s.cores) : Keeps P u s := fun j => by simp only [Pkg.core, h]

theorem Pkg.core_updCore (s : Pkg) (c : Nat) (f : CoreSt → CoreSt) (j : Nat) :
    (s.updCore c f).core j = if j = c then f (s.core c) else s.core j := by
  simp only [Pkg.updCore, Pkg.setCore, Pkg.core, Tbl.get_set]

@[simp] theorem Pkg.core_updCore_same (s : Pkg) (c : Nat) (f : CoreSt → CoreSt) : (s.updCore c f).core c = f (s.core c) := by
  simp [Pkg.core_updCore]

theorem Keeps.updCore (s : Pkg) (c : Nat) {f : CoreSt → CoreSt} (h : ∀ x, P (f x) = P x) : Keeps P (s.updCore c f) s := by
  intro j
  rw [Pkg.core_updCore]
  split
  · subst_vars; exact h _
  · rfl

theorem Keeps.foldl {β : Type} {f : Pkg → β → Pkg} (h : ∀ s x, Keeps P (f s x) s) (l : List β) (s : Pkg) :
    Keeps P (l.foldl f s) s := by
  induction l generalizing s with
  | nil => exact .refl s
  | cons x l ih => exact (ih _).trans (h s x)

theorem Keeps.of_ite {b : Prop} [Decidable b] {u s : Pkg} (h : Keeps P u s) : Keeps P (if b then u else s) s := by
  split
  · exact h
  · exact .refl s

theorem Keeps.of_ite_else {b : Prop} [Decidable b] {u s : Pkg} (h : Keeps P u s) : Keeps P (if b then s else u) s := by
  split
  · exact .refl s
  · exact h

/-- A counter of a core's block that `P` does not see. -/
def CtrFree (P : CoreSt → α) (off : Nat) : Prop := ∀ x n, P { x with ctr := x.ctr.upd 0 off (· + n) } = P x

theorem Keeps.coreCount (s : Pkg) (c : Nat) {off : Nat} (n : Nat) (h : CtrFree P off) : Keeps P (s.coreCount c off n) s :=
  .updCore s c fun x => h x n

theorem Keeps.lWrite (s : Pkg) (c : Nat) (w : LWrite) (h : ∀ x a b d, P { x with pal := a, palWritten := b, palPoison := d } = P x) :
    Keeps P (s.lWrite c w) s := by
  unfold Pkg.lWrite
  dsimp only
  split
  · exact .updCore s c fun x => h x _ _ _
  · exact .of_cores rfl

/-! ### The matrix engine -/

theorem Keeps.metaReports (s : Pkg) (c k u n : Nat) (h : CtrFree P 0x28) : Keeps P (s.metaReports c k u n) s := by
  induction n generalizing s with
  | zero => exact .refl s
  | succ n ih => exact (ih _).trans ((Keeps.of_cores (by simp)).trans (.coreCount s c 1 h))

@[simp] theorem Pkg.offsetReports_cores (s : Pkg) (k u n : Nat) : (s.offsetReports k u n).cores = s.cores := by
  induction n generalizing s with
  | zero => rfl
  | succ n ih => simp [Pkg.offsetReports, ih]

@[simp] theorem Pkg.scaleReports_cores (s : Pkg) (k u n : Nat) : (s.scaleReports k u n).cores = s.cores := by
  induction n generalizing s with
  | zero => rfl
  | succ n ih => simp [Pkg.scaleReports, ih]

theorem Keeps.mma (pre s : Pkg) (c k : Nat) (w : CWord) (rep : Nat) (ha : ∀ x a, P { x with acc := a } = P x)
    (h0 : CtrFree P 0) (h1 : CtrFree P 0x20) (h2 : CtrFree P 0x28) : Keeps P (pre.mma s c k w rep) s := by
  unfold Pkg.mma
  generalize pre.mmaOut c k w rep = r
  dsimp only
  have H : Keeps P (((((((s.updCore c fun x => { x with acc := x.acc.set (mmaF (w.slot 4)).acc r.acc }).coreCount c 0x00 r.steps).coreCount
      c 0x20 r.zeros).taskFlags k r.fl).metaReports c k (Unit.engine c 0) r.metas).offsetReports k (Unit.engine c 0) r.offs).scaleReports k (Unit.engine c 0) r.scs) s :=
    (Keeps.of_cores (Pkg.scaleReports_cores _ _ _ _)).trans <|
    (Keeps.of_cores (Pkg.offsetReports_cores _ _ _ _)).trans <| (Keeps.metaReports _ _ _ _ _ h2).trans <|
      (Keeps.of_cores (Pkg.taskFlags_cores _ _ _)).trans <| (Keeps.coreCount _ _ _ h1).trans <|
      (Keeps.coreCount _ _ _ h0).trans (.updCore _ _ fun x => ha x _)
  split
  · exact H
  · exact (Keeps.of_cores (Pkg.taskCode_cores _ _ _)).trans H

@[simp] theorem Pkg.halfOut_cores (pre s : Pkg) (c k : Nat) (f : OutF) (t : TensorRef) (vs : List Num) (h : Nat) :
    (pre.halfOut c k f t vs s h).1.cores = s.cores := by
  unfold Pkg.halfOut
  dsimp only
  split
  · (repeat' split) <;> simp
  · split
    · rfl
    · split <;> simp

@[simp] theorem Pkg.writeout_cores (pre s : Pkg) (c k : Nat) (w : CWord) (f : OutF) (t : TensorRef) :
    (pre.writeout s c k w f t).1.cores = s.cores := by
  unfold Pkg.writeout
  dsimp only
  (repeat' split) <;> simp

@[simp] theorem Pkg.writeFrames_cores (pre s : Pkg) (c k : Nat) (w : CWord) (f : OutF) (t : TensorRef) :
    (pre.writeFrames s c k w f t).1.cores = s.cores := by
  unfold Pkg.writeFrames
  generalize pre.contribFrame c k f t (pre.outValues c k f t) 0 = b0
  generalize pre.contribFrame c k f t (pre.outValues c k f t) 1 = b1
  dsimp only
  (repeat' split) <;> simp

theorem Keeps.outIssue (pre s : Pkg) (c k : Nat) (w : CWord) (f : OutF) (ha : ∀ x a, P { x with acc := a } = P x) :
    Keeps P (pre.outIssue s c k w f).1 s := by
  unfold Pkg.outIssue
  split
  · have H : Keeps P (s.updCore c fun x => { x with acc := x.acc.upd {} f.acc fun a => { a with written := true } }) s :=
      .updCore _ _ fun x => ha x _
    dsimp only
    split
    · exact (Keeps.of_cores (Pkg.writeFrames_cores _ _ _ _ _ _ _)).trans H
    · exact (Keeps.of_cores (Pkg.writeout_cores _ _ _ _ _ _ _)).trans H
  · exact .refl s

/-- The MXE slot changes accumulator sets and the counters at 0x00, 0x20 and 0x28. -/
theorem Keeps.mxeIssue (pre s : Pkg) (c k : Nat) (w : CWord) (rep : Nat) (ha : ∀ x a, P { x with acc := a } = P x)
    (h0 : CtrFree P 0) (h1 : CtrFree P 0x20) (h2 : CtrFree P 0x28) : Keeps P (pre.mxeIssue s c k w rep).1 s := by
  unfold Pkg.mxeIssue
  split
  · exact .refl s
  · split
    · dsimp only
      exact Keeps.mma pre s c k w rep ha h0 h1 h2
    · exact .outIssue pre s c k w _ ha
    · exact .refl s

/-! ### The vector engine -/

theorem Keeps.vregPut (s : Pkg) (c k vd : Nat) (r : VReg × Sticky) (hv : ∀ x a, P { x with vreg := a } = P x) :
    Keeps P (s.vregPut c k vd r) s :=
  (Keeps.of_cores (Pkg.taskFlags_cores _ _ _)).trans (.updCore _ _ fun x => hv x _)

@[simp] theorem Pkg.badOffset_cores (s : Pkg) (c k : Nat) (f : VxeF) : (s.badOffset c k f).cores = s.cores := by
  unfold Pkg.badOffset; split <;> simp

theorem Keeps.vxeLoadIssue (pre s : Pkg) (c k : Nat) (w : CWord) (f : VxeF) (hv : ∀ x a, P { x with vreg := a } = P x) :
    Keeps P (pre.vxeLoadIssue s c k w f) s := by
  unfold Pkg.vxeLoadIssue
  split
  · have H := fun r => (Keeps.vregPut (s.badOffset c k f) c k f.vd r hv).trans (.of_cores (Pkg.badOffset_cores s c k f))
    dsimp only
    split
    · exact H _
    · exact (Keeps.of_cores (Pkg.taskCode_cores _ _ _)).trans (H _)
  · exact .refl s

@[simp] theorem Pkg.vxeStoreIssue_cores (pre s : Pkg) (c k : Nat) (w : CWord) (f : VxeF) :
    (pre.vxeStoreIssue s c k w f).1.cores = s.cores := by
  unfold Pkg.vxeStoreIssue
  split
  · generalize pre.vxeStore c k f _ = r
    simp
  · rfl

theorem Keeps.tableLoadIssue (pre s : Pkg) (c k : Nat) (w : CWord) (f : VxeF) (ht : ∀ x a, P { x with tps := a } = P x) :
    Keeps P (pre.tableLoadIssue s c k w f) s := by
  unfold Pkg.tableLoadIssue
  dsimp only
  split
  · exact (Keeps.of_cores (Pkg.taskCode_cores _ _ _)).trans (.updCore _ _ fun x => ht x _)
  · exact .updCore _ _ fun x => ht x _

/-- The VXE slot changes vector registers and table-pair slots. -/
theorem Keeps.vxeIssue (pre s : Pkg) (c k : Nat) (w : CWord) (hv : ∀ x a, P { x with vreg := a } = P x)
    (ht : ∀ x a, P { x with tps := a } = P x) : Keeps P (pre.vxeIssue s c k w).1 s := by
  unfold Pkg.vxeIssue
  split
  · exact .refl s
  · dsimp only
    split
    · exact .refl s
    · exact .vxeLoadIssue _ _ _ _ _ _ hv
    · exact .of_cores (Pkg.vxeStoreIssue_cores _ _ _ _ _ _)
    · exact .tableLoadIssue _ _ _ _ _ _ ht
    · exact .vregPut _ _ _ _ _ hv

/-! ### The row engine -/

/-- What the row engine changes in a core: statistics, the spill region and its marks, its two counters, and palette bytes (a spill region in the palette). -/
structure RweFree (P : CoreSt → α) : Prop where
  stats : ∀ x a, P { x with stats := a } = P x
  marks : ∀ x a, P { x with spillMarks := a } = P x
  spill : ∀ x a, P { x with spill := a } = P x
  pal   : ∀ x a b d, P { x with pal := a, palWritten := b, palPoison := d } = P x
  c30   : CtrFree P 0x30
  c38   : CtrFree P 0x38

theorem Keeps.spillOut (h : RweFree P) (s : Pkg) (c k : Nat) (e : StatEntry) : Keeps P (s.spillOut c k e) s := by
  unfold Pkg.spillOut
  dsimp only
  have H : Keeps P (s.coreCount c 0x30 1) s := .coreCount _ _ _ h.c30
  split
  · split
    · exact (Keeps.updCore _ _ fun x => h.marks x _).trans ((Keeps.lWrite _ _ _ h.pal).trans ((Keeps.lWrite _ _ _ h.pal).trans H))
    · exact (Keeps.of_cores (Pkg.taskEvent_cores _ _ _ _ _ _)).trans H
  · exact (Keeps.of_cores (Pkg.taskEvent_cores _ _ _ _ _ _)).trans H

theorem Keeps.statWrite (h : RweFree P) (s : Pkg) (c k t r a b : Nat) : Keeps P (s.statWrite c k t r a b) s := by
  unfold Pkg.statWrite
  dsimp only
  split
  · exact .updCore _ _ fun x => h.stats x _
  · split
    · exact .lWrite _ _ _ h.pal
    · split
      · exact .updCore _ _ fun x => h.stats x _
      · split
        · exact (Keeps.spillOut h _ _ _ _).trans (.updCore _ _ fun x => h.stats x _)
        · exact .refl s

theorem Keeps.statRead (h : RweFree P) (s : Pkg) (c k t r : Nat) (b : Bool) : Keeps P (s.statRead c k t r b).2 s := by
  unfold Pkg.statRead
  dsimp only
  split
  · split
    · exact .updCore _ _ fun x => h.stats x _
    · exact .refl s
  · split
    · dsimp only
      split
      · exact .updCore _ _ fun x => h.marks x _
      · exact .refl s
    · exact .refl s

theorem Keeps.rweRow (h : RweFree P) (pre : Pkg) (c k : Nat) (f : RweF) (r : Nat) (x g : List FV × Bool) (a : RweAcc) :
    Keeps P (pre.rweRow c k f r x g a).s a.s := by
  unfold Pkg.rweRow
  dsimp only
  split
  · split <;> exact .statRead h _ _ _ _ _ _
  · exact (Keeps.statWrite h _ _ _ _ _ _ _).trans (.of_cores (by simp))

theorem Keeps.rweRun (h : RweFree P) (pre s : Pkg) (c k : Nat) (w : CWord) (f : RweF) : Keeps P (pre.rweRun s c k w f).s s := by
  unfold Pkg.rweRun
  dsimp only
  generalize pre.rweRows c w f.inS f.inF (pre.rweLen c f) f.rows = xs
  generalize (if f.bwd = true then pre.rweRows c w f.gS f.inF (pre.rweLen c f) f.rows else []) = gs
  suffices H : ∀ (l : List Nat) (a : RweAcc), Keeps P
      (l.foldl (fun a r => pre.rweRow c k f r (xs.getD r ([], false)) (gs.getD r ([], false)) a) a).s a.s from
    (H _ { s := s.taskFlags k _ }).trans (.of_cores (Pkg.taskFlags_cores _ _ _))
  intro l
  induction l with
  | nil => exact fun a => .refl _
  | cons r l ih => exact fun a => (ih _).trans (Keeps.rweRow h _ _ _ _ _ _ _ _)

@[simp] theorem Pkg.rweNans_cores (s : Pkg) (k id : Nat) (f : RweF) (vs : List Num) : (s.rweNans k id f vs).cores = s.cores := by
  unfold Pkg.rweNans
  dsimp only
  split <;> simp

/-- The RWE slot changes what `RweFree` names. -/
theorem Keeps.rweIssue (h : RweFree P) (pre s : Pkg) (c k : Nat) (w : CWord) : Keeps P (pre.rweIssue s c k w).1 s := by
  unfold Pkg.rweIssue
  split
  · exact .refl s
  · dsimp only
    split
    · exact .refl s
    · split
      · unfold Pkg.spillSet
        split
        · exact (Keeps.of_cores (Pkg.updCtx_cores _ _ _)).trans (.updCore _ _ fun x => h.spill x _)
        · exact .refl s
      · have H := Keeps.rweRun h pre s c k w (rweF (w.slot 6))
        generalize pre.rweRun s c k w (rweF (w.slot 6)) = a at H ⊢
        refine Keeps.trans ?_ H
        dsimp only
        refine Keeps.trans (Keeps.of_ite (Keeps.of_cores (Pkg.taskCode_cores _ _ _))) ?_
        refine Keeps.trans (Keeps.of_ite ((Keeps.of_cores (Pkg.taskEvent_cores _ _ _ _ _ _)).trans
          (Keeps.coreCount _ _ _ h.c38))) ?_
        split
        · exact (Keeps.of_cores (Pkg.converted_cores _ _ _ _ _ _ _ _ _)).trans (.of_cores (Pkg.taskFlags_cores _ _ _))
        · exact (Keeps.of_cores (Pkg.rweNans_cores _ _ _ _ _)).trans
            ((Keeps.of_cores (Pkg.taskFlags_cores _ _ _)).trans (.of_cores (Pkg.taskFlags_cores _ _ _)))

/-! ### The sparsity and dispatch engine -/

theorem Keeps.rangeReports (s : Pkg) (c k n : Nat) (h : CtrFree P 0x40) : Keeps P (s.rangeReports c k n) s := by
  induction n generalizing s with
  | zero => exact .refl s
  | succ n ih => exact (ih _).trans ((Keeps.of_cores (Pkg.taskEvent_cores _ _ _ _ _ _)).trans (.coreCount s c 1 h))

theorem Keeps.gather (pre s : Pkg) (c k : Nat) (f : SdeF) (p : SdeP) (h0 : CtrFree P 0x40) (h8 : CtrFree P 0x48) :
    Keeps P (pre.gather s c k f p).1 s := by
  unfold Pkg.gather
  dsimp only
  refine Keeps.trans (Keeps.of_ite (Keeps.of_cores (Pkg.taskCode_cores _ _ _))) ?_
  refine Keeps.trans (Keeps.of_ite (Keeps.of_cores (Pkg.taskEvent_cores _ _ _ _ _ _))) ?_
  exact (Keeps.coreCount _ _ _ h8).trans ((Keeps.coreCount _ _ _ h0).trans (.rangeReports _ _ _ _ h0))

@[simp] theorem Pkg.scatter_cores (pre s : Pkg) (c k : Nat) (f : SdeF) (p : SdeP) : (pre.scatter s c k f p).1.cores = s.cores := by
  unfold Pkg.scatter
  dsimp only
  split <;> simp

/-- The SDE slot changes the counters at 0x40 and 0x48. -/
theorem Keeps.sdeIssue (pre s : Pkg) (c k : Nat) (w : CWord) (h0 : CtrFree P 0x40) (h8 : CtrFree P 0x48) :
    Keeps P (pre.sdeIssue s c k w).1 s := by
  unfold Pkg.sdeIssue
  split
  · exact .refl s
  · dsimp only
    split
    · exact .gather _ _ _ _ _ _ h0 h8
    · split
      · exact .of_cores (Pkg.scatter_cores _ _ _ _ _ _)
      · exact .refl s

/-! ### The transfer engine -/

theorem Keeps.copyInLocal (s : Pkg) (c k : Nat) (us : List Nat) (a : Nat)
    (h : ∀ x a b d, P { x with pal := a, palWritten := b, palPoison := d } = P x) : Keeps P (s.copyInLocal c k us a) s := by
  unfold Pkg.copyInLocal
  dsimp only
  refine Keeps.trans (Keeps.foldl (fun s r => Keeps.lWrite s c _ h) _ _) ?_
  refine Keeps.trans (Keeps.of_ite (Keeps.of_cores (Pkg.taskCode_cores _ _ _))) ?_
  refine Keeps.trans (Keeps.of_ite (Keeps.of_cores (Pkg.taskFault_cores _ _ _))) ?_
  exact .of_cores (by simp)

theorem Keeps.copyInIssue (pre s : Pkg) (c k : Nat) (w : CWord) (f : TxeF) (t : TensorRef) (m : Option AxMap) (id : Nat)
    (h : ∀ x a b d, P { x with pal := a, palWritten := b, palPoison := d } = P x) :
    Keeps P (pre.copyInIssue s c k w f t m id) s := by
  unfold Pkg.copyInIssue
  dsimp only
  split
  · exact .copyInLocal _ _ _ _ _ h
  · split <;> exact .of_cores (by simp)

@[simp] theorem Pkg.translate_cores (s : Pkg) (c : Nat) (vas : List Nat) : (s.translate c vas).cores = s.cores :=
  foldl_cores _ (fun s _ => s.took_cores _) _ _

@[simp] theorem Pkg.copyOutIssue_cores (pre s : Pkg) (c k : Nat) (w : CWord) (f : TxeF) (t : TensorRef) (m : Option AxMap) (id : Nat) :
    (pre.copyOutIssue s c k w f t m id).cores = s.cores := by
  unfold Pkg.copyOutIssue
  dsimp only
  split
  · simp
  · split <;> simp

@[simp] theorem Pkg.relayIssue_cores (pre s : Pkg) (c k : Nat) (w : CWord) (f : TxeF) (t : TensorRef) (m : Option AxMap) (id : Nat) :
    (pre.relayIssue s c k w f t m id).cores = s.cores := by
  unfold Pkg.relayIssue
  dsimp only
  split
  · split
    · split
      · split <;> simp
      · split <;> simp
    · split <;> simp
  · rfl

@[simp] theorem Pkg.reduceIssue_cores (pre s : Pkg) (c k : Nat) (w : CWord) (f : TxeF) (t : TensorRef) (ids : List Nat) :
    (pre.reduceIssue s c k w f t ids).cores = s.cores := by
  unfold Pkg.reduceIssue
  exact foldl_cores _ (fun s _ => (Pkg.addXfer_cores _ _).trans (s.translate_cores _ _)) _ _

/-- The TXE slot changes the palette. -/
theorem Keeps.txeIssue (pre s : Pkg) (c k : Nat) (w : CWord)
    (h : ∀ x a b d, P { x with pal := a, palWritten := b, palPoison := d } = P x) : Keeps P (pre.txeIssue s c k w) s := by
  unfold Pkg.txeIssue
  split
  · exact .refl s
  · dsimp only
    split
    · exact .refl s
    · split
      · exact .of_cores rfl
      · split
        · exact (Keeps.copyInIssue _ _ _ _ _ _ _ _ _ h).trans (.of_cores rfl)
        · split
          · exact .of_cores (Pkg.copyOutIssue_cores _ _ _ _ _ _ _ _ _)
          · split
            · exact .of_cores (Pkg.relayIssue_cores _ _ _ _ _ _ _ _ _)
            · exact .of_cores (Pkg.reduceIssue_cores _ _ _ _ _ _ _ _)

end Sys2Proof.Machine
end

