-- ==== Sys2Proof/Laws/Issue.lean ====
section
/-! SUPPORT. What a repeat does to its core when it issues, is skipped or is held, said once for each part of the core's record. -/

namespace Sys2Proof.Machine

variable {α : Type} {P : CoreSt → α}

/-! ### The sequencer's own slots -/

theorem Keeps.noteClash (s : Pkg) (c k : Nat) (ws : List LWrite) (h : CtrFree P 0x10)
    (hl : ∀ x a, P { x with clashLogged := a } = P x) : Keeps P (s.noteClash c k ws) s := by
  unfold Pkg.noteClash
  split
  · exact .refl s
  · have H : ∀ n, Keeps P (s.fresh.2.coreCount c 0x10 n) s := fun n => (Keeps.coreCount _ _ _ h).trans (.of_cores rfl)
    dsimp only
    split
    · exact H _
    · exact (Keeps.of_cores (Pkg.taskEvent_cores _ _ _ _ _ _)).trans ((Keeps.updCore _ _ fun x => hl x _).trans (H _))

theorem Keeps.agAfter (pre s : Pkg) (c : Nat) (w : CWord) (img : Image) (us : List Use) (j : Nat)
    (h : ∀ x a, P { x with ags := a } = P x) : Keeps P (pre.agAfter s c w img us j) s := by
  unfold Pkg.agAfter
  dsimp only
  split
  · exact .refl s
  · split
    all_goals first | exact .updCore _ _ fun x => h x _ | exact .refl s

theorem Keeps.sclAfter (pre s : Pkg) (c : Nat) (w : CWord)
    (h : ∀ x a b d e, P { x with sreg := a, ct := b, cp := d, lc := e } = P x) : Keeps P (pre.sclAfter s c w) s := by
  unfold Pkg.sclAfter
  dsimp only
  split
  · exact .refl s
  · split
    all_goals first
      | exact .updCore _ _ fun x => h x _ x.ct x.cp x.lc
      | exact .updCore _ _ fun x => h x x.sreg _ x.cp x.lc
      | exact .updCore _ _ fun x => h x x.sreg x.ct _ x.lc
      | exact .updCore _ _ fun x => h x x.sreg x.ct x.cp _
      | exact .refl s

theorem Keeps.advance (s : Pkg) (c : Nat) (r : List LoopLvl × Nat × Bool)
    (h : ∀ x a b d e f, P { x with loops := a, pc := b, rep := d, clashLogged := e, ended := f } = P x) :
    Keeps P (s.advance c r) s := .updCore _ _ fun x => h x _ _ _ _ _

/-! ### A repeat that issues -/

/-- The engines' and the transfer engine's part of a repeat: everything but the sequencer's own slots. -/
structure EngineFree (P : CoreSt → α) : Prop extends RweFree P where
  acc  : ∀ x a, P { x with acc := a } = P x
  vreg : ∀ x a, P { x with vreg := a } = P x
  tps  : ∀ x a, P { x with tps := a } = P x
  clash : ∀ x a, P { x with clashLogged := a } = P x
  busy : ∀ x a b, P { x with busy := a, hold := b } = P x
  c00 : CtrFree P 0x00
  c08 : CtrFree P 0x08
  c10 : CtrFree P 0x10
  c18 : CtrFree P 0x18
  c20 : CtrFree P 0x20
  c28 : CtrFree P 0x28
  c40 : CtrFree P 0x40
  c48 : CtrFree P 0x48
  c60 : CtrFree P 0x60

theorem Keeps.issueStart (pre : Pkg) (c k : Nat) (w : CWord) (h8 : CtrFree P 0x08) (h18 : CtrFree P 0x18) (h60 : CtrFree P 0x60) :
    Keeps P (pre.issueStart c k w) pre := by
  unfold Pkg.issueStart
  dsimp only
  refine Keeps.trans (Keeps.coreCount _ _ _ h60) ?_
  refine Keeps.trans (Keeps.coreCount _ _ _ h18) ?_
  exact .coreCount _ _ _ h8

theorem Keeps.issueEngines (h : EngineFree P) (pre : Pkg) (c k : Nat) (w : CWord) : Keeps P (pre.issueEngines c k w) pre := by
  unfold Pkg.issueEngines
  dsimp only
  refine Keeps.trans (Keeps.noteClash _ _ _ _ h.c10 h.clash) ?_
  refine Keeps.trans (Keeps.of_ite (Keeps.txeIssue _ _ _ _ _ h.pal)) ?_
  refine Keeps.trans (Keeps.foldl (fun s l => Keeps.lWrite s c l h.pal) _ _) ?_
  refine Keeps.trans (Keeps.of_ite_else (Keeps.txeIssue _ _ _ _ _ h.pal)) ?_
  refine Keeps.trans (Keeps.sdeIssue _ _ _ _ _ h.c40 h.c48) ?_
  refine Keeps.trans (Keeps.rweIssue h.toRweFree _ _ _ _ _) ?_
  refine Keeps.trans (Keeps.vxeIssue _ _ _ _ _ h.vreg h.tps) ?_
  refine Keeps.trans (Keeps.of_cores rfl) ?_
  refine Keeps.trans (Keeps.mxeIssue _ _ _ _ _ _ h.acc h.c00 h.c20 h.c28) ?_
  exact .issueStart _ _ _ _ h.c08 h.c18 h.c60

/-- After the sequencer's part, what `P` sees of the core is what the engines left, if `P` sees none of its registers. -/
theorem Keeps.issueSeq (pre s : Pkg) (c k : Nat) (img : Image) (w : CWord) (hg : ∀ x a, P { x with ags := a } = P x)
    (hs : ∀ x a b d e, P { x with sreg := a, ct := b, cp := d, lc := e } = P x)
    (hb : ∀ x a b, P { x with busy := a, hold := b } = P x) : Keeps P (pre.issueSeq s c k img w) s := by
  unfold Pkg.issueSeq
  dsimp only
  refine Keeps.trans (Keeps.of_cores (Pkg.updTask_cores _ _ _)) ?_
  refine Keeps.trans (Keeps.updCore _ _ fun x => hb x _ _) ?_
  refine Keeps.trans (Keeps.sclAfter _ _ _ _ hs) ?_
  exact .foldl (fun s j => Keeps.agAfter _ _ _ _ _ _ _ hg) _ _

end Sys2Proof.Machine
end

