-- ==== Sys2Proof/Laws/Core.lean ====
section
/-! SUPPORT. A sequencer command, from the queue to the word it acts on. -/

namespace Sys2Proof.Machine

/-- What a sequencer command does. -/
theorem exec_coreCmd {i : Instr} {c op : Nat} {slots : List Nat} (h : i.coreCmd = some (c, slots, op)) (s : State) :
    exec i s = s.runIf (decide (c < 512)) i.time fun p => p.coreOp c slots op := by
  cases i <;> simp only [Instr.coreCmd, Option.some.injEq, Prod.mk.injEq, reduceCtorEq] at h <;>
    obtain ⟨rfl, rfl, rfl⟩ := h <;> rfl

/-- The ops of a sequencer command have commands of their own. -/
theorem slotNamed_of_coreCmd {i : Instr} {c op : Nat} {slots : List Nat} (h : i.coreCmd = some (c, slots, op)) {w : CWord} {j : Nat}
    (hj : j ∈ slots) (hw : (w.has j && w.op j == op) = true) : slotNamed w j = true ∧ j < 12 := by
  simp only [Bool.and_eq_true, beq_iff_eq] at hw
  obtain ⟨hw, ho⟩ := hw
  cases i <;> simp only [Instr.coreCmd, Option.some.injEq, Prod.mk.injEq, reduceCtorEq] at h <;>
    obtain ⟨-, rfl, rfl⟩ := h <;> simp at hj <;> (try rcases hj with rfl | rfl | rfl) <;>
    simp [slotNamed, hw, ho]

theorem CWord.named_of_coreCmd {i : Instr} {c op : Nat} {slots : List Nat} (h : i.coreCmd = some (c, slots, op)) {w : CWord}
    (hw : (slots.any fun j => w.has j && w.op j == op) = true) : w.named = true := by
  obtain ⟨j, hj, hw⟩ := List.any_eq_true.1 hw
  obtain ⟨hn, hl⟩ := slotNamed_of_coreCmd h hj hw
  exact List.any_eq_true.2 ⟨j, List.mem_range.2 hl, hn⟩

/-- A word in hand that has a command of its own is not passed over. -/
theorem Pkg.passIdle_named {p : Pkg} {c k : Nat} {img : Image} {w : CWord} (h : p.ready c = .word k img w) (hn : w.named = true) :
    Pkg.passIdle (p.idleFuel c) p c = p := by
  have hf : p.idleFuel c = 65535 + img.words.length + 1 := by
    unfold Pkg.idleFuel
    rw [h]
    simp only
    omega
  rw [hf, Pkg.passIdle, h]
  simp [hn]

/-- A sequencer command takes its word as far as it goes. -/
theorem Pkg.coreOp_inHand {i : Instr} {c op k : Nat} {slots : List Nat} {p : Pkg} {img : Image} {w : CWord}
    (hi : i.coreCmd = some (c, slots, op)) (h : InHand p c k img w slots op) : p.coreOp c slots op = p.tryWord c k img w := by
  have hn := CWord.named_of_coreCmd hi h.holds
  unfold Pkg.coreOp
  rw [Pkg.passIdle_named h.ready hn]
  simp only [h.ready, h.holds, if_true]

theorem Pkg.tryWord_goes {p : Pkg} {c k : Nat} {img : Image} {w : CWord} (h : Goes p c k img w) :
    p.tryWord c k img w = p.issueRepeat c k img w := by
  unfold Pkg.tryWord
  rw [h.legal]
  simp only [h.free]

/-- The state after a sequencer command whose word goes. -/
theorem exec_goes {i : Instr} {c op k : Nat} {slots : List Nat} {img : Image} {w : CWord} {s : State}
    (hi : i.coreCmd = some (c, slots, op)) (hc : c < 512) (h : InHand (s.pkg.tick i.time) c k img w slots op)
    (hg : Goes (s.pkg.tick i.time) c k img w) :
    ∃ u, exec i s = .next u ∧ u.pending = s.pending ∧
      u.pkg.cores = ((s.pkg.tick i.time).issueRepeat c k img w).cores ∧
      u.pkg.mem = ((s.pkg.tick i.time).issueRepeat c k img w).mem ∧
      u.pkg.clusters = ((s.pkg.tick i.time).issueRepeat c k img w).clusters ∧
      u.pkg.tasks = ((s.pkg.tick i.time).issueRepeat c k img w).tasks ∧
      u.pkg.log = ((s.pkg.tick i.time).issueRepeat c k img w).log := by
  let p := s.pkg.tick i.time
  refine ⟨{ s with pkg := { p.issueRepeat c k img w with now := p.now, fuses := p.fuses } }, ?_, rfl, rfl, rfl, rfl, rfl, rfl⟩
  rw [exec_coreCmd hi, State.runIf, if_pos (by simpa using hc), State.run, Pkg.coreOp_inHand hi h, Pkg.tryWord_goes hg]

end Sys2Proof.Machine
end

