-- ==== Sys2Proof/Laws/Log.lean ====
section
/-! SUPPORT. Registers after a write or a count, and the event log after a record. -/

namespace Sys2Proof.Machine

variable (s : Pkg)

/-! ### Registers -/

@[simp] theorem Pkg.reg_setReg_same (o : Nat) (v : Word) : (s.setReg o v).reg o = v := by simp [Pkg.reg, Pkg.setReg]

theorem Pkg.reg_setReg_ne {o r : Nat} (v : Word) (h : r ≠ o) : (s.setReg o v).reg r = s.reg r := by
  simp [Pkg.reg, Pkg.setReg, Tbl.get_set_ne _ _ v h]

@[simp] theorem Pkg.reg_bumpBy_same (o n : Nat) : (s.bumpBy o n).reg o = s.reg o + BitVec.ofNat 64 n := by simp [Pkg.bumpBy]

theorem Pkg.reg_bumpBy_ne {o r : Nat} (n : Nat) (h : r ≠ o) : (s.bumpBy o n).reg r = s.reg r := s.reg_setReg_ne _ h

@[simp] theorem Pkg.reg_bump_same (o : Nat) : (s.bump o).reg o = s.reg o + 1 := by simp [Pkg.bump]

theorem Pkg.reg_bump_ne {o r : Nat} (h : r ≠ o) : (s.bump o).reg r = s.reg r := s.reg_bumpBy_ne 1 h

@[simp] theorem Pkg.reg_emit (o : Output) (r : Nat) : (s.emit o).reg r = s.reg r := rfl
@[simp] theorem Pkg.reg_tick (t r : Nat) : (s.tick t).reg r = s.reg r := rfl
@[simp] theorem Pkg.reg_raise (v r : Nat) : (s.raise v).reg r = s.reg r := by simp [Pkg.reg]
@[simp] theorem Pkg.reg_hostW (a : Nat) (d : Bytes) (r : Nat) : (s.hostW a d).reg r = s.reg r := by simp [Pkg.reg]
@[simp] theorem Pkg.reg_updCtx (c : Nat) (f : Ctx → Ctx) (r : Nat) : (s.updCtx c f).reg r = s.reg r := rfl
@[simp] theorem Pkg.reg_updPort (c : Nat) (f : Port → Port) (r : Nat) : (s.updPort c f).reg r = s.reg r := rfl
@[simp] theorem Pkg.reg_updTask (c : Nat) (f : Task → Task) (r : Nat) : (s.updTask c f).reg r = s.reg r := by simp [Pkg.reg]

/-! ### The log -/

/-- The host's copy of a record leaves the records and their numbers. -/
theorem Pkg.logCopy_log (e : Event) : (s.logCopy e).log.recs = s.log.recs ∧ (s.logCopy e).log.nextSeq = s.log.nextSeq := by
  unfold Pkg.logCopy
  dsimp only
  split
  · split
    · exact ⟨rfl, rfl⟩
    · split <;> simp
  · exact ⟨rfl, rfl⟩

/-- The record that a call of `logWith` writes. -/
def Pkg.record (event unit : Nat) (ctx : Option Nat) (code : Nat) (notice : Bool) (detail : Bytes) : Event :=
  { stroke := s.stroke.number, event := event, time := s.now, unit := unit, ctx := ctx, code := code,
    notice := notice, seq := s.log.nextSeq, detail := detail }

@[simp] theorem Pkg.logWith_recs (event unit : Nat) (ctx : Option Nat) (code : Nat) (notice : Bool) (detail : Bytes) :
    (s.logWith event unit ctx code notice detail).log.recs =
      (s.record event unit ctx code notice detail :: s.log.recs).take 16384 := by
  unfold Pkg.logWith Pkg.record
  dsimp only
  rw [(Pkg.logCopy_log _ _).1]
  split <;> simp

@[simp] theorem Pkg.logWith_nextSeq (event unit : Nat) (ctx : Option Nat) (code : Nat) (notice : Bool) (detail : Bytes) :
    (s.logWith event unit ctx code notice detail).log.nextSeq = s.log.nextSeq + 1 := by
  unfold Pkg.logWith
  dsimp only
  rw [(Pkg.logCopy_log _ _).2]
  split <;> simp

@[simp] theorem Pkg.logEv_recs (event unit : Nat) (ctx : Option Nat) (detail : Bytes) :
    (s.logEv event unit ctx detail).log.recs = (s.record event unit ctx 0 false detail :: s.log.recs).take 16384 := by
  simp [Pkg.logEv]

@[simp] theorem Pkg.logEv_nextSeq (event unit : Nat) (ctx : Option Nat) (detail : Bytes) :
    (s.logEv event unit ctx detail).log.nextSeq = s.log.nextSeq + 1 := by simp [Pkg.logEv]

theorem Pkg.reg_logCopy (e : Event) {r : Nat} (h : r ≠ Reg.logHostDrops) : (s.logCopy e).reg r = s.reg r := by
  unfold Pkg.logCopy
  dsimp only
  split
  · split
    · exact s.reg_bump_ne h
    · split <;> simp <;> rfl
  · rfl

/-- A record counts in no register but LOG_OVERWRITTEN and LOG_HOST_DROPS. -/
theorem Pkg.reg_logWith (event unit : Nat) (ctx : Option Nat) (code : Nat) (notice : Bool) (detail : Bytes) {r : Nat}
    (h : r ≠ Reg.logHostDrops) (h' : r ≠ Reg.logOverwritten) : (s.logWith event unit ctx code notice detail).reg r = s.reg r := by
  unfold Pkg.logWith
  dsimp only
  rw [Pkg.reg_logCopy _ _ h]
  split
  · exact s.reg_bump_ne h'
  · rfl

theorem Pkg.reg_logEv (event unit : Nat) (ctx : Option Nat) (detail : Bytes) {r : Nat}
    (h : r ≠ Reg.logHostDrops) (h' : r ≠ Reg.logOverwritten) : (s.logEv event unit ctx detail).reg r = s.reg r :=
  s.reg_logWith event unit ctx 0 false detail h h'

end Sys2Proof.Machine
end

