-- ==== Sys2Proof/Laws/Mem.lean ====
section
/-! SUPPORT. Byte memory: what a read gives after a write, and that every operation keeps the canonical form. -/

namespace Sys2Proof.Machine

/-- The canonical form, as a property of the list: addresses rise strictly and no byte is blank. -/
theorem Memory.wf_iff (m : Memory) :
    m.wf = true ↔ m.Pairwise (fun a b => a.1 < b.1) ∧ ∀ x ∈ m, x.2 ≠ Memory.blank := by
  induction m with
  | nil => simp [Memory.wf]
  | cons x t ih =>
    cases t with
    | nil => simp [Memory.wf]
    | cons y t =>
      obtain ⟨k, v⟩ := x
      obtain ⟨k', v'⟩ := y
      simp only [Memory.wf, Bool.and_eq_true, bne_iff_ne, decide_eq_true_eq, ih]
      constructor
      · rintro ⟨⟨hv, hk⟩, hp, hb⟩
        refine ⟨List.pairwise_cons.2 ⟨?_, hp⟩, ?_⟩
        · intro z hz
          rcases List.mem_cons.1 hz with rfl | hz
          · exact hk
          · exact hk.trans ((List.pairwise_cons.1 hp).1 z hz)
        · intro z hz
          rcases List.mem_cons.1 hz with rfl | hz
          · exact hv
          · exact hb z hz
      · rintro ⟨hp, hb⟩
        obtain ⟨h1, hp⟩ := List.pairwise_cons.1 hp
        exact ⟨⟨hb _ List.mem_cons_self, h1 _ List.mem_cons_self⟩, hp, fun z hz => hb z (List.mem_cons_of_mem _ hz)⟩

theorem Memory.read_of_lt {m : Memory} {a : Nat} (h : ∀ x ∈ m, a < x.1) : m.read a = Memory.blank := by
  induction m with
  | nil => rfl
  | cons x t ih =>
    obtain ⟨k, v⟩ := x
    have hk : a < k := h (k, v) List.mem_cons_self
    simp only [Memory.read]
    rw [if_neg (by omega)]
    exact ih fun y hy => h y (List.mem_cons_of_mem _ hy)

/-- A byte written is read back. -/
theorem Memory.read_write_same {m : Memory} (h : m.wf = true) (a : Nat) (v : Byte) : (m.write a v).read a = v := by
  obtain ⟨hp, -⟩ := (Memory.wf_iff m).1 h
  clear h
  induction m with
  | nil =>
    simp only [Memory.write]
    split
    · subst_vars; rfl
    · simp [Memory.read]
  | cons x t ih =>
    obtain ⟨k, w⟩ := x
    obtain ⟨h1, hp⟩ := List.pairwise_cons.1 hp
    simp only [Memory.write]
    split
    · subst_vars
      split
      · subst_vars; exact Memory.read_of_lt h1
      · simp [Memory.read]
    · split
      · rename_i hlt
        split
        · subst_vars
          refine Memory.read_of_lt fun y hy => ?_
          rcases List.mem_cons.1 hy with rfl | hy
          · exact hlt
          · exact hlt.trans (h1 y hy)
        · simp [Memory.read]
      · simp only [Memory.read]
        rw [if_neg ‹_›]
        exact ih hp

/-- Every other byte reads as before. -/
theorem Memory.read_write_ne (m : Memory) {a b : Nat} (v : Byte) (h : b ≠ a) : (m.write a v).read b = m.read b := by
  induction m with
  | nil =>
    simp only [Memory.write]
    split
    · rfl
    · simp [Memory.read, h.symm]
  | cons x t ih =>
    obtain ⟨k, w⟩ := x
    simp only [Memory.write]
    split
    · subst_vars
      split <;> simp [Memory.read, h.symm]
    · split
      · split <;> simp [Memory.read, h.symm]
      · simp only [Memory.read, ih]

theorem Memory.mem_write {m : Memory} {a : Nat} {v : Byte} {x : Host.Cell} (h : x ∈ m.write a v) :
    x = (a, v) ∧ v ≠ Memory.blank ∨ x ∈ m := by
  induction m with
  | nil =>
    simp only [Memory.write] at h
    split at h
    · simp at h
    · exact .inl ⟨by simpa using h, ‹_›⟩
  | cons y t ih =>
    obtain ⟨k, w⟩ := y
    simp only [Memory.write] at h
    split at h
    · split at h
      · exact .inr (List.mem_cons_of_mem _ h)
      · rcases List.mem_cons.1 h with h | h
        · exact .inl ⟨h, ‹_›⟩
        · exact .inr (List.mem_cons_of_mem _ h)
    · split at h
      · split at h
        · exact .inr h
        · rcases List.mem_cons.1 h with h | h
          · exact .inl ⟨h, ‹_›⟩
          · exact .inr h
      · rcases List.mem_cons.1 h with h | h
        · exact .inr (h ▸ List.mem_cons_self)
        · rcases ih h with h | h
          · exact .inl h
          · exact .inr (List.mem_cons_of_mem _ h)

/-- A write keeps the canonical form. -/
theorem Memory.wf_write {m : Memory} (h : m.wf = true) (a : Nat) (v : Byte) : (m.write a v).wf = true := by
  rw [Memory.wf_iff] at h ⊢
  obtain ⟨hp, hb⟩ := h
  refine ⟨?_, fun x hx => ?_⟩
  · clear hb
    induction m with
    | nil =>
      simp only [Memory.write]
      split <;> simp
    | cons x t ih =>
      obtain ⟨k, w⟩ := x
      obtain ⟨h1, hp'⟩ := List.pairwise_cons.1 hp
      simp only [Memory.write]
      split
      · subst_vars
        split
        · exact hp'
        · exact List.pairwise_cons.2 ⟨h1, hp'⟩
      · split
        · rename_i hlt
          split
          · exact hp
          · refine List.pairwise_cons.2 ⟨fun y hy => ?_, hp⟩
            rcases List.mem_cons.1 hy with rfl | hy
            · exact hlt
            · exact hlt.trans (h1 y hy)
        · rename_i hne hge
          refine List.pairwise_cons.2 ⟨fun y hy => ?_, ih hp'⟩
          rcases Memory.mem_write hy with ⟨rfl, -⟩ | hy
          · simp only; omega
          · exact h1 y hy
  · rcases Memory.mem_write hx with ⟨rfl, hv⟩ | hx
    · exact hv
    · exact hb x hx

theorem Memory.wf_writeN {m : Memory} (h : m.wf = true) (a : Nat) (bs : Bytes) : (m.writeN a bs).wf = true := by
  induction bs generalizing m a with
  | nil => exact h
  | cons b bs ih => exact ih (Memory.wf_write h a b) (a + 1)

theorem Memory.wf_filter {m : Memory} (h : m.wf = true) (p : Host.Cell → Bool) : Memory.wf (m.filter p) = true := by
  rw [Memory.wf_iff] at h ⊢
  exact ⟨h.1.filter p, fun x hx => h.2 x (List.mem_filter.1 hx).1⟩

theorem Memory.wf_clear {m : Memory} (h : m.wf = true) (lo hi : Nat) : (m.clear lo hi).wf = true :=
  Memory.wf_filter h _

theorem Memory.wf_copy {m : Memory} (h : m.wf = true) (src dst n : Nat) : (m.copy src dst n).wf = true := by
  unfold Memory.copy
  dsimp only
  generalize m.filter _ = cells
  have : ∀ (cs : List Host.Cell) (m : Memory), m.wf = true →
      Memory.wf (cs.foldl (fun m c => m.write (c.1 - src + dst) c.2) m) = true := by
    intro cs
    induction cs with
    | nil => exact fun m h => h
    | cons c cs ih => exact fun m h => ih _ (Memory.wf_write h _ _)
  exact this cells _ (Memory.wf_clear h _ _)

/-- A byte outside the bytes written reads as before. -/
theorem Memory.read_writeN_ne (m : Memory) (a : Nat) (bs : Bytes) (b : Nat) (h : b < a ∨ a + bs.length ≤ b) :
    (m.writeN a bs).read b = m.read b := by
  induction bs generalizing m a with
  | nil => rfl
  | cons x xs ih =>
    simp only [List.length_cons] at h
    rw [Memory.writeN, ih _ _ (by omega), Memory.read_write_ne _ _ (by omega)]

/-- Bytes written are read back. -/
theorem Memory.readN_writeN_same {m : Memory} (h : m.wf = true) (a : Nat) (bs : Bytes) :
    (m.writeN a bs).readN a bs.length = bs := by
  induction bs generalizing m a with
  | nil => rfl
  | cons x xs ih =>
    simp only [List.length_cons, Memory.readN, Memory.writeN]
    rw [ih (Memory.wf_write h a x), Memory.read_writeN_ne _ _ _ _ (by omega), Memory.read_write_same h]

/-! ### The GDDR contents -/

@[simp] theorem Pkg.setMem_mem (s : Pkg) (m : MemSt) : (s.setMem m).mem = m := rfl

@[simp] theorem Pkg.bytes_poisonGranule (s : Pkg) (g f : Nat) : (s.poisonGranule g f).mem.bytes = s.mem.bytes := by
  simp [Pkg.poisonGranule]

@[simp] theorem Pkg.bytes_correct (s : Pkg) (g : Nat) : (s.correct g).mem.bytes = s.mem.bytes := by
  simp [Pkg.correct]

/-- What every step of a fold keeps, the fold keeps. -/
theorem foldl_keeps {α β : Type} (p : Pkg → β) (f : Pkg → α → Pkg) (h : ∀ s x, p (f s x) = p s) (l : List α) (s : Pkg) :
    p (l.foldl f s) = p s := by
  induction l generalizing s with
  | nil => rfl
  | cons x l ih => rw [List.foldl_cons, ih, h]

@[simp] theorem Pkg.bytes_touch1 (s : Pkg) (f g : Nat) : (s.touch1 f g).mem.bytes = s.mem.bytes := by
  unfold Pkg.touch1
  dsimp only
  (repeat' split) <;> simp [MemSt.serve]

@[simp] theorem Pkg.bytes_fillFrame (s : Pkg) (p : PageFill) : (s.fillFrame p).mem.bytes = s.mem.bytes := by
  unfold Pkg.fillFrame
  generalize upto (p.src * 1024) 1024 = gs
  exact foldl_keeps (fun s => s.mem.bytes) (fun s g => s.touch1 0 g) (fun s g => s.bytes_touch1 0 g) gs _

@[simp] theorem Pkg.bytes_fillBefore (s : Pkg) (g : Nat) : (s.fillBefore g).mem.bytes = s.mem.bytes := by
  unfold Pkg.fillBefore
  split <;> simp

@[simp] theorem Pkg.bytes_touch (s : Pkg) (f : Nat) (gs : List Nat) : (s.touch f gs).mem.bytes = s.mem.bytes :=
  foldl_keeps (fun s => s.mem.bytes) _ (fun s g => by simp) _ _

theorem Pkg.wf_setVrec {s : Pkg} (h : s.mem.bytes.wf = true) (r : Nat) (v : VRec) : (s.setVrec r v).mem.bytes.wf = true := by
  unfold Pkg.setVrec
  by_cases hm : s.memStopped = true
  · rw [if_pos hm]
    exact h
  · rw [if_neg hm, Pkg.setMem_mem]
    dsimp only
    exact Memory.wf_writeN h r v.bytes

theorem Memory.wf_flip {m : Memory} (h : m.wf = true) (g sym : Nat) : (m.flip g sym).wf = true := Memory.wf_writeN h _ _

/-- An armed injection stores bytes in the canonical form. -/
theorem MemSt.wf_injected {m : MemSt} (h : m.bytes.wf = true) (p : Nat → Bool) : (m.injected p).bytes.wf = true := by
  unfold MemSt.injected
  dsimp only
  (repeat' split) <;> first | exact h | exact Memory.wf_flip (Memory.wf_flip h _ _) _ _

theorem Pkg.wf_dWrite {s : Pkg} (h : s.mem.bytes.wf = true) (a : Nat) (bs : Bytes) (bad rmw : Bool) (head : Nat) (more : Bool) :
    (s.dWrite a bs bad rmw head more).mem.bytes.wf = true := by
  unfold Pkg.dWrite
  by_cases hm : s.memStopped = true
  · rw [if_pos hm]
    exact h
  · rw [if_neg hm]
    dsimp only
    rw [Pkg.setMem_mem]
    apply MemSt.wf_injected
    dsimp only [MemSt.cover, MemSt.serve]
    apply Memory.wf_writeN
    rw [Pkg.bytes_touch]
    exact h

theorem Pkg.wf_copyFrame {s : Pkg} (h : s.mem.bytes.wf = true) (c src dst : Nat) :
    (s.copyFrame c src dst).mem.bytes.wf = true := by
  unfold Pkg.copyFrame
  by_cases hm : s.memStopped = true
  · rw [if_pos hm]
    exact h
  · rw [if_neg hm]
    dsimp only
    rw [Pkg.setMem_mem]
    apply MemSt.wf_injected
    dsimp only
    exact Memory.wf_copy h _ _ _

end Sys2Proof.Machine
end

