-- ==== Sys2Proof/Tests/Slice0.lean ====
section
/-! SUPPORT. Tests of one step each, with values from the spec's tables and worked examples; ill-formed commands refused; and, for the statements with hypotheses, states that meet them. -/

open Sys2Proof Sys2Proof.Machine

namespace Sys2Proof.Tests

set_option Elab.async false

/-! ### Building words and states -/

/-- The widths of the twelve slots (R173). -/
def width (n : Nat) : Nat := [32, 48, 48, 48, 64, 96, 48, 48, 64, 32, 32, 64].getD n 0

def halvesOf (w v : Nat) : List Nat := (List.range (w / 16)).map fun i => v / 65536 ^ i % 65536

/-- A control word as halfwords: the header, then each present slot (R172, R174). -/
def cw (rep : Nat) (slots : List (Nat × Nat)) : List Nat :=
  halvesOf 32 (rep * 65536 + (slots.map fun s => 2 ^ s.1).sum) ++ slots.flatMap fun s => halvesOf (width s.1) s.2

/-- An AG slot: op and generator (R178). -/
def agW (op g : Nat) : Nat := op * 2 ^ 44 + g * 2 ^ 40

/-- A generator's descriptor: 65,536 units of 64 bytes, one after the other, from a base (R176). -/
def run (base : Nat) : BitVec 256 := BitVec.ofNat 256 (base * 2 ^ 192 + 64 * 2 ^ 64 + 65535)

/-- A tensor of two dimensions, unsharded, its scale 1 (R101, R227). -/
def tens (id base fmt flags e0 e1 : Nat) : TensorRef :=
  { desc := BitVec.ofNat 512 (base + fmt * 2 ^ 48 + flags * 2 ^ 56 + id * 2 ^ 96 + e0 * 2 ^ 128 + e1 * 2 ^ 160 + 2 ^ 192 + 2 ^ 224 + 2 ^ 480)
    scale := 0x3F800000 }

def image (hw : List Nat) : Image :=
  { ctx := 1, addr := 0x10000, hdr := 0x800000, presets := [run 0x2000], words := hw.map (BitVec.ofNat 16) }

/-- Core 0 at the first halfword of a program of task slot 0. -/
def coreOf (hw : List Nat) : CoreSt :=
  { task := some 0, store := [image hw], image := 0x10000, ags := [(0, { desc := run 0 }), (1, { desc := run 0x1000 }), (2, { desc := run 0x4000 })] }

def task : Task := { ctx := 1, phase := .running, tensors := [tens 7 0x40000000 0x02 0 64 64, tens 8 0x40100000 0x05 0 64 64] }

/-- A package that is ready, whose context 1 is open. -/
def ready : Pkg := { State.reset.pkg with
  power := { pwrGood := true, ready := true, risen := true, last := 10 }
  ctxs := [(1, { phase := .open })]
  fab := { selfIdx := some 0 } }

def at_ (p : Pkg) : State := { pkg := p }

def running (x : CoreSt) (k : Task) : State := at_ { ready with cores := [(0, x)], tasks := [(0, k)] }

/-- The word in hand holds the command's op, meets a condition, breaks no rule and is not held. -/
def goes (s : State) (i : Instr) (cond : CWord → Bool := fun _ => true) : Bool :=
  match i.coreCmd with
  | none => false
  | some (c, slots, op) =>
    let p := s.pkg.tick i.time
    match p.ready c with
    | .word k img w => (slots.any fun j => w.has j && w.op j == op) && cond w && decide (c < 512) &&
        (p.checkWord c k img w).first.isNone && p.holdOf c k w (p.uses c k w (p.core c).rep) == .none && !(p.refused c w)
    | _ => false

/-- What the statements about control words assume of a state and a command. -/
def Meets (s : State) (i : Instr) (cond : CWord → Bool) : Prop :=
  ∃ c k op slots img w, i.coreCmd = some (c, slots, op) ∧ c < 512 ∧
    InHand (s.pkg.tick i.time) c k img w slots op ∧ Goes (s.pkg.tick i.time) c k img w ∧ cond w = true

theorem goes_meets {s : State} {i : Instr} {cond : CWord → Bool} (h : goes s i cond = true) : Meets s i cond := by
  unfold goes at h
  split at h
  · cases h
  · rename_i c slots op hc
    dsimp only at h
    split at h
    · rename_i k img w hr
      simp only [Bool.and_eq_true, decide_eq_true_eq, beq_iff_eq, Option.isNone_iff_eq_none, Bool.not_eq_true'] at h
      obtain ⟨⟨⟨⟨⟨h1, h2⟩, h3⟩, h4⟩, h5⟩, h6⟩ := h
      exact ⟨c, k, op, slots, img, w, hc, h3, ⟨hr, h1⟩, ⟨h4, h5, h6⟩, h2⟩
    · cases h

/-- A word without an op of the engines or transfers but for slot `j`; slot 0: without any. -/
def alone (j : Nat) (w : CWord) : Bool := [4, 5, 6, 7, 8].all fun i => i == j || !w.has i

/-- A test of the next state a command answers. -/
def nextOf (o : Host.Outcome State Fault Refusal) (f : Pkg → Bool) : Bool :=
  match o with
  | .next u => f u.pkg
  | _ => false

/-! ### Decoding (R172 to R174) -/

/-- A word of three slots, written out from R172 to R174: AGA STEP AG0, MXE MMA, and FLOW END. -/
theorem test_word_layout :
    fetchWord ([0x0013, 0x0004, 0x0000, 0x4000, 0x0000, 0x0000, 0x1000, 0x0000, 0x0000, 0x0000, 0x1000].map (BitVec.ofNat 16)) 0 =
      some ⟨0x00040013, [(0, 0x40000000), (1, 0x100000000000), (4, 0x1000000000000000)], 11⟩ := by decide +kernel

theorem test_word_builder : cw 4 [(0, 0x40000000), (1, 0x100000000000), (4, 0x1000000000000000)] =
    [0x0013, 0x0004, 0x0000, 0x4000, 0x0000, 0x0000, 0x1000, 0x0000, 0x0000, 0x0000, 0x1000] := by decide +kernel

/-- A word may not run past the image's end. -/
theorem test_word_past_end : fetchWord ([0x0001, 0x0000, 0x0000].map (BitVec.ofNat 16)) 0 = none := by decide +kernel

/-! ### Every op of the sequencer goes on somewhere -/

def sclW (op rest : Nat) : List Nat := cw 0 [(9, op * 2 ^ 28 + rest), (11, 0x123456789ABCDEF0)]

def simple (hw : List Nat) : State := running (coreOf hw) task

theorem witness_scl : ∀ i ∈ [(Instr.sclAdd 0 0, sclW 1 0x3120000), (.sclSub 0 0, sclW 2 0x3120000), (.sclMul 0 0, sclW 3 0x3120000),
    (.sclAddi 0 0, sclW 4 0x31FFFF0), (.sclMovi 0 0, sclW 5 0x3000000), (.sclSetlc 0 0, sclW 6 0x4400000), (.sclCtset 0 0, sclW 7 0x2200000),
    (.sclCtinc 0 0, sclW 8 0x2000000), (.sclCpset 0 0, sclW 9 0x6248000)],
    Meets (simple i.2) i.1 (alone 0) := by
  intro i hi; apply goes_meets; revert i hi; decide +kernel

theorem witness_ag : ∀ i ∈ [(Instr.agStep 0 0, 1), (.agHold 0 0, 2), (.agSetdesc 0 0, 3), (.agSetbase 0 0, 4), (.agReset 0 0, 5), (.agAddbase 0 0, 6)],
    Meets (simple (cw 0 [(2, agW i.2 1)])) i.1 (alone 0) := by
  intro i hi; apply goes_meets; revert i hi; decide +kernel

theorem witness_flow : ∀ i ∈ [(Instr.flowLoop 0 0, 0x16001003), (.flowJump 0 0, 0x20000000), (.flowBreak 0 0, 0x32400000), (.flowEnd 0 0, 0x40000000)],
    Meets (running { coreOf (cw 0 [(0, i.2)] ++ cw 0 [(0, 0)]) with loops := if i.2 = 0x32400000 then [⟨0, 0, 4, 2⟩] else [] } task) i.1 (fun w => alone 0 w && decide (w.repeats ≤ 1)) := by
  intro i hi; apply goes_meets; revert i hi; decide +kernel

theorem witness_sync : Meets (simple (cw 0 [(10, 0x10400000)])) (.syncWait 0 0) (alone 0) :=
  goes_meets (by decide +kernel)

/-- An arithmetic VXE word: V3 := op V1, V2, V4, FP32. -/
def vxeW (op : Nat) : List Nat := cw 0 [(5, op * 2 ^ 90 + 3 * 2 ^ 85 + 1 * 2 ^ 80 + 2 * 2 ^ 75 + 4 * 2 ^ 70 + 2 * 2 ^ 65 + 3 * 2 ^ 58)]

theorem witness_vxe : ∀ i ∈ [(Instr.vxeAdd 0 0, 3), (.vxeSub 0 0, 4), (.vxeMul 0 0, 5), (.vxeFma 0 0, 6), (.vxeDiv 0 0, 7), (.vxeSqrt 0 0, 8),
    (.vxeMax 0 0, 9), (.vxeMin 0 0, 0xA), (.vxeAbs 0 0, 0xB), (.vxeNeg 0 0, 0xC), (.vxeCopysign 0 0, 0xD), (.vxeCmp 0 0, 0xE),
    (.vxeSelect 0 0, 0xF), (.vxeAddk 0 0, 0x10), (.vxeMulk 0 0, 0x11), (.vxeExp 0 0, 0x12), (.vxeExp2 0 0, 0x13), (.vxeLn 0 0, 0x14),
    (.vxeLog2 0 0, 0x15), (.vxeTanh 0 0, 0x16), (.vxeSigmoid 0 0, 0x17), (.vxeMov 0 0, 0x1B)],
    Meets (simple (vxeW i.2)) i.1 (alone 5) := by
  intro i hi; apply goes_meets; revert i hi; decide +kernel

/-- TEVAL and TDERIV read a pair of tables of the task's context. -/
theorem witness_tables : ∀ i ∈ [(Instr.vxeTeval 0 0, 0x18), (.vxeTderiv 0 0, 0x19)],
    Meets (running { coreOf (vxeW i.2) with tps := [(0, ⟨1, [], false⟩)] } task) i.1 (alone 5) := by
  intro i hi; apply goes_meets; revert i hi; decide +kernel

theorem witness_vxe_memory : ∀ i ∈ [(Instr.vxeLoad 0 0, 1), (.vxeStore 0 0, 2), (.vxeTableLoad 0 0, 0x1A)],
    Meets (simple (cw 0 [(1, agW 1 0), (5, i.2 * 2 ^ 90 + (if i.2 = 0x1A then 0 else 3 * 2 ^ 85 + 2 * 2 ^ 65))])) i.1 (alone 5) := by
  intro i hi; apply goes_meets; revert i hi; decide +kernel

/-- An MMA of K = 4 over FP16 operands in streams A and B, and the write-out of its set as FP32 on stream C. -/
def mmaW (init : Nat) : Nat := 2 ^ 60 + init * 2 ^ 56 + 5 * 2 ^ 51 + 3 * 2 ^ 40 + 0 * 2 ^ 34 + 1 * 2 ^ 32 + 3 * 2 ^ 30 + 3 * 2 ^ 28 + 1 * 2 ^ 20 + 1 * 2 ^ 12
def mmaWord (init : Nat) : List Nat := cw 0 [(1, agW 1 0), (2, agW 1 1), (4, mmaW init)]
def outWord : List Nat := cw 0 [(3, agW 1 2), (4, 2 * 2 ^ 60 + 2 * 2 ^ 51 + 1 * 2 ^ 48 + 2 * 2 ^ 44)]

theorem witness_mma : Meets (simple (mmaWord 0)) (.mxeMma 0 0) (alone 4) :=
  goes_meets (by decide +kernel)

theorem witness_writeout : Meets (running { coreOf outWord with acc := [(0, { filled := true, fmt := 5, a := 1, b := 1 })] } task) (.mxeWriteout 0 0) (alone 4) :=
  goes_meets (by decide +kernel)

/-- A row operation on one row of 32 elements: input A, output C, gradient B. -/
def rweW (op : Nat) : List Nat :=
  cw 0 [(1, agW 1 0), (2, agW 1 1), (3, agW 1 2), (6, op * 2 ^ 44 + (if op = 7 then 15 * 2 ^ 38 else 2 * 2 ^ 40 +
    (if op < 4 then 3 else 1) * 2 ^ 38 + 3 * 2 ^ 32 + (if op = 1 ∨ op = 2 then 4 else 0) * 2 ^ 28 + 2 * 2 ^ 24 + 2 * 2 ^ 15 + 2 * 2 ^ 10 + 1 * 2 ^ 7))]

theorem witness_rwe : ∀ i ∈ [(Instr.normFwd 0 0, 1), (.rmsFwd 0 0, 2), (.smaxFwd 0 0, 3), (.normBwd 0 0, 4), (.rmsBwd 0 0, 5), (.smaxBwd 0 0, 6), (.spillSet 0 0, 7)],
    Meets (running { coreOf (rweW i.2) with sreg := [(2, 32), (3, 9), (4, 0x3727C5AC)] } task) i.1 (alone 6) := by
  intro i hi; apply goes_meets; revert i hi; decide +kernel

/-- A parameter block of R201 at palette address 0: one row of 64 bytes. -/
def sdeBlock : Memory := Memory.writeN [] 0 (leBytes 4 1 ++ leBytes 4 64 ++ leBytes 8 0x1000000000 ++ leBytes 8 0x1000000100 ++ leBytes 8 0x1000000200 ++
  leBytes 8 0x1000000400 ++ leBytes 8 0x1000000600 ++ leBytes 8 0x1000000800 ++ leBytes 4 8)

theorem witness_sde : ∀ i ∈ [(Instr.gather 0 0, 1), (.scatter 0 0, 2)],
    Meets (running { coreOf (cw 0 [(1, agW 1 0), (7, i.2 * 2 ^ 44)]) with pal := sdeBlock, palWritten := [0] } task) i.1 (alone 7) := by
  intro i hi; apply goes_meets; revert i hi; decide +kernel

/-- One unit copied between stream A and tensor 0. -/
theorem witness_txe_copy : ∀ i ∈ [(Instr.txeCopyIn 0 0, 1), (.txeCopyOut 0 0, 2)],
    Meets (simple (cw 0 [(1, agW 1 0), (8, i.2 * 2 ^ 60 + 1 * 2 ^ 24 + 5 * 2 ^ 20)])) i.1 (alone 8) := by
  intro i hi; apply goes_meets; revert i hi; decide +kernel

/-! ### A herd of two packages -/

/-- An axis map of herd 5: two packages on X, with a role, this one (index 0) at position 0 (R374). -/
def mapOf (role : Nat) : Bytes :=
  leBytes 2 5 ++ leBytes 1 0 ++ leBytes 1 1 ++ leBytes 1 role ++ leBytes 3 0 ++ leBytes 1 2 ++ leBytes 1 1 ++ leBytes 1 1 ++ leBytes 5 0 ++
    leBytes 64 0x10000 ++ leBytes 64 0 ++ leBytes 64 0 ++ leBytes 48 0

/-- Context 1 is of herd 5, and task slot 0 has latched its map. -/
def herded (role : Nat) (x : CoreSt) (k : Task) : State := at_ { ready with
  cores := [(0, x)], tasks := [(0, { k with map := some 0 })]
  ctxs := [(1, { phase := .open, herd := 0x10005 })]
  fab := { selfIdx := some 0, maps := [(0, ⟨mapOf role, true⟩)] } }

theorem witness_herd : ((herded 1 {} task).pkg.ctx 1).herdEn = true ∧ ((herded 1 {} task).pkg.ctx 1).herdId = 5 ∧
    (AxMap.mk (mapOf 1) true).ok (some 0) 24576 = true := by decide +kernel

/-- One frame of an EIR32 gradient, in cluster memory. -/
theorem witness_reduce : Meets (herded 1 { coreOf (cw 0 [(1, agW 1 0), (8, 3 * 2 ^ 60 + 133 * 2 ^ 24 + 5 * 2 ^ 20)]) with
      ags := [(0, { desc := run 0x1000000000 })] } { task with tensors := [tens 9 0x40000000 0x0E 2 64 64] }) (.txeReduce 0 0) (alone 8) :=
  goes_meets (by decide +kernel)

/-- One unit relayed to the neighbour on the tensor axis: selector role 2, hops 1 (R380). -/
def relayCore (v : Word) (op : Nat) : CoreSt :=
  { coreOf (cw 0 [(1, agW 1 0), (8, op * 2 ^ 60 + 1 * 2 ^ 24 + 5 * 2 ^ 20)]) with ags := [(0, { desc := run 0x1000000000 })], sreg := [(5, v)] }

theorem witness_relay : Meets (herded 2 (relayCore 0x4020000000000000 4) task) (.txeRelay 0 0) (alone 8) :=
  goes_meets (by decide +kernel)

/-- A copy from, or to, the member at position 1. -/
theorem witness_far_copy : ∀ i ∈ [(Instr.txeCopyIn 0 0, 1), (.txeCopyOut 0 0, 2)],
    Meets (herded 2 (relayCore 0x4020000000000000 i.2) task) i.1 (alone 8) := by
  intro i hi; apply goes_meets; revert i hi; decide +kernel

/-- The clauses of TransferOps: a tensor on this package, on another that is present, and a neighbour that is present. -/
theorem witness_transfer_clauses :
    let s := herded 2 (relayCore 0x4020000000000000 4) task
    let m := s.pkg.taskMap 0
    s.pkg.remoteOf m 0 = none ∧ s.pkg.remoteOf m 0x4020 = some 1 ∧ s.pkg.isAbsent 1 = false ∧
    (relaySel m 0x4020).map (fun r => (r.axis, r.dir)) = some (0, 0) ∧ (m.bind fun m => m.neighbour 0 0) = some 1 := by decide +kernel

/-! ### Words that are skipped or held -/

/-- MOVI without an IMM slot is illegal (R205). -/
theorem witness_skipped : let s := simple (cw 0 [(9, 0x53000000)])
    (match s.pkg.ready 0 with
      | .word k img w => w.has 9 && w.op 9 == 5 && ((s.pkg.tick 0).checkWord 0 k img w).first.isSome
      | _ => false) = true := by decide +kernel

/-- An engine still reads the vector engine's results; a WAIT on it holds the word; and 1,024 transfers fill the table. -/
def busyVxe : CoreSt → CoreSt := fun x => { x with busy := [⟨5, [], [(0, 64)], none, false⟩] }

def held (s : State) : Option Hold :=
  match s.pkg.ready 0 with
  | .word k img w => if ((s.pkg.tick 0).checkWord 0 k img w).first.isNone then
      some ((s.pkg.tick 0).holdOf 0 k w ((s.pkg.tick 0).uses 0 k w (s.pkg.core 0).rep)) else none
  | _ => none

def fullCluster : ClusterSt := { xfers := (List.range 1024).map fun n => { id := n, cluster := 0, task := 1, ctx := 1, gen := 0, group := 0, kind := .relay, stroke := 0, left := 1 } }

theorem witness_held_interlock :
    held (running (busyVxe (coreOf (cw 0 [(1, agW 1 0), (5, 1 * 2 ^ 90 + 2 * 2 ^ 65)]))) task) = some .interlock := by decide +kernel

theorem witness_held_wait : held (running (busyVxe (coreOf (cw 0 [(10, 0x10800000)]))) task) = some .wait := by decide +kernel

theorem find_map_id (n : Nat) (h : n < 1024) : fullCluster.xfers.any (fun x => x.id == n) = true := by
  simp [fullCluster, h]

theorem full_has_none (n : Nat) : fullCluster.freeXfers n = [] := by
  have : ((List.range 1024).filter fun i => !fullCluster.xfers.any fun x => x.id == i) = [] := by
    simp only [List.filter_eq_nil_iff, List.mem_range]
    intro a ha; simp [find_map_id a ha]
  simp [ClusterSt.freeXfers, this]

/-- Every transfer of the cluster is in use. -/
def fullS : State :=
  let s := running (coreOf (cw 0 [(1, agW 1 0), (8, 2 * 2 ^ 60 + 1 * 2 ^ 24 + 5 * 2 ^ 20)])) task
  { s with pkg := { s.pkg with clusters := [(0, fullCluster)] } }

theorem witness_held_txe : ∃ k img w, fullS.pkg.ready 0 = .word k img w ∧ (w.has 8 && w.op 8 == 2) = true ∧
    (fullS.pkg.checkWord 0 k img w).first = none ∧ fullS.pkg.holdOf 0 k w (fullS.pkg.uses 0 k w 0) = .txe := by
  have h1 : (match fullS.pkg.ready 0 with
    | .word k img w => (w.has 8 && w.op 8 == 2) && (fullS.pkg.checkWord 0 k img w).first.isNone && w.txeSlots == 1 && w.has 10 == false &&
        k == 0 && interlocked (fullS.pkg.core 0).busy (fullS.pkg.busyOf 0 w (fullS.pkg.uses 0 k w 0)) == false
    | _ => false) = true := by decide +kernel
  split at h1
  · rename_i k img w hr
    simp only [Bool.and_eq_true, beq_iff_eq, Option.isNone_iff_eq_none] at h1
    obtain ⟨⟨⟨⟨⟨h2, h3⟩, h4⟩, h5⟩, h6⟩, h7⟩ := h1
    refine ⟨k, img, w, hr, by simpa using h2, h3, ?_⟩
    have hc : fullS.pkg.cluster (clusterOf 0) = fullCluster := rfl
    simp [Pkg.holdOf, h7, h5, hc, full_has_none, h4]
  · cases h1

/-- A release: what is left once the held word's reason has gone away goes on. -/
def freed (s : State) (h : Hold) : Bool :=
  let x := s.pkg.core 0
  let left (b : BusyOp) : Bool := match h with
    | .interlock => false
    | .wait => !waitSelects 0x10800000 b
    | _ => true
  let q := s.pkg.updCore 0 fun x => { x with hold := .none, busy := x.busy.filter left, ctr := x.ctr.upd 0 0x68 (· + 3) }
  let q := if h = .txe then q.clusterCount 0 0x10 3 else q
  x.hold == h && (match q.ready 0 with
    | .word k img w => (q.checkWord 0 k img w).first.isNone && q.holdOf 0 k w (q.uses 0 k w (q.core 0).rep) == .none
    | _ => false)

theorem witness_released :
    freed (running { busyVxe (coreOf (cw 0 [(1, agW 1 0), (5, 1 * 2 ^ 90 + 2 * 2 ^ 65)])) with hold := .interlock } task) .interlock = true ∧
    freed (running { busyVxe (coreOf (cw 0 [(10, 0x10800000)])) with hold := .wait } task) .wait = true ∧
    freed (running { coreOf (cw 0 [(1, agW 1 0), (8, 2 * 2 ^ 60 + 1 * 2 ^ 24 + 5 * 2 ^ 20)]) with hold := .txe } task) .txe = true := by decide +kernel

/-- A word with repeats left, and one on its last. -/
theorem witness_repeats : Meets (simple (cw 1 [(9, 0x13120000)])) (.sclAdd 0 0) (fun w => decide (0 + 1 < w.repeats)) ∧
    Meets (running { coreOf (cw 1 [(9, 0x13120000)]) with rep := 1 } task) (.sclAdd 0 0) (fun w => decide (w.repeats ≤ 1 + 1)) :=
  ⟨goes_meets (by decide +kernel), goes_meets (by decide +kernel)⟩

/-! ### What the words do -/

def scl (op rest : Nat) (i : Instr) (f : CoreSt → Bool) : Bool :=
  nextOf (exec i (running { coreOf (sclW op rest) with
    sreg := [(1, 0xFFFFFFFFFFFFFFFF), (2, 2), (4, 0x100000007)], ct := [(1, 9)] } task)) fun q => f (q.core 0)

theorem test_scl_add_wraps : scl 1 0x3120000 (.sclAdd 0 0) (fun y => y.sreg.get 0 3 == 1) = true := by decide +kernel
theorem test_scl_sub_into_source : scl 2 0x2120000 (.sclSub 0 0) (fun y => y.sreg.get 0 2 == 0xFFFFFFFFFFFFFFFD) = true := by decide +kernel
theorem test_scl_mul_low : scl 3 0x3120000 (.sclMul 0 0) (fun y => y.sreg.get 0 3 == 0xFFFFFFFFFFFFFFFE) = true := by decide +kernel
theorem test_scl_addi_sign : scl 4 0x32FFFF0 (.sclAddi 0 0) (fun y => y.sreg.get 0 3 == 1) = true := by decide +kernel
theorem test_scl_movi : scl 5 0x3000000 (.sclMovi 0 0) (fun y => y.sreg.get 0 3 == 0x123456789ABCDEF0) = true := by decide +kernel
theorem test_scl_setlc_low_half : scl 6 0x5000000 (.sclSetlc 0 0) (fun y => y.lc.get 0 1 == 7) = true := by decide +kernel
theorem test_scl_ctset : scl 7 0x2800000 (.sclCtset 0 0) (fun y => y.ct.get 0 1 == 7) = true := by decide +kernel
theorem test_scl_ctinc : scl 8 0x2000000 (.sclCtinc 0 0) (fun y => y.ct.get 0 1 == 10 && y.sreg.get 0 2 == 2) = true := by decide +kernel
/-- −1 is less than 2 in a signed comparison. -/
theorem test_scl_cpset_signed : scl 9 0x6248000 (.sclCpset 0 0) (fun y => y.cp.get false 1) = true := by decide +kernel
theorem test_scl_cpset_counter : scl 9 0x4248000 (.sclCpset 0 0) (fun y => !y.cp.get false 1) = true := by decide +kernel

def ag (op : Nat) (i : Instr) (f : Ag → Bool) : Bool :=
  nextOf (exec i (running { coreOf (cw 0 [(2, agW op 1)]) with
    sreg := [(0, 0xFFFFFFFFF0000040)]
    ags := [(1, { desc := run 0x1000, i0 := 3, side := 5 })] } task)) fun q => f ((q.core 0).ags.get {} 1)

theorem test_ag_setdesc : ag 3 (.agSetdesc 0 0) (fun a => a.base == 0x2000 && a.i0 == 0) = true := by decide +kernel
theorem test_ag_setbase : ag 4 (.agSetbase 0 0) (fun a => a.base == 0xFFF0000040 && a.i0 == 0) = true := by decide +kernel
theorem test_ag_reset : ag 5 (.agReset 0 0) (fun a => a.base == 0x1000 && a.i0 == 0 && a.side == 0) = true := by decide +kernel
theorem test_ag_addbase_wraps : ag 6 (.agAddbase 0 0) (fun a => a.base == 0xFFF0001040 && a.i0 == 3) = true := by decide +kernel

/-- SPILL_SET reads one unit of its stream: STEP leaves the generator after it, HOLD before it. -/
theorem test_ag_step : nextOf (exec (.agStep 0 0) (simple (cw 0 [(1, agW 1 0), (6, 7 * 2 ^ 44 + 15 * 2 ^ 38)]))) (fun q => (q.ag 0 0).i0 == 1) = true := by decide +kernel
theorem test_ag_hold : nextOf (exec (.agHold 0 0) (simple (cw 0 [(1, agW 2 0), (6, 7 * 2 ^ 44 + 15 * 2 ^ 38)]))) (fun q => (q.ag 0 0).i0 == 0) = true := by decide +kernel

/-- LOOP of three passes over the two-halfword word after it (halfwords 4 and 5). -/
theorem test_loop_opens : nextOf (exec (.flowLoop 0 0) (simple (cw 0 [(0, 0x16001003)] ++ cw 0 []  ++ cw 0 [])))
    (fun q => (q.core 0).loops == [⟨1, 4, 6, 3⟩] && (q.core 0).pc == 4) = true := by decide +kernel
theorem test_loop_of_no_passes_is_skipped : nextOf (exec (.flowLoop 0 0) (simple (cw 0 [(0, 0x16001000)] ++ cw 0 [] ++ cw 0 [])))
    (fun q => (q.core 0).loops == [] && (q.core 0).pc == 6) = true := by decide +kernel
theorem test_jump_sense : nextOf (exec (.flowJump 0 0) (simple (cw 0 [(0, 0x29000000)] ++ cw 0 []))) (fun q => (q.core 0).pc == 4) = true := by decide +kernel
theorem test_jump_taken : nextOf (exec (.flowJump 0 0) (simple (cw 0 [(0, 0x28000004)] ++ cw 0 []))) (fun q => (q.core 0).pc == 4) = true := by decide +kernel
theorem test_break_leaves_inner_too :
    nextOf (exec (.flowBreak 0 0) (running { coreOf (cw 0 [(0, 0x30000000)] ++ cw 0 [] ++ cw 0 []) with loops := [⟨1, 0, 6, 2⟩, ⟨0, 0, 8, 2⟩] } task))
      (fun q => (q.core 0).loops == [] && (q.core 0).pc == 8) = true := by decide +kernel
theorem test_end : nextOf (exec (.flowEnd 0 0) (simple (cw 0 [(0, 0x40000000)]))) (fun q => (q.core 0).ended) = true := by decide +kernel

/-- Vector words on lane 0: V1 holds `a`, V2 `b`, V4 `c`. -/
def lane0 (op a b c : Nat) (i : Instr) (rest : Nat := 0) : Nat :=
  let s := running { coreOf (cw 0 [(5, op * 2 ^ 90 + 3 * 2 ^ 85 + 1 * 2 ^ 80 + 2 * 2 ^ 75 + 4 * 2 ^ 70 + 2 * 2 ^ 65 + 3 * 2 ^ 58 + rest)]) with
    vreg := [(1, { bits := BitVec.ofNat 8192 a }), (2, { bits := BitVec.ofNat 8192 b }), (4, { bits := BitVec.ofNat 8192 c })] } task
  match exec i s with
  | .next u => ((u.pkg.core 0).vreg.get {} 3).lane 32 0
  | _ => 0

-- IEEE 754 binary32: 1.0 is 3F800000, 2.0 40000000, 3.0 40400000, 6.0 40C00000, 0.5 3F000000, +Inf 7F800000.
theorem test_vxe_add : lane0 3 0x3F800000 0x40000000 0 (.vxeAdd 0 0) = 0x40400000 := by decide +kernel
theorem test_vxe_sub_exact_zero : lane0 4 0x3F800000 0x3F800000 0 (.vxeSub 0 0) = 0 := by decide +kernel
theorem test_vxe_mul : lane0 5 0x40400000 0x40000000 0 (.vxeMul 0 0) = 0x40C00000 := by decide +kernel
theorem test_vxe_fma : lane0 6 0x40000000 0x3F800000 0x3F800000 (.vxeFma 0 0) = 0x40400000 := by decide +kernel
theorem test_vxe_div_by_zero : lane0 7 0x3F800000 0 0 (.vxeDiv 0 0) = 0x7F800000 := by decide +kernel
theorem test_vxe_sqrt : lane0 8 0x40800000 0 0 (.vxeSqrt 0 0) = 0x40000000 := by decide +kernel
theorem test_vxe_max_of_zeros : lane0 9 0x80000000 0 0 (.vxeMax 0 0) = 0 := by decide +kernel
theorem test_vxe_min : lane0 0xA 0xBF800000 0x3F800000 0 (.vxeMin 0 0) = 0xBF800000 := by decide +kernel
theorem test_vxe_abs : lane0 0xB 0xBF800000 0 0 (.vxeAbs 0 0) = 0x3F800000 := by decide +kernel
theorem test_vxe_neg : lane0 0xC 0x3F800000 0 0 (.vxeNeg 0 0) = 0xBF800000 := by decide +kernel
theorem test_vxe_copysign : lane0 0xD 0x40000000 0x80000000 0 (.vxeCopysign 0 0) = 0xC0000000 := by decide +kernel
theorem test_vxe_cmp : lane0 0xE 0x3F800000 0x40000000 0 (.vxeCmp 0 0) (2 * 2 ^ 50) = 0xFFFFFFFF := by decide +kernel
theorem test_vxe_cmp_unordered_not_less : lane0 0xE 0x7FC00000 0x40000000 0 (.vxeCmp 0 0) (2 * 2 ^ 50) = 0 := by decide +kernel
theorem test_vxe_select : lane0 0xF 7 9 0 (.vxeSelect 0 0) = 9 := by decide +kernel
theorem test_vxe_addk : lane0 0x10 0x3F800000 0 0 (.vxeAddk 0 0) 0x40000000 = 0x40400000 := by decide +kernel
theorem test_vxe_mulk : lane0 0x11 0x40400000 0 0 (.vxeMulk 0 0) 0x3F000000 = 0x3FC00000 := by decide +kernel
theorem test_vxe_mov : lane0 0x1B 0x7FA00001 0 0 (.vxeMov 0 0) = 0x7FA00001 := by decide +kernel

/-- meta_stream 0 names stream A a second time (R180); a stream that no AG slot drives. -/
theorem test_stream_names : checkNames (CWord.mk 0x16 [(1, 2 ^ 44), (2, 2 ^ 44 + 2 ^ 40), (4, BitVec.ofNat 96 (mmaW 0 - 3 * 2 ^ 30))] 0) = [(4, 5)] ∧
    checkNames (CWord.mk 0x16 [(1, 2 ^ 44), (2, 2 ^ 44 + 2 ^ 40), (4, BitVec.ofNat 96 (mmaW 0))] 0) = [] ∧
    checkNames (CWord.mk 0x20 [(5, BitVec.ofNat 96 (3 * 2 ^ 90))] 0) = [(5, 5)] := by decide +kernel
def mmaWord1 : List Nat := cw 0 [(1, agW 1 0), (2, agW 1 1), (4, mmaW 0 - 3 * 2 ^ 40)]

/-- MMA marks its set filled by its operands, not written out; A's zeros are no poison. -/
theorem test_mma_fills : nextOf (exec (.mxeMma 0 0) (simple (mmaWord1)))
    (fun q => let a := (q.core 0).acc.get {} 0; a.filled && !a.written && a.fmt == 5 && a.a == 1 && a.b == 1) = true := by decide +kernel

/-- SPILL_SET selects the descriptor at its stream's address, and changes no statistics. -/
theorem test_spill_set : nextOf (exec (.spillSet 0 0) (simple (rweW 7))) (fun q => (q.core 0).spill == some 0) = true := by decide +kernel

/-- The row statistics of 32 ones: their root mean square with ε = 1e−5 (3727C5AC) is stored under tag 9 and row 0. -/
theorem test_rms_saves_statistics : nextOf (exec (.rmsFwd 0 0) (running { coreOf (rweW 2) with
      sreg := [(2, 32), (3, 9), (4, 0)], pal := Memory.writeN [] 0 ((List.range 32).flatMap fun _ => leBytes 4 0x3F800000), palWritten := [0, 1] } task))
    (fun q => (q.core 0).stats.map (fun e => (e.ctx, e.tag, e.row, e.stat0, e.stat1)) == [(1, 9, 0, 0, 0x3F800000)]) = true := by decide +kernel

/-- An illegal word is counted as skipped, and leaves its registers. -/
theorem test_skip_counts : nextOf (exec (.sclMovi 0 0) (simple (cw 0 [(9, 0x53000000)])))
    (fun q => (q.core 0).ctr.get 0 0x58 == 1 && (q.core 0).ctr.get 0 0x60 == 0 && (q.core 0).sreg == []) = true := by decide +kernel

/-- SYNC WAIT with nothing to wait for issues. -/
theorem test_wait_issues : nextOf (exec (.syncWait 0 0) (simple (cw 0 [(10, 0x10400000)]))) (fun q => (q.core 0).ctr.get 0 0x60 == 1) = true := by decide +kernel

/-! ### Memory, tasks and slots for the statements about rings, tasks and contexts -/

/-- A page table whose first 2 MiB are one direct leaf at DPA 2 MiB: read, write, remote (R594, R595). -/
def tables : Memory := Memory.writeN (Memory.writeN (Memory.writeN [] 0x1000 (leBytes 8 0x2001)) 0x2000 (leBytes 8 0x3001)) 0x3000 (leBytes 8 0x20004F)

/-- Bytes at virtual addresses of that leaf. -/
def mapped (ds : List (Nat × Bytes)) : MemSt :=
  { bytes := ds.foldl (fun m d => Memory.writeN m (0x200000 + d.1) d.2) tables
    valid := (ds.foldl (fun v d => v.insAll (unitsOf 256 (0x200000 + d.1) d.2.length)) [0x10, 0x20, 0x30])
    usable := 62 * 2 ^ 30 }

/-- A task descriptor (R225): one tensor, replayable; physical core 0 (flags 5), or cluster 0. -/
def taskBytes (image tensors budget flags slot span : Nat) : Bytes :=
  leBytes 8 image ++ leBytes 8 tensors ++ leBytes 8 0 ++ leBytes 4 budget ++ leBytes 4 0 ++ leBytes 8 0 ++ leBytes 2 0 ++ leBytes 2 slot ++
  leBytes 2 span ++ leBytes 2 1 ++ leBytes 8 (if flags = 5 then 0 else 1) ++ leBytes 2 0 ++ leBytes 1 flags ++ leBytes 69 0

def tdesc (image tensors budget flags slot span : Nat) : BitVec 1024 := BitVec.ofNat 1024 (leNat (taskBytes image tensors budget flags slot span))

/-- The core clocks at 1,500 MHz. -/
def clocked : Pkg := { ready with clk := { core := [(0, { mhz := 1500 })] } }

/-- A ready package with memory, whose context 1 has its root and entries in its ring. -/
def mem (ds : List (Nat × Bytes)) : Pkg := { clocked with
  mem := mapped ds
  ctxs := [(1, { phase := .open, root := 0x1000, sq := 4, cq := 4, sqProd := 2, sqCons := 1 })]
  regs := [(Reg.doorbellBase, 0x8000000000000001)] }

/-! ### Strokes, marks and the pool (chapter 2) -/

def marksOn (sync : Sync) (fields : StrokeSt → StrokeSt := id) : State := at_ { ready with
  stroke := fields { cfg := 0x00010060220401F4, sync := sync, number := 7, openedAt := 500000 }
  fab := { selfIdx := some 0, ports := [(2, { state := 4 }), (3, { state := 4 })] } }

theorem witness_StrokeOpens : ((at_ ready).at 0).strokesRun = true ∧ (State.reset.at 0).strokesRun = false ∧
    (let s := at_ { ready with stroke := { lastMark := some (400, 5) } }
     (s.at 0).strokesRun = true ∧ s.pkg.stroke.lastMark = some (400, 5) ∧ bitAt (s.pkg.stroke.cfgNext.getD s.pkg.stroke.cfg) 36 = false) := by decide +kernel

theorem witness_SlotEnds : let s := at_ { ready with stroke := { inSlot := true }, msys := { ports := [(3, { state := 3 })] } }
    s.pkg.stroke.inSlot = true ∧ s.pkg.easel.run = none ∧ (s.pkg.memPort 3).state = 3 ∧ State.reset.pkg.stroke.inSlot = false := by decide +kernel

/-- Marks that count: locked, in holdover, unsynchronised and lost, and one that does not match. -/
theorem witness_marks : ∀ y ∈ [Sync.locked, .holdover, .unsync, .lost],
    let s := marksOn y
    (s.at 0).strokesRun = true ∧ s.pkg.stroke.source = false ∧ ((s.at 0).port 2).state = 4 ∧ (s.at 0).hears 2 = some false ∧
    s.pkg.stroke.number = 7 ∧ (s.pkg.stroke.parent = some 2 ∧ s.pkg.stroke.parent ≠ some 3) := by decide +kernel

/-- In holdover on the alternate parent's absence, the other valid port may deliver a mark that does not match. -/
theorem witness_marks_other : let s := marksOn .holdover fun k => { k with cfg := 0x00010068E20401F4 }
    (s.at 0).hears 3 = some true ∧ s.pkg.stroke.parent ≠ some 3 ∧ ((s.at 0).port 3).state = 4 := by decide +kernel

theorem witness_mark_timeout :
    (let s := marksOn .locked fun k => { k with cfg := 0x00010068E20401F4 }
     s.pkg.stroke.source = false ∧ s.pkg.stroke.marked = false ∧ s.pkg.stroke.sync = .locked ∧ s.pkg.stroke.onAlt = false ∧
       bitAt s.pkg.stroke.cfg 35 = true) ∧
    (let s := marksOn .holdover fun k => { k with holdovers := 257 }
     s.pkg.stroke.sync = .holdover ∧ fld s.pkg.stroke.cfg 55 40 < s.pkg.stroke.holdovers) := by decide +kernel

theorem test_mark_moves_boundary : nextOf (exec (.strokeMarkAccept 500500 2 7 400 5 21000) (marksOn .locked))
    (fun q => q.stroke.openedAt == 499970 && q.stroke.nextAt == 899970 && q.stroke.curPeriod == 400) = true := by decide +kernel
theorem test_mark_adopted : nextOf (exec (.strokeMarkAccept 500320 2 99 400 5 0) (marksOn .unsync))
    (fun q => q.stroke.number == 99 && q.stroke.sync == .locked && (q.ctx 1).committed == 98) = true := by decide +kernel
theorem test_mark_mismatch_loses_strokes : nextOf (exec (.strokeMarkAccept 500320 2 8 400 5 0) (marksOn .locked))
    (fun q => q.stroke.number == 7 && q.stroke.sync == .lost) = true := by decide +kernel
theorem test_mark_timeout_holdover : nextOf (exec (.markTimeout 1000000) (marksOn .locked)) (fun q => q.stroke.sync == .holdover) = true := by decide +kernel
theorem test_holdover_limit : nextOf (exec (.holdoverLimitExpire 0) (marksOn .holdover fun k => { k with holdovers := 257 }))
    (fun q => q.stroke.sync == .lost) = true := by decide +kernel
theorem test_boundary : nextOf (exec (.strokeBoundary 500000) (at_ ready))
    (fun q => q.stroke.number == 1 && q.stroke.inSlot && q.stroke.nextAt == 1000000) = true := by decide +kernel
theorem test_slot_end : nextOf (exec (.maintSlotEnd 504000) (at_ { ready with stroke := { inSlot := true } })) (fun q => !q.stroke.inSlot) = true := by decide +kernel

/-- Legal and illegal writes of STROKE_CFG (R43, R52): a period of 39 µs is too short. -/
theorem witness_StrokeRegisterWrites : (State.reset.at 0).barPhase = .off ∧ ((at_ ready).at 0).barPhase = .on ∧
    (strokeCfgOk 0x00010060000401F4 ∧ ¬ strokeCfgOk 0x0001006000040027) ∧ (at_ ready).pkg.stroke.sync = .unsync ∧
    (let s := at_ { ready with stroke := { cfgNext := some 0x00010070000401F4 } }
     bitAt (s.pkg.stroke.cfgNext.getD s.pkg.stroke.cfg) 36 = true ∧ s.pkg.stroke.sync = .unsync) := by
  unfold strokeCfgOk; decide +kernel

theorem witness_pool_write : let s := at_ { ready with ctxs := [(3, { phase := .closing })], mem := { usable := 62 * 2 ^ 30 } }
    (s.at 0).barPhase = .on ∧ (∀ x ∈ s.pkg.ctxs.vals, x.phase ≠ .open) ∧ 4096 ≤ fld (0x0000100000000000 : Word) 51 32 ∧
      fld (0x0000100000000000 : Word) 51 32 ≤ 131072 ∧
      fld (0x0000100000000000 : Word) 31 16 * 0x200000 + fld (0x0000100000000000 : Word) 51 32 * 0x40000 ≤ s.pkg.mem.usable := by decide +kernel

theorem test_stroke_cfg_discarded : nextOf (exec (.strokeCfgWrite 0 0x0001006000040027) (at_ ready))
    (fun q => q.stroke.cfgNext == none && q.reg Reg.discardedWrites == 1) = true := by decide +kernel
theorem test_stroke_cfg_reserved_bits : nextOf (exec (.strokeCfgWrite 0 0xFF01006000E4F1F4) (at_ ready))
    (fun q => q.stroke.cfgNext == some 0x00010060000401F4) = true := by decide +kernel
theorem test_stroke_number : nextOf (exec (.strokeNumberWrite 0 0xFFFF000000000005) (at_ { ready with stroke := { cfg := 0x00010070000401F4 } }))
    (fun q => q.stroke.number == 5) = true := by decide +kernel
theorem test_pool_size : nextOf (exec (.sparePoolCfgWrite 0 0x0000100000000001) (at_ { ready with ctxs := [], mem := { usable := 62 * 2 ^ 30 } }))
    (fun q => q.stroke.freeFrames == 4096) = true := by decide +kernel

/-- A staged write: its page may be direct, or a version page without a frame (the pool of 0 pages). -/
def twoBytes : StagedWrite := { addr := 0x40, data := [1, 2], bad := false }

/-- A context with that write staged, its page's leaf entry `leaf`. -/
def staged (leaf : Nat) : State := at_ { ready with
  mem := { bytes := Memory.writeN (Memory.writeN (Memory.writeN [] 0x1000 (leBytes 8 0x2001)) 0x2000 (leBytes 8 0x3001)) 0x3000 (leBytes 8 leaf)
           valid := [0x10, 0x20, 0x30, 0x40], usable := 62 * 2 ^ 30 }
  stroke := { spareCfg := 0 }
  ctxs := [(1, { phase := .open, root := 0x1000, stagedWrites := [twoBytes] })] }

theorem witness_SparePoolAtWork :
    (∀ l ∈ [(0x20004F, true), (0x405F, false)], ((staged l.1).pkg.ctx 1).stagedWrites = [twoBytes] ∧
      (match ((staged l.1).at 0).vWrite1 1 0x40 {} [1, 2] false .write with
        | .done _ _ => l.2
        | .staged _ _ _ => !l.2
        | .fault _ => false) = true) := by decide +kernel

theorem test_recycle : nextOf (exec (.frameRecycle 0) (at_ { ready with stroke := { recycle := [5, 0x90000], used := [5, 6] } }))
    (fun q => q.stroke.recycle == [] && q.stroke.used == [6] && q.stroke.joined == [0x90000]) = true := by decide +kernel
theorem test_staged_lands : nextOf (exec (.stagedWriteResume 0 1) (staged 0x20004F))
    (fun q => q.mem.bytes.read 0x200040 == 1 && q.mem.bytes.read 0x200041 == 2 && (q.ctx 1).stagedWrites == []) = true := by decide +kernel
theorem test_staged_double_error : nextOf (exec (.sramScrub 0 (.staging 0 1 0 0)) (staged 0x405F))
    (fun q => ((q.ctx 1).stagedWrites.map (·.bad)) == [true] && q.reg Reg.sramUe == 1) = true := by decide +kernel
theorem test_staged_waits : nextOf (exec (.stagedWriteResume 0 1) (staged 0x405F)) (fun q => ((q.ctx 1).stagedWrites).length == 1) = true := by decide +kernel

def oldXfer : Xfer := { id := 4, cluster := 0, task := 0, ctx := 1, gen := 0, group := 0, kind := .relay, stroke := 5, left := 1 }

def aged : State := at_ { ready with
  stroke := { number := 7 }, clusters := [(0, { xfers := [oldXfer] })]
  fab := { selfIdx := some 0, ports := [(2, { state := 4, waiting := [(0, { orig := ⟨0, []⟩, pkt := ⟨0, []⟩, room := some ⟨2, 1, 3, 0⟩ }), (400000, { orig := ⟨1, []⟩, pkt := ⟨1, []⟩ })] })] } }

theorem witness_LifetimeBound : oldXfer.cluster = 0 ∧ oldXfer.id = 4 ∧ oldXfer.stroke + 2 ≤ aged.pkg.stroke.number ∧
    (∃ c ∈ aged.pkg.clusters.vals, ∃ x ∈ c.xfers, x = oldXfer) ∧
    0 < ((aged.pkg.port 2).waiting.filter fun x => decide (x.1 + 1000 * aged.pkg.stroke.curPeriod < (aged.at 600000).now)).length := by decide +kernel

theorem test_transfer_aged : nextOf (exec (.transferAged 0 0 4) aged) (fun q => (q.cluster 0).xfers == []) = true := by decide +kernel
theorem test_packet_aged : nextOf (exec (.packetAgeDrop 600000 2) aged)
    (fun q => ((q.port 2).waiting.map (·.1)) == [400000] && q.reg Reg.agedDrops == 1 && (q.port 2).freed.get 0 1 == 3) = true := by decide +kernel

/-- A window that commits, and one that is deferred because a task overran. -/
def closing (late : Bool) : Pkg := { ready with
  stroke := { number := 8 }
  ctxs := [(1, { phase := .open, committed := 6, closed := [(7, { epoch := 3 })], overran := late })] }

theorem witness_WindowCommits : ∀ late ∈ [true, false], let x := (closing late).ctx 1
    x.phase = .open ∧ x.herdEn = false ∧ x.closed = [] ++ ((closing late).stroke.number - 1, { epoch := 3 }) :: [] ∧
    x.committed ≤ (closing late).stroke.number - 1 ∧ x.overran = late ∧ x.pulling = false ∧ x.defers + 1 ≤ fld (closing late).stroke.cfg 39 37 := by
  decide +kernel

theorem test_window_commits : (((closing false).localStep 1).ctx 1).committed = 7 := by decide +kernel
theorem test_window_deferred : (((closing true).localStep 1).ctx 1).defers = 1 ∧ (((closing true).localStep 1).ctx 1).committed = 6 := by decide +kernel

/-! ### The update engine (chapter 8) -/

/-- An update program of operations, 32 bytes after its start (R289). -/
def program (ops : List Nat) : Bytes := leBytes 2 1 ++ leBytes 1 ops.length ++ leBytes 29 0 ++ ops.flatMap (leBytes 8)

/-- Update task 0 on cluster 0, on a slot of one tensor of four FP32 elements, at operation `pc`. -/
def updating (ops : List Nat) (pc : Nat) (temps : Tbl (BitVec 16384)) : State := at_ { clocked with
  mem := mapped [(0, leBytes 16 0x40400000), (0x100, leBytes 16 0x3F800000)]
  ctxs := [(1, { phase := .open, root := 0x1000 })]
  tasks := [(0, { ctx := 1, phase := .running, update := true, desc := tdesc 0 0 100 1 0 1, tensors := [tens 3 0x100 2 0 4 1],
                  slotRefs := [(0, tens 4 0 2 0 4 1)] })]
  slots := [(0, ⟨1, (tens 4 0 2 0 4 1).desc, none, none, none, 2⟩)]
  groups := [(2, { isOpen := true, owner := 1, prog := program ops })]
  clusters := [(0, { upe := { task := some 0, began := true, pc := pc, temps := temps, params := [(0, [0, 0, 0, 0, 0, 0, 0])] } })] }

/-- d = 3, a = 1, b = 2, c = 4. -/
def upeW (op : Nat) (rest : Nat := 0) : Nat := op * 2 ^ 59 + 3 * 2 ^ 55 + 1 * 2 ^ 51 + 2 * 2 ^ 47 + 4 * 2 ^ 43 + rest

theorem witness_Upe : ∀ i ∈ [(Instr.upeLoad 0 0, 1), (.upeStore 0 0, 2), (.upeAdd 0 0, 3), (.upeSub 0 0, 4), (.upeMul 0 0, 5), (.upeFma 0 0, 6), (.upeDiv 0 0, 7),
    (.upeSqrt 0 0, 8), (.upeRsqrt 0 0, 9), (.upeMax 0 0, 0xA), (.upeMin 0 0, 0xB), (.upeAbs 0 0, 0xC), (.upeSelect 0 0, 0xD), (.upeCmp 0 0, 0xE),
    (.upeConv 0 0, 0xF), (.upeClamp 0 0, 0x10)],
    i.1.upeCmd = some (0, i.2) ∧ ∃ f, UpeReady ((updating [upeW i.2, upeW 3] 0 []).at 0) 0 0 (progOps (program [upeW i.2, upeW 3])) f ∧ f.op = i.2 := by
  intro i hi
  have h : (i.1.upeCmd = some (0, i.2)) ∧ ((progOps (program [upeW i.2, upeW 3])).head?.map (·.op)) = some i.2 ∧
      ((updating [upeW i.2, upeW 3] 0 []).at 0).dieStopped 0 = false ∧
      progOps (((updating [upeW i.2, upeW 3] 0 []).at 0).group (((updating [upeW i.2, upeW 3] 0 []).at 0).slotGroup 0 0)).prog = progOps (program [upeW i.2, upeW 3]) := by
    revert i hi; decide +kernel
  obtain ⟨h1, h2, h3, h4⟩ := h
  rw [Option.map_eq_some_iff] at h2
  obtain ⟨f, hf, ho⟩ := h2
  exact ⟨h1, f, ⟨rfl, rfl, rfl, h4.symm, by rw [List.head?_eq_getElem?] at hf; exact hf, h3⟩, ho⟩

/-- Lane 0 of T3 after one operation on lanes T1, T2 and T4. -/
def upe (op a b c : Nat) (i : Instr) (rest : Nat := 0) : Nat :=
  match exec i (updating [upeW op rest, upeW 3] 0 [(1, BitVec.ofNat 16384 a), (2, BitVec.ofNat 16384 b), (4, BitVec.ofNat 16384 c)]) with
  | .next u => (u.pkg.cluster 0).upe.lane 3 0
  | _ => 0

theorem test_upe_add : upe 3 0x3F800000 0x40000000 0 (.upeAdd 0 0) = 0x40400000 := by decide +kernel
theorem test_upe_sub : upe 4 0x40400000 0x3F800000 0 (.upeSub 0 0) = 0x40000000 := by decide +kernel
theorem test_upe_mul : upe 5 0x40400000 0x40000000 0 (.upeMul 0 0) = 0x40C00000 := by decide +kernel
theorem test_upe_fma : upe 6 0x40000000 0x3F800000 0x3F800000 (.upeFma 0 0) = 0x40400000 := by decide +kernel
theorem test_upe_div : upe 7 0x40C00000 0x40000000 0 (.upeDiv 0 0) = 0x40400000 := by decide +kernel
theorem test_upe_sqrt : upe 8 0x40800000 0 0 (.upeSqrt 0 0) = 0x40000000 := by decide +kernel
theorem test_upe_rsqrt_of_minus_zero : upe 9 0x80000000 0 0 (.upeRsqrt 0 0) = 0xFF800000 := by decide +kernel
theorem test_upe_max : upe 0xA 0x3F800000 0x40000000 0 (.upeMax 0 0) = 0x40000000 := by decide +kernel
theorem test_upe_min : upe 0xB 0x3F800000 0x40000000 0 (.upeMin 0 0) = 0x3F800000 := by decide +kernel
theorem test_upe_abs : upe 0xC 0xBF800000 0 0 (.upeAbs 0 0) = 0x3F800000 := by decide +kernel
theorem test_upe_select : upe 0xD 5 6 1 (.upeSelect 0 0) = 5 := by decide +kernel
theorem test_upe_cmp : upe 0xE 0x3F800000 0x3F800000 0 (.upeCmp 0 0) = 0xFFFFFFFF := by decide +kernel
/-- 1 + 2^-8 lies halfway between 1 and the next BF16: to even. -/
theorem test_upe_conv : upe 0xF 0x3F808000 0 0 (.upeConv 0 0) 4 = 0x3F800000 := by decide +kernel
theorem test_upe_clamp : upe 0x10 0x40400000 0x3F800000 0x40000000 (.upeClamp 0 0) = 0x40000000 := by decide +kernel
theorem test_upe_load_gradient : upe 1 0 0 0 (.upeLoad 0 0) = 0x3F800000 := by decide +kernel
theorem test_upe_store_weights : nextOf (exec (.upeStore 0 0) (updating [upeW 2 (1 * 2 ^ 34), upeW 3] 0 [(1, 0x40000000)]))
    (fun q => q.mem.bytes.readN 0x200000 4 == leBytes 4 0x40000000) = true := by decide +kernel

/-! ### The worked update program (chapter 8) -/

/-- An operation of R290: op, d, a, b, c, rmode, sel, imm32. -/
def upeOp (op d a b c rm sel imm : Nat) : Nat :=
  op * 2 ^ 59 + d * 2 ^ 55 + a * 2 ^ 51 + b * 2 ^ 47 + c * 2 ^ 43 + rm * 2 ^ 40 + sel * 2 ^ 34 + imm

def workedProgram : List Nat := [
  upeOp 1 0 0 0 0 0 0 0, upeOp 0xF 0 0 0 0 6 0 2, upeOp 1 1 0 0 0 0 3 0, upeOp 4 2 1 0 0 0 0 0, upeOp 1 3 0 0 0 0 10 0, upeOp 6 1 3 2 0 0 0 0,
  upeOp 2 0 1 0 0 0 3 0, upeOp 5 4 0 0 0 0 0 0, upeOp 1 5 0 0 0 0 4 0, upeOp 4 6 5 4 0 0 0 0, upeOp 1 7 0 0 0 0 11 0, upeOp 6 5 7 6 4 0 0 0,
  upeOp 2 0 5 0 0 0 4 0, upeOp 1 8 0 0 0 0 13 0, upeOp 7 9 1 8 0 0 0 0, upeOp 1 10 0 0 0 0 14 0, upeOp 7 11 5 10 0 0 0 0, upeOp 8 11 11 0 0 0 0 0,
  upeOp 1 12 0 0 0 0 12 0, upeOp 3 11 11 12 0 0 0 0, upeOp 7 9 9 11 0 0 0 0, upeOp 1 13 0 0 0 0 2 0, upeOp 1 14 0 0 0 0 9 0, upeOp 6 9 14 13 9 0 0 0,
  upeOp 1 15 0 0 0 0 8 0, upeOp 5 9 15 9 0 0 0 0, upeOp 4 13 13 9 0 0 0 0, upeOp 2 0 13 0 0 0 2 0, upeOp 2 0 13 0 0 0 1 0]

/-- The three encodings that the worked example writes out. -/
theorem test_worked_encodings : workedProgram.getD 1 0 = 0x7800060000000002 ∧ workedProgram.getD 5 0 = 0x3099000000000000 ∧
    workedProgram.getD 24 0 = 0x0F80002000000000 := by decide +kernel

def workedBytes : Bytes := leBytes 2 1 ++ leBytes 1 29 ++ leBytes 29 0 ++ workedProgram.flatMap (leBytes 8) ++ leBytes 24 0

theorem test_worked_program_in_order : progOk workedBytes false = true ∧ progOk workedBytes true = false := by decide +kernel

/-- Values of the worked example's table: positions 20, 23 and 28. -/
theorem test_worked_values : (fp32.div .rne 0x3F400000 0x3F400010).1 = 0x3F7FFFEB ∧ (fp32.fma .rne 0x3D800000 0x3F800000 0x3F7FFFEB).1 = 0x3F87FFF6 ∧
    (fp32.sub .rne 0x3F800000 0x3A87FFF6).1 = 0x3F7FBC00 := by decide +kernel

/-! ### Rings, sketches and slots (chapter 6) -/

/-- A tensor descriptor in memory, its scale record at 0x4000: FP32, direct, 16 elements. -/
def tensBytes : Bytes := leBytes 64 ((tens 7 0x5000 2 0 16 1).desc.toNat + 0x4000 * 2 ^ 400)
def scaleBytes : Bytes := leBytes 256 0x3F800000

def imageBytes : Bytes := leBytes 256 (1 + 2 * 2 ^ 64 + 0x40000000 * 2 ^ 512)

def shop : Pkg := mem [(0x1000, taskBytes 0x3000 0x2000 1000 5 0xFFFF 0 ++ leBytes 128 0), (0x2000, tensBytes ++ leBytes 192 0), (0x3000, imageBytes),
  (0x4000, scaleBytes), (0x5000, leBytes 256 0)]

def sketchEntry : Bytes := leBytes 1 1 ++ leBytes 1 1 ++ leBytes 2 0 ++ leBytes 4 0xABCD ++ leBytes 8 0x1000 ++ leBytes 4 1 ++ leBytes 44 0

theorem witness_RingIndices : let p := (at_ shop).at 0
    p.ringsOn = true ∧ (p.ctx 1).phase = .open ∧ (p.ctx 1).sqProd ≤ 3 ∧ 3 ≤ (p.ctx 1).sqCons + 2 ^ fld (p.ctx 1).sq 4 0 ∧
    (1 < (p.ctx 1).sqProd ∧ 1 ∉ (p.ctx 1).badSq) ∧ p.entryReady 1 = true ∧ (p.ctx 1).cqCons ≤ 0 ∧ 0 ≤ (p.ctx 1).cqProd ∧ (p.ctx 1).cqHeld = [] ∧
    ((State.reset.at 0).ringsOn = false) ∧ (le (leBytes 64 0) 0 1 = 0) := by decide +kernel

/-- Index 1, below the producer index 2, has been seen: it is not counted again. -/
def badSeen : Pkg := { shop with ctxs := [(1, { shop.ctx 1 with badSq := [1] })] }

theorem witness_bad_index_seen : ((at_ badSeen).at 0).ringsOn = true ∧ (badSeen.ctx 1).phase = .open ∧ 1 ∈ (badSeen.ctx 1).badSq ∧ 1 < (badSeen.ctx 1).sqProd := by
  decide +kernel

theorem test_bad_index_once : nextOf (exec (.doorbellPoll 0 [(1, 1)] []) (at_ badSeen)) (fun q => (q.ctx 1).badSq == [1] && q.log.recs == []) = true := by decide +kernel

theorem witness_cq_index : let x : Ctx := { phase := .open, cqProd := 5, cq := 4 }
    (((at_ { shop with ctxs := [(1, x)] }).at 0).ringsOn = true ∧ x.phase ≠ .free ∧ x.cqCons ≤ 2 ∧ 2 ≤ x.cqProd ∧ x.cqHeld = []) := by decide +kernel

theorem test_poll_takes_index : nextOf (exec (.doorbellPoll 0 [(1, 3)] []) (at_ shop)) (fun q => (q.ctx 1).sqProd == 3) = true := by decide +kernel
theorem test_poll_refuses_index : nextOf (exec (.doorbellPoll 0 [(1, 18)] []) (at_ shop))
    (fun q => (q.ctx 1).sqProd == 2 && (q.ctx 1).badSq == [18]) = true := by decide +kernel
/-- A full ring of 16 records with one record held, which waits to free task slot 0. -/
def heldBack : Pkg := { shop with
  ctxs := [(1, { phase := .open, cq := 4, cqProd := 16, cqHeld := [{ bytes := leBytes 63 5, irq := false, slots := [0] }] })]
  tasks := [(0, { ctx := 1, phase := .reported })] }

theorem witness_held_record : let x := heldBack.ctx 1
    ((at_ heldBack).at 0).ringsOn = true ∧ x.phase = .open ∧ x.cqCons ≤ 3 ∧ 3 ≤ x.cqProd ∧ min x.cqHeld.length (3 + 2 ^ fld x.cq 4 0 - x.cqProd) = 1 := by decide +kernel

theorem test_held_record_written : nextOf (exec (.cqRecordsRelease 0 1 3) (at_ heldBack))
    (fun q => (q.ctx 1).cqProd == 17 && (q.ctx 1).cqHeld == [] && q.tasks == [] && q.out.head? == some (.hostWrite 0 (leBytes 63 5 ++ [1]))) = true := by decide +kernel
theorem test_cq_index : nextOf (exec (.cqRecordsRelease 0 1 2) (at_ { shop with ctxs := [(1, { phase := .open, cqProd := 5, cq := 4 })] }))
    (fun q => (q.ctx 1).cqCons == 2) = true := by decide +kernel

theorem free_of_none (p : Pkg) (h : p.tasks = []) : p.freeSlots 1 = [0] := by
  have : ((List.range 32768).filter fun i => (p.tasks.find i).isNone) = List.range 32768 := by
    rw [List.filter_eq_self]; intro a _; simp [h, Tbl.find]
  unfold Pkg.freeSlots
  rw [this, List.take_range]
  rfl

/-- The clause of SketchAdmission about a sketch of one task: everything reads, and checks. -/
theorem witness_SketchAdmission :
    let p := (at_ shop).at 0
    let r := (p.takeEntry 1).updCtx 1 fun y => { y with sketchSeq := y.sketchSeq + 1, ringHeld := .none, ringEntry := [], waitNoted := false }
    p.entryReady 1 = true ∧ le sketchEntry 1 1 < 4 ∧ zeros sketchEntry 20 44 = true ∧ le sketchEntry 16 4 = 1 ∧ le sketchEntry 8 8 % 128 = 0 ∧
    p.inFlight 1 + 1 ≤ fld (p.ctx 1).sched 15 0 ∧ p.tasks.length + 1 ≤ 32768 ∧
    (match r.rdStruct 1 (le sketchEntry 8 8) 128 with
      | (.ok b, p1) => let t := taskOf 1 1 0 b
        (p1.readTask t).2.1.isEmpty && t.succCount == 0 && t.depCount == 0
      | _ => false) = true := by decide +kernel

theorem witness_free_slot : shop.freeSlots 1 = [0] := free_of_none _ rfl

/-- Too few slots: the context's limit is one task, and one is admitted. -/
def crowded : Pkg := { shop with tasks := [(0, { ctx := 1 })], ctxs := [(1, { phase := .open, root := 0x1000, sq := 4, cq := 4, sqProd := 2, sqCons := 1, sched := 0x100001 })] }

theorem witness_sketch_waits : let p := (at_ crowded).at 0
    p.entryReady 1 = true ∧ 1 ≤ le sketchEntry 16 4 ∧ le sketchEntry 16 4 ≤ fld (p.ctx 1).sched 15 0 ∧
    fld (p.ctx 1).sched 15 0 < p.inFlight 1 + le sketchEntry 16 4 := by decide +kernel

def sketchHeld (p : Pkg) : State := at_ (p.updCtx 1 fun x => { x with ringHeld := .sketchSlots, ringEntry := sketchEntry, waitNoted := true, sketchSeq := 1 })

theorem witness_sketch_resumes : let p := (sketchHeld crowded).at 0
    p.ringsOn = true ∧ (p.ctx 1).phase = .open ∧ (p.ctx 1).ringHeld = .sketchSlots ∧ (p.ctx 1).waitNoted = true ∧
    fld (p.ctx 1).sched 15 0 < p.inFlight 1 + le (p.ctx 1).ringEntry 16 4 := by decide +kernel

theorem test_sketch_admits : nextOf (exec (.sketch 0 1 sketchEntry) (at_ shop))
    (fun q => (q.tasks.map (·.1)) == [0] && (q.task 0).phase == .waiting && (q.task 0).ctx == 1 && (q.task 0).seq == 1 && (q.ctx 1).sqCons == 2) = true := by
  decide +kernel
theorem test_sketch_waits : nextOf (exec (.sketch 0 1 sketchEntry) (at_ crowded))
    (fun q => (q.ctx 1).ringHeld == .sketchSlots && q.reg Reg.admitWait == 1) = true := by decide +kernel
theorem test_sketch_resume_waits : nextOf (exec (.sketchAdmitResume 0 1) (sketchHeld crowded)) (fun q => (q.ctx 1).ringHeld == .sketchSlots) = true := by decide +kernel

/-- Group 2 of context 1, with a program of one load and one store of the weights. -/
def plain : Bytes := leBytes 2 1 ++ leBytes 1 2 ++ leBytes 29 0 ++ leBytes 8 (upeOp 1 0 0 0 0 0 15 0x3F800000) ++ leBytes 8 (upeOp 2 0 0 0 0 0 1 0) ++ leBytes 240 0

def slotted : Pkg := { shop with
  mem := mapped [(0x2000, leBytes 64 ((tens 7 0x5000 4 0 16 1).desc.toNat + 0x4000 * 2 ^ 400) ++ leBytes 192 0), (0x4000, scaleBytes), (0x5000, leBytes 256 0), (0x6000, leBytes 8 0x2000 ++ leBytes 24 0 ++ leBytes 2 2 ++ leBytes 222 0), (0x7000, leBytes 256 0)]
  groups := [(2, { isOpen := true, owner := 1, prog := plain })] }

def setEntry (slot addr : Nat) : Bytes := leBytes 4 2 ++ leBytes 2 slot ++ leBytes 2 0 ++ leBytes 8 addr ++ leBytes 48 0
def clearEntry (slot : Nat) : Bytes := leBytes 4 3 ++ leBytes 2 slot ++ leBytes 58 0
def owned : ModelSlot := ⟨1, (tens 7 0x5000 4 0 16 1).desc, none, none, none, 2⟩

theorem witness_SlotEntries : let p := (at_ slotted).at 0
    p.entryReady 1 = true ∧ le (setEntry 9 0x6000) 0 1 = 2 ∧ (zeros (setEntry 9 0x6000) 1 3 = true ∧ zeros (setEntry 9 0x6000) 6 2 = true ∧
      zeros (setEntry 9 0x6000) 16 48 = true ∧ le (setEntry 9 0x6000) 4 2 < 16384) ∧ p.slots.find 9 = none ∧ p.slotBusy 9 = false ∧
    ((p.takeEntry 1).readSlot 1 (le (setEntry 9 0x6000) 8 8)).1.isSome = true ∧ ((p.takeEntry 1).readSlot 1 0x7000).1 = none ∧
    (le (clearEntry 9) 0 1 = 3 ∧ zeros (clearEntry 9) 1 3 = true ∧ zeros (clearEntry 9) 6 2 = true ∧ zeros (clearEntry 9) 8 56 = true) ∧
    ¬ (le (setEntry 16384 0x6000) 4 2 < 16384) := by decide +kernel

theorem witness_slot_owned : let p := (at_ { slotted with slots := [(9, owned)], tasks := [(3, { ctx := 1, desc := tdesc 0 0 100 1 9 1 })] }).at 0
    (p.slots.find 9).map (·.owner) = some 1 ∧ p.slotBusy 9 = true := by decide +kernel

theorem test_slot_set : nextOf (exec (.slotSet 0 1 (setEntry 9 0x6000)) (at_ slotted)) (fun q => (q.slots.find 9).map (·.owner) == some 1) = true := by decide +kernel
theorem test_slot_set_empty_descriptor : nextOf (exec (.slotSet 0 1 (setEntry 9 0x7000)) (at_ slotted)) (fun q => q.slots.find 9 == none) = true := by decide +kernel
theorem test_slot_clear : nextOf (exec (.slotClear 0 1 (clearEntry 9)) (at_ { slotted with slots := [(9, owned)] })) (fun q => q.slots.find 9 == none) = true := by decide +kernel
theorem test_slot_clear_of_another : nextOf (exec (.slotClear 0 1 (clearEntry 9)) (at_ { slotted with slots := [(9, { owned with owner := 2 })] }))
    (fun q => (q.slots.find 9).isSome) = true := by decide +kernel
def slotHeld (p : Pkg) (e : Bytes) : State := at_ (p.updCtx 1 fun x => { x with ringHeld := .slotTasks, ringEntry := e })
theorem test_slot_resume : nextOf (exec (.slotEntryResume 0 1) (slotHeld slotted (setEntry 9 0x6000))) (fun q => (q.slots.find 9).isSome && (q.ctx 1).ringHeld == .none) = true := by
  decide +kernel

def arrEntry (flags base len : Nat) : Bytes := leBytes 2 (4 + 256 * 7) ++ leBytes 1 flags ++ leBytes 5 0 ++ leBytes 8 base ++ leBytes 8 len ++ leBytes 40 0

theorem witness_ArrivalWindows : let p := (at_ shop).at 0
    p.entryReady 1 = true ∧ (∀ e ∈ [arrEntry 1 0x1000 0x40, arrEntry 0 0 0], le e 0 1 = 4 ∧ le e 2 1 < 4 ∧ zeros e 3 5 = true ∧ zeros e 24 40 = true) ∧
    (0x1000 % 64 = 0 ∧ ∀ w ∈ (p.ctx 1).arrWin, w.1 ≠ 7 → w.2.base + w.2.len ≤ 0x1000 ∨ 0x1000 + 0x40 ≤ w.2.base) ∧
    (le (arrEntry 1 0x20 0x40) 8 8 % 64 ≠ 0 ∧ le (arrEntry 1 0x1000 0) 16 8 = 0) := by decide +kernel

theorem test_arrival_set : nextOf (exec (.arrivalSet 0 1 (arrEntry 3 0x1000 0x40)) (at_ shop)) (fun q => (q.ctx 1).arrWin.find 7 == some ⟨0x1000, 0x40, true, false⟩) = true := by
  decide +kernel
/-- A task of an earlier entry awaits counter 7, which has come to 5 (R84). -/
def awaitsSeven : Pkg := { shop with
  ctxs := [(1, { shop.ctx 1 with arrWin := [(7, ⟨0x2000, 0x40, true, false⟩)], cur := { arr := [(7, 5)] } })]
  tasks := [(3, { ctx := 1, desc := BitVec.ofNat 1024 (2 ^ 472 + 7 * 2 ^ 480) })] }

theorem witness_arrival_kept : let x := awaitsSeven.ctx 1
    (x.arrWin.all fun w => w.1 == 7) = true ∧ x.cur.arr = [(7, 5)] ∧ x.arrDirect = [] ∧ (awaitsSeven.task 3).awaitEn 0 = true ∧
    (awaitsSeven.task 3).phase ≠ .reported ∧ (awaitsSeven.task 3).awaits = [] ∧ x.arrival ((awaitsSeven.task 3).awaitKey 0) = 5 := by decide +kernel

theorem test_arrival_kept_for_earlier : nextOf (exec (.arrivalSet 0 1 (arrEntry 3 0x1000 0x40)) (at_ awaitsSeven))
    (fun q => (q.ctx 1).arrival 7 == 0 && (q.ctx 1).arrival ((q.task 3).awaitKey 0) == 5) = true := by decide +kernel
theorem test_arrival_set_unaligned : nextOf (exec (.arrivalSet 0 1 (arrEntry 1 0x20 0x40)) (at_ shop)) (fun q => (q.ctx 1).arrWin == []) = true := by decide +kernel

/-! ### Dispatch and completion -/

def waitingTask (flags slot span : Nat) (up : Bool) : Task :=
  { ctx := 1, seq := 1, desc := tdesc (if up then 0 else 0x3000) 0x2000 1000 flags slot span, update := up, imageHdr := 0x20000000000000001,
    tensors := [{ desc := BitVec.ofNat 512 ((tens 7 0x5000 2 0 16 1).desc.toNat + 0x4000 * 2 ^ 400) }] }

def dispatchable (up : Bool) : Pkg := { shop with
  stroke := { openedAt := 0, nextAt := 500000 }
  tasks := [(0, waitingTask (if up then 1 else 5) (if up then 9 else 0xFFFF) (if up then 1 else 0) up)]
  slots := [(9, ⟨1, BitVec.ofNat 512 ((tens 7 0x5000 2 0 16 1).desc.toNat + 0x4000 * 2 ^ 400), none, none, none, 2⟩)]
  groups := [(2, { isOpen := true, owner := 1, prog := plain })] }

theorem dispatchable_core : let p := (at_ (dispatchable false)).at 0
    let x := p.task 0
    p.power.ready = true ∧ p.power.halted = false ∧ p.stroke.inSlot = false ∧ x.update = false ∧ p.nextTask = some 0 ∧ p.canPlace x 0 = true ∧
    p.neverFits x = false ∧ p.fits x 0 = true ∧ (∀ r ∈ x.tensors, r.epoch = (p.ctx x.ctx).cur.epoch) ∧ p.fits x 0 = true ∧
    (match p.readScales 0 true x.tensors with
      | (some ts, q) => (match q.readScales 0 false (p.slotDescs x).vals with
        | (some ss, q2) => (match (q2.updTask 0 fun y => { y with tensors := ts, slotRefs := (p.slotDescs x).keys.zip ss }).copyImage 0 0 with
          | (.ok _, _) => true
          | _ => false)
        | _ => false)
      | _ => false) = true := by decide +kernel

theorem dispatchable_update : let p := (at_ (dispatchable true)).at 0
    let x := p.task 0
    p.stroke.inSlot = false ∧ x.update = true ∧ p.nextTask = some 0 ∧ p.canPlace x 0 = true ∧ p.neverFits x = false ∧ p.fits x 0 = true ∧
    (∀ r ∈ x.tensors, r.epoch = (p.ctx x.ctx).cur.epoch) ∧
    (match p.readScales 0 true x.tensors with
      | (some _, q) => (q.readScales 0 false (p.slotDescs x).vals).1.isSome
      | _ => false) = true := by decide +kernel

/-- Late in the stroke the task fits no longer: 1,000 cycles at 1,500 MHz take 0.67 µs. -/
theorem dispatchable_late : let p := (at_ (dispatchable false)).at 499900
    p.nextTask = some 0 ∧ p.canPlace (p.task 0) 0 = true ∧ p.neverFits (p.task 0) = false ∧ p.fits (p.task 0) 0 = false := by decide +kernel

/-- Of two ready tasks the one of the lower sketch goes first (R240). -/
theorem test_dispatch_in_order : ((at_ { dispatchable false with tasks :=
      [(0, { waitingTask 5 0xFFFF 0 false with seq := 2 }), (1, waitingTask 5 0xFFFF 0 false)] }).at 0).nextTask = some 1 := by decide +kernel

theorem test_dispatch : nextOf (exec (.taskDispatch 0 0 0) (at_ (dispatchable false)))
    (fun q => (q.task 0).phase == .running && (q.core 0).task == some 0 && (q.core 0).pc == 0) = true := by decide +kernel
theorem test_update_dispatch : nextOf (exec (.updateTaskDispatch 0 0 0) (at_ (dispatchable true)))
    (fun q => (q.task 0).phase == .running && (q.cluster 0).upe.task == some 0) = true := by decide +kernel
theorem test_dispatch_not_in_slot : nextOf (exec (.taskDispatch 0 0 0) (at_ { dispatchable false with stroke := { inSlot := true } }))
    (fun q => (q.task 0).phase == .waiting) = true := by decide +kernel

def finished (up : Bool) : State := at_ { shop with
  stroke := { number := 7 }
  tasks := [(0, { waitingTask (if up then 1 else 5) 0xFFFF 0 up with phase := .running }), (1, { ctx := 1, seq := 1, idx := 1, deps := 1 })]
  cores := if up then [] else [(0, { task := some 0, ended := true })]
  clusters := if up then [(0, { upe := { task := some 0, done := true } })] else [] }

theorem witness_TaskCompletion : (let s := finished false
     (s.pkg.core 0).task = some 0 ∧ (s.pkg.task 0).phase = .running ∧ (s.pkg.core 0).ended = true ∧ s.pkg.stagedFor 0 = false ∧ s.pkg.taskXfers 0 none = [] ∧
       (s.pkg.task 0).core = 0 ∧ (s.pkg.task 0).update = false ∧ (s.pkg.task 0).replayable = true ∧ (s.pkg.tasks.find 0).isSome = true) ∧
    (let s := finished true
     (s.pkg.cluster 0).upe.task = some 0 ∧ (s.pkg.task 0).phase = .running ∧ (s.pkg.cluster 0).upe.done = true ∧ s.pkg.stagedFor 0 = false ∧ (s.pkg.task 0).core = 0 ∧
       (s.pkg.task 0).update = true ∧ (s.pkg.task 0).replayable = true) := by decide +kernel

theorem test_complete : nextOf (exec (.taskComplete 9000 0) (finished false))
    (fun q => (q.task 0).phase == .completed && (q.task 0).window == 7 && (q.core 0).task == none) = true := by decide +kernel
theorem test_update_complete : nextOf (exec (.updateTaskComplete 9000 0) (finished true)) (fun q => (q.task 0).phase == .completed) = true := by decide +kernel

/-! ### Contexts, numerics and groups -/

def selecting (x : Ctx) (regs : Tbl Word := []) : State := at_ { shop with
  ctxs := [(1, x)], regs := [(Reg.ctxSelect, 1)].foldl (fun t r => t.set r.1 r.2) (regs.foldl (fun t r => t.set r.1 r.2) shop.regs) }

def freeCtx : Ctx := { sq := 4, cq := 5, root := 0x1000, genCfg := 3 }

theorem witness_ContextOpenClose : (let s := selecting freeCtx
     s.pkg.sel = 1 ∧ (s.at 0).barPhase = .on ∧ Opens (s.at 0)) ∧ ¬ Opens ((selecting { phase := .open }).at 0) ∧ ((selecting { phase := .open }).pkg.ctx 1).phase = .open ∧
    (1 ≤ fld (0x10400 : Word) 23 16 ∧ 1 ≤ fld (0x10400 : Word) 15 0 ∧ fld (0x10400 : Word) 63 44 = 0 ∧ fld (0x10400 : Word) 31 24 = 0) ∧
    fld (0x400 : Word) 23 16 = 0 := by unfold Opens; decide +kernel

theorem test_ctx_open : nextOf (exec (.ctxOpen 0 true) (selecting freeCtx)) (fun q => (q.ctx 1).phase == .open && (q.ctx 1).gen == 3 && (q.ctx 1).zeroFill) = true := by decide +kernel
theorem test_ctx_open_without_root : nextOf (exec (.ctxOpen 0 true) (selecting { freeCtx with root := 0 }))
    (fun q => (q.ctx 1).phase == .free && (q.ctx 1).openError == Code.invalidDescriptor) = true := by decide +kernel
theorem test_ctx_close : nextOf (exec (.ctxClose 0 false) (selecting { phase := .open, gen := 0xFFFF }))
    (fun q => (q.ctx 1).phase == .closing && (q.ctx 1).gen == 0) = true := by decide +kernel
theorem test_ctx_sched : nextOf (exec (.ctxSchedWrite 0 0x20010) (selecting freeCtx)) (fun q => (q.ctx 1).sched == 0x20010) = true := by decide +kernel

theorem witness_ContextRelease : ∀ d ∈ [Teardown.waiting 0, .filling], ((selecting { phase := .closing, teardown := d }).pkg.ctx 1).phase = .closing ∧
    ((selecting { phase := .closing, teardown := d }).pkg.ctx 1).teardown = d ∧
    ((selecting { phase := .closing, teardown := d, cq := 4 }).pkg.ctx 1).cqProd + 0 < 2 ^ fld (4 : Word) 4 0 := by decide +kernel

/-- The context record waits for room in a full ring. -/
def recordWaits : State := selecting { phase := .closing, teardown := .record, cq := 4, cqProd := 16, cqHeld := [{ bytes := leBytes 63 0, irq := false }] }

theorem witness_record_waits : let x := recordWaits.pkg.ctx 1
    (recordWaits.at 0).ringsOn = true ∧ x.phase = .closing ∧ x.teardown = .record ∧ x.cqHeld ≠ [] ∧ x.cqCons ≤ 1 ∧ 1 ≤ x.cqProd ∧
    x.cqProd + x.cqHeld.length ≤ 1 + 2 ^ fld x.cq 4 0 := by decide +kernel

theorem test_record_written_frees : nextOf (exec (.cqRecordsRelease 0 1 1) recordWaits) (fun q => (q.ctx 1).phase == .free) = true := by decide +kernel
theorem test_record_waits : nextOf (exec (.contextRelease 0 1) (selecting { phase := .closing, teardown := .waiting 0, cq := 4, cqProd := 16 }))
    (fun q => (q.ctx 1).phase == .closing && (q.ctx 1).teardown == .record) = true := by decide +kernel

theorem test_release : nextOf (exec (.contextRelease 0 1) (selecting { phase := .closing, teardown := .waiting 0 })) (fun q => (q.ctx 1).phase == .free) = true := by decide +kernel
theorem test_release_fills : nextOf (exec (.contextRelease 0 1) (selecting { phase := .closing, teardown := .waiting 0, zeroFill := true }))
    (fun q => (q.ctx 1).phase == .closing && (q.ctx 1).teardown == .filling) = true := by decide +kernel
theorem test_fill_done : nextOf (exec (.releaseZeroFillDone 0 1) (selecting { phase := .closing, teardown := .filling })) (fun q => (q.ctx 1).phase == .free) = true := by
  decide +kernel

def numerics (switch step : Nat) : State := selecting { phase := .open, switchStep := switch } [(Reg.numericsModeStep, BitVec.ofNat 64 step)]

theorem witness_NumericsMode : ((numerics 5 9).at 0).barPhase = .on ∧ bitAt (1 : Word) 2 = false ∧ ((numerics 5 9).pkg.ctx (numerics 5 9).pkg.sel).phase ≠ .free ∧
    ¬ ((numerics 5 9).pkg.reg Reg.numericsModeStep).toNat < ((numerics 5 9).pkg.ctx 1).switchStep ∧ (∀ y ∈ (numerics 5 9).pkg.tasks.vals, y.ctx ≠ 1) ∧
    ((numerics 5 4).pkg.reg Reg.numericsModeStep).toNat < ((numerics 5 4).pkg.ctx 1).switchStep ∧ 2 ≤ fld (2 : Word) 1 0 := by decide +kernel

theorem test_mode : nextOf (exec (.numericsModeWrite 0 0) (numerics 5 9))
    (fun q => (q.ctx 1).modeBefore && !(q.ctx 1).modeAfter && (q.ctx 1).switchStep == 9) = true := by decide +kernel
theorem test_mode_early : nextOf (exec (.numericsModeWrite 0 0) (numerics 5 4)) (fun q => (q.ctx 1).modeAfter && (q.ctx 1).lastRefused) = true := by decide +kernel

/-- Group commands: the worked program at 0x6000, the worked example's parameters staged, group 17 selected. -/
def grouped (g : Group) (prog : Bytes) (step : Nat) : State :=
  let s := selecting { phase := .open, root := 0x1000 } [(Reg.groupSelect, 17), (Reg.groupProg, 0x6000), (Reg.groupLr, 0x3A800000), (Reg.groupDecay, 0x3D800000),
    (Reg.groupBeta, 0x3F7000003F600000), (Reg.groupEps, 0x35800000), (Reg.groupStep, BitVec.ofNat 64 step)]
  { s with pkg := { s.pkg with mem := mapped [(0x6000, prog ++ leBytes (512 - prog.length) 0)], groups := [(17, g)] } }

theorem witness_GroupCommands :
    (let s := grouped {} workedBytes 0
     (s.at 0).barPhase = .on ∧ s.pkg.staged ≠ none ∧ (s.pkg.group 17).isOpen = false ∧ s.pkg.gsel = 17 ∧ (s.pkg.ctx s.pkg.sel).phase = .open ∧
       fld (s.pkg.reg Reg.groupFlags) 3 2 ≠ 3 ∧ fld (s.pkg.reg Reg.groupProg) 47 0 % 32 = 0 ∧
       (match (s.at 0).rdStruct 1 0x6000 288 with
         | (.ok b, _) => progOk b false
         | _ => false) = true ∧
       (match ((grouped {} (leBytes 288 1) 0).at 0).rdStruct 1 0x6000 288 with
         | (.ok b, _) => !progOk b false
         | _ => false) = true) ∧
    (let s := grouped { isOpen := true, owner := 1, switch := 4 } workedBytes 5
     s.pkg.staged ≠ none ∧ (s.pkg.group 17).owner = s.pkg.sel ∧ (s.pkg.group 17).switch ≤ (s.pkg.reg Reg.groupStep).toNat ∧ s.pkg.groupLate 17 = false ∧
       ∀ m ∈ s.pkg.slots.vals, ¬ (m.owner = 1 ∧ m.group = 17)) := by decide +kernel

theorem test_group_open : nextOf (exec (.groupOpen 0) (grouped {} workedBytes 0))
    (fun q => (q.group 17).isOpen && (q.group 17).owner == 1 && (q.group 17).after.b2 == 0x3F700000) = true := by decide +kernel
theorem test_group_params : nextOf (exec (.groupParams 0) (grouped { isOpen := true, owner := 1, switch := 4 } workedBytes 5))
    (fun q => (q.group 17).switch == 5 && (q.group 17).after.lr == 0x3A800000) = true := by decide +kernel
theorem test_group_params_early : nextOf (exec (.groupParams 0) (grouped { isOpen := true, owner := 1, switch := 6 } workedBytes 5))
    (fun q => (q.group 17).switch == 6 && (q.group 17).error == Code.invalidDescriptor) = true := by decide +kernel
theorem test_group_close : nextOf (exec (.groupClose 0) (grouped { isOpen := true, owner := 1 } workedBytes 0)) (fun q => !(q.group 17).isOpen) = true := by decide +kernel

/-! ### Packets (chapters 9 to 12) -/

/-- A packet, its header put together from R349: op, class, context, sequence, address, aux, source and destination, first of its flow, escape, epoch 0. -/
def pk (op cls ctx seq addr aux src dst : Nat) (start : Bool) (payload : Bytes) (ext : Nat := 0) : Packet :=
  ⟨BitVec.ofNat 256 (aux * 2 ^ 224 + seq * 2 ^ 192 + ext * 2 ^ 176 + addr * 2 ^ 128 + payload.length * 2 ^ 96 + ctx * 2 ^ 80 + op * 2 ^ 56 + start.toNat * 2 ^ 53 +
    cls * 2 ^ 48 + src * 2 ^ 24 + dst), payload⟩

/-- Package 3, on a torus; context 1 open with memory; ports 0 (X+) and 2 (Y+) up. -/
def torus : Pkg := { shop with
  fab := { selfIdx := some 3, ports := [(0, { state := 4, cfg := 0x01 }), (2, { state := 4, cfg := 0x03 })],
           banks := [(0, { state := .active, entries := [(9, 0x9)] })] } }

def toUs (op cls seq addr aux : Nat) (payload : Bytes) (start : Bool := true) (dst : Nat := 0x305) (src : Nat := 0x904) : Packet := pk op cls 1 seq addr aux src dst start payload

/-- What makes a packet one for this package, checked. -/
def forUs (p : Pkg) (arr : Option Nat) (k : Packet) : Bool :=
  (match arr with
    | some n => decide (n < 24) && p.portPresent n && (p.port n).state == 4 && (p.port n).rxOk
    | none => true) && !p.frozen && !p.epStopped (eidEp k.hd.dst) && k.good && decide (eidPkg k.hd.dst = p.self ∧ p.fab.selfIdx ≠ none) && epOk (eidEp k.hd.dst) &&
  (k.hd.cls == 3 || (decide ((p.ctx k.hd.ctx).phase = .open) && (p.ctx k.hd.ctx).gen == k.hd.gen))

theorem forUs_meets {p : Pkg} {arr : Option Nat} {k : Packet} (h : forUs p arr k = true) : ForUs p arr k := by
  unfold forUs at h
  simp only [Bool.and_eq_true, decide_eq_true_eq, Bool.or_eq_true, beq_iff_eq, Bool.not_eq_true'] at h
  obtain ⟨⟨⟨⟨⟨⟨h1, hf⟩, hr⟩, h2⟩, h3⟩, h4⟩, h5⟩ := h
  refine ⟨?_, ⟨hf, ?_⟩, h2, h3, h4, hr, h5⟩
  all_goals
    intro n hn; subst hn
    simp only [Bool.and_eq_true, decide_eq_true_eq, beq_iff_eq] at h1
  · exact h1.1.1.1
  · exact ⟨h1.1.1.2, h1.1.2, h1.2⟩

/-- The first packet of its flow. -/
def first (p : Pkg) (h : Hd) : Bool := (p.rxFlow h).isNone && h.seq == 0 && h.start && decide ((p.dieFlows h.die).length < 0x40000)

theorem first_meets {p : Pkg} {h : Hd} (hf : first p h = true) : InTurn p h := by
  unfold first at hf
  simp only [Bool.and_eq_true, decide_eq_true_eq, beq_iff_eq, Option.isNone_iff_eq_none] at hf
  exact .inl ⟨hf.1.1.1, hf.1.1.2, hf.1.2, hf.2⟩

theorem witness_PacketArrival : let p := (at_ torus).at 0
    (p.portPresent 2 = true ∧ (p.port 2).state = 4 ∧ (p.port 3).state ≠ 4 ∧ (p.port 2).rxOk = true) ∧ (p.port 0).canSend (p.port 0).waiting (toUs 1 0 0 0x40 0 [] true 0x905) = true ∧
    (((at_ { torus with fab := { torus.fab with ports := [(0, { state := 4, cfg := 0x01, pool := 0, credits := [(0, 0)] })] } }).at 0).port 0).canSend [] (toUs 1 0 0 0x40 0 [] true 0x905) = false ∧ (toUs 1 0 0 0x40 0 (leBytes 32 1)).good = true ∧
    (toUs 0x30 0 0 0x40 0 []).good = false ∧ (eidPkg (toUs 1 0 0 0x40 0 []).hd.dst = p.self ∧ p.fab.selfIdx ≠ none) ∧
    epOk (eidEp (toUs 1 0 0 0x40 0 [] true 0x350).hd.dst) = true ∧ epOk (eidEp (toUs 1 0 0 0x40 0 [] true 0x3FF).hd.dst) = false ∧
    (match p.route (toUs 1 0 0 0x40 0 [] true 0x905) (p.from_ none) with
      | .send n _ _ => n == 0
      | _ => false) = true ∧
    p.route (toUs 1 0 0 0x40 0 [] true 0x805) (p.from_ none) = .drop 3 ∧
    (p.ctx 2).phase ≠ .open := by decide +kernel

theorem test_forward : nextOf (exec (.packetForward 0 none (toUs 1 0 0 0x40 0 (leBytes 32 1) true 0x905)) (at_ torus))
    (fun q => (q.port 0).txPkts.length == 1 && q.out.length == 1) = true := by decide +kernel
theorem test_forward_no_route : nextOf (exec (.packetForward 0 none (toUs 1 0 0 0x40 0 (leBytes 32 1) true 0x805)) (at_ torus))
    (fun q => q.reg Reg.unreachDrops == 1 && q.out == []) = true := by decide +kernel

/-- FlowOrder: a flow that expects number 5, with number 8 waiting; packets 4, 8, 7, and 5 under another layout epoch. -/
def flowing : Pkg := { torus with fab := { torus.fab with
  rxFlows := [{ src := 0x904, dst := 0x305, ctx := 1, gen := 0, cls := 0, next := 5, early := [toUs 1 0 8 0x40 0 [] false] }] } }

def stale : Packet := ⟨(toUs 1 0 0 0x40 0 (leBytes 32 1)).hdr + BitVec.ofNat 256 (7 * 2 ^ 112), leBytes 32 1⟩

theorem witness_FlowOrder : let p := (at_ flowing).at 0
    (∀ n ∈ [4, 8, 7], forUs p none (toUs 1 0 n 0x40 0 [] false) = true ∧ (p.rxFlow (toUs 1 0 n 0x40 0 [] false).hd).map (·.next) = some 5) ∧
    2 ^ 31 ≤ (4 + 2 ^ 32 - 5) % 2 ^ 32 ∧ p.reorderBytes (toUs 1 0 7 0x40 0 []).hd.die + 32 ≤ 0x400000 ∧
    forUs ((at_ torus).at 0) none stale = true ∧ first ((at_ torus).at 0) stale.hd = true ∧ ((at_ torus).at 0).refusal stale = some Code.layoutEpochStale := by
  decide +kernel

theorem test_duplicate_dropped : nextOf (exec (.write 0 none (toUs 1 0 4 0x40 0 [] false)) (at_ flowing)) (fun q => q.reg Reg.dupDrops == 1) = true := by decide +kernel
theorem test_early_waits : nextOf (exec (.write 0 none (toUs 1 0 7 0x40 0 [] false)) (at_ flowing))
    (fun q => (q.fab.rxFlows.map fun f => (f.next, f.early.length)) == [(5, 2)]) = true := by decide +kernel
theorem test_stale_layout_nacked : nextOf (exec (.write 0 none stale) (at_ torus)) (fun q => q.reg Reg.nacksSent == 1 && q.mem.bytes == torus.mem.bytes) = true := by decide +kernel

def pulling : Xfer := { id := 9, cluster := 5, task := 0, core := 40, ctx := 1, gen := 0, group := 0, kind := .copyIn, stroke := 5, left := 0, dst := 0x904, ag := { desc := run 0x1000000000 }, units := 1, asked := 1 }
def fetching : Pkg := { torus with clusters := [(5, { xfers := [pulling] })] }

theorem witness_DataPackets :
    (∀ k ∈ [toUs 1 0 0 0x40 0 (leBytes 32 0xAB), toUs 2 0 0 0x5000 (9 * 2 ^ 10) [], toUs 4 2 0 0x40 0 (leBytes 64 0xAB)],
      forUs ((at_ torus).at 0) none k = true ∧ first ((at_ torus).at 0) k.hd = true ∧ k.hd.cls ≠ 3 ∧ ((at_ torus).at 0).refusal k = none) ∧
    (let k := toUs 3 1 0 0 (9 + 2 ^ 10) (leBytes 64 7)
     let p := (at_ fetching).at 0
     forUs p none k = true ∧ first p k.hd = true ∧ p.refusal k = none ∧ eidEp k.hd.dst < 64 ∧ nbits k.hd.aux 10 10 = 1 ∧
     p.findXfer (eidEp k.hd.dst * 1024 + nbits k.hd.aux 9 0) = some pulling ∧ pulling.kind = .copyIn ∧ pulling.ctx = k.hd.ctx ∧
     pulling.cluster = eidEp k.hd.dst ∧ pulling.id = nbits k.hd.aux 9 0 ∧ pulling.units ≤ pulling.done + pulling.asked) := by decide +kernel

theorem test_write_lands : nextOf (exec (.write 0 none (toUs 1 0 0 0x40 0 (leBytes 32 0xAB))) (at_ torus))
    (fun q => q.mem.bytes.read 0x200040 == 0xAB && (q.fab.rxFlows.map (·.next)) == [1]) = true := by decide +kernel
theorem test_read_answered : nextOf (exec (.read 0 none (toUs 2 0 0 0x5000 (9 * 2 ^ 10) [])) (at_ torus))
    (fun q => (q.fab.txFlows.map fun f => (f.dst, f.cls, f.next)) == [(0x904, 1, 2)]) = true := by decide +kernel
theorem test_read_data : nextOf (exec (.readData 0 none (toUs 3 1 0 0 (9 + 2 ^ 10) (leBytes 64 7))) (at_ fetching))
    (fun q => (q.cluster 5).xfers == [] && (q.cluster 5).mem.read 0 == 7) = true := by decide +kernel
theorem test_relay_first : nextOf (exec (.relay 0 none (toUs 4 2 0 0x40 0 (leBytes 32 0 ++ leBytes 32 0xAB))) (at_ torus))
    (fun q => q.reg Reg.relayDep == 1 && q.mem.bytes.read 0x200040 == 0xAB) = true := by decide +kernel

def sent : Pkg := { torus with
  tasks := [(0, { ctx := 1, phase := .running })]
  clusters := [(5, { xfers := [{ pulling with kind := .copyOut, left := 1 }] })]
  fab := { torus.fab with pending := [⟨0x305, 0x904, 1, 0, 0, 6, 5 * 1024 + 9⟩],
                          rxFlows := [{ src := 0x904, dst := 0x305, ctx := 1, gen := 0, cls := 0, next := 5, unackN := 3, lastStroke := 1, arrived := 1 }] }
  stroke := { number := 7 } }

theorem witness_Acknowledgements : let p := (at_ sent).at 0
    (∀ k ∈ [toUs 8 1 6 0 0 [], toUs 9 1 6 0 (Code.invalidDescriptor * 2 ^ 8) []], forUs p none k = true) ∧
    nbits (Code.invalidDescriptor * 2 ^ 8) 15 8 ≠ Code.fenced ∧ (p.findXfer (5 * 1024 + 9)).map (fun x => (x.kind, x.left, x.task)) = some (.copyOut, 1, 0) ∧
    (p.tasks.find 0).isSome = true ∧
    (p.rxFlow { src := 0x904, dst := 0x305, ctx := 1, gen := 0, cls := 0 }).map (fun f => (f.next, p.ackable f, f.ackedTo)) = some (5, 5, none) := by decide +kernel

/-- A contribution of which one packet is outstanding, refused (R384). -/
def refusing : Pkg := { sent with clusters := [(5, { xfers := [{ pulling with kind := .reduce, left := 1, sent := true }] })] }

theorem witness_reduce_refused : (((at_ refusing).at 0).findXfer (5 * 1024 + 9)).map (fun x => (x.kind, x.task)) = some (.reduce, 0) := by decide +kernel
theorem test_reduce_refused : nextOf (exec (.nack 0 none (toUs 9 1 6 0 (Code.layoutEpochStale * 2 ^ 8) [])) (at_ refusing))
    (fun q => (q.cluster 5).xfers == [] && (q.task 0).code == Code.layoutEpochStale) = true := by decide +kernel

theorem test_ack : nextOf (exec (.ack 0 none (toUs 8 1 6 0 0 [])) (at_ sent)) (fun q => q.fab.pending == [] && (q.cluster 5).xfers == []) = true := by decide +kernel
theorem test_nack : nextOf (exec (.nack 0 none (toUs 9 1 6 0 (Code.invalidDescriptor * 2 ^ 8) [])) (at_ sent))
    (fun q => q.fab.pending == [] && (q.task 0).code == Code.invalidDescriptor) = true := by decide +kernel
theorem test_ack_timer : nextOf (exec (.ackTimer 0 0x904 0x305 1 0 0) (at_ sent)) (fun q => (q.fab.rxFlows.map (·.ackedTo)) == [some 4]) = true := by decide +kernel
theorem test_flow_expires : nextOf (exec (.flowEntryExpire 0 0x904 0x305 1 0 0) (at_ sent)) (fun q => q.fab.rxFlows == []) = true := by decide +kernel

/-! ### Exact reductions -/

def reducing : Xfer := { pulling with kind := .reduce, tensor := tens 9 0x5000 0x0E 3 32 32, tile := 0, step := 6, sent := true, id := 9, frame := 0 }
def tailBytes (attempt : Nat) : Bytes := leBytes 8 0 ++ leBytes 8 0 ++ leBytes 8 6 ++ leBytes 1 0 ++ leBytes 1 attempt ++ leBytes 6 0
def eir (op piece attempt : Nat) (payload : Bytes) : Packet := pk op 2 1 0 (9 * 2 ^ 16) (piece + attempt * 2 ^ 4 + 6 * 2 ^ 12) 0x904 0x305 true payload

def summing (attempt : Nat) : Pkg := { torus with
  clusters := [(5, { xfers := [reducing] })], tasks := [(0, { ctx := 1, phase := .running })]
  fab := { torus.fab with seen := [⟨1, 0, 9, 0, 6, attempt, 0⟩] } }

theorem witness_ReductionPackets :
    (∀ k ∈ [eir 0x10 0 0 (leBytes 512 0), eir 0x11 8 0 (tailBytes 0 ), eir 0x12 0 0 (leBytes 512 0), eir 0x13 8 0 (tailBytes 0), eir 0x14 8 0 (tailBytes 0)],
      forUs ((at_ (summing 0)).at 0) none k = true ∧ first ((at_ (summing 0)).at 0) k.hd = true ∧ k.hd.cls ≠ 3 ∧ ((at_ (summing 0)).at 0).refusal k = none ∧
      (⟨k.hd.ctx, k.hd.gen, k.hd.eirTensor, k.hd.eirTile, k.hd.eirStepLow⟩ : TileKey) = ⟨1, 0, 9, 0, 6⟩ ∧ k.hd.eirAttempt = 0 ∧
      ((at_ (summing 0)).at 0).attemptSeen ⟨1, 0, 9, 0, 6⟩ = 0 ∧ ((at_ (summing 2)).at 0).attemptSeen ⟨1, 0, 9, 0, 6⟩ = 2 ∧
      (summing 0).fab.redWait = [] ∧ (summing 0).fab.redSlots = []) ∧
    ((at_ (summing 0)).at 0).redXfer ⟨1, 0, 9, 0, 6⟩ = some reducing := by decide +kernel

/-- What waits for a slot: a packet, or this package's own frame. -/
theorem witness_slots_full : (∀ w ∈ [RedWait.packet (eir 0x10 0 0 (leBytes 512 0)), .own (5 * 1024 + 9) 1 0 0],
    (({ summing 0 with fab := { (summing 0).fab with redWait := [w] } } : Pkg)).fab.redWait = [w]) ∧
    (((at_ (summing 0)).at 0).findXfer (5 * 1024 + 9)) = some reducing ∧ reducing.tileKey.tile = 0 ∧ (summing 0).fab.redSlots = [] := by decide +kernel

/-- 4,096 slots in use on the tile's memory die leave no room. -/
theorem no_room (p : Pkg) (n : Nat) (h : p.fab.redSlots = List.replicate n ⟨2, 0, 0, 0, 0, 0, 0, [], 0, false, [], 0, false, [], 0, false, []⟩) (hn : 4096 ≤ n) :
    ¬ ((p.redSlot ⟨1, 0, 9, 0, 6⟩ 0).isSome = true ∨ (p.fab.redSlots.filter fun r => r.tile % 4 == 0 % 4).length < 4096) := by
  have h1 : p.redSlot ⟨1, 0, 9, 0, 6⟩ 0 = none := by
    unfold Pkg.redSlot
    rw [h, List.find?_eq_none]
    intro x hx
    rw [List.mem_replicate] at hx
    rw [hx.2]; decide
  rw [h1, h, List.filter_replicate]
  simp; omega

theorem witness_no_room : ∃ p : Pkg, ¬ ((p.redSlot ⟨1, 0, 9, 0, 6⟩ 0).isSome = true ∨ (p.fab.redSlots.filter fun r => r.tile % 4 == 0 % 4).length < 4096) :=
  ⟨{ summing 0 with fab := { (summing 0).fab with redSlots := List.replicate 4096 ⟨2, 0, 0, 0, 0, 0, 0, [], 0, false, [], 0, false, [], 0, false, []⟩ } },
    no_room _ 4096 rfl (Nat.le_refl _)⟩

theorem witness_frame_send : let s := at_ { summing 0 with clusters := [(5, { xfers := [{ reducing with sent := false }] })] }
    (s.pkg.cluster 5).xfers.find? (fun x => x.id == 9 && x.kind == .reduce && !x.sent) = some { reducing with sent := false } ∧ reducing.cluster = 5 := by decide +kernel

theorem test_eir_tail_seen : nextOf (exec (.eirTail 0 none (eir 0x11 8 1 (tailBytes 1))) (at_ (summing 0)))
    (fun q => q.fab.seen.any fun e => e.attempt == 1) = true := by decide +kernel
theorem test_eir_stale : nextOf (exec (.eirTail 0 none (eir 0x11 8 0 (tailBytes 0))) (at_ (summing 2))) (fun q => q.reg Reg.eirStale == 1) = true := by decide +kernel
theorem test_eir_redo_seen : nextOf (exec (.eirRedo 0 none (eir 0x14 8 3 (tailBytes 3))) (at_ { summing 0 with clusters := [] }))
    (fun q => q.fab.seen.any fun e => e.attempt == 3) = true := by decide +kernel

/-! ### Management packets -/

def mgmt (op : Nat) (payload : Bytes) : Packet := pk op 3 0 0 0 0 0x950 0x350 true payload
def vote (stroke bit : Nat) : Bytes := leBytes 2 5 ++ leBytes 6 stroke ++ leBytes 1 bit ++ leBytes 1 0 ++ leBytes 22 0
def notice (kind pkg stroke : Nat) : Bytes := leBytes 8 kind ++ leBytes 8 0x77 ++ leBytes 8 pkg ++ leBytes 6 stroke ++ leBytes 34 0

def voting : Pkg := { torus with
  stroke := { number := 7 }, regs := [(Reg.planId, 0x77)]
  fab := { torus.fab with votes := [{ herd := 5, stroke := 6, own := some true }], maps := [],
                          banks := [(0, { state := .active }), (1, { state := .ready })] } }

theorem witness_ManagementPackets : let p := (at_ voting).at 0
    (∀ k ∈ [mgmt 0x20 (vote 8 1), mgmt 0x21 (vote 6 1), mgmt 0x22 (vote 6 0), mgmt 0x23 (leBytes 64 0), mgmt 0x24 (notice 1 9 0), mgmt 0x24 (notice 2 9 0), mgmt 0x24 (notice 3 9 20)],
      forUs p none k = true ∧ first p k.hd = true ∧ k.hd.cls = 3) ∧
    p.round 5 8 = none ∧ p.stroke.number < 8 + 2 ∧ (p.round 5 6).map (·.result) = some none ∧
    (∀ b ∈ [notice 1 9 0, notice 2 9 0, notice 3 9 20], 1 ≤ le b 0 1 ∧ le b 0 1 ≤ 3 ∧ zeros b 1 7 = true ∧ zeros b 18 6 = true ∧ zeros b 30 34 = true ∧
      le b 8 8 = (p.reg Reg.planId).toNat) ∧ le (notice 0 9 0) 0 1 = 0 ∧ p.armCandidate 20 = some 1 ∧
    (p.herdMap 5 = none ∧ (p.round 5 6).map (fun v => (v.own, v.sent, v.result)) = some (some true, [], none)) := by decide +kernel

/-- A herd of two on X whose member 0 is package 0: this one, at position 1, votes to it. -/
theorem witness_vote_parent : (AxMap.mk (leBytes 8 5 ++ leBytes 3 0x010102 ++ leBytes 1 1 ++ leBytes 4 0 ++ leBytes 64 0x30000 ++ leBytes 64 3 ++ leBytes 64 3 ++ leBytes 48 0) true).voteParent = some (0, 0) := by
  decide +kernel

theorem witness_round_waits : let p := (at_ { voting with fab := { voting.fab with votes := [{ herd := 5, stroke := 8 }] } }).at 0
    (p.round 5 8).map (fun v => (v.sent, v.own, v.votes)) = some ([], none, []) := by decide +kernel

theorem test_vote : nextOf (exec (.vote 0 none (mgmt 0x20 (vote 8 1))) (at_ voting)) (fun q => ((q.round 5 8).map (·.votes)) == some [(0, 9, true)]) = true := by decide +kernel
theorem test_vote_result : nextOf (exec (.voteResult 0 none (mgmt 0x21 (vote 6 1))) (at_ voting)) (fun q => ((q.round 5 6).map (·.result)) == some (some true)) = true := by decide +kernel
theorem test_void_notice_once : nextOf (exec (.voidNotice 0 none (mgmt 0x22 (vote 6 0))) (at_ voting)) (fun q => q.fab.voidIn == [⟨5, 6, 0⟩]) = true := by decide +kernel
theorem test_vote_expiry : nextOf (exec (.voteWaitExpiry 0 5 6) (at_ voting)) (fun q => ((q.round 5 6).map (·.result)) == some (some true)) = true := by decide +kernel
theorem test_fault_notice : nextOf (exec (.faultNoticeRx 0 none (mgmt 0x23 (leBytes 64 0x30050000))) (at_ voting))
    (fun q => (q.log.recs.map fun e => (e.event, e.unit)) == [(Ev.faultNoticeRx, 0x3005), (Ev.faultNoticeRx, 0x3005)]) = true := by decide +kernel
theorem test_peer_absent : nextOf (exec (.peerAbsent 0 none (mgmt 0x24 (notice 1 9 0))) (at_ voting)) (fun q => q.fab.absent == [9]) = true := by decide +kernel
theorem test_peer_present : nextOf (exec (.peerPresent 0 none (mgmt 0x24 (notice 2 9 0))) (at_ { voting with fab := { voting.fab with absent := [9] } }))
    (fun q => q.fab.absent == []) = true := by decide +kernel
theorem test_table_switch : nextOf (exec (.tableSwitch 0 none (mgmt 0x24 (notice 3 9 20))) (at_ voting))
    (fun q => (q.bank 1).state == .armed && (q.bank 1).swStroke == 20 && q.reg Reg.routeSwitch == 0x1000000000014) = true := by decide +kernel

/-! ### Ports and links (chapters 10 and 12) -/

def portOf (x : Port) : State := at_ { ready with clk := { present := [0, 1, 2] }, fab := { selfIdx := some 0, ports := [(2, x)] } }

theorem witness_PortConfiguration : ((portOf { state := 1 }).at 0).barPhase = .on ∧ ((portOf { state := 1 }).at 0).portPresent 2 = true ∧
    ((portOf { state := 1 }).pkg.port 2).state = 1 ∧ (portOf { state := 1 }).pkg.fab.plan = [] ∧ ((portOf { state := 4 }).pkg.port 2).state = 4 := by decide +kernel

theorem test_port_cfg : nextOf (exec (.portCfgWrite 0 2 0xFFFF) (portOf { state := 1 })) (fun q => (q.port 2).cfg == 0x7F) = true := by decide +kernel
theorem test_port_cfg_up : nextOf (exec (.portCfgWrite 0 2 0x7F) (portOf { state := 4 }))
    (fun q => (q.port 2).cfg == 0 && q.reg Reg.discardedWrites == 1) = true := by decide +kernel

/-- A control symbol: block number, acknowledgement, flags, and its check in bytes 58 and 59 (R346). -/
def symbol (num ack flags : Nat) : Bytes :=
  let b := leBytes 2 num ++ leBytes 2 ack ++ leBytes 1 flags ++ leBytes 53 0
  b ++ leBytes 2 (symbolCrc (b ++ leBytes 6 0)).toNat ++ leBytes 4 0

def moving (k : Packet) : Moving := { orig := k, pkt := k }

def twoBlocks : List TxBlk := [{ seq := 0, pkts := [moving (toUs 1 0 0 0 0 [])] }, { seq := 1, pkts := [moving (toUs 1 0 1 0 0 [])] }]

def linked : State := portOf { state := 4, pool := 100, rxAck := 0xFFFF, rxExpect := 0, txNext := 2, unacked := twoBlocks }

theorem witness_LinkSymbols : symbolGood (symbol 0 0 0) = true ∧ symbolGood (symbol 0 1 5) = true ∧ symbolGood ((symbol 0 0 0).set 0 9) = false ∧
    ((linked.at 0).portPresent 2 = true ∧ (linked.pkg.port 2).state = 4) ∧ le (symbol 0 0 0) 0 2 = (linked.pkg.port 2).rxExpect ∧
    blockLe (le (symbol 0xFFFF 0 0) 0 2) (linked.pkg.port 2).rxAck = true ∧ (le (symbol 0 1 5) 4 1).testBit 2 = true ∧ (le (symbol 0 1 1) 4 1).testBit 0 = true := by
  decide +kernel

theorem test_symbol_acknowledges : nextOf (exec (.linkControlSymbol 0 2 (symbol 0 0 0) true 3 1 0) linked)
    (fun q => ((q.port 2).unacked.map (·.seq)) == [1, 2] && (q.port 2).rxAck == 0 && (q.port 2).rxExpect == 1 && (q.port 2).ctr.get 0 0xD0 == 3) = true := by decide +kernel
/-- A mark waits for the next symbol (R349): 480 ns after the stroke opened, 160 ns past its nominal departure. -/
def marked : State := portOf { state := 4, rxExpect := 0, markOut := some (7, 500, 4) }

theorem witness_symbol_mark : (marked.pkg.port 2).markOut = some (7, 500, 4) ∧ (le (symbol 0 0 0) 4 1).testBit 1 = false ∧
    marked.pkg.stroke.openedAt + 320 ≤ (marked.at 480).now := by decide +kernel

theorem test_symbol_mark : nextOf (exec (.linkControlSymbol 480 2 (symbol 0 0 0) true 0 0 0) marked) (fun q => (q.port 2).markOut == none && (q.out.any fun o => match o with
    | .symbol n f => n == 2 && (le f 4 1).testBit 1 && le f 30 6 == 7 && le f 40 3 == 16000
    | _ => false)) = true := by decide +kernel

theorem test_symbol_bad_block : nextOf (exec (.linkControlSymbol 0 2 (symbol 0 0 0) false 0 0 0) linked)
    (fun q => !(q.port 2).rxOk && (q.port 2).rxExpect == 0) = true := by decide +kernel
theorem test_symbol_replays : nextOf (exec (.linkControlSymbol 0 2 (symbol 0 0 1) true 0 0 0) linked) (fun q => (q.port 2).ctr.get 0 0xD8 == 1) = true := by decide +kernel

theorem witness_PortsDownAndUp : ((portOf { state := 4 }).at 0).barPhase = .on ∧ (at_ { ready with fuses := { grade := 3 } }).pkg.portPresent 23 = false ∧
    ((State.reset.at 0).barPhase = .off) ∧ ((portOf { state := 4, trained := true, replays := 8 }).pkg.port 2).replays = 8 := by decide +kernel

theorem test_port_disable : nextOf (exec (.portCmdDisable 0 2) (portOf { state := 4 })) (fun q => (q.port 2).state == 1 && (q.port 2).reason == 6) = true := by decide +kernel
theorem test_port_train : nextOf (exec (.portCmdTrain 77 2) (portOf { state := 1 })) (fun q => (q.port 2).state == 2 && (q.port 2).trainFrom == 77) = true := by decide +kernel
theorem test_lane_loss : nextOf (exec (.laneLockLoss 0 2) (portOf { state := 4, trained := true })) (fun q => (q.port 2).state == 6 && (q.port 2).reason == 1) = true := by
  decide +kernel
theorem test_symbol_timeout : nextOf (exec (.symbolTimeout 0 2) (portOf { state := 4, trained := true })) (fun q => (q.port 2).reason == 2) = true := by decide +kernel
theorem test_replay_limit : nextOf (exec (.replayLimit 0 2) (portOf { state := 4, trained := true, replays := 8 })) (fun q => (q.port 2).reason == 3) = true := by decide +kernel
theorem test_peaks_cleared : nextOf (exec (.qdepthClear 0 2 1) (portOf { state := 4, peak := [(0, 9)] })) (fun q => (q.port 2).peak == []) = true := by decide +kernel

/-- An identity frame: a symbol with flag bit 2; all else zero, so that its revision's major number is not 2 (check 1). -/
theorem witness_PortsEvaluated : (let s := portOf { state := 2 }
     (s.pkg.port 2).state = 2 ∧ (s.pkg.port 2).trained = false ∧ reachLimit (fld (s.pkg.port 2).cfg 6 5) = 50 ∧ (s.at 200000000).now = 200000000) ∧
    (symbolGood (symbol 0 0 4) = true ∧ (le (symbol 0 0 4) 4 1).testBit 2 = true) ∧
    ((portOf { state := 2, trained := true }).pkg.port 2).identity ≠ some (symbol 0 0 4) ∧
    ((portOf { state := 2, identity := some (symbol 0 0 4) }).at 0).portCheck 2 (symbol 0 0 4) = 1 ∧
    (let s := portOf { state := 2, listening := true }
     (s.pkg.port 2).listening = true ∧ (s.pkg.port 2).identity = none) := by decide +kernel

/-- A direct in-rack cable may take 5 ns: 50 units of 100 ps. -/
theorem test_training_done : nextOf (exec (.linkTrainingDone 0 2 50) (portOf { state := 2 })) (fun q => (q.port 2).trained && (q.port 2).delay == 50) = true := by decide +kernel
theorem test_training_too_long : nextOf (exec (.linkTrainingDone 0 2 51) (portOf { state := 2 })) (fun q => (q.port 2).state == 6 && (q.port 2).reason == 4) = true := by
  decide +kernel
theorem test_identity_quarantines : nextOf (exec (.identityFrame 0 2 (symbol 0 0 4)) (portOf { state := 2, trained := true }))
    (fun q => (q.port 2).state == 5 && (q.port 2).check == 1) = true := by decide +kernel
theorem test_training_timeout : nextOf (exec (.trainingTimeout 200000000 2) (portOf { state := 2 })) (fun q => (q.port 2).state == 6 && (q.port 2).reason == 5) = true := by
  decide +kernel
theorem test_listening_timeout : nextOf (exec (.trainingTimeout 200000000 2) (portOf { state := 2, listening := true })) (fun q => (q.port 2).state == 1) = true := by decide +kernel

/-! ### Route banks, axis maps, re-sharding and notices -/

def banked (a b : BankState) : State := at_ { ready with fab := { selfIdx := some 0, banks := [(0, { state := a, drainEnd := 5 }), (1, { state := b, loaded := 2 })] }, stroke := { number := 7 } }
def arm (n : Nat) : Word := BitVec.ofNat 64 (2 ^ 48 + n)

theorem witness_RouteBanks : (let s := banked .active .ready
     (s.at 0).barPhase = .on ∧ bitAt (arm 9) 48 = true ∧ s.pkg.stroke.number + 2 ≤ fld (arm 9) 47 0 ∧ fld (arm 8) 47 0 < s.pkg.stroke.number + 2 ∧ bitAt (9 : Word) 48 = false ∧
       (s.pkg.bank 0).state = .active ∧ (s.pkg.bank 1).state = .ready) ∧
    (let s := banked .ready .ready
     (s.pkg.bank 1).state = .ready ∧ (s.pkg.bank 0).loaded < (s.pkg.bank 1).loaded) ∧
    (let s := banked .empty .empty
     (s.pkg.bank 0).state ≠ .active ∧ (s.pkg.bank 1).state ≠ .active) ∧
    (let s := banked .draining .active
     (s.pkg.bank 0).state = .draining ∧ (s.pkg.bank 0).drainEnd ≤ s.pkg.stroke.number) := by decide +kernel

theorem test_switch_armed : nextOf (exec (.routeSwitchWrite 0 (arm 9)) (banked .active .ready)) (fun q => (q.bank 1).state == .armed && (q.bank 1).swStroke == 9) = true := by
  decide +kernel
theorem test_switch_too_soon : nextOf (exec (.routeSwitchWrite 0 (arm 8)) (banked .active .ready)) (fun q => (q.bank 1).state == .ready) = true := by decide +kernel
theorem test_drain_end : nextOf (exec (.routeBankDrainEnd 0 0) (banked .draining .active)) (fun q => (q.bank 0).state == .empty) = true := by decide +kernel

def mapping (maps : Tbl AxMap) (regs : Tbl Word := []) : State := at_ { ready with fab := { selfIdx := some 0, maps := maps }, regs := regs, stroke := { number := 7 } }
def axArm (slot herd : Nat) : Word := BitVec.ofNat 64 (2 ^ 40 + slot * 2 ^ 32 + herd)

theorem witness_AxisMaps : (let s := mapping []
     (s.at 0).barPhase = .on ∧ s.pkg.axSel = 0 ∧ s.pkg.fab.maps.find 0 = none ∧ (AxMap.mk (mapOf 2) false).ok s.pkg.fab.selfIdx 24576 = true ∧
       (AxMap.mk (leBytes 256 1) false).ok s.pkg.fab.selfIdx 24576 = false) ∧
    (let s := mapping [(0, ⟨mapOf 2, true⟩), (1, ⟨mapOf 3, false⟩)] [(Reg.axSwitchStroke, 9)]
     (s.pkg.fab.maps.find 1).map (·.herd) = some 5 ∧ s.pkg.stroke.number + 2 ≤ fld (s.pkg.reg Reg.axSwitchStroke) 47 0 ∧ bitAt (axArm 1 5) 40 = true ∧
       fld (axArm 1 5) 37 32 = 1 ∧ fld (axArm 1 5) 15 0 = 5 ∧ (∃ y ∈ s.pkg.fab.maps.vals, y.active = true ∧ y.herd = 5)) ∧
    (let s := mapping [(1, ⟨mapOf 3, false⟩)]
     ∀ y ∈ s.pkg.fab.maps.vals, ¬ (y.active = true ∧ y.herd = 5)) ∧
    (let s := at_ { ready with fab := { selfIdx := some 0, maps := [(0, ⟨mapOf 2, true⟩)] }, tasks := [(0, { map := some 0 })] }
     s.pkg.fab.maps.find 0 = some ⟨mapOf 2, true⟩ ∧ ∃ k ∈ s.pkg.tasks.vals, k.map = some 0) := by decide +kernel

theorem test_map_loaded : nextOf (exec (.axmapLoad 0 (mapOf 2)) (mapping [])) (fun q => q.fab.maps == [(0, ⟨mapOf 2, false⟩)]) = true := by decide +kernel
theorem test_map_refused : nextOf (exec (.axmapLoad 0 (leBytes 256 1)) (mapping [])) (fun q => q.fab.maps == [] && q.fab.axErr == [(0, Code.invalidDescriptor)]) = true := by decide +kernel
theorem test_map_cleared : nextOf (exec (.axmapClear 0) (mapping [(0, ⟨mapOf 2, false⟩)])) (fun q => q.fab.maps == []) = true := by decide +kernel
theorem test_map_switch : nextOf (exec (.axmapSwitchWrite 0 (axArm 1 5)) (mapping [(0, ⟨mapOf 2, true⟩), (1, ⟨mapOf 3, false⟩)] [(Reg.axSwitchStroke, 9)]))
    (fun q => q.fab.axSwitch == [⟨5, 1, 9⟩]) = true := by decide +kernel

/-- A re-sharding descriptor of one entry on axis X: two members change places. -/
def reshardS (phase : ReshardPhase) (b : Bytes) : State :=
  let s := selecting { phase := .open, root := 0x1000, reshard := { phase := phase, desc := 0x1000, stroke := 9 } }
  { s with pkg := { s.pkg with stroke := { number := 7 }, mem := mapped [(0x1000, b ++ leBytes (256 - b.length) 0), (0x2000, tensBytes ++ leBytes 192 0)] } }

def entry (old new axis : Nat) : Bytes := leBytes 8 old ++ leBytes 8 new ++ leBytes 16 axis ++ leBytes 32 0

theorem witness_ReshardAndNotices : (let s := reshardS .idle (leBytes 64 0)
     (s.at 0).barPhase = .on ∧ s.pkg.sel = 1 ∧ (s.pkg.ctx 1).phase = .open ∧ (s.pkg.ctx 1).herdEn = false ∧ s.pkg.stroke.number + 2 ≤ fld (s.pkg.ctx 1).reshard.stroke 47 0 ∧
       (match (s.at 0).rdStruct 1 0x1000 64 with
         | (.ok h, _) => le h 0 4 == 0
         | _ => false) = true) ∧
    (∀ y ∈ [ReshardPhase.idle, .armed, .holding, .moving], ((reshardS y []).pkg.ctx 1).reshard.phase = y) := by decide +kernel

/-- An entry whose tensor is stroke-buffered, on one member: position 0 stays at 0, and the layout epoch rises. -/
def bufTens (epoch : Nat) : Bytes := leBytes 64 ((tens 7 0x5000 2 1 16 1).desc.toNat + 0x4000 * 2 ^ 400 + epoch * 2 ^ 72)

theorem witness_reshard_reads : let s := reshardS .idle (leBytes 64 1 ++ entry 0x3000 0x3040 0)
    let s := { s with pkg := { s.pkg with mem := mapped [(0x1000, leBytes 64 1 ++ entry 0x3000 0x3040 0 ++ leBytes 128 0), (0x3000, bufTens 0 ++ bufTens 1 ++ leBytes 128 0), (0x4000, scaleBytes)] } }
    (match (s.at 0).rdStruct 1 0x1000 64 with
      | (.ok h, q) => le h 0 4 == 1 && zeros h 4 60 && ((q.readEntries 1 (q.lineMap 1) 0x1040 1).1).isSome
      | _ => false) = true := by decide +kernel

theorem test_reshard_refused : nextOf (exec (.reshardArm 0) (reshardS .idle (leBytes 64 0))) (fun q => (q.ctx 1).reshard.phase == .idle && (q.ctx 1).reshard.error == Code.invalidDescriptor) = true := by
  decide +kernel
theorem test_reshard_cancel : nextOf (exec (.reshardCancel 0) (reshardS .armed [])) (fun q => (q.ctx 1).reshard.phase == .idle) = true := by decide +kernel

/-- A notice to the package itself: 24 bytes staged in NOTICE_TX_DATA say that package 9 is absent. -/
def noticed (kind : Nat) : State := at_ { ready with
  fab := { selfIdx := some 3, plan := leBytes 832 1 }
  regs := [(Reg.planId, 0x77), (0x0A0520, BitVec.ofNat 64 kind), (0x0A0528, 0x77), (0x0A0530, 9)].foldl (fun t r => t.set r.1 r.2) [] }

theorem witness_notices : (noticed 1).pkg.fab.plan ≠ [] ∧ (noticed 1).pkg.self = 3 ∧ bitAt (0x10003 : Word) 16 = true ∧ fld (0x10003 : Word) 15 0 = 3 ∧ fld (0x10009 : Word) 15 0 ≠ 3 ∧
    (let b := (List.range 8).flatMap fun i => leBytes 8 ((noticed 1).pkg.reg (0x0A0520 + 8 * i)).toNat
     1 ≤ le b 0 1 ∧ le b 0 1 ≤ 3 ∧ zeros b 1 7 = true ∧ zeros b 18 6 = true ∧ zeros b 30 34 = true ∧ le b 8 8 = 0x77) := by decide +kernel

theorem test_notice_to_self : nextOf (exec (.noticeTxSend 0 0x10003) (noticed 1)) (fun q => q.fab.absent == [9]) = true := by decide +kernel
theorem test_notice_malformed : nextOf (exec (.noticeTxSend 0 0x10003) (noticed 0)) (fun q => q.fab.absent == [] && q.reg Reg.noticesDropped == 1) = true := by decide +kernel

/-! ### Memory protection and resets (chapters 13 and 14) -/

def memS (x : MemPort) (scope : Nat := 0) : State := at_ { ready with msys := { ports := [(3, x)] }, sec := { scope := scope } }

theorem witness_MemoryProtection : ((memS { state := 3 }).pkg.memPort 3).state = 3 ∧ ((memS { state := 3 }).pkg.memPort 3).abandoned < 2 ∧
    2 ≤ ((memS { state := 3, abandoned := 2 }).pkg.memPort 3).abandoned ∧ (memS {}).pkg.easel.run = none ∧
    (fld ((memS {}).pkg.regOr (Reg.mpCfg 3) 0x100) 15 0 < 257 ∧ ((memS { state := 2, window := 257 }).pkg.memPort 3).window = 257) ∧
    ((memS {}).at 0).corePresent 7 = true ∧ ((memS {} 1).pkg.sec.scope.testBit 0 = true ∧ (memS {}).pkg.sec.scope.testBit 0 = false ∧ ((memS {} 1).at 0).barPhase = .on) := by
  decide +kernel

theorem witness_register_file_parity : (let s := at_ { ready with cores := [(0, { task := some 0 })], tasks := [(0, waitingTask 5 0xFFFF 0 false)] }
     let s := { s with pkg := s.pkg.updTask 0 fun y => { y with phase := .running } }
     (s.at 0).corePresent 0 = true ∧ (s.pkg.core 0).task = some 0 ∧ (s.pkg.task 0).phase = .running ∧ (s.pkg.task 0).core = 0 ∧ (s.pkg.task 0).update = false ∧
       (s.pkg.task 0).replayable = true ∧ (s.pkg.ctx (s.pkg.task 0).ctx).phase = .open) ∧
    (let s := finished true
     (s.pkg.cluster 0).upe.task = some 0 ∧ (s.pkg.task 0).phase = .running ∧ (s.pkg.task 0).replayable = true ∧ (s.pkg.ctx 1).phase = .open) := by decide +kernel

theorem test_crc_second_retry_succeeds : nextOf (exec (.memCrcRetryExhausted 0 ⟨3, 2⟩) (memS { state := 2 })) (fun q => !(q.memPort 3).turn && q.reg (Reg.mpBlock 3 + 0x118) == 2) = true := by
  decide +kernel
theorem test_crc_retries : nextOf (exec (.memCrcRetryExhausted 0 ⟨3, 5⟩) (memS { state := 2 })) (fun q => (q.memPort 3).turn && q.reg (Reg.mpBlock 3 + 0x118) == 4) = true := by
  decide +kernel
theorem test_third_abandoned : nextOf (exec (.memRetrainAbandoned 0 3) (memS { state := 3, abandoned := 2 })) (fun q => (q.memPort 3).state == 4 && q.rst.pkgOos) = true := by
  decide +kernel
theorem test_ce_threshold : nextOf (exec (.ceThresholdExceeded 0 3) (memS { state := 2, window := 257 })) (fun q => (q.memPort 3).state == 4 && (q.memPort 3).cause == 3) = true := by
  decide +kernel
theorem test_ce_window : nextOf (exec (.ceWindowExpire 0 3) (memS { state := 2, window := 257 })) (fun q => (q.memPort 3).window == 0) = true := by decide +kernel
theorem test_scrub_finds_double : nextOf (exec (.sramScrub 0 (.palette 7 5)) (memS {})) (fun q => (q.core 7).palPoison == [5] && q.reg Reg.sramUe == 1) = true := by decide +kernel
theorem test_scrub_drops_statistics : nextOf (exec (.sramScrub 0 (.stat 7 1 9 0)) (at_ { ready with cores := [(7, { stats := [⟨0, 1, 9, 0, 1, 1, []⟩, ⟨0, 1, 9, 1, 1, 1, []⟩] })] }))
    (fun q => ((q.core 7).stats.map (·.row)) == [1]) = true := by decide +kernel
theorem test_inject_closed : nextOf (exec (.memInjectWrite 0 0x8000000000000005) (memS {})) (fun q => q.mem.inject == 0) = true := by decide +kernel
theorem test_inject_open : nextOf (exec (.memInjectWrite 0 0x8000000000000005) (memS {} 1)) (fun q => q.mem.inject == 0x8000000000000005) = true := by decide +kernel

def compat (on : Bool) (rst : ResetSt := {}) : State := at_ { ready with rst := rst, regs := [(Reg.resetCfg, if on then 0x3C040A0321 else 0x3C040A0320)] }

theorem witness_ResetRequests : (let s := compat true
     (s.at 0).barPhase ≠ .off ∧ bitAt (s.at 0).resetCfg 0 = true ∧ (s.at 0).domainOf 0x1002 = some 0x1002 ∧ 0x1002 ≠ Unit.package ∧ (s.at 0).unitOos 0x1002 = false ∧
       domFences 0x1002 = true ∧ (s.at 0).domainOf 0xF000 = none ∧ (s.at 0).domainOf 0 = some Unit.package ∧ (s.at 0).fenceDomain 0x1002 = some 0x1002 ∧
       (s.at 0).fenceDomain 0x8000 = none ∧ s.pkg.rst.dump.running = none) ∧
    (let s := compat true { fences := [0x1002], running := [⟨0x1002, 1, 0xFFFF, true, []⟩] }
     s.pkg.rst.fences.mem 0x1002 = true ∧ (∃ r ∈ s.pkg.rst.running, r.unit = 0x1002 ∧ r.fenced = true) ∧ (∃ r ∈ s.pkg.rst.running, domIn r.unit 0x1002 = true)) ∧
    (let s := compat false { running := [⟨0x1002, 1, 0xFFFF, false, []⟩], oos := [0x1003] }
     bitAt (s.at 0).resetCfg 0 = false ∧ (∃ r ∈ s.pkg.rst.running, domIn r.unit 0x1002 = true ∧ r.fenced = false) ∧ (s.at 0).unitOos 0x1003 = true) ∧
    (compat false { dump := { running := some 1 } }).pkg.rst.dump.running ≠ none ∧
    bitAt (at_ { ready with regs := [(Reg.dumpCfg, 2)] } |>.pkg.reg Reg.dumpCfg) 1 = true := by decide +kernel

theorem test_die_reset : nextOf (exec (.resetCmdReset 50 0x1002) (compat false)) (fun q => (q.rst.running.map fun r => (r.unit, r.cause)) == [(0x1002, 1)] && q.rst.lastUnit == 0x1002) = true := by
  decide +kernel
theorem test_package_reset : nextOf (exec (.resetCmdReset 50 0) (compat false)) (fun q => q.rst.pkgCause == 1 && q.ctxs == [] && q.power.step == some 2) = true := by decide +kernel
theorem test_reset_waits_behind_fence : nextOf (exec (.resetCmdReset 50 0x1002) (compat true)) (fun q => (q.rst.running.map (·.fenced)) == [true] && q.rst.fences == [0x1002]) = true := by
  decide +kernel
theorem test_fence : nextOf (exec (.resetCmdFence 0 0x1002) (compat true)) (fun q => q.rst.fences == [0x1002]) = true := by decide +kernel
theorem test_unfence : nextOf (exec (.resetCmdUnfence 0 0x1002) (compat true { fences := [0x1002, 0x1003] })) (fun q => q.rst.fences == [0x1003]) = true := by decide +kernel
theorem test_drained : nextOf (exec (.fenceDrainTimeout 0 0x1002) (compat true { fences := [0x1002], running := [⟨0x1002, 1, 0xFFFF, true, []⟩] }))
    (fun q => (q.rst.running.map (·.fenced)) == [false]) = true := by decide +kernel
theorem test_dump_request : nextOf (exec (.resetCmdDump 0 0) (compat false)) (fun q => q.rst.dump.running == some 1) = true := by decide +kernel
theorem test_watchdog : nextOf (exec (.watchdogExpire 0) (compat false)) (fun q => q.rst.pkgCause == 8) = true := by decide +kernel

theorem witness_ResetsEndAndHangs : (let s := compat false { running := [⟨0x1002, 1, 0xFFFF, false, []⟩] }
     s.pkg.rst.running.find? (fun x => x.unit == 0x1002 && !x.fenced) = some ⟨0x1002, 1, 0xFFFF, false, []⟩ ∧ ¬ fld (s.at 0).resetCfg 11 8 ≤ (s.at 0).resetCount 0x1002) ∧
    (let s := compat false { running := [⟨0x5001, 1, 0xFFFF, false, []⟩], history := [(0x1002, [0, 0, 0]), (0x5001, [0, 0, 0])] }
     fld (s.at 0).resetCfg 11 8 ≤ (s.at 0).resetCount 0x5001 ∧ 0x5001 / 4096 = 5 ∧ fld (s.at 0).resetCfg 11 8 ≤ (s.at 0).resetCount 0x1002) ∧
    (let s := compat false
     (s.at 0).hangDomain 0xF000 = none ∧ (s.at 0).hangDomain 0x3007 = some 0x3007 ∧ ∀ r ∈ s.pkg.rst.running, domIn r.unit 0x3007 = false) ∧
    (let s := compat false { tests := [{ unit := 0x3007, waiting := [], current := some 1 }] }
     (s.pkg.rst.tests.find? (·.unit == 0x3007)).bind (·.current) = some 1) ∧
    (let s := at_ { dispatchable false with rst := { oos := [0x3000] } }
     let s := { s with pkg := s.pkg.updTask 0 fun y => { y with stranded := 2 } }
     (s.at 0).isStranded 0 = true ∧ (s.at 0).hangStrokes ≤ (s.pkg.task 0).stranded) := by decide +kernel

/-- A dump in progress that a fault started: the section of the faulted unit is still to be taken. -/
theorem witness_dump : let d : DumpSt := { running := some 1 }
    (∃ x ∈ d.takes, ∀ y ∈ d.sections, ¬ (y.1 = x.1 ∧ y.2.1 = x.2.1)) ∧ d.begins = none ∧ ({ d with begins := some (8, 0xFFFF) }.begins = some (8, 0xFFFF)) ∧
    ((at_ { ready with regs := [(Reg.dumpSize, 0x400000)] }).at 0).dumpHost = true := by decide +kernel

theorem test_reset_done : nextOf (exec (.domainResetDone 9 0x1002) (compat false { running := [⟨0x1002, 1, 0xFFFF, false, []⟩] })) (fun q => q.rst.running == [] && q.rst.oos == []) = true := by
  decide +kernel
theorem test_reset_too_often : nextOf (exec (.domainResetDone 9 0x1002) (compat false { running := [⟨0x1002, 1, 0xFFFF, false, []⟩], history := [(0x1002, [0, 0, 0])] }))
    (fun q => q.rst.oos == [0x1002]) = true := by decide +kernel
theorem test_hang : nextOf (exec (.hangDetected 0 0x3007 1 2) (compat false)) (fun q => (q.rst.running.map (·.unit)) == [0x3007] && q.reg Reg.hangsDetected == 1) = true := by
  decide +kernel
theorem test_stranded : nextOf (exec (.strandedTaskFail 0 0) (let s := at_ { dispatchable false with rst := { oos := [0x3000] } }
      { s with pkg := s.pkg.updTask 0 fun y => { y with stranded := 2 } })) (fun q => q.tasks.all fun z => z.2.phase == .reported) = true := by decide +kernel

/-! ### The host port and Easel (chapters 15 and 16) -/

def aperture (v : Word) : State := at_ { shop with regs := [(0x021000, v), (Reg.doorbellBase, 0x8000000000000001)] }

/-- Aperture 0: enabled, writable, context 1, base 0. -/
def apOn : Word := 0xC001000000000000

theorem witness_HostPort : ((aperture apOn).at 0).barPhase = .on ∧ bitAt ((aperture apOn).pkg.reg 0x021000) 63 = true ∧ fld ((aperture apOn).pkg.reg 0x021000) 59 48 = 1 ∧
    ((aperture apOn).pkg.ctx 1).phase = .open ∧ (((aperture apOn).at 0).vRead 1 0x5000 8 .read false).fault = false ∧ bitAt ((aperture apOn).pkg.reg 0x021000) 62 = true ∧
    (∀ x ∈ piecesOf 0x5000 8, ((aperture apOn).at 0).classAt 1 x.1 = some false) ∧ ((aperture apOn).at 0).vMapped 1 0x5000 8 .write = true ∧
    (((aperture apOn).at 0).vRead 1 0x300000 8 .read false).fault = true ∧ bitAt ((aperture 0).pkg.reg 0x021000) 63 = false ∧
    (State.reset.pkg.power.risen = false ∧ ready.power.risen = true ∧ ready.power.perst = false) ∧
    plainMask 0x050008 = some (~~~0) ∧ roOffset 0x000000 = true := by decide +kernel

theorem witness_perst_ends : let s := at_ { State.reset.pkg with power := { waiting := true, pwrGood := true, perst := true } }
    s.pkg.power.waiting = true ∧ s.pkg.power.pwrGood = true ∧ s.pkg.power.trip = false ∧ s.pkg.power.supplyHold = false ∧ s.pkg.power.halted = false := by decide +kernel

theorem witness_host_reads : let s := at_ { ready with easel := { run := some { op := 7, tag := 1, args := [] } }, host := { d3 := true, config := [(0x10, 5)] } }
    s.pkg.easel.run ≠ none ∧ s.pkg.host.d3 = true ∧ s.pkg.host.config.find (0x10 / 4 * 4) = some 5 ∧ 0x10 / 4 ≠ 2 := by decide +kernel

theorem test_aperture_write_read : nextOf (exec (.apertureWrite 0 0 0x5000 [1, 2, 3]) (aperture apOn)) (fun q => q.mem.bytes.readN 0x205000 3 == [1, 2, 3]) = true := by decide +kernel
theorem test_aperture_read : nextOf (exec (.apertureRead 0 0 0x4000 4) (aperture apOn)) (fun q => q.out == [.completion 0 (leBytes 4 0x3F800000) false]) = true := by decide +kernel
theorem test_aperture_off : nextOf (exec (.apertureWrite 0 0 0x5000 [1]) (aperture 0)) (fun q => q.host.faults == 1 && q.mem.bytes == shop.mem.bytes) = true := by decide +kernel
theorem test_hot_reset : nextOf (exec (.hotReset 5) (at_ ready)) (fun q => q.rst.pkgCause == 1 && q.power.step == some 2) = true := by decide +kernel
theorem test_perst_held : nextOf (exec (.perstAssert 5) (at_ ready)) (fun q => q.power.perst && q.power.waiting) = true := by decide +kernel
theorem test_perst_ends : nextOf (exec (.perstDeassert 5) (at_ { State.reset.pkg with power := { waiting := true, pwrGood := true, perst := true } }))
    (fun q => q.power.step == some 2) = true := by decide +kernel
theorem test_d3 : nextOf (exec (.d3hotEntry 5) (at_ ready)) (fun q => q.host.d3) = true := by decide +kernel
theorem test_d0 : nextOf (exec (.d0Return 5) (at_ { ready with host := { d3 := true, held := [(false, 64, [7])] } })) (fun q => q.out == [.hostWrite 64 [7]] && !q.host.d3) = true := by
  decide +kernel
theorem test_register_write : nextOf (exec (.registerWrite 0 0x050200 0xFF 0xFFFFF) (at_ ready)) (fun q => q.reg 0x050200 == 0xFFF) = true := by decide +kernel
theorem test_narrow_write : nextOf (exec (.registerWrite 0 0x050200 0x0F 0xFFF) (at_ ready)) (fun q => q.reg Reg.badAccess == 1) = true := by decide +kernel
theorem test_bad_read : nextOf (exec (.bar0BadRead 0) (at_ ready)) (fun q => q.out == [.completion 4 [] false]) = true := by decide +kernel
theorem test_config_retry : nextOf (exec (.configurationRequest 0 (.read 8)) (at_ { State.reset.pkg with power := { pwrGood := true, step := some 5 } })) (fun q => q.out == [.completion 2 [] false]) = true := by decide +kernel
/-- Class code 12 00 00, revision 1 (R503). -/
theorem test_config_class : nextOf (exec (.configurationRequest 0 (.read 8)) (at_ ready)) (fun q => q.out == [.completion 0 [1, 0, 0, 0x12] false]) = true := by decide +kernel
theorem test_read_timeout : nextOf (exec (.hostReadTimeout 0 .axisMap) (at_ ready)) (fun q => q.fab.axErr == [(0, Code.invalidDescriptor)] && q.host.readErrors == 1) = true := by
  decide +kernel
theorem test_read_completes : nextOf (exec (.hostReadCompletion 0 .index true) (at_ ready)) (fun q => q.host.readErrors == 1 && q.host.aer == 1) = true := by decide +kernel

/-- Arguments of Easel operations in ARG_0 to ARG_2. -/
def argued (a b c : Nat) : State := at_ { ready with
  mem := { usable := 62 * 2 ^ 30 }, ctxs := []
  msys := { ports := [(3, { state := 2 })] }
  regs := [(0x010040, BitVec.ofNat 64 a), (0x010048, BitVec.ofNat 64 b), (0x010050, BitVec.ofNat 64 c)] }

/-- One range: 64 KiB at DPA 0. -/
def rangeBytes : Bytes := leBytes 8 0 ++ leBytes 8 65536

/-- A plan of package 5 in an installation of 9: port n on axis n / 8, plus and minus by turns (R414). -/
def planBytes : Bytes := leBytes 2 1 ++ leBytes 2 5 ++ leBytes 2 9 ++ leBytes 2 0 ++ leBytes 8 0x77 ++ leBytes 8 0 ++ leBytes 40 0 ++
  (List.range 24).flatMap fun n => leBytes 1 1 ++ leBytes 1 (n / 8 + 4 * (n % 2)) ++ leBytes 30 0

theorem bank_of_zeros (self : Nat) : ∀ n i, bankImageOk self i (List.replicate (2 * n) 0) = true
  | 0, _ => by simp [bankImageOk]
  | n + 1, i => by
    have h : List.replicate (2 * (n + 1)) (0 : Byte) = 0 :: 0 :: List.replicate (2 * n) 0 := by
      rw [show 2 * (n + 1) = 2 * n + 1 + 1 by omega, List.replicate_succ, List.replicate_succ]
    rw [h]
    simp only [bankImageOk, bank_of_zeros self n (i + 1), Bool.and_true]
    simp [entryOk]

theorem witness_EaselPort :
    ((argued 0 0 0).at 0).barPhase = .on ∧ (argued 0 0 0).pkg.easel.run = none ∧
    (let r (a b c : Nat) (img : Bytes) : EaselRun := { op := 4, tag := 1, args := ((argued a b c).at 0).easelArgs, image := img }
     (r 0xFF 16 1 rangeBytes).others [0, 1, 2] = true ∧ (r 0xFF 16 1 rangeBytes).rangesOk (argued 0 0 0).pkg.mem.usable = true ∧
     (r 0 16 1 rangeBytes).others [1, 2] = true ∧ (r 3 0 0 []).others [0] = true ∧ ((argued 3 0 0).pkg.memPort 3).state = 2 ∧ (r 0 0 0 []).others [] = true ∧
     (r 1 0x1000 0x100000 []).others [0, 1, 2] = true ∧ (r 0x1000 0 0 []).others [0, 1] = true) ∧
    ((argued 0x40 0 0).at 0).planOk planBytes = true ∧ ((argued 0x40 0 0).at 0).planOk (leBytes 832 0) = false ∧
    (∀ x ∈ (argued 0 0 0).pkg.ctxs.vals, x.phase = .free) ∧ (∀ n < 24, ((argued 0 0 0).pkg.port n).state ≠ 4) ∧
    (((argued 0 0 0).pkg.bank 0).state = .empty) := by decide +kernel

theorem witness_table_image : ∃ b : Bytes, b.length = 131072 ∧ bankImageOk 5 0 b = true :=
  ⟨List.replicate (2 * 65536) 0, List.length_replicate .., bank_of_zeros 5 65536 0⟩

def easelRuns (op : Nat) (args : List Nat) (img : Bytes := []) (waits : Bool := false) : State :=
  let s := argued 0 0 0
  { s with pkg := { s.pkg with easel := { run := some { op := op, tag := 1, args := args, image := img, waits := waits } }, msys := { ports := [(3, { state := 3 })] } } }

theorem witness_easel_ends : (∀ op ∈ [1, 2, 3, 4, 5, 6, 7, 8], ((easelRuns op [3]).pkg.easel.run.map (·.op)) = some op) ∧ ((easelRuns 6 [3]).pkg.memPort 3).state = 3 ∧
    ((easelRuns 6 [3]).pkg.memPort 3).abandoned < 2 ∧ ((easelRuns 1 [] [] true).pkg.easel.run.map (·.waits)) = some true := by decide +kernel

theorem test_gesso_starts : nextOf (exec (.gesso 0 7 rangeBytes) (argued 0xFF 16 1)) (fun q => (q.easel.run.map (·.op)) == some 4 && q.easel.tag == 7) = true := by decide +kernel
theorem test_gesso_refused : nextOf (exec (.gesso 0 7 []) (argued 0xFF 16 1)) (fun q => q.easel.run == none && q.easel.code == Code.invalidDescriptor) = true := by decide +kernel
theorem test_sweep_starts : nextOf (exec (.scrubSweep 0 7 rangeBytes) (argued 0 16 1)) (fun q => (q.easel.run.map (·.op)) == some 5) = true := by decide +kernel
theorem test_retrain_starts : nextOf (exec (.portRetrain 0 7) (argued 3 0 0)) (fun q => (q.memPort 3).state == 3) = true := by decide +kernel
theorem test_self_test_starts : nextOf (exec (.selfTest 0 7) (argued 0 0 0)) (fun q => (q.easel.run.map (·.op)) == some 7) = true := by decide +kernel
theorem test_plan_starts : nextOf (exec (.planLoad 0 7 planBytes) (argued 0x40 0 0)) (fun q => (q.easel.run.map (·.op)) == some 2) = true := by decide +kernel
theorem test_table_refused : nextOf (exec (.tableLoad 0 7 []) (argued 0x1000 0 0)) (fun q => q.easel.code == Code.invalidDescriptor) = true := by decide +kernel
theorem test_firmware_refused : nextOf (exec (.firmwareLoad 0 7 []) (argued 0x1000 0 0)) (fun q => q.easel.code == Code.invalidDescriptor) = true := by decide +kernel
theorem test_easel_dump : nextOf (exec (.easelCrashDump 0 7) (argued 0 0 0)) (fun q => q.rst.dump.running == some 2) = true := by decide +kernel
theorem test_plan_in_force : nextOf (exec (.easelOpEnd 0 {}) (easelRuns 2 [0x40] planBytes))
    (fun q => q.fab.selfIdx == some 5 && q.reg Reg.planId == 0x77 && q.easel.run == none && (q.port 1).cfg == planCfg planBytes 1) = true := by decide +kernel
theorem test_retrain_ends : nextOf (exec (.easelOpEnd 9 {}) (easelRuns 6 [3])) (fun q => (q.memPort 3).state == 2 && q.easel.results == [1, 0, 0, 0]) = true := by decide +kernel
theorem test_self_test_fails : nextOf (exec (.easelOpEnd 9 { checkers := 6, failing := 2 }) (easelRuns 7 [])) (fun q => q.rst.pkgOos && q.easel.results == [6, 2, 0, 0]) = true := by
  decide +kernel
theorem test_easel_timeout : nextOf (exec (.easelTimeout 0 0) (easelRuns 2 [0x40])) (fun q => q.easel.code == Code.timeout && q.easel.run == none) = true := by decide +kernel
theorem test_update_end : nextOf (exec (.firmwareUpdateEnd 0) (easelRuns 1 [] [] true)) (fun q => (q.easel.run.map (·.waits)) == some false) = true := by decide +kernel

/-! ### Supplies, bring-up and clocks (chapter 17) -/

def powered (x : PowerSt) : State := at_ { State.reset.pkg with power := x, clk := { present := [0, 1, 2] } }

theorem witness_SupplyReset : ready.power.pwrGood = true ∧ (11 : Nat) ≤ 12 ∧ ((at_ ready).at 9).belowReset 4 700 = true ∧ ((at_ ready).at 9).belowReset 11 500 = true ∧
    ¬ ((at_ ready).at 9).belowReset 4 800 = true ∧ (∀ r ∈ (powered { dips := [(11, ⟨1, 2, false⟩)] }).pkg.power.dips.keys, r = 11) ∧
    (¬ ∀ r ∈ (powered { dips := [(4, ⟨1, 2, false⟩)] }).pkg.power.dips.keys, r = 11) ∧
    (let s := powered { supplyHold := true, waiting := true, pwrGood := true }
     s.pkg.power.supplyHold = true ∧ s.pkg.power.dips = [] ∧ s.pkg.power.waiting = true ∧ s.pkg.power.pwrGood = true ∧ s.pkg.power.perst = false ∧ s.pkg.power.trip = false ∧
       s.pkg.power.halted = false) := by decide +kernel

theorem test_supply_reset : nextOf (exec (.supplyReset 9 ⟨4, 700⟩) (at_ ready)) (fun q => q.rst.pkgCause == 6 && q.power.supplyHold && q.power.waiting &&
    (q.log.recs.any fun e => e.event == Ev.supplyReset && e.detail == [4])) = true := by decide +kernel
theorem test_standby_lost : nextOf (exec (.supplyReset 9 ⟨11, 500⟩) (at_ { ready with rst := { pkgOos := true } })) (fun q => q.now == 0 && q.log.recs == [] && !q.rst.pkgOos) = true := by
  decide +kernel
theorem test_reset_reaches_count : nextOf (exec (.supplyReset 9 ⟨4, 700⟩) (at_ { ready with rst := { pkgHistory := [8, 7, 6] } }))
    (fun q => !q.rst.pkgOos && q.rst.oosDue) = true := by decide +kernel
theorem test_reset_ends_out_of_service : nextOf (exec (.bringupStepDone 9 {}) (at_ { ready with rst := { oosDue := true }, power := { pwrGood := true, step := some 10 } }))
    (fun q => q.rst.pkgOos && !q.power.ready && q.power.failStep == 10 && q.power.step == none) = true := by decide +kernel
theorem test_supply_hold_ends : nextOf (exec (.supplyResetHoldEnd 9) (powered { supplyHold := true, waiting := true, pwrGood := true })) (fun q => q.power.step == some 2) = true := by
  decide +kernel

theorem witness_PowerAndBringup : State.reset.pkg.power.pwrGood = false ∧ State.reset.pkg.power.perst = false ∧
    (∀ n ∈ [2, 3, 4, 5, 6, 7, 8, 9, 10], (powered { pwrGood := true, step := some n }).pkg.power.step = some n) ∧
    ((powered {}).pkg.clk.present.mem 0 = true ∧ (powered {}).pkg.clk.present.mem 1 = true) ∧ State.reset.pkg.rst.pkgOos = false ∧ State.reset.pkg.rst.oosDue = false ∧
    (let s := at_ { ready with rst := { oosDue := true } }; s.pkg.rst.pkgOos = false ∧ s.pkg.rst.oosDue = true) ∧
    (at_ { ready with rst := { pkgOos := true } }).pkg.rst.pkgOos = true ∧
    (let s := powered { pwrGood := true, dips := [(4, ⟨100, 900, false⟩)], stretched := some 100 }
     s.pkg.power.dips.find 4 = some ⟨100, 900, false⟩ ∧ s.pkg.power.dips.find 5 = none) ∧
    (let s := powered { pwrGood := true, stretched := some 100, lastUp := 200 }
     s.pkg.power.stretched = some 100 ∧ s.pkg.power.dips = [] ∧ s.pkg.power.lastUp + 10000 ≤ (s.at 10200).now) ∧
    ((at_ ready).at 5).watched 4 = true ∧ ((at_ ready).at 5).belowWarn 4 700 = true ∧ ((at_ ready).at 5).belowWarn 4 790 = false ∧
    (powered { ctl := false }).pkg.power.ctl = false ∧ (powered { pwrGood := true, halted := true }).pkg.power.halted = true ∧
    (∀ s ∈ [({} : Fuses)], s.clash = none) ∧ (powered { bootSrc := 3 }).pkg.power.bootSrc = 3 := by decide +kernel

/-- Samples that trip, warn and throttle, and end a warning; each die has its sensors. -/
theorem witness_ThermalSample : (List.replicate 26 [(115 : Int)]).length = 26 ∧ dieTemp 0 ((List.replicate 26 [(115 : Int)]).getD 0 []) = some 115 ∧
    (∀ d < 26, ∀ c ∈ (dieTemp d ((List.replicate 26 [(50 : Int)]).getD d [])).toList, c < 115 ∧ c ≤ (at_ ready).pkg.warnC - 3) ∧
    dieTemp 3 [90, 112, 80, 100] = some 112 ∧ (at_ ready).pkg.warnC ≤ 112 ∧ (at_ ready).pkg.throttleC ≤ 112 ∧ (at_ ready).pkg.frozen = false := by decide +kernel

theorem witness_dips_sorted : (powered { dips := [(4, ⟨100, 900, false⟩)] }).pkg.power.dips.sorted := by
  simp [powered, at_, Tbl.sorted]

theorem test_power_good : nextOf (exec (.pwrGoodAssert 5 none {}) State.reset) (fun q => q.power.step == some 2 && q.clk.present == [0, 1] && q.rst.pkgCause == 9) = true := by decide +kernel
theorem test_rail_low : nextOf (exec (.pwrGoodAssert 5 (some 3) {}) State.reset) (fun q => q.power.failStep == 1 && q.power.offReq) = true := by decide +kernel
theorem test_step_done : nextOf (exec (.bringupStepDone 5 {}) (powered { pwrGood := true, step := some 3 })) (fun q => q.power.step == some 4 && q.power.last == 3) = true := by decide +kernel
theorem test_step_seven : nextOf (exec (.bringupStepDone 5 { density := 1 }) (powered { pwrGood := true, step := some 7 }))
    (fun q => q.mem.usable == 62 * 2 ^ 30 && (q.memPort 31).state == 2) = true := by decide +kernel
theorem test_step_ten : nextOf (exec (.bringupStepDone 5 {}) (powered { pwrGood := true, step := some 10 })) (fun q => q.power.ready && q.power.risen && q.power.step == none) = true := by
  decide +kernel
theorem test_power_falls : nextOf (exec (.pwrGoodDeassert 5) (at_ shop)) (fun q => !q.power.pwrGood && q.ctxs == []) = true := by decide +kernel
theorem test_dip : nextOf (exec (.supplyWarn 5 4 700) (at_ ready)) (fun q => q.power.dips == [(4, ⟨5, 700, false⟩)] && q.power.stretched == some 5) = true := by decide +kernel
theorem test_rail_returns : nextOf (exec (.railReturnsAboveWarning 600 4 880) (powered { pwrGood := true, dips := [(4, ⟨100, 900, false⟩)], stretched := some 100 }))
    (fun q => q.power.dips == [] && (q.log.recs.map (·.detail)) == [leBytes 1 4 ++ leBytes 1 0 ++ leBytes 2 880 ++ leBytes 4 500]) = true := by decide +kernel
theorem test_stretch_ends : nextOf (exec (.stretchRelease 10200) (powered { pwrGood := true, stretched := some 100, lastUp := 200 })) (fun q => q.reg Reg.stretchNs == 10100) = true := by
  decide +kernel
theorem test_thermal_trip : nextOf (exec (.thermalSample 5 (List.replicate 26 [115]) []) (at_ ready)) (fun q => q.power.trip && q.rst.pkgCause == 7) = true := by decide +kernel
theorem test_thermal_warning : nextOf (exec (.thermalSample 5 ([90, 100] :: List.replicate 25 [50]) []) (at_ ready)) (fun q => q.power.alert && q.sec.warnDies == [0]) = true := by decide +kernel
theorem test_power_off : nextOf (exec (.powerCmdOff 5) (at_ ready)) (fun q => q.power.halted && q.power.offReq && !q.power.ready) = true := by decide +kernel
theorem test_vdd_ctl : nextOf (exec (.vddCtlApplied 5) (at_ { ready with now := 77 })) (fun q => q.now == 0 && !q.power.pwrGood) = true := by decide +kernel

/-- Step 3 compares the fuses with the grade: KTP-24B with all eight cores in cluster 2, which lies on compute die 0 (R29, R33). -/
theorem test_step_three_clash : nextOf (exec (.bringupStepDone 5 {}) (at_ { State.reset.pkg with fuses := { grade := 2, cores := [(2, 0xFF)] }, power := { pwrGood := true, step := some 3 } }))
    (fun q => q.power.step == none && q.power.failStep == 3 && q.power.failCode == Code.outOfService && (q.log.recs.map (·.unit)) == [Unit.computeDie 0]) = true := by decide +kernel

theorem witness_step_three : (powered { pwrGood := true, step := some 3 }).pkg.fuses.clash = none ∧
    ({ grade := 2, cores := [(2, 0xFF)] } : Fuses).clash = some (Unit.computeDie 0) := by decide +kernel

def clockOf (x : CoreClk) (throttling : NatSet := []) (temp : Int := 0) : State := at_ { ready with
  ctxs := [], clk := { core := [(0, x)], present := [0, 2], fab := 1400 }, sec := { throttling := throttling, temps := [(0, temp)] } }

theorem witness_ClocksAndGates : ((clockOf { mhz := 1500 }).at 0).barPhase = .on ∧ bitAt (0x1000 : Word) 12 = true ∧ (200 ≤ fld (800 : Word) 10 0 ∧ fld (800 : Word) 10 0 % 25 = 0 ∧
      fld (800 : Word) 10 0 ≤ (clockOf {}).pkg.fuses.maxMhz) ∧ (bitAt (810 : Word) 12 = false ∧ fld (810 : Word) 10 0 % 25 ≠ 0) ∧
    ((clockOf {}).pkg.coreClk 0).ceiling = none ∧ ((clockOf { phase := .locking }).pkg.coreClk 0).phase = .locking ∧
    ((clockOf { phase := .raising, target := ⟨400, true, 0⟩ }).pkg.coreClk 0).target.bypass = true ∧ ((clockOf { phase := .relock, held := some ⟨800, false, 0⟩ }).pkg.coreClk 0).held.isSome = true ∧
    (((clockOf { mhz := 1500 }).pkg.coreClk 0).mhz ≠ 0 ∧ ((clockOf { mhz := 1500 }).pkg.coreClk 0).bypass = false) ∧
    (fld (1 : Word) 1 0 ≠ 3 ∧ (∀ c ∈ (clockOf {}).pkg.ctxs.vals, c.phase = .free) ∧ (∀ m < 24, ((clockOf {}).pkg.port m).state ≠ 4) ∧ (clockOf {}).pkg.easel.run = none) ∧
    ((clockOf {}).pkg.clk.present.mem 0 = true ∧ (clockOf {}).pkg.clk.present.mem 1 = false) ∧
    (((clockOf {}).at 0).gateable 0x2003 = true ∧ ((clockOf {}).at 0).gateable 0x8000 = false ∧ ((clockOf {}).at 0).unitInUse 0x2003 = false ∧ ((clockOf {}).at 0).unitOos 0x2003 = false) := by
  decide +kernel

/-- The clauses about one clock that go by its phase, its ceiling and the references. -/
theorem witness_clock_phases : (let x := (clockOf { mhz := 1500 }).pkg.coreClk 0; x.ceiling = none ∧ x.phase = .idle ∧ x.stopped = false ∧ x.phase ≠ .raising ∧ x.phase ≠ .locking ∧ x.phase ≠ .relock) ∧
    (let x := (clockOf { mhz := 1500, phase := .raising, target := ⟨1600, false, 0⟩ }).pkg.coreClk 0; x.ceiling = none ∧ x.phase ≠ .idle ∧ x.phase = .raising ∧ x.target.bypass = false) ∧
    (let x := (clockOf { phase := .raising, target := ⟨400, true, 0⟩ }).pkg.coreClk 0; x.phase = .raising ∧ x.target.bypass = true ∧ x.held = none) ∧
    (∀ h ∈ [none, some ⟨800, false, 0⟩], let x := (clockOf { phase := .relock, stopped := true, held := h }).pkg.coreClk 0; x.phase = .relock ∧ x.held = h) ∧
    ((clockOf { mhz := 1500, stopped := true }).pkg.coreClk 0).stopped = true ∧
    (fld (3 : Word) 1 0 = 3 ∧ (∃ c ∈ (at_ shop).pkg.ctxs.vals, c.phase ≠ .free)) ∧
    ((clockOf {}).pkg.clk.present.mem 2 = true ∧ (clockOf {}).pkg.clk.present.mem 1 = false ∧ (clockOf {}).pkg.power.risen = true ∧ (powered {}).pkg.power.risen = false ∧
      (powered {}).pkg.clk.present.mem 1 = true) ∧
    ((clockOf {}).pkg.sec.throttling.mem 0 = false ∧ (clockOf { mhz := 1500, ceiling := some 900 } [0] 98).pkg.throttleC - 3 < 98 ∧
      98 < (clockOf { mhz := 1500, ceiling := some 900 } [0] 98).pkg.throttleC ∧ fld ((clockOf {}).pkg.clkCfg 0) 10 0 = 1800) := by decide +kernel

theorem witness_gate_refused : let s := finished false
    (s.at 0).unitInUse 0x2000 = true ∧ (s.at 0).unitOos 0x2000 = false ∧ (s.at 0).gateable 0x2000 = true ∧ (compat false { oos := [0x2001] }).pkg.unitOos 0x2001 = true := by decide +kernel

/-- Each case of THROTTLE_STEP: hot above and at the floor, cool and in between (throttle at 95 °C). -/
theorem witness_throttle : ∀ x ∈ [((110 : Int), some 900), (110, some 700), (50, some 900), (50, none)],
    (clockOf { mhz := 1500, ceiling := x.2 } [0] x.1).pkg.sec.throttling.mem 0 = true ∧
    (x.1 = 110 → (clockOf {}).pkg.throttleC ≤ x.1) ∧ (x.1 = 50 → x.1 ≤ (clockOf {}).pkg.throttleC - 3) ∧ max 200 ((clockOf {}).pkg.clk.fab / 2) = 700 := by decide +kernel

theorem test_clock_illegal : nextOf (exec (.clkCoreCfgWrite 0 0 810) (clockOf { mhz := 1500 })) (fun q => q.reg Reg.discardedWrites == 1 && (q.coreClk 0).phase == .idle) = true := by decide +kernel
theorem test_clock_held : nextOf (exec (.clkCoreCfgWrite 0 0 800) (clockOf { mhz := 1500, phase := .locking })) (fun q => (q.coreClk 0).held == some ⟨800, false, 0⟩) = true := by decide +kernel
theorem test_setpoint : nextOf (exec (.avsSetpointReached 0 0) (clockOf { mhz := 1500, phase := .raising, target := ⟨1600, false, 0⟩ })) (fun q => (q.coreClk 0).phase == .locking) = true := by
  decide +kernel
theorem test_pll_unlock : nextOf (exec (.pllUnlock 0 0) (clockOf { mhz := 1500 })) (fun q => (q.coreClk 0).stopped && (q.coreClk 0).phase == .relock) = true := by decide +kernel
theorem test_relock_timeout : nextOf (exec (.pllRelockTimeout 0 0) (clockOf { mhz := 1500, stopped := true, phase := .relock }))
    (fun q => (q.coreClk 0).stopped && (q.coreClk 0).phase == .idle) = true := by decide +kernel
theorem test_fabric_clock : nextOf (exec (.clkFabCfgWrite 0 1) (clockOf {})) (fun q => q.clk.fab == 700) = true := by decide +kernel
theorem test_throttle_floor : nextOf (exec (.throttleStep 0 0) (clockOf { mhz := 1500, ceiling := some 700 } [0] 110)) (fun q => (q.coreClk 0).ceiling == some 700) = true := by decide +kernel
theorem test_trim : nextOf (exec (.oscTrimUpdate 0 (-3)) (clockOf {})) (fun q => q.clk.trim == (clockOf {}).pkg.trimSource) = true := by decide +kernel
theorem test_reference_lost : nextOf (exec (.refclkLost 0 2) (clockOf {})) (fun q => q.clk.present == [0] && q.clk.lost == [2]) = true := by decide +kernel
theorem test_reference_back : nextOf (exec (.refclkRestored 0 1) (clockOf {})) (fun q => q.clk.present == [0, 1, 2]) = true := by decide +kernel
theorem test_gate_off : nextOf (exec (.clkGateOff 0 0x2003) (clockOf {})) (fun q => q.clk.off == [0x2003] && q.clk.lastUnit == 0x2003) = true := by decide +kernel
theorem test_gate_refused : nextOf (exec (.clkGateOff 0 0x2000) (finished false)) (fun q => q.clk.off == [] && q.clk.lastCode == Code.gateRefused) = true := by decide +kernel
theorem test_gate_on : nextOf (exec (.clkGateOn 0 0x2003) (at_ { ready with clk := { off := [0x1000, 0x2003, 0x2004] } })) (fun q => q.clk.off == [0x2004]) = true := by decide +kernel
theorem test_gate_hold : nextOf (exec (.clkGateHold 0 0x2003) (clockOf {})) (fun q => q.clk.hold == [0x2003]) = true := by decide +kernel

/-! ### The meter, security and the sideband (chapters 18 and 19) -/

def metered (m : MeterSt) : State := at_ { ready with meter := m }

theorem witness_MeterAndMirror : (metered {}).pkg.meter.up = false ∧ (metered { up := true }).pkg.meter.up = true ∧ (metered { up := true }).pkg.meter.sub < 32 ∧
    (metered { up := true }).pkg.meter.isSealed = true ∧
    (let m := (metered { up := true, calEn := true, isSealed := false }).pkg.meter
     m.up = true ∧ m.calEn = true ∧ m.isSealed = false ∧ m.nextFree ≤ 7 ∧ m.spent = false) ∧ (1 ≤ 60 ∧ 900 % 60 = 0 ∧ 60 ≠ (metered {}).pkg.meter.len) ∧
    (State.reset.pkg.mirror.stale = false ∧ State.reset.pkg.mirror.lastAt + 1000000 ≤ (State.reset.at 1000000).now) := by decide +kernel

/-- The clauses of the meter that go by what it holds: over range, a length and a seal that wait, a bank fault, a flag of the seconds, the mirror. -/
theorem witness_meter_holds : 2000000000 < (([(800, 2500001)].take 12).map fun x => x.1 * x.2).sum ∧
    (let m := (metered { up := true, lenNext := some 60, events := 4 }).pkg.meter; m.up = true ∧ m.lenNext ≠ none ∧ m.events < 1023) ∧
    (let m := (metered { up := true, sealNext := true, isSealed := false }).pkg.meter; m.sealNext = true ∧ m.spent = false ∧ m.lenNext = none) ∧
    (let m := (metered { up := true, secFine := 1900000000 * 1048576 }).pkg.meter; 1800000000 * 1048576 < m.secFine) ∧ (metered { up := true }).pkg.meter.secFine < 150000000 * 1048576 ∧
    (let m := (metered { up := true, nextFree := 8, calEn := true }).pkg.meter; ¬ (m.up = true ∧ m.calEn = true ∧ m.isSealed = false ∧ m.nextFree ≤ 7)) ∧
    (at_ { ready with mirror := { stale := true, seen := true, varnish := 0x5E }, meter := { up := true, isSealed := false } }).pkg.mirror.stale = true ∧
    ((at_ ready).pkg.mirror.stale = false ∧ (at_ ready).pkg.mirror.lastAt + 1000000 ≤ ((at_ ready).at 1000000).now) := by decide +kernel

/-- 800 mV × 1,000,000 mA = 800 W: 800,000,000 µW for one sample. -/
theorem test_sample : nextOf (exec (.meterSample 0 [(800, 1000000)]) (metered { up := true, sub := 31 })) (fun q => q.meter.fine == 800000000 && q.meter.ticks == 1 && q.meter.sub == 0) = true := by
  decide +kernel
theorem test_sample_clamped : nextOf (exec (.meterSample 0 [(800, 4000000)]) (metered { up := true })) (fun q => q.meter.fine == 2400000000 && q.meter.flags.testBit 2) = true := by decide +kernel
theorem test_interval : nextOf (exec (.meterIntervalBoundary 0) (metered { up := true, seq := 4, lenNext := some 60 }))
    (fun q => q.meter.seq == 5 && q.meter.len == 60 && (q.meter.records.map (·.1)) == [5]) = true := by decide +kernel
theorem test_second_check : nextOf (exec (.meterSecondCheck 0 false 1) (metered { up := true })) (fun q => q.meter.clockFault && q.meter.tmr == 1) = true := by decide +kernel
theorem test_vdd_met_falls : nextOf (exec (.vddMetFall 0) (metered { up := true })) (fun q => !q.meter.up && q.meter.seq == 1) = true := by decide +kernel
theorem test_vdd_met_returns : nextOf (exec (.vddMetReturn 0) (metered { ticks := 9 })) (fun q => q.meter.up && q.meter.startT == 9) = true := by decide +kernel
theorem test_cal_en : nextOf (exec (.metCalEnAssert 0) (metered { up := true })) (fun q => !q.meter.isSealed && q.meter.events == 1) = true := by decide +kernel
theorem test_cal_en_off : nextOf (exec (.metCalEnDeassert 0) (metered { up := true, calEn := true })) (fun q => !q.meter.calEn) = true := by decide +kernel
theorem test_cal_bank : nextOf (exec (.calBankWrite 0 ⟨[1], [[1], [1], [1]]⟩) (metered { up := true, calEn := true, isSealed := false })) (fun q => q.meter.bankNext == some 1 && q.meter.nextFree == 2) = true := by
  decide +kernel
theorem test_seal_closed : nextOf (exec (.seal 0 []) (metered { up := true })) (fun q => !q.meter.sealNext) = true := by decide +kernel
theorem test_interval_length : nextOf (exec (.intervalLengthRequest 0 none (some 7)) (metered { up := true })) (fun q => q.meter.lenNext == none) = true := by decide +kernel
theorem test_readout : nextOf (exec (.energyReadoutLatch 0 { len := 16 }) (metered { up := true, fine := 1048576000, ticks := 3 })) (fun q => q.out == [.meter (leBytes 8 1 ++ leBytes 8 3)]) = true := by
  decide +kernel
theorem test_snapshot : nextOf (exec (.meterSnapshot 50) (metered { up := true, ticks := 3 })) (fun q => q.mirror.time == 3 && q.mirror.seen && q.mirror.lastAt == 50) = true := by decide +kernel
theorem test_mirror_stale : nextOf (exec (.mirrorStaleTimeout 1000000) (at_ ready)) (fun q => q.mirror.stale) = true := by decide +kernel

/-- The first answer holds these bytes from a place on. -/
def sends (at_ : Nat) (b : Bytes) (q : Pkg) : Bool :=
  match q.out.head? with
  | some (.sideband x) | some (.spdm x) => (x.drop at_).take b.length == b
  | _ => false

/-- A running image's header: security version 9 at its place, key slot and mask zero. -/
def running_ (risen : Bool := true) : State := at_ { ready with ctxs := [], power := { ready.power with risen := risen }, sec := { header := leBytes 512 1, flash := [[], []], spdm := [(0, 3)] } }

theorem witness_SecurityCommands : ((running_).at 0).barPhase = .on ∧ (∀ b ∈ (running_).pkg.sec.flash, b = []) ∧ (running_).pkg.sec.header ≠ [] ∧ (running_).pkg.sec.spdm.get 0 0 = 3 ∧
    (running_).pkg.sec.spdm.get 0 1 = 0 ∧ State.reset.pkg.sec.header = [] ∧ ((running_).at 0).tokenOk [] = false ∧
    (let b := leBytes 19 0 ++ leBytes 1 1 ++ leBytes 492 0
     let s := at_ { ready with sec := { header := b, flash := [b, []] }, fuses := { revoked := 1 } }
     ∃ x ∈ s.pkg.sec.flash, x ≠ [] ∧ (s.pkg.fuses.revoked ||| (le b 19 1 % 16 &&& (15 - 2 ^ (fwKeySlot b % 4)))).testBit (fwKeySlot x) = true) := by decide +kernel

theorem test_debug_rejected : nextOf (exec (.debugUnlock 0 []) (running_)) (fun q => q.sec.scope == 0 && q.sec.nonceNo == 1 && q.reg Reg.debugRejects == 1) = true := by decide +kernel
theorem test_debug_lock : nextOf (exec (.debugLock 0) (at_ { ready with sec := { scope := 3 } })) (fun q => q.sec.scope == 0) = true := by decide +kernel
theorem test_version : nextOf (exec (.getVersion 0 0 [0x10, 0x84, 0, 0]) (running_)) (fun q => q.sec.spdm.get 0 0 == 1) = true := by decide +kernel
theorem test_spdm_out_of_order : nextOf (exec (.getCapabilities 0 0 []) (let s := running_; { s with pkg := { s.pkg with sec := { s.pkg.sec with spdm := [] } } })) (sends 0 [0x12, 0x7F, 0x04, 0]) = true := by decide +kernel
theorem test_spdm_unsupported : nextOf (exec (.spdmUnsupportedRequest 0 0) (running_)) (sends 0 [0x12, 0x7F, 0x07, 0]) = true := by decide +kernel
theorem test_commit : nextOf (exec (.commitVersion 0) (running_)) (fun q => q.log.recs.any fun e => e.event == Ev.versionCommitted) = true := by decide +kernel
theorem test_pt_invalidate : nextOf (exec (.ptInvalidate 0 0) (running_)) (fun q => q.log.recs == []) = true := by decide +kernel

theorem witness_SidebandCommands : ((running_).pkg.power.risen = true ∧ (running_).pkg.power.halted = false) ∧ State.reset.pkg.power.risen = false ∧
    earlyBlock 0x100000 = true ∧ earlyBlock 0x050000 = false ∧ (at_ { ready with side := { fw := true } }).pkg.side.fw = true ∧
    ((running_).at 0).fwVerify [] ≠ 0 ∧ (at_ { ready with side := { mode := 2 } }).pkg.side.mode = 2 := by decide +kernel

theorem test_side_status : nextOf (exec (.sidebandStatus 0) (at_ { ready with rst := { pkgOos := true } })) (sends 7 [1, BitVec.ofNat 8 Code.outOfService]) = true := by decide +kernel
theorem test_side_reg_early : nextOf (exec (.sidebandRegRead 0 0x050000) State.reset) (sends 7 [3, BitVec.ofNat 8 Code.notReady]) = true := by decide +kernel
theorem test_side_reset : nextOf (exec (.sidebandReset 0 0x1002) (compat false)) (fun q => (q.rst.running.map (·.cause)) == [2]) = true := by decide +kernel
theorem test_side_off : nextOf (exec (.sidebandPowerOff 0) (at_ ready)) (fun q => q.power.halted) = true := by decide +kernel
theorem test_esc_clear : nextOf (exec (.escClear 0) (at_ { ready with rst := { pkgOos := true } })) (fun q => !q.rst.pkgOos) = true := by decide +kernel
theorem test_side_dump : nextOf (exec (.sidebandCrashDump 0) (at_ ready)) (fun q => q.rst.dump.running == some 3) = true := by decide +kernel
theorem test_side_dump_read : nextOf (exec (.sidebandDumpRead 0 0) (at_ ready)) (sends 7 [4, 0]) = true := by decide +kernel
theorem test_side_log : nextOf (exec (.sidebandLogRead 0 1 1) (at_ ready)) (fun q => q.out.length == 1) = true := by decide +kernel
theorem test_pldm_types : nextOf (exec (.pldmBaseDiscovery 0) (running_)) (sends 4 ([1, 0x80, 0] ++ leBytes 8 0x25)) = true := by decide +kernel
theorem test_pldm_sensor : nextOf (exec (.pldmSensorRead 0 1) (at_ { ready with sec := { temps := [(0, -5)] } })) (sends 4 [1, 0x82, 0, 0xFB, 0]) = true := by decide +kernel
theorem test_pldm_busy : nextOf (exec (.pldmFirmwareUpdate 0 []) (at_ { ready with side := { fw := true } })) (sends 4 [1, 0x85, BitVec.ofNat 8 Code.easelBusy]) = true := by
  decide +kernel
theorem test_endpoint_id : nextOf (exec (.mctpSetEndpointId 0 (.setEid 9)) (at_ ready)) (fun q => q.side.eid == 9) = true := by decide +kernel
theorem test_address : nextOf (exec (.sidebandAddressAssign 0 (some 0x35)) (at_ ready)) (fun q => q.side.mode == 1 && q.side.addr == 0x35) = true := by decide +kernel

/-! ### Ill-formed commands, and the queue -/

def faults : Host.Outcome State Fault Refusal → Bool
  | .fault .noSuchUnit => true
  | _ => false

/-- One command for each check of `Instr.wf`. -/
theorem test_ill_formed : ∀ i ∈ [Instr.strokeMarkAccept 0 24 0 0 0 0, .stagedWriteResume 0 4096, .transferAged 0 64 0, .transferAged 0 0 1024, .packetAgeDrop 0 24,
    .doorbellPoll 0 [(4096, 0)] [], .doorbellPoll 0 [] [(4096, [])], .taskDispatch 0 32768 0, .taskDispatch 0 0 512, .updateTaskDispatch 0 0 64, .taskComplete 0 512,
    .updateTaskComplete 0 64, .sclAdd 0 512, .upeAdd 0 64, .packetForward 0 (some 24) ⟨0, []⟩, .portCfgWrite 0 24 0, .memCrcRetryExhausted 0 ⟨32, 5⟩, .memCrcRetryExhausted 0 ⟨3, 0⟩, .memCrcRetryExhausted 0 ⟨3, 6⟩, .routeBankDrainEnd 0 2,
    .sramScrub 0 (.palette 512 0), .sramScrub 0 (.palette 0 0x80000), .sramScrub 0 (.clusterMem 64 0), .sramScrub 0 (.clusterMem 0 0x400000), .sramScrub 0 (.staging 4 0 0 0),
    .sramScrub 0 (.stat 512 0 0 0), .sramScrub 0 (.stat 0 4096 0 0), .sramScrub 0 (.table 0 16), .sramScrub 0 (.storeCopy 0 4096 0), .sramScrub 0 (.route 2 0),
    .sramScrub 0 (.route 0 65536), .sramScrub 0 (.coreRegs 512 0), .sramScrub 0 (.upeTemps 64), .sramScrub 0 (.storeSram 512 0 0 0), .sramScrub 0 (.redSlot 4 0 0), .sramScrub 0 (.vote 6 0), .resetCmdReset 0 65536, .gesso 0 65536 [],
    .apertureRead 0 64 0 4, .apertureRead 0 0 0x80000000 4, .apertureWrite 0 64 0 [], .registerWrite 0 0x1000000 0xFF 0, .registerWrite 0 0 256 0, .clkCoreCfgWrite 0 16 0,
    .refclkLost 0 3, .supplyWarn 0 13 0, .pwrGoodAssert 0 (some 13) {}, .spdmUnsupportedRequest 0 2, .sidebandRegRead 0 0x1000000, .mctpSetEndpointId 0 (.setEid 256)],
    i.wf = false ∧ faults (exec i State.reset) = true := by decide +kernel

theorem test_step_takes_front : (match step { State.reset with pending := [.maintSlotEnd 7, .strokeBoundary 9] } with
    | .next u => u.pkg.now == 7 && u.pending == [.strokeBoundary 9]
    | _ => false) = true := by decide +kernel

theorem test_step_idles : step State.reset = .next State.reset := rfl

/-- The invariant holds with a command waiting, one that blows a fuse and one that restarts package time among them. -/
theorem witness_StepKeepsInvariant : ∀ i ∈ [Instr.maintSlotEnd 7, .commitVersion 7, .vddCtlApplied 0],
    ({ State.reset with pending := [i] } : State).Inv ∧ Instr.commits (.commitVersion 7) = true ∧ Instr.restarts State.reset.pkg (.vddCtlApplied 0) = true := by
  unfold State.Inv Fuses.Legal
  decide +kernel

/-- No row of the table has bits: no word spells a command. -/
theorem test_no_words : decodeTableWord 32 0 = none ∧ State.reset.withFetchWord 32 0 = State.reset := by decide +kernel


theorem test_notice_on_smbus : (let q := (({ State.reset.pkg with side := { mode := 2 } } : Pkg).noticeRaw 0x0C 0 0 [1]).out
  match q.drop (q.length - 3) with
    | [.pin 1 true, .sideband b, .pin 1 false] => b.length == 9 && (b.drop 4).head? == some 0x7E && b.drop 7 == [0x20, 1]
    | _ => false) = true := by decide +kernel

/-! ### More witnesses: the clauses about what stops, waits or is poisoned -/

theorem witness_refused_transfer :
    (let s := simple (cw 0 [(1, agW 1 0), (8, 1 * 2 ^ 60 + 1 * 2 ^ 24 + 5 * 2 ^ 20)])
     let p := ({ s.pkg with rst := { fences := [0x3000] } } : Pkg)
     match p.ready 0 with
      | .word k img w => w.has 8 && (p.checkWord 0 k img w).first.isNone && p.refused 0 w && (p.task k).phase == .running
      | _ => false) = true ∧
    ((at_ { clocked with rst := { fences := [Unit.clusterEngine 0 1] } }).at 0).fencedFrom (Unit.clusterEngine 0 1) = true ∧
    ((at_ clocked).at 0).fencedFrom (Unit.clusterEngine 0 1) = false := by decide +kernel

theorem witness_stopped_die : ((clockOf { mhz := 1500, stopped := true }).at 0).dieStopped 0 = true ∧ ((at_ ready).at 0).dieStopped 0 = false ∧
    ((powered { pwrGood := true, halted := true }).at 0).frozen = true ∧ ((portOf { state := 4 }).at 0).frozen = false := by decide +kernel

theorem witness_parent_heard : (let s := marksOn .locked fun k => { k with cfg := 0x00010068E20401F4, onAlt := true }
     (s.at 0).strokesRun = true ∧ s.pkg.stroke.source = false ∧ ((s.at 0).port 2).state = 4 ∧ (s.at 0).hears 2 = none ∧ s.pkg.stroke.fromParent 2 = true) ∧
    (let s := marksOn .locked fun k => { k with onAlt := true, parentHeard := true }
     s.pkg.stroke.marked = false ∧ s.pkg.stroke.sync = .locked ∧ s.pkg.stroke.onAlt = true ∧ s.pkg.stroke.parentHeard = true) := by decide +kernel

/-- A write that lands, one that finds no mapping, and a fold that frees a frame. -/
theorem witness_staged_faults : ((staged 0).pkg.ctx 1).stagedWrites = [twoBytes] ∧
    (match ((staged 0).at 0).vWrite1 1 0x40 {} [1, 2] false .write with
      | .fault _ => true
      | _ => false) = true := by decide +kernel

/-- Frame 6 of window 3 replaces frame 5. -/
def folding : Pkg := { ready with ctxs := [(1, { phase := .open, committed := 3, dirty := [0x200100] })]
                                  mem := mapped [(0x100, (VRec.make 5 [(3, 6)]).bytes)] }

theorem witness_fold : let p := (at_ folding).at 0
    folding.ctxs.keys = [1] ∧ (folding.ctx 1).dirty = [0x200100] ∧ p.memStopped = false ∧ folding.dBad 0x200100 32 = false ∧
    ((folding.vrec 0x200100).fold (folding.ctx 1).committed).2 = [5] := by decide +kernel

theorem witness_slot_waits : let s := at_ { slotted with ctxs := [(1, { slotted.ctx 1 with ringHeld := .slotTasks, ringEntry := clearEntry 9 })], slots := [(9, owned)] }
    (s.at 0).ringsOn = true ∧ (s.pkg.ctx 1).phase = .open ∧ (s.pkg.ctx 1).ringHeld = .slotTasks ∧ ((s.at 0).slots.find 9).map (·.owner) = some 1 := by decide +kernel

theorem witness_records_left : let x : Ctx := { phase := .open, cq := 4, cqProd := 16, cqHeld := [{ bytes := leBytes 63 5, irq := false }, { bytes := leBytes 63 6, irq := false }] }
    ((at_ { shop with ctxs := [(1, x)] }).at 0).ringsOn = true ∧ x.cqCons ≤ 1 ∧ 1 ≤ x.cqProd ∧ min x.cqHeld.length (1 + 2 ^ fld x.cq 4 0 - x.cqProd) = 1 ∧
    1 < x.cqHeld.length ∧ x.cqFull = false := by decide +kernel

theorem witness_arrival_tables : let x := awaitsSeven.ctx 1
    x.arrWin.sorted ∧ x.cur.arr.sorted ∧ x.arrDirect.sorted ∧ (awaitsSeven.tasks.find 3).isSome = true := by
  unfold Tbl.sorted; decide +kernel

/-- NUMERICS_MODE on herd 5 (bit 2), of which contexts 1 and 2 are; context 2's switch lies later. -/
theorem witness_numerics_herd : let v : Word := 0x50004
    let s := at_ { shop with ctxs := [(1, { phase := .open, herd := 0x10005 }), (2, { phase := .open, herd := 0x10005, switchStep := 9 })] }
    bitAt v 2 = true ∧ fld v 1 0 < 2 ∧ fld v 31 16 = 5 ∧ (∀ d ∈ [1, 2], (s.pkg.ctx d).phase = .open ∧ (s.pkg.ctx d).herdEn = true ∧ (s.pkg.ctx d).herdId = 5) ∧
    (s.pkg.reg Reg.numericsModeStep).toNat < (s.pkg.ctx 2).switchStep ∧ ((powered { pwrGood := true, step := some 4 }).at 0).barPhase = .off := by decide +kernel

theorem witness_canTrain : ((portOf { state := 1 }).at 0).canTrain 2 = true ∧
    ((at_ { (portOf { state := 1 }).pkg with clk := { present := [0, 2] } }).at 0).canTrain 2 = false := by decide +kernel

/-- Marks of poison in the memory dies and the stores; a critical word's copies. -/
theorem witness_poison_marks : let p := ({ flowing with fab := { flowing.fab with redSlots := [{ ctx := 1, gen := 0, tensor := 9, tile := 0, step := 6, attempt := 0 }] } } : Pkg)
    (p.fab.redSlots.filter fun r => r.tile % 4 == 0)[0]?.isSome = true ∧ (p.dieFlows 1)[0]?.isSome = true ∧ ((p.dieFlows 1)[0]?.bind fun f => f.early[0]?).isSome = true ∧
    (awaitsSeven.ctx 1).arrWin.find 7 = some ⟨0x2000, 0x40, true, false⟩ ∧ (awaitsSeven.ctx 1).phase ≠ .free ∧
    (NatSet.ins (([] : NatSet)) 1).length < 2 ∧ 2 ≤ (NatSet.ins [1] 2).length ∧ ((at_ ready).at 0).corePresent 7 = true := by decide +kernel

theorem witness_domain_ends : (let s := compat false { running := [⟨0x1002, 1, 0xFFFF, false, [0x3010]⟩] }
     ∀ e ∈ [0x1002, 0x3010], ¬ (fld (s.at 0).resetCfg 11 8 ≤ (s.at 0).resetCount e ∧ s.pkg.rst.oos.mem e = false)) ∧
    (compat false).pkg.rst.running = [] ∧ bitAt ((compat false).pkg.reg Reg.dumpCfg) 1 = false ∧
    (let s := at_ { ready with regs := [(Reg.dumpCfg, 2)] }; bitAt (s.pkg.reg Reg.dumpCfg) 1 = true ∧ bitAt (s.pkg.reg Reg.dumpCfg) 0 = false ∧ s.pkg.rst.dump.running = none) := by
  decide +kernel

theorem witness_configuration : State.reset.pkg.power.pwrGood = false ∧ (powered { pwrGood := true }).pkg.power.risen = false ∧
    ((at_ ready).pkg.power.pwrGood = true ∧ (at_ ready).pkg.power.risen = true) ∧ ((0x10 / 4 * 4 = 0x010) ∧ 0x1C / 4 * 4 ≠ 0x044) ∧
    ((powered { trip := true }).pkg.power.trip = true ∧ (powered { trip := true }).pkg.power.perst = false) := by decide +kernel

/-- A table load whose image has been read; a GESSO whose memory port is being reset. -/
theorem witness_easel_waits :
    (let s := easelRuns 4 [0xFF, 16, 1] rangeBytes
     let s := { s with pkg := { s.pkg with rst := { running := [⟨0x5000, 1, 0xFFFF, false, []⟩] } } }
     ∃ r, s.pkg.easel.run = some r ∧ (s.at 0).easelWaits r = true) ∧
    (∃ r, (easelRuns 3 [] []).pkg.easel.run = some r ∧ r.read = false ∧ r.op = 3 ∧ ((easelRuns 3 [] []).at 0).easelWaits r = false ∧ r.waits = false) ∧
    (powered { pwrGood := true }).pkg.easel.run = none := by
  refine ⟨⟨_, rfl, ?_⟩, ⟨_, rfl, ?_⟩, rfl⟩ <;> decide +kernel

/-- No packet waits for the die's clock. -/
theorem witness_calm : (∀ k ∈ (clockOf { mhz := 1500 }).pkg.fab.stalled, ¬ (eidEp k.hd.dst < 64 ∧ eidEp k.hd.dst / 4 = 0)) ∧
    (∀ f ∈ (clockOf { mhz := 1500 }).pkg.fab.rxFlows, ∀ k ∈ f.early, k.hd.seq ≠ f.next) ∧
    (∀ k ∈ fetching.fab.stalled, ¬ (eidEp k.hd.dst < 64 ∧ eidEp k.hd.dst / 4 = 0)) := by decide +kernel

/-- A rail at the top of its range serves every frequency, one at 0 none. -/
theorem witness_rails : (∀ p : Pkg, ¬ 180 < p.groupNeed 0 400 ∧ 0 < p.groupNeed 0 400) ∧ ¬ 180 < railNeed 0 400 ∧ 0 < railNeed 0 400 := by
  have h (d m : Nat) : railNeed d m ≤ 180 ∧ 120 ≤ railNeed d m := by unfold railNeed; omega
  have g (p : Pkg) (d : Nat) : p.dieNeed d ≤ 180 := by
    unfold Pkg.dieNeed
    have h1 := (h d (p.coreClk d).mhz).1
    have h2 := (h d (p.coreClk d).target.mhz).1
    dsimp only; split <;> omega
  refine ⟨fun p => ?_, by have := h 0 400; omega, by have := h 0 400; omega⟩
  have e : p.groupNeed 0 400 = max (max (max (max 0 (railNeed 0 400)) (p.dieNeed 1)) (p.dieNeed 2)) (p.dieNeed 3) := rfl
  have := h 0 400; have := g p 1; have := g p 2; have := g p 3
  omega

/-- A set that reads back otherwise, and SPDM requests that are offered and not. -/
theorem witness_cal_mismatch : (CalSet.mk [1] [[1], [2], [1]]).back ≠ List.replicate 3 (CalSet.mk [1] [[1], [2], [1]]).data ∧
    (let req : Bytes := leBytes 8 0 ++ leBytes 4 0x80 ++ leBytes 4 2
     (le req 8 4).testBit 7 = true ∧ (le req 12 4).testBit 1 = true) ∧ ¬ ((le (leBytes 16 0 : Bytes) 8 4).testBit 7 = true) ∧
    le ([0x12, 0x83, 1, 0] : Bytes) 2 1 ≠ 0 ∧ (∀ n ∈ [0, 5, 0xFF], n ≤ 5 ∨ n = 0xFF) ∧ ¬ (6 ≤ 5 ∨ (6 : Nat) = 0xFF) := by decide +kernel

/-- A context with cached translations, and a transfer in flight that keeps them. -/
theorem witness_translations : let p := ({ fetching with tlb := [(1, [])] } : Pkg)
    p.tlb.find 1 = some [] ∧ p.tlb.find 2 = none ∧ (p.cluster 5).xfers ≠ [] ∧ bitAt (0x1000 : Word) 12 = true ∧ fld (1 : Word) 11 0 = 1 := by decide +kernel

theorem test_invalidate_keeps_transfer : nextOf (exec (.ptInvalidate 0 1) (at_ { fetching with tlb := [(1, [])] }))
    (fun q => q.tlb.find 1 == none && ((q.cluster 5).xfers.map (·.old)) == [some []]) = true := by decide +kernel
theorem test_halted_drops_packet : nextOf (exec (.write 0 none (toUs 1 0 0 0x40 0 (leBytes 32 0xAB))) (at_ { torus with power := { torus.power with halted := true } }))
    (fun q => q.mem == torus.mem && q.fab.rxFlows == []) = true := by decide +kernel
theorem test_vote_copies : nextOf (exec (.sramScrub 0 (.vote 2 1)) (at_ { ready with rst := { copies := [(2, [0])] } })) (fun q => q.rst.pkgOos) = true := by decide +kernel
theorem test_revote : nextOf (exec (.maintSlotEnd 4) (at_ { ready with stroke := { inSlot := true }, rst := { copies := [(2, [0])] } }))
    (fun q => q.rst.copies.get [] 2 == [] && q.reg Reg.tmrCorrected == 1) = true := by decide +kernel
theorem test_supply_in_limits : nextOf (exec (.supplyReset 9 ⟨4, 790⟩) (at_ ready)) (fun q => q.rst.pkgCause == ready.rst.pkgCause && !q.power.supplyHold) = true := by decide +kernel
theorem test_no_supply_releases : (State.reset.at 0).drive .alertN = .released ∧ ({ (at_ ready).pkg with power := { ready.power with ctl := false } } : Pkg).drive .deviceReady = .released := by
  decide +kernel
end Sys2Proof.Tests
end

section
/-! Bit fields under a mask, and a command's run read off the operation that it carries out. -/

namespace Sys2Proof.Machine

/-! ### Bit fields of a masked word -/

theorem fld_and {n : Nat} (v m : BitVec n) (hi lo : Nat) : fld (v &&& m) hi lo = fld v hi lo &&& fld m hi lo := by
  simp only [fld, nbits, BitVec.toNat_and, Nat.shiftRight_and_distrib, Nat.and_mod_two_pow]

/-- A field that the mask covers. -/
theorem fld_and_of_ones {n : Nat} {v m : BitVec n} {hi lo : Nat} (h : fld m hi lo = 2 ^ (hi + 1 - lo) - 1) :
    fld (v &&& m) hi lo = fld v hi lo := by
  rw [fld_and, h, Nat.and_two_pow_sub_one_of_lt_two_pow]
  exact Nat.mod_lt _ (Nat.two_pow_pos _)

/-- A field that the mask leaves out. -/
theorem fld_and_of_zero {n : Nat} {v m : BitVec n} {hi lo : Nat} (h : fld m hi lo = 0) : fld (v &&& m) hi lo = 0 := by
  rw [fld_and, h, Nat.and_zero]

theorem bitAt_and_of_one {n : Nat} {v m : BitVec n} {i : Nat} (h : bitAt m i = true) : bitAt (v &&& m) i = bitAt v i := by
  simp only [bitAt, BitVec.getLsbD_and] at h ⊢
  rw [h, Bool.and_true]

/-! ### A command's run -/

theorem Pkg.with_now_fuses {q : Pkg} {n : Nat} {fu : Fuses} (hn : q.now = n) (hf : q.fuses = fu) : { q with now := n, fuses := fu } = q := by
  subst hn hf
  rfl

/-- A run whose operation leaves package time and the fuses is the operation. -/
theorem State.run_eq {s : State} {t : Nat} {f : Pkg → Pkg} {q : Pkg} (h : f (s.at t) = q) (hn : q.now = (s.at t).now)
    (hf : q.fuses = s.pkg.fuses) : s.run t f = .next { s with pkg := q } := by
  subst h
  exact congrArg (fun q => Host.Outcome.next { s with pkg := q }) (Pkg.with_now_fuses hn hf)

/-- A run answers the operation's package, at the command's time and with the fuses as they were. -/
theorem Answers.run {s : State} {t : Nat} {f : Pkg → Pkg} {P : State → Prop}
    (h : P { s with pkg := { f (s.at t) with now := (s.at t).now, fuses := s.pkg.fuses } }) : Answers (s.run t f) P :=
  ⟨_, rfl, h⟩

theorem Answers.run_of {s : State} {t : Nat} {f : Pkg → Pkg} {q : Pkg} {P : State → Prop} (h : f (s.at t) = q)
    (hP : P { s with pkg := { q with now := (s.at t).now, fuses := s.pkg.fuses } }) : Answers (s.run t f) P :=
  .run (h ▸ hP)

/-! ### Register writes by the phase of BAR0 -/

section
variable {p : Pkg} {off : Nat} {v : Word} {go notReady : Pkg → Pkg}

theorem Pkg.setup_off (h : p.barPhase = .off) : p.setup go notReady = p := by rw [Pkg.setup, h]
theorem Pkg.setup_on (h : p.barPhase = .on) : p.setup go notReady = go p := by rw [Pkg.setup, h]
theorem Pkg.setup_limited (h : p.barPhase = .limited) : p.setup go notReady = notReady p := by rw [Pkg.setup, h]
theorem Pkg.hostWrite_off (h : p.barPhase = .off) : p.hostWrite off v go = p := Pkg.setup_off h
theorem Pkg.hostWrite_on (h : p.barPhase = .on) : p.hostWrite off v go = go p := Pkg.setup_on h

end

end Sys2Proof.Machine
end

section
/-! The contexts' work as a relation of packages, and what a message to the host or a log record changes: registers, the log, what has been sent, and what the host port holds back. -/

namespace Sys2Proof.Machine

/-! ### The contexts' work -/

/-- Every context, task, core, cluster and byte of GDDR is the same. -/
structure SameWork (p q : Pkg) : Prop where
  ctxs     : q.ctxs = p.ctxs
  tasks    : q.tasks = p.tasks
  cores    : q.cores = p.cores
  clusters : q.clusters = p.clusters
  mem      : q.mem = p.mem

theorem SameWork.refl (p : Pkg) : SameWork p p := ⟨rfl, rfl, rfl, rfl, rfl⟩

theorem SameWork.trans {p q r : Pkg} (h : SameWork p q) (k : SameWork q r) : SameWork p r :=
  ⟨k.ctxs.trans h.ctxs, k.tasks.trans h.tasks, k.cores.trans h.cores, k.clusters.trans h.clusters, k.mem.trans h.mem⟩

/-- A command that leaves the contexts' work, and takes no command off the queue. -/
theorem SameWork.kept {s : State} {q : Pkg} {n : Nat} {fu : Fuses} (h : SameWork s.pkg q) :
    WorkKept s { s with pkg := { q with now := n, fuses := fu } } :=
  ⟨h.ctxs, h.tasks, h.cores, h.clusters, h.mem, rfl⟩

theorem SameWork.keptAt {s : State} {t : Nat} {q : Pkg} {n : Nat} {fu : Fuses} (h : SameWork (s.at t) q) :
    WorkKept s { s with pkg := { q with now := n, fuses := fu } } :=
  ⟨h.ctxs, h.tasks, h.cores, h.clusters, h.mem, rfl⟩

/-! ### Reports to the host -/

/-- Whether something sent is no answer to a request of the host. -/
def Output.unasked (o : Output) : Prop := ∀ st d bad, o ≠ .completion st d bad

/-- `q` is `p` after log records and messages that no request of the host asked for: at most the registers, the log, what has been sent, and what the host port holds back or has pending, are changed. -/
def Reports (p q : Pkg) : Prop :=
  ∃ regs pre log held pba, (∀ x ∈ pre, Output.unasked x) ∧
    q = { p with regs := regs, out := p.out ++ pre, log := log, host := { p.host with held := held, pba := pba } }

variable {p q r : Pkg}

theorem Reports.refl (p : Pkg) : Reports p p :=
  ⟨p.regs, [], p.log, p.host.held, p.host.pba, by simp, by simp⟩

theorem Reports.trans (h : Reports p q) (k : Reports q r) : Reports p r := by
  obtain ⟨_, pre, _, _, _, hpre, rfl⟩ := h
  obtain ⟨regs, pre', log, held, pba, hpre', rfl⟩ := k
  exact ⟨regs, pre ++ pre', log, held, pba, List.forall_mem_append.2 ⟨hpre, hpre'⟩, by simp⟩

theorem Reports.foldl {α : Type} {f : Pkg → α → Pkg} (h : ∀ s x, Reports s (f s x)) (l : List α) (p : Pkg) : Reports p (l.foldl f p) := by
  induction l generalizing p with
  | nil => exact .refl p
  | cons x l ih => exact (h p x).trans (ih _)

theorem Reports.setReg (p : Pkg) (o : Nat) (v : Word) : Reports p (p.setReg o v) :=
  ⟨_, [], p.log, p.host.held, p.host.pba, by simp, by simp only [List.append_nil]; rfl⟩

theorem Reports.bump (p : Pkg) (o : Nat) : Reports p (p.bump o) := .setReg p _ _

theorem Reports.setLog (p : Pkg) (l : LogSt) : Reports p { p with log := l } :=
  ⟨p.regs, [], l, p.host.held, p.host.pba, by simp, by simp⟩

theorem Reports.holds (p : Pkg) (held : List (Bool × Nat × Bytes)) (pba : NatSet) :
    Reports p { p with host := { p.host with held := held, pba := pba } } :=
  ⟨p.regs, [], p.log, held, pba, by simp, by simp⟩

theorem Reports.emit (p : Pkg) {o : Output} (h : o.unasked) : Reports p (p.emit o) :=
  ⟨p.regs, [o], p.log, p.host.held, p.host.pba, by simpa using h, rfl⟩

theorem Output.unasked_hostWrite (a : Nat) (d : Bytes) : (Output.hostWrite a d).unasked := by simp [Output.unasked]
theorem Output.unasked_msix (v : Nat) : (Output.msix v).unasked := by simp [Output.unasked]

theorem Reports.hostW (p : Pkg) (a : Nat) (d : Bytes) : Reports p (p.hostW a d) := by
  unfold Pkg.hostW
  split
  · exact .holds p _ _
  · exact .emit p (Output.unasked_hostWrite a d)

theorem Reports.msixNow (p : Pkg) (v : Nat) : Reports p (p.msixNow v) := by
  unfold Pkg.msixNow
  split
  · exact .holds p _ _
  · split
    · exact .emit p (Output.unasked_msix v)
    · exact .refl p

theorem Reports.raise (p : Pkg) (v : Nat) : Reports p (p.raise v) := by
  unfold Pkg.raise
  split
  · exact .holds p _ _
  · exact .msixNow p v

theorem Reports.logCopy (p : Pkg) (e : Event) : Reports p (p.logCopy e) := by
  unfold Pkg.logCopy
  dsimp only
  split
  · split
    · exact (Reports.bump p _).trans (.setLog (p.bump _) _)
    · split
      · exact ((Reports.setLog p _).trans (.hostW _ _ _)).trans (.raise _ _)
      · exact (Reports.setLog p _).trans (.hostW _ _ _)
  · exact .refl p

theorem Reports.logWith (p : Pkg) (event unit : Nat) (ctx : Option Nat) (code : Nat) (notice : Bool) (detail : Bytes) :
    Reports p (p.logWith event unit ctx code notice detail) := by
  unfold Pkg.logWith
  dsimp only
  refine Reports.trans ?_ (.logCopy _ _)
  split
  · exact (Reports.bump p _).trans (.setLog _ _)
  · exact .setLog p _

theorem Reports.logEv (p : Pkg) (event unit : Nat) (ctx : Option Nat) (detail : Bytes) : Reports p (p.logEv event unit ctx detail) :=
  .logWith p event unit ctx 0 false detail

theorem Reports.discardBytes (p : Pkg) (o be : Nat) (v : Word) : Reports p (p.discardBytes o be v) :=
  (Reports.bump p _).trans (.logEv _ _ _ _ _)

/-- A refused axis-map command is its error code and a record. -/
theorem Reports.axRefuse (p : Pkg) (code : Nat) : Reports (p.setAxErr code) (p.axRefuse code) := .logWith _ _ _ _ _ _ _

theorem Reports.sendPending (p : Pkg) : Reports p p.sendPending := by
  unfold Pkg.sendPending
  split
  · exact .refl p
  · exact (Reports.holds p p.host.held _).trans (.foldl (fun s v => .emit s (Output.unasked_msix v)) _ _)

/-! What a report leaves. -/

theorem Reports.with_power (h : Reports p q) (w : PowerSt) : Reports { p with power := w } { q with power := w } := by
  obtain ⟨regs, pre, log, held, pba, hpre, rfl⟩ := h
  exact ⟨regs, pre, log, held, pba, hpre, rfl⟩

theorem Reports.work (h : Reports p q) : SameWork p q := by
  obtain ⟨_, _, _, _, _, -, rfl⟩ := h
  exact ⟨rfl, rfl, rfl, rfl, rfl⟩

/-- The work that a change of the host port and reports leave. -/
theorem Reports.work_of_host {x : HostSt} (h : Reports { p with host := x } q) : SameWork p q := by
  obtain ⟨_, _, _, _, _, -, rfl⟩ := h
  exact ⟨rfl, rfl, rfl, rfl, rfl⟩

theorem Reports.host (h : Reports p q) : q.host = { p.host with held := q.host.held, pba := q.host.pba } := by
  obtain ⟨_, _, _, _, _, -, rfl⟩ := h
  rfl

theorem Reports.fab (h : Reports p q) : q.fab = p.fab := by
  obtain ⟨_, _, _, _, _, -, rfl⟩ := h
  rfl

theorem Reports.easel (h : Reports p q) : q.easel = p.easel := by
  obtain ⟨_, _, _, _, _, -, rfl⟩ := h
  rfl

theorem Reports.power (h : Reports p q) : q.power = p.power := by
  obtain ⟨_, _, _, _, _, -, rfl⟩ := h
  rfl

theorem Reports.now (h : Reports p q) : q.now = p.now := by
  obtain ⟨_, _, _, _, _, -, rfl⟩ := h
  rfl

theorem Reports.fuses (h : Reports p q) : q.fuses = p.fuses := by
  obtain ⟨_, _, _, _, _, -, rfl⟩ := h
  rfl

theorem Reports.out (h : Reports p q) : ∃ pre, q.out = p.out ++ pre ∧ ∀ x ∈ pre, Output.unasked x := by
  obtain ⟨_, pre, _, _, _, hpre, rfl⟩ := h
  exact ⟨pre, rfl, hpre⟩

/-! ### The newest record -/

theorem logged_logWith (p : Pkg) (event unit : Nat) (ctx : Option Nat) (code : Nat) (notice : Bool) (detail : Bytes) :
    Logged (p.logWith event unit ctx code notice detail) event unit ctx :=
  ⟨_, _, p.logWith_recs event unit ctx code notice detail, rfl, rfl, rfl⟩

theorem logged_logEv (p : Pkg) (event unit : Nat) (ctx : Option Nat) (detail : Bytes) :
    Logged (p.logEv event unit ctx detail) event unit ctx := logged_logWith p event unit ctx 0 false detail

end Sys2Proof.Machine
end

section
open Sys2Proof Sys2Proof.Machine

/-- Settles O58: the two clauses are the two branches of `step`. -/
theorem stepRunsFront : Obligations.StepRunsFront :=
  ⟨fun _ _ _ => rfl, fun _ => rfl⟩
end

section
/-! The stroke clock's registers and SPARE_POOL_CFG as a host write finds them (R15, R43, R52, R53, R68). -/

namespace Sys2Proof.Machine

theorem strokeCfgIs_masked (v : Word) : strokeCfgIs (v &&& 0x00FFFFFFFF1F0FFF) v :=
  ⟨fld_and_of_ones (by decide), fld_and_of_zero (by decide), fld_and_of_ones (by decide), fld_and_of_zero (by decide),
    fld_and_of_ones (by decide), fld_and_of_zero (by decide)⟩

theorem Pkg.strokeCfgWrite_of_ok (p : Pkg) {v : Word} (h : strokeCfgOk v) :
    p.strokeCfgWrite v = { p with stroke := { p.stroke with cfgNext := some (v &&& 0x00FFFFFFFF1F0FFF) } } := by
  unfold strokeCfgOk at h
  rw [Pkg.strokeCfgWrite, if_neg (by omega)]

theorem Pkg.strokeCfgWrite_of_not_ok (p : Pkg) {v : Word} (h : ¬ strokeCfgOk v) : p.strokeCfgWrite v = p.discard Reg.strokeCfg v := by
  unfold strokeCfgOk at h
  rw [Pkg.strokeCfgWrite, if_pos (by omega)]

/-- What SPARE_POOL_CFG asks of a value (R68). -/
def Pkg.sparePoolOk (p : Pkg) (v : Word) : Prop :=
  (∀ x ∈ p.ctxs.vals, x.phase ≠ .open) ∧ 4096 ≤ fld v 51 32 ∧ fld v 51 32 ≤ 131072 ∧
    fld v 31 16 * 0x200000 + fld v 51 32 * 0x40000 ≤ p.mem.usable

theorem Pkg.sparePool_discards_iff (p : Pkg) (v : Word) :
    ((p.ctxs.vals.any fun x => x.phase == .open) || decide (fld v 51 32 < 4096 ∨ fld v 51 32 > 131072 ∨
      fld v 31 16 * 0x200000 + fld v 51 32 * 0x40000 > p.mem.usable)) = true ↔ ¬ p.sparePoolOk v := by
  simp only [Pkg.sparePoolOk, Bool.or_eq_true, List.any_eq_true, beq_iff_eq, decide_eq_true_eq, not_and_or, not_forall, not_not,
    not_le, exists_prop]

theorem Pkg.sparePoolWrite_of_ok {p : Pkg} {v : Word} (h : p.sparePoolOk v) : p.sparePoolWrite v =
    { p with stroke := { p.stroke with
      spareCfg := v &&& 0x000FFFFFFFFF0001, used := [], joined := [], recycle := [], freeLow := fld v 51 32 } } :=
  if_neg fun hd => (p.sparePool_discards_iff v).1 hd h

theorem Pkg.sparePoolWrite_of_not_ok {p : Pkg} {v : Word} (h : ¬ p.sparePoolOk v) : p.sparePoolWrite v = p.discard Reg.sparePoolCfg v :=
  if_pos ((p.sparePool_discards_iff v).2 h)

section
variable (s : State) (t : Nat) (v : Word)

theorem exec_strokeCfgWrite :
    exec (.strokeCfgWrite t v) s = s.run t fun p => p.hostWrite Reg.strokeCfg v fun p => p.strokeCfgWrite v := rfl
theorem exec_strokeNumberWrite :
    exec (.strokeNumberWrite t v) s = s.run t fun p => p.hostWrite Reg.strokeNumber v fun p => p.strokeNumberWrite v := rfl
theorem exec_sparePoolCfgWrite :
    exec (.sparePoolCfgWrite t v) s = s.run t fun p => p.hostWrite Reg.sparePoolCfg v fun p => p.sparePoolWrite v := rfl

end

end Sys2Proof.Machine

open Sys2Proof Sys2Proof.Machine

/-- Settles O18: where BAR0 is served each write is its register's own operation, whose two outcomes are the statement's. -/
theorem strokeRegisterWrites : Obligations.StrokeRegisterWrites := by
  intro s t v p k n poolOk
  rw [exec_strokeCfgWrite, exec_strokeNumberWrite, exec_sparePoolCfgWrite]
  refine ⟨fun hb i hi => ?_, fun hb hv => ⟨_, strokeCfgIs_masked v, ?_⟩, fun hb hv => ?_, fun hb hu hs => ?_, fun hb hn => ?_,
    fun hb hp => ?_, fun hb hp => ?_⟩
  · simp only [List.mem_cons, List.not_mem_nil, or_false] at hi
    rcases hi with rfl | rfl | rfl
    · exact (exec_strokeCfgWrite s t v).trans (State.run_eq (Pkg.hostWrite_off hb) rfl rfl)
    · exact (exec_strokeNumberWrite s t v).trans (State.run_eq (Pkg.hostWrite_off hb) rfl rfl)
    · exact (exec_sparePoolCfgWrite s t v).trans (State.run_eq (Pkg.hostWrite_off hb) rfl rfl)
  · exact State.run_eq ((Pkg.hostWrite_on hb).trans (p.strokeCfgWrite_of_ok hv)) rfl rfl
  · exact State.run_eq ((Pkg.hostWrite_on hb).trans (p.strokeCfgWrite_of_not_ok hv)) (p.discard_now _ _) (p.discard_fuses _ _)
  · exact ⟨_, State.run_eq ((Pkg.hostWrite_on hb).trans (if_pos ⟨hu, hs⟩)) rfl rfl, rfl⟩
  · exact State.run_eq ((Pkg.hostWrite_on hb).trans (if_neg hn)) rfl rfl
  · refine ⟨_, State.run_eq ((Pkg.hostWrite_on hb).trans (Pkg.sparePoolWrite_of_ok hp)) rfl rfl, ?_⟩
    exact ⟨fld_and_of_ones (by decide), fld_and_of_ones (by decide), bitAt_and_of_one (by decide), fld_and_of_zero (by decide),
      fld_and_of_zero (by decide), rfl, rfl, rfl, rfl⟩
  · exact State.run_eq ((Pkg.hostWrite_on hb).trans (Pkg.sparePoolWrite_of_not_ok hp)) (p.discard_now _ _) (p.discard_fuses _ _)
end

section
/-! Axis maps loaded, cleared and armed (R374 to R377). -/

namespace Sys2Proof.Machine

/-! ### Tables of maps -/

theorem Tbl.find_mapV {α : Type} (t : Tbl α) (f : Nat → α → α) (i : Nat) : (t.mapV f).find i = (t.find i).map (f i) := by
  induction t with
  | nil => rfl
  | cons x t ih =>
    obtain ⟨k, v⟩ := x
    show Tbl.find ((k, f k v) :: Tbl.mapV t f) i = _
    simp only [Tbl.find, ih]
    split
    · subst_vars; rfl
    · rfl

theorem Pkg.activeMap_isNone_iff (p : Pkg) (herd : Nat) :
    (p.activeMap herd).isNone = true ↔ ∀ y ∈ p.fab.maps.vals, ¬ (y.active = true ∧ y.herd = herd) := by
  simp only [Pkg.activeMap, Option.isNone_map, Option.isNone_iff_eq_none, List.find?_eq_none, Tbl.vals, List.forall_mem_map,
    Bool.and_eq_true, beq_iff_eq]

/-- The newly active map of a herd, and the maps of every other herd. -/
theorem Pkg.activate_maps_slot (p : Pkg) {herd i : Nat} {m : AxMap} (hm : p.fab.maps.find i = some m) (hh : m.herd = herd) :
    (p.activate herd i).fab.maps.find i = some { m with active := true } := by
  simp [Pkg.activate, Tbl.find_mapV, hm, hh]

theorem Pkg.activate_maps_of_ne_herd (p : Pkg) {herd i a : Nat} {y : AxMap} (hy : p.fab.maps.find a = some y) (hh : y.herd ≠ herd) :
    (p.activate herd i).fab.maps.find a = some y := by
  simp [Pkg.activate, Tbl.find_mapV, hy, hh]

/-! ### LOAD and CLEAR -/

/-- Whether an image may be loaded: it is legal for the package and the grade, and no loaded map of its herd contradicts it (R374, R375). -/
def Pkg.mapLegal (p : Pkg) (m : AxMap) : Prop :=
  m.ok p.fab.selfIdx p.fuses.herdLimit = true ∧ ∀ x ∈ p.fab.maps.vals, x.herd = m.herd → x.agrees m = true

section
variable {p : Pkg} {image : Bytes} {m : AxMap}

theorem Pkg.loadRefused_iff : ((p.axMap p.axSel).isSome || !m.ok p.fab.selfIdx p.fuses.herdLimit ||
    p.fab.maps.vals.any fun x => x.herd == m.herd && !x.agrees m) = true ↔ ¬ (p.fab.maps.find p.axSel = none ∧ p.mapLegal m) := by
  simp only [Pkg.axMap, Pkg.mapLegal, Bool.or_eq_true, Option.isSome_iff_ne_none, Bool.not_eq_true', List.any_eq_true, Bool.and_eq_true,
    beq_iff_eq, not_and_or, not_forall, exists_prop, ne_eq, Bool.not_eq_true, or_assoc]

theorem Pkg.axLoad_of_legal (hb : p.barPhase = .on) (he : p.fab.maps.find p.axSel = none) (hl : p.mapLegal { image := image }) :
    p.axLoad image = { p with
      fab := { p.fab with maps := p.fab.maps.set p.axSel { image := image }, axErr := p.fab.axErr.set p.axSel 0 } } := by
  rw [Pkg.axLoad, Pkg.setup_on hb]
  exact if_neg fun h => Pkg.loadRefused_iff.1 h ⟨he, hl⟩

theorem Pkg.axLoad_of_not_legal (hb : p.barPhase = .on) (h : ¬ (p.fab.maps.find p.axSel = none ∧ p.mapLegal { image := image })) :
    p.axLoad image = p.axRefuse Code.invalidDescriptor := by
  rw [Pkg.axLoad, Pkg.setup_on hb]
  exact if_pos (Pkg.loadRefused_iff.2 h)

theorem Pkg.axLoad_limited (hb : p.barPhase = .limited) : p.axLoad image = p.axRefuse Code.notReady := Pkg.setup_limited hb

theorem Pkg.axClear_limited (hb : p.barPhase = .limited) : p.axClear = p.axRefuse Code.notReady := Pkg.setup_limited hb

theorem Pkg.axClear_of_empty (hb : p.barPhase = .on) (he : p.fab.maps.find p.axSel = none) : p.axClear = p.setAxErr 0 := by
  rw [Pkg.axClear, Pkg.setup_on hb, Pkg.axMap, he]

theorem Pkg.axClear_of_busy (hb : p.barPhase = .on) (hm : p.fab.maps.find p.axSel = some m) (hu : p.mapInUse p.axSel m = true) :
    p.axClear = p.axRefuse Code.invalidDescriptor := by
  rw [Pkg.axClear, Pkg.setup_on hb, Pkg.axMap, hm]
  exact if_pos hu

theorem Pkg.axClear_of_idle (hb : p.barPhase = .on) (hm : p.fab.maps.find p.axSel = some m) (hu : ¬ p.mapInUse p.axSel m = true) :
    p.axClear = ({ p with fab := { p.fab with
      maps := p.fab.maps.erase p.axSel, axSwitch := p.fab.axSwitch.filter fun a => a.slot ≠ p.axSel } } : Pkg).setAxErr 0 := by
  rw [Pkg.axClear, Pkg.setup_on hb, Pkg.axMap, hm]
  exact if_neg hu

theorem Pkg.mapInUse_iff {i : Nat} : p.mapInUse i m = true ↔
    (m.active = true ∧ ∃ c ∈ p.ctxs.vals, c.phase = .open ∧ c.herdEn = true ∧ c.herdId = m.herd) ∨ ∃ k ∈ p.tasks.vals, k.map = some i := by
  simp only [Pkg.mapInUse, Bool.or_eq_true, Bool.and_eq_true, List.any_eq_true, beq_iff_eq, and_assoc]

end

/-- What a refused axis-map command comes to: the error of the selected slot, and a record. -/
theorem Answers.axRefuse {s : State} {t code : Nat} {f : Pkg → Pkg} (h : f (s.at t) = (s.at t).axRefuse code) :
    Answers (s.run t f) fun u => u.pkg.fab = { s.pkg.fab with axErr := s.pkg.fab.axErr.set s.pkg.axSel code } ∧
      Logged u.pkg Ev.axmapCmdRefused Unit.controlDie none ∧ WorkKept s u := by
  apply Answers.run
  rw [h]
  have hr := Reports.axRefuse (s.at t) code
  exact ⟨hr.fab, logged_logWith _ _ _ _ _ _ _, SameWork.kept (SameWork.trans (q := (s.at t).setAxErr code) ⟨rfl, rfl, rfl, rfl, rfl⟩ hr.work)⟩

/-! ### SWITCH -/

section
variable {p : Pkg} {v : Word} {m : AxMap}

/-- AXMAP_SWITCH as it reads back. -/
def Pkg.keepSwitch (p : Pkg) (v : Word) : Pkg := p.setReg Reg.axSwitch (v &&& 0x0000013F0000FFFF)

theorem Pkg.axSwitchWrite_of_unarmed (hb : p.barPhase = .on) (ha : bitAt v 40 = false) : p.axSwitchWrite v = p.keepSwitch v := by
  rw [Pkg.axSwitchWrite, Pkg.hostWrite_on hb]
  exact if_pos (by rw [ha]; rfl)

theorem Pkg.axSwitchWrite_of_refused (hb : p.barPhase = .on) (ha : bitAt v 40 = true)
    (h : (p.fab.maps.find (fld v 37 32)).map (·.herd) ≠ some (fld v 15 0) ∨ fld (p.reg Reg.axSwitchStroke) 47 0 < p.stroke.number + 2) :
    p.axSwitchWrite v = p.discard Reg.axSwitch v := by
  rw [Pkg.axSwitchWrite, Pkg.hostWrite_on hb]
  simp only [ha, Bool.not_true, Bool.false_eq_true, if_false, Pkg.axMap]
  cases hm : p.fab.maps.find (fld v 37 32) with
  | none => rfl
  | some m => exact if_pos (by simpa [hm] using h)

theorem Pkg.axSwitchWrite_of_armed (hb : p.barPhase = .on) (ha : bitAt v 40 = true) (hm : p.fab.maps.find (fld v 37 32) = some m)
    (hh : m.herd = fld v 15 0) (hk : p.stroke.number + 2 ≤ fld (p.reg Reg.axSwitchStroke) 47 0) :
    p.axSwitchWrite v =
      (let others := p.fab.axSwitch.filter fun a => a.herd ≠ fld v 15 0
       if (p.activeMap (fld v 15 0)).isNone then
         (({ p with fab := { p.fab with axSwitch := others } } : Pkg).activate (fld v 15 0) (fld v 37 32)).keepSwitch v
       else ({ p with fab := { p.fab with
         axSwitch := others ++ [⟨fld v 15 0, fld v 37 32, fld (p.reg Reg.axSwitchStroke) 47 0⟩] } } : Pkg).keepSwitch v) := by
  rw [Pkg.axSwitchWrite, Pkg.hostWrite_on hb]
  simp only [ha, Bool.not_true, Bool.false_eq_true, if_false, Pkg.axMap, hm]
  exact if_neg (by omega)

end

theorem exec_axmapLoad (s : State) (t : Nat) (image : Bytes) : exec (.axmapLoad t image) s = s.run t fun p => p.axLoad image := rfl
theorem exec_axmapClear (s : State) (t : Nat) : exec (.axmapClear t) s = s.run t Pkg.axClear := rfl
theorem exec_axmapSwitchWrite (s : State) (t : Nat) (v : Word) : exec (.axmapSwitchWrite t v) s = s.run t fun p => p.axSwitchWrite v := rfl

end Sys2Proof.Machine

open Sys2Proof Sys2Proof.Machine

/-- Settles O45: LOAD and CLEAR by the state of the selected slot, SWITCH by whether a map of the herd is active. -/
theorem axisMaps : Obligations.AxisMaps := by
  intro s t image v p fab j m empty legal busy refused k slot herd set
  simp only [refused, set, exec_axmapLoad, exec_axmapClear, exec_axmapSwitchWrite]
  refine ⟨fun hb => ⟨.axRefuse (Pkg.axLoad_limited hb), .axRefuse (Pkg.axClear_limited hb)⟩, fun hb =>
    ⟨fun he hl => ?_, fun h => ?_, fun he => ?_, fun x hx hu => ?_, fun x hx hu => ?_, fun ha => ?_, fun ha h => ?_,
      fun x ha hx hh hk => ⟨fun hn => ?_, fun ⟨y, hy, hact⟩ => ?_⟩⟩⟩
  · exact State.run_eq (Pkg.axLoad_of_legal hb he hl) rfl rfl
  · exact .axRefuse (Pkg.axLoad_of_not_legal hb h)
  · exact State.run_eq (Pkg.axClear_of_empty hb he) rfl rfl
  · exact .axRefuse (Pkg.axClear_of_busy hb hx (Pkg.mapInUse_iff.2 hu))
  · apply Answers.run
    rw [Pkg.axClear_of_idle hb hx (mt Pkg.mapInUse_iff.1 hu)]
    exact ⟨rfl, SameWork.kept ⟨rfl, rfl, rfl, rfl, rfl⟩⟩
  · apply Answers.run
    rw [Pkg.axSwitchWrite_of_unarmed hb ha]
    exact ⟨rfl, (congrArg (fld · 15 0) (Pkg.reg_setReg_same _ _ _)).trans (fld_and_of_ones (by decide)), SameWork.kept ⟨rfl, rfl, rfl, rfl, rfl⟩⟩
  · exact State.run_eq (Pkg.axSwitchWrite_of_refused hb ha h) (p.discard_now _ _) (p.discard_fuses _ _)
  · apply Answers.run
    rw [Pkg.axSwitchWrite_of_armed hb ha hx hh hk]
    dsimp only
    rw [if_pos ((p.activeMap_isNone_iff herd).2 hn)]
    refine ⟨Pkg.activate_maps_slot _ hx hh, fun a y hy _ hne => Pkg.activate_maps_of_ne_herd _ hy hne, fun a haw => ?_,
      SameWork.kept ⟨rfl, rfl, rfl, rfl, rfl⟩⟩
    exact of_decide_eq_true (List.mem_filter.1 haw).2
  · apply Answers.run
    rw [Pkg.axSwitchWrite_of_armed hb ha hx hh hk]
    dsimp only
    rw [if_neg fun hn => (p.activeMap_isNone_iff herd).1 hn y hy hact]
    exact ⟨rfl, rfl, SameWork.kept ⟨rfl, rfl, rfl, rfl, rfl⟩⟩
end

section
/-! The package reset: what it clears, what it keeps, and how bring-up begins after it (R471, R494, R538, R553 to R556). -/

namespace Sys2Proof.Machine

/-! ### Registers and records after a record -/

theorem Pkg.regOr_setReg_ne (p : Pkg) {o r : Nat} (v d : Word) (h : r ≠ o) : (p.setReg o v).regOr r d = p.regOr r d :=
  Tbl.get_set_ne _ _ _ h

theorem Pkg.regOr_logCopy (p : Pkg) (e : Event) {r : Nat} (d : Word) (h : r ≠ Reg.logHostDrops) :
    (p.logCopy e).regOr r d = p.regOr r d := by
  unfold Pkg.logCopy
  dsimp only
  split
  · split
    · exact p.regOr_setReg_ne _ _ h
    · split <;> simp [Pkg.regOr]
  · rfl

/-- A record leaves every register but LOG_OVERWRITTEN and LOG_HOST_DROPS, whatever its reset value. -/
theorem Pkg.regOr_logWith (p : Pkg) (event unit : Nat) (ctx : Option Nat) (code : Nat) (notice : Bool) (detail : Bytes) {r : Nat} (d : Word)
    (h : r ≠ Reg.logHostDrops) (h' : r ≠ Reg.logOverwritten) : (p.logWith event unit ctx code notice detail).regOr r d = p.regOr r d := by
  unfold Pkg.logWith
  dsimp only
  rw [Pkg.regOr_logCopy _ _ _ h]
  split
  · exact p.regOr_setReg_ne _ _ h'
  · rfl

/-- A record stands among the newest: one place further back for each record that is written after it. -/
theorem mem_newest_logWith {p : Pkg} {e : Event} {k : Nat} (h : e ∈ p.log.recs.take k) (hk : k < 16384) (event unit : Nat)
    (ctx : Option Nat) (code : Nat) (notice : Bool) (detail : Bytes) :
    e ∈ (p.logWith event unit ctx code notice detail).log.recs.take (k + 1) := by
  rw [Pkg.logWith_recs, List.take_take, min_eq_left (by omega), List.take_succ_cons]
  exact List.mem_cons_of_mem _ h

theorem record_mem_newest (p : Pkg) (event unit : Nat) (ctx : Option Nat) (code : Nat) (notice : Bool) (detail : Bytes) :
    p.record event unit ctx code notice detail ∈ (p.logWith event unit ctx code notice detail).log.recs.take 1 := by
  rw [Pkg.logWith_recs, List.take_take, min_eq_left (by omega), List.take_succ_cons]
  exact List.mem_cons_self

theorem Tbl.get_filterV {α : Type} (d : α) (t : Tbl α) {f : Nat → α → Bool} {k : Nat} (h : ∀ x, f k x = true) :
    (t.filterV f).get d k = t.get d k := by
  have hf : (t.filterV f).find k = t.find k := by
    induction t with
    | nil => rfl
    | cons x t ih =>
      obtain ⟨i, v⟩ := x
      simp only [Tbl.filterV, List.filter_cons, Tbl.find] at ih ⊢
      by_cases hi : i = k
      · subst hi; simp [h, Tbl.find]
      · rw [if_neg hi, ← ih]
        split
        · simp [Tbl.find, hi]
        · rfl
  simp only [Tbl.get, hf]

/-! ### Bring-up after a reset -/

theorem Output.unasked_pin (n : Nat) (b : Bool) : (Output.pin n b).unasked := by simp [Output.unasked]

theorem Reports.send (p : Pkg) {os : List Output} (h : ∀ x ∈ os, Output.unasked x) : Reports p { p with out := p.out ++ os } :=
  ⟨p.regs, os, p.log, p.host.held, p.host.pba, h, rfl⟩

theorem Reports.sideVendor (p : Pkg) (owner : Bool) (body : Bytes) : Reports p (p.sideVendor owner body) :=
  .send p (by simp [sideOut, Output.unasked])

theorem Reports.sideNotice (p : Pkg) (b : Bytes) : Reports p (p.sideNotice b) := by
  unfold Pkg.sideNotice
  dsimp only
  split
  · exact ((Reports.emit p (Output.unasked_pin _ _)).trans (.sideVendor _ _ _)).trans (.emit _ (Output.unasked_pin _ _))
  · exact .sideVendor p _ _

@[simp] theorem Pkg.sideNotice_regs (p : Pkg) (b : Bytes) : (p.sideNotice b).regs = p.regs := by
  unfold Pkg.sideNotice; dsimp only; split <;> rfl

@[simp] theorem Pkg.sideNotice_log (p : Pkg) (b : Bytes) : (p.sideNotice b).log = p.log := by
  unfold Pkg.sideNotice; dsimp only; split <;> rfl

section
variable (p : Pkg) (n code unit : Nat)

/-- The power state after a failed step; `since`: whether a PACKAGE_RESET notice still waits. -/
def PowerSt.failed (w : PowerSt) (n code : Nat) (since : Bool) : PowerSt :=
  { w with step := none, waiting := false, failStep := n, failCode := code, stopped := true, resetSince := since }

theorem Pkg.stepFail_power : ∃ since, (p.stepFail n code unit).power = p.power.failed n code since := by
  unfold Pkg.stepFail
  dsimp only
  split
  · exact ⟨false, (Reports.sideNotice _ _).power.trans (congrArg (fun w : PowerSt => { w with resetSince := false }) (Pkg.logWith_power _ _ _ _ _ _ _))⟩
  · exact ⟨p.power.resetSince, Pkg.logWith_power _ _ _ _ _ _ _⟩

/-- A failed step changes the power state, and what a record and its notice change. -/
theorem Reports.stepFail : Reports { p with power := (p.stepFail n code unit).power } (p.stepFail n code unit) := by
  unfold Pkg.stepFail
  dsimp only
  split
  · rw [(Reports.sideNotice _ _).power]
    exact (Reports.with_power (.logWith { p with power := p.power.failed n code p.power.resetSince } _ _ _ _ _ _) _).trans (.sideNotice _ _)
  · rw [Pkg.logWith_power]
    exact .logWith _ _ _ _ _ _ _

theorem Pkg.stepFail_reg {r : Nat} (h : r ≠ Reg.logHostDrops) (h' : r ≠ Reg.logOverwritten) : (p.stepFail n code unit).reg r = p.reg r := by
  unfold Pkg.stepFail
  dsimp only
  split
  · exact (congrArg (fun t => Tbl.get 0 t r) (Pkg.sideNotice_regs _ _)).trans (Pkg.reg_logWith _ _ _ _ _ _ _ h h')
  · exact Pkg.reg_logWith _ _ _ _ _ _ _ h h'

/-- A failed step writes one record. -/
theorem Pkg.stepFail_log : ∃ s : Pkg, s.log = p.log ∧ (p.stepFail n code unit).log.recs =
    (s.logWith Ev.bringupFailed unit none code false (leBytes 1 n ++ leBytes 1 code ++ leBytes 2 unit)).log.recs := by
  refine ⟨{ p with power := p.power.failed n code p.power.resetSince }, rfl, ?_⟩
  unfold Pkg.stepFail
  dsimp only
  split
  · rw [Pkg.sideNotice_log]; rfl
  · rfl

end

section
variable (p : Pkg)

/-- Whether step 1 fails for THERM_TRIP_N (R538, R555). -/
def Pkg.trips : Prop := p.power.pwrGood = true ∧ p.power.trip = true

/-- Whether nothing holds bring-up (R536, R557, R622). -/
def Pkg.freeToBegin : Prop := p.power.pwrGood = true ∧ p.power.perst = false ∧ p.power.supplyHold = false ∧ p.power.halted = false

variable {p}

theorem Pkg.beginBringup_of_trips (h : p.trips) : p.beginBringup = p.stepFail 1 (stepCode 1) Unit.package :=
  if_pos (by rw [h.1, h.2]; rfl)

theorem Pkg.beginBringup_of_free (ht : ¬ p.trips) (h : p.freeToBegin) : p.beginBringup = { p with power := { p.power with
    step := some 2, waiting := false, from_ := p.now, stopped := false, shadow := none
    bootSrc := p.power.strapPins % 4, pkgPos := p.power.strapPins / 16 % 8 } } := by
  obtain ⟨hg, hp, hs, hh⟩ := h
  rw [Pkg.beginBringup, if_neg (by simpa [Pkg.trips] using ht), if_pos (by simp [hg, hp, hs, hh])]

theorem Pkg.beginBringup_of_held (ht : ¬ p.trips) (h : ¬ p.freeToBegin) :
    p.beginBringup = { p with power := { p.power with waiting := true, stopped := false } } := by
  rw [Pkg.beginBringup, if_neg (by simpa [Pkg.trips] using ht), if_neg (by simpa [Pkg.freeToBegin, and_assoc] using h)]

/-- Where bring-up begins, waits or fails, only the power state changes, and what a record and its notice change. -/
theorem Reports.beginBringup (p : Pkg) : Reports { p with power := p.beginBringup.power } p.beginBringup := by
  by_cases ht : p.trips
  · rw [Pkg.beginBringup_of_trips ht]
    exact .stepFail p _ _ _
  · by_cases hf : p.freeToBegin
    · rw [Pkg.beginBringup_of_free ht hf]
      exact .refl _
    · rw [Pkg.beginBringup_of_held ht hf]
      exact .refl _

theorem Pkg.beginBringup_kept (p : Pkg) : p.beginBringup.power.ready = p.power.ready ∧ p.beginBringup.power.last = p.power.last ∧
    p.beginBringup.power.perst = p.power.perst := by
  by_cases ht : p.trips
  · obtain ⟨since, h⟩ := p.stepFail_power 1 (stepCode 1) Unit.package
    rw [Pkg.beginBringup_of_trips ht, h]
    exact ⟨rfl, rfl, rfl⟩
  · by_cases hf : p.freeToBegin
    · rw [Pkg.beginBringup_of_free ht hf]
      exact ⟨rfl, rfl, rfl⟩
    · rw [Pkg.beginBringup_of_held ht hf]
      exact ⟨rfl, rfl, rfl⟩

theorem Pkg.beginBringup_reg (p : Pkg) {r : Nat} (h : r ≠ Reg.logHostDrops) (h' : r ≠ Reg.logOverwritten) :
    p.beginBringup.reg r = p.reg r := by
  by_cases ht : p.trips
  · rw [Pkg.beginBringup_of_trips ht, Pkg.stepFail_reg _ _ _ _ h h']
  · by_cases hf : p.freeToBegin
    · rw [Pkg.beginBringup_of_free ht hf]; rfl
    · rw [Pkg.beginBringup_of_held ht hf]; rfl

/-- A record among the newest is still one after bring-up has begun or failed. -/
theorem Pkg.beginBringup_newest {e : Event} {k : Nat} (h : e ∈ p.log.recs.take k) (hk : k < 16384) : e ∈ p.beginBringup.log.recs := by
  by_cases ht : p.trips
  · obtain ⟨s, hs, hr⟩ := p.stepFail_log 1 (stepCode 1) Unit.package
    rw [Pkg.beginBringup_of_trips ht, hr]
    exact List.mem_of_mem_take (mem_newest_logWith (hs ▸ h) hk _ _ _ _ _ _)
  · by_cases hf : p.freeToBegin
    · rw [Pkg.beginBringup_of_free ht hf]; exact List.mem_of_mem_take h
    · rw [Pkg.beginBringup_of_held ht hf]; exact List.mem_of_mem_take h

end

/-! ### The reset -/

section
variable (p : Pkg) (cause ctx : Nat)

/-- The package with its reset in the escalation state. -/
def Pkg.resetNoted : Pkg := { p with rst := { p.rst with pkgHistory := p.now :: p.rst.pkgHistory, pkgCause := cause } }

/-- Whether the resets of the trailing window have reached the limit (R486). -/
def Pkg.resetsFull : Bool := decide (fld p.resetCfg 27 24 ≤ min 255 (p.resetNoted 0).pkgResetCount)

/-- The package with its reset counted and logged. -/
def Pkg.resetLogged : Pkg :=
  (((p.resetNoted cause).bump Reg.packageResets).logWith Ev.packageReset Unit.package (if ctx < 4096 then some ctx else none) 0 true
    (leBytes 1 cause ++ leBytes 1 (min 255 (p.resetNoted cause).pkgResetCount) ++ leBytes 2 ctx)).logEv Ev.debugLocked Unit.controlDie none []

/-- The package `r`, in which the reset of `p` is logged, cleared; bring-up has not begun. -/
def Pkg.resetIdle (r : Pkg) : Pkg :=
  let s := (r.cleared.emit (.pin 0 false)).emit (.pin 1 false)
  { s with rst := { s.rst with oosDue := s.rst.oosDue || p.resetsFull } }

theorem Reports.resetLogged : Reports (p.resetNoted cause) (p.resetLogged cause ctx) :=
  ((Reports.bump _ _).trans (.logWith _ _ _ _ _ _ _)).trans (.logEv _ _ _ _ _)

theorem Pkg.resetLogged_reg : (p.resetLogged cause ctx).reg Reg.packageResets = p.reg Reg.packageResets + 1 := by
  rw [Pkg.resetLogged, Pkg.reg_logEv _ _ _ _ _ (by decide) (by decide), Pkg.reg_logWith _ _ _ _ _ _ _ (by decide) (by decide),
    Pkg.reg_bump_same]
  rfl

theorem Pkg.resetLogged_power : (p.resetLogged cause ctx).power = p.power := (Reports.resetLogged p cause ctx).power

/-- A reset by its parts: the package cleared, and bring-up from there but after a failed step. -/
theorem Pkg.resetNow_eq : p.resetNow cause ctx =
    if p.power.stopped = true ∧ cause ≠ 2 then p.resetIdle (p.resetLogged cause ctx) else (p.resetIdle (p.resetLogged cause ctx)).beginBringup := by
  have hs : (p.resetIdle (p.resetLogged cause ctx)).power.stopped = p.power.stopped := by
    show (p.resetLogged cause ctx).power.stopped = _
    rw [p.resetLogged_power cause ctx]
  rw [← hs]
  suffices h : (let n := min 255 (p.resetNoted cause).pkgResetCount
      let c := (((p.resetNoted cause).bump Reg.packageResets).logWith Ev.packageReset Unit.package (if ctx < 4096 then some ctx else none) 0 true
        (leBytes 1 cause ++ leBytes 1 n ++ leBytes 2 ctx)).resetCfg
      let s := ((p.resetLogged cause ctx).cleared.emit (.pin 0 false)).emit (.pin 1 false)
      if n ≥ fld c 27 24 then { s with rst := { s.rst with oosDue := true } } else s) = p.resetIdle (p.resetLogged cause ctx) by
    rw [← h]; rfl
  have hc := Pkg.regOr_logWith ((p.resetNoted cause).bump Reg.packageResets) Ev.packageReset Unit.package
    (if ctx < 4096 then some ctx else none) 0 true (leBytes 1 cause ++ leBytes 1 (min 255 (p.resetNoted cause).pkgResetCount) ++ leBytes 2 ctx)
    (r := Reg.resetCfg) 0x3C040A0320 (by decide) (by decide)
  have hb : ((p.resetNoted cause).bump Reg.packageResets).regOr Reg.resetCfg 0x3C040A0320 = p.resetCfg :=
    Pkg.regOr_setReg_ne _ _ _ (by decide)
  dsimp only
  rw [Pkg.resetCfg, hc, hb, Pkg.resetIdle, Pkg.resetsFull]
  dsimp only
  split
  · rw [decide_eq_true (by assumption), Bool.or_true]
  · rw [decide_eq_false (by assumption), Bool.or_false]

theorem Pkg.resetNow_of_stopped (h : p.power.stopped = true) (hc : cause ≠ 2) :
    p.resetNow cause ctx = p.resetIdle (p.resetLogged cause ctx) := by rw [Pkg.resetNow_eq, if_pos ⟨h, hc⟩]

theorem Pkg.resetNow_of_not_stopped (h : p.power.stopped = false ∨ cause = 2) :
    p.resetNow cause ctx = (p.resetIdle (p.resetLogged cause ctx)).beginBringup := by
  rw [Pkg.resetNow_eq, if_neg]
  rintro ⟨hs, hc⟩
  rcases h with h | h
  · simp [hs] at h
  · exact hc h

/-- The reset's record is one of the two newest when bring-up begins. -/
theorem Pkg.resetLogged_newest : ∃ e, (e.event = Ev.packageReset ∧ e.unit = Unit.package ∧ p.log.nextSeq ≤ e.seq) ∧
    e ∈ (p.resetLogged cause ctx).log.recs.take 2 :=
  ⟨_, ⟨rfl, rfl, le_rfl⟩, mem_newest_logWith (record_mem_newest _ _ _ _ _ _ _) (by decide) _ _ _ _ _ _⟩

/-- How bring-up stands after a reset of `p` (the last part of `PackageReset`). -/
def BringupAfter (q : Pkg) : Prop :=
  let kept := q.power.failStep = p.power.failStep ∧ q.power.failCode = p.power.failCode
  (p.power.stopped = true → cause ≠ 2 → q.power.step = none ∧ kept) ∧
  (p.power.stopped = false ∨ cause = 2 →
    (p.trips → q.power.step = none ∧ q.power.stopped = true ∧ q.power.failStep = 1 ∧ NewlyLogged p q Ev.bringupFailed Unit.package) ∧
    (¬ p.trips → kept ∧ (p.freeToBegin → q.power.step = some 2 ∧ q.power.waiting = false) ∧
      (¬ p.freeToBegin → q.power.step = none ∧ q.power.waiting = true)))

variable {p cause}

theorem packageReset_of {r q : Pkg} {w : PowerSt} (hr : Reports (p.resetNoted cause) r) (hq : Reports { p.resetIdle r with power := w } q)
    (hreg : q.reg Reg.packageResets = p.reg Reg.packageResets + 1) (hlog : NewlyLogged p q Ev.packageReset Unit.package)
    (hready : w.ready = false) (hlast : w.last = p.power.last) (hb : BringupAfter p cause q) : PackageReset p q cause := by
  obtain ⟨_, _, _, _, _, -, rfl⟩ := hr
  obtain ⟨_, _, _, _, _, -, rfl⟩ := hq
  refine ⟨rfl, rfl, hreg, hlog, rfl, rfl, rfl, rfl, rfl, rfl, rfl, rfl, rfl, rfl, rfl, rfl, fun h => ?_, rfl, rfl, rfl, rfl, hready, rfl,
    rfl, rfl, rfl, hlast, rfl, rfl, hb⟩
  exact Bool.or_eq_true_iff.2 (.inr (decide_eq_true h))

theorem Pkg.resetLogged_nextSeq : (p.resetLogged cause ctx).log.nextSeq = p.log.nextSeq + 2 := by
  rw [Pkg.resetLogged, Pkg.logEv_nextSeq, Pkg.logWith_nextSeq]
  rfl

variable {ctx}

/-- The power state of a cleared package. -/
theorem Pkg.resetIdle_power : (p.resetIdle (p.resetLogged cause ctx)).power =
    { p.power with step := none, ready := false, risen := false, warned := [], alert := false, resetSince := true, hold10 := false } := by
  rw [← p.resetLogged_power cause ctx]
  rfl

theorem Pkg.trips_resetIdle : (p.resetIdle (p.resetLogged cause ctx)).trips ↔ p.trips := by
  simp only [Pkg.trips, Pkg.resetIdle_power]

theorem Pkg.freeToBegin_resetIdle : (p.resetIdle (p.resetLogged cause ctx)).freeToBegin ↔ p.freeToBegin := by
  simp only [Pkg.freeToBegin, Pkg.resetIdle_power]

theorem bringupAfter_resetNow (p : Pkg) (cause ctx : Nat) : BringupAfter p cause (p.resetNow cause ctx) := by
  have hw := p.resetIdle_power (cause := cause) (ctx := ctx)
  refine ⟨fun hs hc => ?_, fun h => ⟨fun ht => ?_, fun ht => ⟨?_, fun hf => ?_, fun hf => ?_⟩⟩⟩
  · rw [Pkg.resetNow_of_stopped _ _ _ hs hc, hw]
    exact ⟨rfl, rfl, rfl⟩
  · rw [Pkg.resetNow_of_not_stopped _ _ _ h, Pkg.beginBringup_of_trips (Pkg.trips_resetIdle.2 ht)]
    obtain ⟨since, hp⟩ := (p.resetIdle (p.resetLogged cause ctx)).stepFail_power 1 (stepCode 1) Unit.package
    obtain ⟨s, hs, hr⟩ := (p.resetIdle (p.resetLogged cause ctx)).stepFail_log 1 (stepCode 1) Unit.package
    rw [hp]
    refine ⟨rfl, rfl, rfl, s.record Ev.bringupFailed Unit.package none (stepCode 1) false _, hr ▸ List.mem_of_mem_take (record_mem_newest _ _ _ _ _ _ _), ?_, rfl, rfl⟩
    show p.log.nextSeq ≤ s.log.nextSeq
    rw [hs, show (p.resetIdle (p.resetLogged cause ctx)).log = (p.resetLogged cause ctx).log from rfl, Pkg.resetLogged_nextSeq]
    omega
  · rw [Pkg.resetNow_of_not_stopped _ _ _ h]
    have ht' := mt (Pkg.trips_resetIdle (cause := cause) (ctx := ctx)).1 ht
    by_cases hf : (p.resetIdle (p.resetLogged cause ctx)).freeToBegin
    · rw [Pkg.beginBringup_of_free ht' hf, hw]
      exact ⟨rfl, rfl⟩
    · rw [Pkg.beginBringup_of_held ht' hf, hw]
      exact ⟨rfl, rfl⟩
  · rw [Pkg.resetNow_of_not_stopped _ _ _ h,
      Pkg.beginBringup_of_free (mt Pkg.trips_resetIdle.1 ht) (Pkg.freeToBegin_resetIdle.2 hf)]
    exact ⟨rfl, rfl⟩
  · rw [Pkg.resetNow_of_not_stopped _ _ _ h,
      Pkg.beginBringup_of_held (mt Pkg.trips_resetIdle.1 ht) (mt Pkg.freeToBegin_resetIdle.1 hf), hw]
    exact ⟨rfl, rfl⟩

/-- A reset, by any cause, is a package reset. -/
theorem packageReset_resetNow (p : Pkg) (cause ctx : Nat) : PackageReset p (p.resetNow cause ctx) cause := by
  have hb := bringupAfter_resetNow p cause ctx
  have hl := Reports.resetLogged p cause ctx
  have hw := p.resetIdle_power (cause := cause) (ctx := ctx)
  obtain ⟨e, ⟨he, hu, hs⟩, hm⟩ := p.resetLogged_newest cause ctx
  have hidle : (p.resetIdle (p.resetLogged cause ctx)).reg Reg.packageResets = p.reg Reg.packageResets + 1 := by
    rw [← p.resetLogged_reg cause ctx]
    exact Tbl.get_filterV (f := fun k _ => k == Reg.dumpCfg || k == Reg.packageResets) 0 _ fun _ => by decide
  by_cases h : p.power.stopped = true ∧ cause ≠ 2
  · rw [Pkg.resetNow_of_stopped _ _ _ h.1 h.2] at hb ⊢
    exact packageReset_of (w := (p.resetIdle (p.resetLogged cause ctx)).power) hl (.refl _) hidle ⟨e, List.mem_of_mem_take hm, hs, he, hu⟩
      (by rw [hw]) (by rw [hw]) hb
  · have h' : p.power.stopped = false ∨ cause = 2 := by
      rw [not_and_or, not_not] at h
      exact h.imp_left Bool.eq_false_of_not_eq_true
    rw [Pkg.resetNow_of_not_stopped _ _ _ h'] at hb ⊢
    obtain ⟨hready, hlast, -⟩ := (p.resetIdle (p.resetLogged cause ctx)).beginBringup_kept
    refine packageReset_of hl (.beginBringup _) ?_ ⟨e, Pkg.beginBringup_newest hm (by decide), hs, he, hu⟩ ?_ ?_ hb
    · rw [Pkg.beginBringup_reg _ (by decide) (by decide), hidle]
    · rw [hready, hw]
    · rw [hlast, hw]

theorem Pkg.resetNow_now_fuses (p : Pkg) (cause ctx : Nat) : (p.resetNow cause ctx).now = p.now ∧ (p.resetNow cause ctx).fuses = p.fuses := by
  have hl := Reports.resetLogged p cause ctx
  by_cases h : p.power.stopped = true ∧ cause ≠ 2
  · rw [Pkg.resetNow_eq, if_pos h]
    exact ⟨hl.now, hl.fuses⟩
  · rw [Pkg.resetNow_eq, if_neg h]
    have hb := Reports.beginBringup (p.resetIdle (p.resetLogged cause ctx))
    exact ⟨hb.now.trans hl.now, hb.fuses.trans hl.fuses⟩

theorem Pkg.resetNow_perst (p : Pkg) (cause ctx : Nat) : (p.resetNow cause ctx).power.perst = p.power.perst := by
  have hw := p.resetIdle_power (cause := cause) (ctx := ctx)
  by_cases h : p.power.stopped = true ∧ cause ≠ 2
  · rw [Pkg.resetNow_eq, if_pos h, hw]
  · obtain ⟨-, -, hp⟩ := (p.resetIdle (p.resetLogged cause ctx)).beginBringup_kept
    rw [Pkg.resetNow_eq, if_neg h, hp, hw]

/-- A command of the host that resets the package at once: no dump goes before (R494, R495). -/
theorem Pkg.packageReset_host (p : Pkg) (ctx : Nat) : p.packageReset 1 ctx = p.resetNow 1 ctx :=
  if_neg fun h => h.1 rfl

/-- A run that resets a package `q` at the command's time. -/
theorem Answers.hostReset {s : State} {t : Nat} {f : Pkg → Pkg} {q : Pkg} {P : State → Prop} (h : f (s.at t) = q.resetNow 1 0xFFFF)
    (hn : q.now = (s.at t).now) (hf : q.fuses = s.pkg.fuses) (hP : P { s with pkg := q.resetNow 1 0xFFFF }) : Answers (s.run t f) P := by
  obtain ⟨hn', hf'⟩ := q.resetNow_now_fuses 1 0xFFFF
  exact ⟨_, State.run_eq h (hn'.trans hn) (hf'.trans hf), hP⟩

end
end Sys2Proof.Machine
end

section
/-! What the package's own accesses to GDDR leave: the tasks, the power state, the host port but for what it holds back, and the answers to the host's requests. -/

namespace Sys2Proof.Machine

/-- The tasks, the power state and the host port's settings and counts are the same, and nothing sent since answers a request of the host. -/
structure Unanswered (p q : Pkg) : Prop where
  tasks : q.tasks = p.tasks
  power : q.power = p.power
  host  : q.host = { p.host with held := q.host.held, pba := q.host.pba }
  out   : ∃ pre, q.out = p.out ++ pre ∧ ∀ x ∈ pre, Output.unasked x

variable {p q r : Pkg}

theorem Reports.unanswered (h : Reports p q) : Unanswered p q := ⟨h.work.tasks, h.power, h.host, h.out⟩

theorem Unanswered.refl (p : Pkg) : Unanswered p p := (Reports.refl p).unanswered

theorem Unanswered.of_eq (ht : q.tasks = p.tasks) (hp : q.power = p.power) (hh : q.host = p.host) (ho : q.out = p.out) : Unanswered p q :=
  ⟨ht, hp, by rw [hh], [], by rw [ho, List.append_nil], by simp⟩

theorem Unanswered.trans (h : Unanswered p q) (k : Unanswered q r) : Unanswered p r := by
  obtain ⟨ht, hp, hh, pre, ho, hpre⟩ := h
  obtain ⟨ht', hp', hh', pre', ho', hpre'⟩ := k
  refine ⟨ht'.trans ht, hp'.trans hp, ?_, pre ++ pre', by rw [ho', ho, List.append_assoc], List.forall_mem_append.2 ⟨hpre, hpre'⟩⟩
  rw [hh', hh]

theorem Unanswered.foldl {α : Type} {f : Pkg → α → Pkg} (h : ∀ s x, Unanswered s (f s x)) (l : List α) (p : Pkg) :
    Unanswered p (l.foldl f p) := by
  induction l generalizing p with
  | nil => exact .refl p
  | cons x l ih => exact (h p x).trans (ih _)

theorem Unanswered.foldl_fst {α β : Type} {f : Pkg × β → α → Pkg × β} (h : ∀ s x, Unanswered s.1 (f s x).1) (l : List α) (s : Pkg × β) :
    Unanswered s.1 (l.foldl f s).1 := by
  induction l generalizing s with
  | nil => exact .refl s.1
  | cons x l ih => exact (h s x).trans (ih _)

/-! ### Granules and translations -/

theorem Unanswered.setMem (p : Pkg) (m : MemSt) : Unanswered p (p.setMem m) := .of_eq rfl rfl rfl rfl

theorem Unanswered.poisonGranule (p : Pkg) (g f : Nat) : Unanswered p (p.poisonGranule g f) :=
  ((Unanswered.setMem p _).trans (Reports.bump _ _).unanswered).trans (Reports.logEv _ _ _ _ _).unanswered

theorem Unanswered.correct (p : Pkg) (g : Nat) : Unanswered p (p.correct g) := .of_eq rfl rfl rfl rfl

theorem Unanswered.touch1 (p : Pkg) (f g : Nat) : Unanswered p (p.touch1 f g) := by
  unfold Pkg.touch1
  refine (Unanswered.setMem p (p.mem.serve [g])).trans ?_
  dsimp only
  split
  · exact (Reports.bump _ _).unanswered
  · split
    · exact .poisonGranule _ _ _
    · split
      · exact .correct _ _
      · split
        · exact .refl _
        · exact .poisonGranule _ _ _

theorem Unanswered.fillFrame (p : Pkg) (x : PageFill) : Unanswered p (p.fillFrame x) :=
  (Unanswered.setMem p _).trans (.foldl (fun s g => .touch1 s 0 g) _ _)

theorem Unanswered.fillBefore (p : Pkg) (g : Nat) : Unanswered p (p.fillBefore g) := by
  unfold Pkg.fillBefore
  split
  · exact .fillFrame p _
  · exact .refl p

theorem Unanswered.touch (p : Pkg) (f : Nat) (gs : List Nat) : Unanswered p (p.touch f gs) :=
  .foldl (fun s g => (Unanswered.fillBefore s g).trans (.touch1 _ f g)) gs p

theorem Unanswered.cacheAt (p : Pkg) (c va : Nat) : Unanswered p (p.cacheAt c va) := by
  unfold Pkg.cacheAt
  split
  · exact .of_eq rfl rfl rfl rfl
  · exact .refl p

theorem Unanswered.took (p : Pkg) (x : Rd) : Unanswered p (p.took x) :=
  (Unanswered.touch p 0 x.grans).trans (.foldl (fun s (y : Nat × Nat) => .cacheAt s y.1 y.2) _ _)

/-! A read carried out leaves every context and every byte. -/

@[simp] theorem Pkg.touch1_ctxs (p : Pkg) (f g : Nat) : (p.touch1 f g).ctxs = p.ctxs := by
  unfold Pkg.touch1
  dsimp only
  (repeat' split) <;> simp [Pkg.poisonGranule, Pkg.correct, Pkg.setMem]

@[simp] theorem Pkg.fillBefore_ctxs (p : Pkg) (g : Nat) : (p.fillBefore g).ctxs = p.ctxs := by
  unfold Pkg.fillBefore
  split
  · exact foldl_keeps (·.ctxs) _ (fun s g => s.touch1_ctxs 0 g) _ _
  · rfl

@[simp] theorem Pkg.touch_ctxs (p : Pkg) (f : Nat) (gs : List Nat) : (p.touch f gs).ctxs = p.ctxs :=
  foldl_keeps (·.ctxs) _ (fun s g => by simp) _ _

theorem Pkg.cacheAt_ctxs_bytes (p : Pkg) (c va : Nat) : (p.cacheAt c va).ctxs = p.ctxs ∧ (p.cacheAt c va).mem.bytes = p.mem.bytes := by
  unfold Pkg.cacheAt
  split <;> exact ⟨rfl, rfl⟩

theorem Pkg.took_ctxs (p : Pkg) (x : Rd) : (p.took x).ctxs = p.ctxs := by
  unfold Pkg.took
  rw [foldl_keeps (·.ctxs) _ (fun s (y : Nat × Nat) => (s.cacheAt_ctxs_bytes y.1 y.2).1), Pkg.touch_ctxs]

theorem Pkg.took_bytes (p : Pkg) (x : Rd) : (p.took x).mem.bytes = p.mem.bytes := by
  unfold Pkg.took
  rw [foldl_keeps (·.mem.bytes) _ (fun s (y : Nat × Nat) => (s.cacheAt_ctxs_bytes y.1 y.2).2), Pkg.bytes_touch]

/-! ### Writes -/

theorem Unanswered.dWrite (p : Pkg) (a : Nat) (bs : Bytes) (bad rmw : Bool) (head : Nat) (more : Bool) :
    Unanswered p (p.dWrite a bs bad rmw head more) := by
  unfold Pkg.dWrite
  split
  · exact .refl p
  · exact (Unanswered.touch p 3 _).trans (.setMem _ _)

theorem Unanswered.dLand (p : Pkg) (b : WrBy) (a : Nat) (bs : Bytes) (bad : Bool) : Unanswered p (p.dLand b a bs bad).1 := by
  unfold Pkg.dLand
  split
  · exact .dWrite p _ _ _ _ _ _
  · exact (Reports.setReg p _ _).unanswered.trans (.dWrite _ _ _ _ _ _ _)

theorem Unanswered.copyFrame (p : Pkg) (c src dst : Nat) : Unanswered p (p.copyFrame c src dst) := by
  unfold Pkg.copyFrame
  split
  · exact .refl p
  · exact .setMem p _

theorem Unanswered.setVrec (p : Pkg) (x : Nat) (v : VRec) : Unanswered p (p.setVrec x v) := by
  unfold Pkg.setVrec
  split
  · exact .refl p
  · exact .setMem p _

theorem Unanswered.retire (p : Pkg) (fs : List Nat) : Unanswered p (p.retire fs) := .of_eq rfl rfl rfl rfl

theorem Unanswered.updCtx (p : Pkg) (c : Nat) (f : Ctx → Ctx) : Unanswered p (p.updCtx c f) := .of_eq rfl rfl rfl rfl

theorem Unanswered.takeFrame {f : Nat} (h : p.takeFrame = some (f, q)) : Unanswered p q := by
  simp only [Pkg.takeFrame] at h
  split at h
  · simp at h
  · split at h
    · rw [Option.some.injEq, Prod.mk.injEq] at h
      exact h.2 ▸ .of_eq rfl rfl rfl rfl
    · split at h
      · rw [Option.some.injEq, Prod.mk.injEq] at h
        exact h.2 ▸ .of_eq rfl rfl rfl rfl
      · simp at h

theorem Unanswered.writeFrame {c x f : Nat} {b : Bool} (h : p.writeFrame c x = (some (f, q), b)) : Unanswered p q := by
  simp only [Pkg.writeFrame] at h
  split at h
  · rw [Prod.mk.injEq, Option.some.injEq, Prod.mk.injEq] at h
    exact h.1.2 ▸ (Unanswered.setVrec p _ _).trans (.retire _ _)
  · split at h
    · simp at h
    · split at h
      · simp at h
      · rename_i hf
        rw [Prod.mk.injEq, Option.some.injEq, Prod.mk.injEq] at h
        exact h.1.2 ▸ ((((Unanswered.takeFrame hf).trans (.copyFrame _ _ _ _)).trans (.setVrec _ _ _)).trans (.retire _ _)).trans (.updCtx _ _ _)

theorem Unanswered.arrive (p : Pkg) (c va n : Nat) : Unanswered p (p.arrive c va n) := by
  refine .foldl (fun s w => ?_) _ _
  dsimp only
  split
  · exact .refl s
  · exact .updCtx s _ _

theorem Unanswered.vWrite1 (p : Pkg) (c va : Nat) (b : WrBy) (bs : Bytes) (bad : Bool) (acc : Acc) :
    Unanswered p (p.vWrite1 c va b bs bad acc).pkg := by
  have ht (gs : List Nat) : Unanswered p ((p.touch 0 gs).cacheAt c va) := (Unanswered.touch p 0 gs).trans (.cacheAt _ c va)
  unfold Pkg.vWrite1
  split
  · exact ht _
  · exact (ht _).trans (.dLand _ _ _ _ _)
  · dsimp only
    split
    · exact ht _
    · split
      · rename_i hf
        have hw := (ht _).trans (.writeFrame hf)
        split
        · exact hw.trans (.dLand _ _ _ _ _)
        · exact ht _
      · exact ht _

theorem Unanswered.vWritePart (p : Pkg) (c : Nat) (w : StagedWrite) : Unanswered p (p.vWritePart c w).1 := by
  have h := Unanswered.vWrite1 p c w.addr w.by_ w.data w.bad (if w.by_.pkt.isSome then Acc.remoteWrite else .write)
  unfold Pkg.vWritePart
  dsimp only
  split
  · exact Unanswered.updCtx p c fun x => { x with stagedWrites := x.stagedWrites ++ [{ w with record := none }] }
  · split
    · rename_i hw
      rw [hw] at h
      split
      · exact h.trans (.arrive _ _ _ _)
      · exact h
    · rename_i hw
      rw [hw] at h
      exact h
    · rename_i u x e hw
      rw [hw] at h
      dsimp only [WrRes.pkg] at h ⊢
      split
      · exact (h.trans (Reports.bump u _).unanswered).trans (.updCtx _ _ _)
      · exact h.trans (.updCtx u _ _)

theorem Unanswered.vWriteAs (p : Pkg) (b : WrBy) (c va : Nat) (bs : Bytes) (bad : Bool) : Unanswered p (p.vWriteAs b c va bs bad).1 := by
  unfold Pkg.vWriteAs
  refine Unanswered.foldl_fst (fun r x => ?_) _ (p, false, ({} : Sticky))
  exact .vWritePart r.1 c _

theorem Unanswered.vWrite (p : Pkg) (c va : Nat) (bs : Bytes) (bad : Bool) : Unanswered p (p.vWrite c va bs bad).1 :=
  .vWriteAs p {} c va bs bad

end Sys2Proof.Machine
end

section
/-! The host port's operations: completions, link events and power states, apertures, reads of host memory and configuration requests (R503 to R514). -/

namespace Sys2Proof.Machine

variable {p q : Pkg}

/-! ### Completions -/

/-- A request of `p` answered in `q` with one completion, after whatever else went out; without PWR_GOOD nothing is answered (R617). -/
def AnswersRequest (p q : Pkg) (status : Nat) (d : Bytes) (bad : Bool) : Prop :=
  (p.power.pwrGood = true → ∃ pre, q.out = p.out ++ pre ++ [Output.completion status d bad]) ∧
  (p.power.pwrGood = false → ∀ x ∈ q.out, x ∈ p.out ∨ ∀ st d bad, x ≠ Output.completion st d bad)

theorem answersRequest_complete (hp : q.power.pwrGood = p.power.pwrGood) (ho : ∃ pre, q.out = p.out ++ pre ∧ ∀ x ∈ pre, Output.unasked x)
    (status : Nat) (d : Bytes) (bad : Bool) : AnswersRequest p (q.complete_ status d bad) status d bad := by
  obtain ⟨pre, ho, hpre⟩ := ho
  refine ⟨fun h => ⟨pre, ?_⟩, fun h x hx => ?_⟩
  · rw [Pkg.complete_, if_pos (hp.trans h), ← ho]
    rfl
  · rw [Pkg.complete_, if_neg (by rw [hp, h]; simp), ho, List.mem_append] at hx
    exact hx.imp_right (hpre x)

theorem Reports.answers (h : Reports p q) (status : Nat) (d : Bytes) (bad : Bool) :
    AnswersRequest p (q.complete_ status d bad) status d bad :=
  answersRequest_complete (by rw [h.power]) h.out status d bad

theorem Unanswered.answers (h : Unanswered p q) (status : Nat) (d : Bytes) (bad : Bool) :
    AnswersRequest p (q.complete_ status d bad) status d bad :=
  answersRequest_complete (by rw [h.power]) h.out status d bad

theorem Logged.complete {event unit : Nat} {ctx : Option Nat} (h : Logged q event unit ctx) (status : Nat) (d : Bytes) (bad : Bool) :
    Logged (q.complete_ status d bad) event unit ctx := by
  unfold Pkg.complete_
  split
  · exact h
  · exact h

theorem SameWork.complete (h : SameWork p q) (status : Nat) (d : Bytes) (bad : Bool) : SameWork p (q.complete_ status d bad) := by
  unfold Pkg.complete_
  split
  · exact ⟨h.ctxs, h.tasks, h.cores, h.clusters, h.mem⟩
  · exact h

@[simp] theorem Pkg.complete_ctxs (p : Pkg) (status : Nat) (d : Bytes) (bad : Bool) : (p.complete_ status d bad).ctxs = p.ctxs := by
  unfold Pkg.complete_; split <;> rfl

@[simp] theorem Pkg.complete_mem (p : Pkg) (status : Nat) (d : Bytes) (bad : Bool) : (p.complete_ status d bad).mem = p.mem := by
  unfold Pkg.complete_; split <;> rfl

@[simp] theorem Pkg.complete_host (p : Pkg) (status : Nat) (d : Bytes) (bad : Bool) : (p.complete_ status d bad).host = p.host := by
  unfold Pkg.complete_; split <;> rfl

/-! ### Power states -/

/-- What D3hot held back, one of its messages or writes, goes out (R507). -/
def Pkg.sendHeld (p : Pkg) (x : Bool × Nat × Bytes) : Pkg := if x.1 then p.msixNow x.2.1 else p.emit (.hostWrite x.2.1 x.2.2)

/-- The package that leaves D3hot, before what was held goes out. -/
def Pkg.awake (p : Pkg) : Pkg := { p with host := { p.host with d3 := false, held := [] } }

theorem Reports.sendHeld (p : Pkg) (x : Bool × Nat × Bytes) : Reports p (p.sendHeld x) := by
  unfold Pkg.sendHeld
  split
  · exact .msixNow p _
  · exact .emit p (Output.unasked_hostWrite _ _)

theorem Reports.releaseHost (p : Pkg) : Reports p.awake p.releaseHost := .foldl .sendHeld p.host.held _

theorem Pkg.sendHeld_held (p : Pkg) (x : Bool × Nat × Bytes) : (p.sendHeld x).host.held = p.host.held := by
  unfold Pkg.sendHeld Pkg.msixNow
  (repeat' split) <;> rfl

theorem Pkg.releaseHost_held (p : Pkg) : p.releaseHost.host.held = [] :=
  foldl_keeps (·.host.held) Pkg.sendHeld Pkg.sendHeld_held p.host.held p.awake

theorem Pkg.releaseHost_d3 (p : Pkg) : p.releaseHost.host.d3 = false :=
  congrArg HostSt.d3 (Reports.releaseHost p).host

/-- Every host write that was held goes out. -/
theorem mem_out_foldl_sendHeld {x : Bool × Nat × Bytes} (hw : x.1 = false) (l : List (Bool × Nat × Bytes)) (p : Pkg)
    (h : Output.hostWrite x.2.1 x.2.2 ∈ p.out ∨ x ∈ l) : Output.hostWrite x.2.1 x.2.2 ∈ (l.foldl Pkg.sendHeld p).out := by
  induction l generalizing p with
  | nil => simpa using h
  | cons y l ih =>
    refine ih _ ?_
    rcases h with h | h
    · obtain ⟨pre, ho, -⟩ := (Reports.sendHeld p y).out
      exact .inl (ho ▸ List.mem_append_left pre h)
    · rcases List.mem_cons.1 h with rfl | h
      · rw [Pkg.sendHeld, hw]
        exact .inl (List.mem_append_right _ (List.mem_singleton_self _))
      · exact .inr h

theorem Pkg.d0Return_of_d3 (h : p.host.d3 = true) : p.d0Return = p.releaseHost := if_pos h

theorem Pkg.d0Return_of_d0 (h : p.host.d3 = false) : p.d0Return = p := if_neg (by simp [h])
theorem Pkg.d3Entry_of_risen (h : p.power.risen = true) : p.d3Entry = { p with host := { p.host with d3 := true } } := if_pos h
theorem Pkg.d3Entry_of_not_risen (h : p.power.risen = false) : p.d3Entry = p := if_neg (by simp [h])

/-! ### Link events -/

theorem Pkg.hotReset_of_risen (h : p.power.risen = true) : p.hotReset = p.resetNow 1 0xFFFF := (if_pos h).trans (p.packageReset_host _)
theorem Pkg.hotReset_of_not_risen (h : p.power.risen = false) : p.hotReset = p := if_neg (by simp [h])

/-- The package with PERST_N asserted, or not. -/
def Pkg.withPerst (p : Pkg) (b : Bool) : Pkg := { p with power := { p.power with perst := b } }

theorem Pkg.perstAssert_resets (h : p.power.risen = true ∨ p.power.trip = true) (hp : p.power.perst = false) :
    p.perstAssert = (p.withPerst true).resetNow 1 0xFFFF :=
  (if_pos (by simpa [hp] using h)).trans (Pkg.packageReset_host _ _)

theorem Pkg.perstAssert_ignored (h : p.power.risen = false ∧ p.power.trip = false ∨ p.power.perst = true) : p.perstAssert = p := by
  refine if_neg ?_
  rcases h with ⟨hr, ht⟩ | hp
  · simp [hr, ht]
  · simp [hp]

theorem Pkg.perstDeassert_of_not_waiting (h : p.power.waiting = false) : p.perstDeassert = p.withPerst false := if_neg (by simp [h])

theorem Pkg.perstDeassert_of_waiting (h : p.power.waiting = true) : p.perstDeassert = (p.withPerst false).beginBringup := if_pos h

end Sys2Proof.Machine
end

section
/-! Apertures, reads of host memory and configuration requests (R503, R506, R510 to R512). -/

namespace Sys2Proof.Machine

variable {p : Pkg}

/-! ### Apertures -/

section
variable {n off : Nat} (hn : n < 64) (ho : off < 0x80000000)

/-- The context of an aperture, and the device-virtual address of an offset in it (R510). -/
def Pkg.apertureCtx (p : Pkg) (n : Nat) : Nat := fld (p.reg (Reg.aperture n)) 59 48
def Pkg.apertureVa (p : Pkg) (n off : Nat) : Nat := fld (p.reg (Reg.aperture n)) 47 21 * 0x200000 + off

include hn ho in
theorem Pkg.apertureAt_of_enabled (h : bitAt (p.reg (Reg.aperture n)) 63 = true) :
    p.apertureAt n off = some (p.apertureCtx n, p.apertureVa n off) := if_pos ⟨hn, ho, h⟩

theorem Pkg.apertureAt_of_disabled (h : bitAt (p.reg (Reg.aperture n)) 63 = false) : p.apertureAt n off = none :=
  if_neg fun hc => by simp [h] at hc

theorem Pkg.apertureRead_unserved (len : Nat) (h : p.barPhase ≠ .on ∨ bitAt (p.reg (Reg.aperture n)) 63 = false) :
    p.apertureRead n off len = p.complete_ Cpl.unsupported [] false := by
  unfold Pkg.apertureRead
  by_cases hb : p.barPhase = .on
  · rw [if_neg (not_not.2 hb), Pkg.apertureAt_of_disabled (h.resolve_left (not_not.2 hb))]
  · exact if_pos hb

/-- A package after a good aperture read, before its completion. -/
def Pkg.readTaken (p : Pkg) (c : Nat) (r : Rd) : Pkg :=
  if r.poison then (p.took r).logEv Ev.hostPoisonRead Unit.hostPort (some c) [] else p.took r

section
variable {len : Nat} (hb : p.barPhase = .on) (he : bitAt (p.reg (Reg.aperture n)) 63 = true)
include hn ho hb he

theorem Pkg.apertureRead_good (hp : (p.ctx (p.apertureCtx n)).phase = .open)
    (hf : (p.vRead (p.apertureCtx n) (p.apertureVa n off) len .read false).fault = false) :
    p.apertureRead n off len = (p.readTaken (p.apertureCtx n) (p.vRead (p.apertureCtx n) (p.apertureVa n off) len .read false)).complete_
      Cpl.success (p.vRead (p.apertureCtx n) (p.apertureVa n off) len .read false).bytes
      (p.vRead (p.apertureCtx n) (p.apertureVa n off) len .read false).poison := by
  rw [Pkg.apertureRead, if_neg (not_not.2 hb), Pkg.apertureAt_of_enabled hn ho he]
  exact if_neg (by simp [hp, hf])

theorem Pkg.apertureRead_faults (h : (p.ctx (p.apertureCtx n)).phase ≠ .open ∨
      (p.vRead (p.apertureCtx n) (p.apertureVa n off) len .read false).fault = true) :
    p.apertureRead n off len = (p.apertureFault (some (p.apertureCtx n))).complete_ Cpl.abort [] false := by
  rw [Pkg.apertureRead, if_neg (not_not.2 hb), Pkg.apertureAt_of_enabled hn ho he]
  exact if_pos (by simpa using h)

end

theorem Unanswered.readTaken (p : Pkg) (c : Nat) (r : Rd) : Unanswered p (p.readTaken c r) := by
  unfold Pkg.readTaken
  split
  · exact (Unanswered.took p r).trans (Reports.logEv _ _ _ _ _).unanswered
  · exact .took p r

theorem Pkg.readTaken_kept (p : Pkg) (c : Nat) (r : Rd) : (p.readTaken c r).ctxs = p.ctxs ∧ (p.readTaken c r).mem.bytes = p.mem.bytes := by
  unfold Pkg.readTaken
  split
  · rw [Pkg.logEv_ctxs, Pkg.logEv_mem]
    exact ⟨p.took_ctxs r, p.took_bytes r⟩
  · exact ⟨p.took_ctxs r, p.took_bytes r⟩

theorem Pkg.readTaken_logged (p : Pkg) {c : Nat} {r : Rd} (h : r.poison = true) :
    Logged (p.readTaken c r) Ev.hostPoisonRead Unit.hostPort (some c) := by
  rw [Pkg.readTaken, if_pos h]
  exact logged_logEv _ _ _ _ _

/-- What a write through an aperture needs to land (R511). -/
def Pkg.apertureLands (p : Pkg) (n off len : Nat) : Prop :=
  (p.ctx (p.apertureCtx n)).phase = .open ∧ bitAt (p.reg (Reg.aperture n)) 62 = true ∧
    (∀ x ∈ piecesOf (p.apertureVa n off) len, p.classAt (p.apertureCtx n) x.1 = some false) ∧
    p.vMapped (p.apertureCtx n) (p.apertureVa n off) len .write = true

theorem Pkg.apertureWrite_off (b : Bytes) (h : p.barPhase ≠ .on) : p.apertureWrite n off b = p := if_pos h

theorem Pkg.apertureWrite_disabled (b : Bytes) (hb : p.barPhase = .on) (h : bitAt (p.reg (Reg.aperture n)) 63 = false) :
    p.apertureWrite n off b = p.apertureFault none := by
  rw [Pkg.apertureWrite, if_neg (not_not.2 hb), Pkg.apertureAt_of_disabled h]

theorem Pkg.apertureWrite_refused_iff (len : Nat) : ((p.ctx (p.apertureCtx n)).phase != .open || !bitAt (p.reg (Reg.aperture n)) 62 ||
      !((piecesOf (p.apertureVa n off) len).all fun x => p.classAt (p.apertureCtx n) x.1 == some false) ||
      !p.vMapped (p.apertureCtx n) (p.apertureVa n off) len .write) = true ↔ ¬ p.apertureLands n off len := by
  rw [← not_iff_not, not_not, Bool.not_eq_true]
  simp only [Pkg.apertureLands, Bool.or_eq_false_iff, Bool.not_eq_false', bne_eq_false_iff_eq, List.all_eq_true, beq_iff_eq, and_assoc]

include hn ho in
theorem Pkg.apertureWrite_lands {b : Bytes} (hb : p.barPhase = .on) (he : bitAt (p.reg (Reg.aperture n)) 63 = true)
    (h : p.apertureLands n off b.length) : p.apertureWrite n off b = (p.vWrite (p.apertureCtx n) (p.apertureVa n off) b false).1 := by
  rw [Pkg.apertureWrite, if_neg (not_not.2 hb), Pkg.apertureAt_of_enabled hn ho he]
  exact if_neg fun hr => (Pkg.apertureWrite_refused_iff _).1 hr h

include hn ho in
theorem Pkg.apertureWrite_faults {b : Bytes} (hb : p.barPhase = .on) (he : bitAt (p.reg (Reg.aperture n)) 63 = true)
    (h : ¬ p.apertureLands n off b.length) : p.apertureWrite n off b = p.apertureFault (some (p.apertureCtx n)) := by
  rw [Pkg.apertureWrite, if_neg (not_not.2 hb), Pkg.apertureAt_of_enabled hn ho he]
  exact if_pos ((Pkg.apertureWrite_refused_iff _).2 h)

end

/-- An aperture fault counted, before its record. -/
def Pkg.faultCounted (p : Pkg) : Pkg := { p with host := { p.host with faults := p.host.faults + 1 } }

theorem Reports.apertureFault (p : Pkg) (c : Option Nat) : Reports p.faultCounted (p.apertureFault c) := .logWith _ _ _ _ _ _ _

/-- A fault of an aperture access: counted and logged, and no work changed (R511). -/
def Faulted (p q : Pkg) (x : Option Nat) : Prop :=
  q.host.faults = p.host.faults + 1 ∧ Logged q Ev.remoteAccessFault Unit.hostPort x ∧ SameWork p q

theorem faulted_apertureFault (p : Pkg) (c : Option Nat) : Faulted p (p.apertureFault c) c := by
  have h := Reports.apertureFault p c
  exact ⟨congrArg HostSt.faults h.host, logged_logWith _ _ _ _ _ _ _, SameWork.trans (q := p.faultCounted) ⟨rfl, rfl, rfl, rfl, rfl⟩ h.work⟩

theorem Faulted.complete {q : Pkg} {x : Option Nat} (h : Faulted p q x) (status : Nat) (d : Bytes) (bad : Bool) :
    Faulted p (q.complete_ status d bad) x := by
  obtain ⟨hf, hl, hw⟩ := h
  exact ⟨by rw [Pkg.complete_host, hf], hl.complete _ _ _, hw.complete _ _ _⟩

/-! ### Reads of host memory -/

/-- A failed read of host memory counted and recorded (R506). -/
def Pkg.readMissed (p : Pkg) (bit : Nat) : Pkg :=
  { p with host := { p.host with readErrors := p.host.readErrors + 1, aer := p.host.aer + 1, aerBits := p.host.aerBits.ins bit } }

/-- The bit of the error status that a failed read sets, by what it ends an Easel operation with. -/
def missBit (code : Nat) : Nat := if code = Code.timeout then 14 else 12

theorem Pkg.hostReadFailed_ring (p : Pkg) {k : HostRead} (h : k = .index ∨ k = .entry) (code : Nat) :
    p.hostReadFailed k code = p.readMissed (missBit code) := by
  rcases h with rfl | rfl <;> rfl

theorem Pkg.hostReadFailed_axisMap (p : Pkg) (code : Nat) :
    p.hostReadFailed .axisMap code = (p.readMissed (missBit code)).axRefuse Code.invalidDescriptor := rfl

theorem Pkg.hostReadFailed_easel {r : EaselRun} (h : p.easel.run = some r) (hr : r.read = false) (code : Nat) :
    p.hostReadFailed .easel code = (p.readMissed (missBit code)).easelEnd code [] := by
  refine if_neg ?_
  show ¬ (p.easel.run.any (·.read) = true)
  simp [h, hr]

/-- The image of the Easel operation `r` has been read whole. -/
def Pkg.imageRead (p : Pkg) (r : EaselRun) : Pkg := { p with easel := { p.easel with run := some { r with read := true } } }

theorem Pkg.easelRead_of_idle (h : p.easel.run = none) : p.easelRead = p := by rw [Pkg.easelRead, h]

theorem Pkg.easelRead_of_table {r : EaselRun} (h : p.easel.run = some r) (h3 : r.op = 3) :
    p.easelRead = (p.imageRead r).setBank (r.arg 1) { p.bank (r.arg 1) with state := .loading, entries := [] } := by
  rw [Pkg.easelRead, h]
  exact if_pos h3

theorem Pkg.easelRead_of_other {r : EaselRun} (h : p.easel.run = some r) (h3 : r.op ≠ 3) : p.easelRead = p.imageRead r := by
  rw [Pkg.easelRead, h]
  exact if_neg h3

/-- A good completion that is not of an Easel operation's image changes nothing. -/
theorem Pkg.hostReadDone_same {k : HostRead} (h : k ≠ .easel ∨ p.easel.run = none) : p.hostReadDone k false = p := by
  by_cases hk : k = .easel
  · subst hk
    exact Pkg.easelRead_of_idle (h.resolve_left fun h => h rfl)
  · exact if_neg hk

/-- The Easel port at the end of an operation, before the end is counted. -/
def Pkg.easelIdle (p : Pkg) (code : Nat) (results : List Nat) : Pkg :=
  { p with easel := { p.easel with run := none, code := code, results := (results ++ [0, 0, 0, 0]).take 4 } }

theorem Pkg.easelEnd_of_run {r : EaselRun} (h : p.easel.run = some r) (code : Nat) (results : List Nat) :
    p.easelEnd code results =
      (let s := (p.easelIdle code results).bump 0x010028
       if bitAt (s.reg 0x010018) 11 then s.raise (fld (s.reg 0x010018) 10 0) else s) := by
  rw [Pkg.easelEnd, h]
  rfl

theorem Reports.easelEnd {r : EaselRun} (h : p.easel.run = some r) (code : Nat) (results : List Nat) :
    Reports (p.easelIdle code results) (p.easelEnd code results) := by
  rw [Pkg.easelEnd_of_run h]
  dsimp only
  split
  · exact (Reports.bump _ _).trans (.raise _ _)
  · exact .bump _ _

theorem easelEnded_easelEnd {r : EaselRun} (h : p.easel.run = some r) (code : Nat) (results : List Nat) :
    EaselEnded p (p.easelEnd code results) code results := by
  have he : (p.easelEnd code results).easel = (p.easelIdle code results).easel := (Reports.easelEnd h code results).easel
  refine ⟨congrArg EaselSt.run he, congrArg EaselSt.code he, congrArg EaselSt.results he, ?_⟩
  rw [Pkg.easelEnd_of_run h]
  dsimp only
  split
  · rw [Pkg.reg_raise, Pkg.reg_bump_same]; rfl
  · rw [Pkg.reg_bump_same]; rfl

/-! ### Configuration requests -/

/-- A dword of configuration space that the host cannot write reads as its fixed bits. -/
theorem Pkg.configRead_of_fixed {off v : Nat} (h : p.cfgDword (off / 4 * 4) = (v, 0)) : p.configRead off = v := by
  simp [Pkg.configRead, h]

/-- The dwords that the statement names read as the spec gives them (R503). -/
theorem Pkg.configRead_given (p : Pkg) {off : Nat} {x : Nat × Nat} (hx : x ∈ [(0x008, 0x12000000 + p.fuses.revision % 256), (0x018, 0xC),
    (0x04C, 0x8022), (0x154, p.fuses.serial % 2 ^ 32), (0x158, p.fuses.serial / 2 ^ 32 % 2 ^ 32)]) (h : off / 4 * 4 = x.1) :
    p.configRead off = x.2 := by
  apply Pkg.configRead_of_fixed
  rw [h]
  simp only [List.mem_cons, List.not_mem_nil, or_false] at hx
  rcases hx with rfl | rfl | rfl | rfl | rfl <;> rfl

/-- The low 24 bits of BAR0's dword are fixed (R503). -/
theorem Pkg.configRead_bar0 {off : Nat} (h : off / 4 * 4 = 0x010) : p.configRead off % 2 ^ 24 = 4 := by
  have hm (x : Nat) : (x &&& 0xFF000000) % 2 ^ 24 = 0 := by
    rw [Nat.and_mod_two_pow]
    simp
  simp only [Pkg.configRead, h, Pkg.cfgDword]
  rw [Nat.add_mod, hm]
  rfl

/-- A write to a dword other than the power state's, the MSI-X control word's and the error status's (R512). -/
theorem Pkg.configWrite_plain {off : Nat} (w : Nat) (h1 : off / 4 * 4 ≠ 0x044) (h2 : off / 4 * 4 ≠ 0x088) (h3 : off / 4 * 4 ≠ 0x104) :
    p.configWrite off w = { p with host := if (p.cfgDword (off / 4 * 4)).2 = 0 then p.host
      else { p.host with config := p.host.config.set (off / 4 * 4) (w % 2 ^ 32 &&& (p.cfgDword (off / 4 * 4)).2) } } := by
  simp only [Pkg.configWrite, if_neg h1, if_neg h2, if_neg h3]
  split <;> rfl

theorem Pkg.configWrite_power {off : Nat} (w : Nat) (h : off / 4 * 4 = 0x044) :
    p.configWrite off w = if w % 4 = 3 then p.d3Entry else if w % 4 = 0 then p.d0Return else p := if_pos h

/-- A write of the power state's dword: D3hot entered or left, or nothing (R507). -/
theorem Reports.configWrite_power (hr : p.power.risen = true) {off : Nat} (w : Nat) (h : off / 4 * 4 = 0x044) :
    ∃ x : HostSt, Reports { p with host := x } (p.configWrite off w) ∧ (w % 4 = 3 → x.d3 = true) ∧ (w % 4 = 0 → x.d3 = false) := by
  rw [Pkg.configWrite_power w h, Pkg.d3Entry_of_risen hr]
  by_cases h3 : w % 4 = 3
  · rw [if_pos h3]
    exact ⟨_, .refl _, fun _ => rfl, fun h0 => by omega⟩
  · rw [if_neg h3]
    by_cases h0 : w % 4 = 0
    · rw [if_pos h0]
      cases hd : p.host.d3
      · rw [Pkg.d0Return_of_d0 hd]
        exact ⟨p.host, .refl _, fun h => absurd h h3, fun _ => hd⟩
      · rw [Pkg.d0Return_of_d3 hd]
        exact ⟨_, .releaseHost p, fun h => absurd h h3, fun _ => rfl⟩
    · rw [if_neg h0]
      exact ⟨p.host, .refl _, fun h => absurd h h3, fun h => absurd h h0⟩

theorem Reports.msixControl (p : Pkg) (en mask : Bool) :
    Reports { p with host := { p.host with msixEn := en, msixMask := mask } } (p.msixControl en mask) := .sendPending _

theorem Pkg.configRequest_unpowered (p : Pkg) (h : p.power.pwrGood = false) (r : ConfigReq) : p.configRequest r = p := if_pos (by simp [h])

section
variable (p : Pkg) (hg : p.power.pwrGood = true)

include hg

theorem Pkg.configRequest_early (hr : p.power.risen = false) (r : ConfigReq) : p.configRequest r = p.complete_ Cpl.retry [] false :=
  (if_neg (by simp [hg])).trans (if_pos (by simp [hr]))

variable (hr : p.power.risen = true)
include hr

theorem Pkg.configRequest_read (off : Nat) : p.configRequest (.read off) = p.complete_ Cpl.success (leBytes 4 (p.configRead off)) false :=
  (if_neg (by simp [hg])).trans (if_neg (by simp [hr]))

theorem Pkg.configRequest_write (off w : Nat) : p.configRequest (.write off w) = (p.configWrite off w).complete_ Cpl.success [] false :=
  (if_neg (by simp [hg])).trans (if_neg (by simp [hr]))

theorem Pkg.configRequest_msix (en mask : Bool) : p.configRequest (.msix en mask) = (p.msixControl en mask).complete_ Cpl.success [] false :=
  (if_neg (by simp [hg])).trans (if_neg (by simp [hr]))

end

end Sys2Proof.Machine
end

section
/-! Register writes of the host (R13, R15): plain registers, read-only ones, and bad accesses. -/

namespace Sys2Proof.Machine

/-! ### Which offsets carry a rule -/

/-- The offsets of the command registers that stand once. -/
def commandOffsets : List Nat :=
  [0x010000, 0x020008, 0x020040, 0x040000, 0x040008, 0x040020, 0x050000, 0x050208, 0x0A0010, 0x0A0210, 0x0A0220, 0x0A0310, 0x0A0560,
   0x0C8018, 0x0E0100, 0x0E0200, 0x0E0308, 0x100000, 0x120010, 0x120028]

theorem Pkg.commandWrite_none (p : Pkg) {o : Nat} (v : Word) (h : o ∉ commandOffsets) : p.commandWrite o v = none := by
  unfold Pkg.commandWrite
  dsimp only
  split
  case h_21 => rfl
  all_goals exact absurd h (by decide)

/-- The offsets of plain registers that lie alone. -/
def plainOffsets : List Nat :=
  [0x010018, 0x020000, 0x050008, 0x050200, 0x050218, 0x050220, 0x050228, 0x050230, 0x050238, 0x050240, 0x050248, 0x060008, 0x0A0018,
   0x0A0200, 0x0A0208, 0x0A0228, 0x0A0518, 0x0C8200, 0x100108, 0x100110, 0x100120, 0x100180, 0x100188, 0x100190, 0x1001A0, 0x120020,
   0x160200, 0x168000]

/-- Whether an offset lies in a run of plain registers: the scratch registers, the apertures, and those of the identity block. -/
def plainRun (o : Nat) : Prop :=
  0x000040 ≤ o ∧ o ≤ 0x000058 ∨ 0x021000 ≤ o ∧ o ≤ 0x0211F8 ∨ 0x0A0520 ≤ o ∧ o ≤ 0x0A0558

theorem plainMask_none {o : Nat} (hr : ¬ plainRun o) (h : o ∉ plainOffsets) : plainMask o = none := by
  unfold plainRun at hr
  unfold plainMask
  rw [if_neg (by omega), if_neg (by omega), if_neg (by omega)]
  split
  case h_29 => rfl
  all_goals exact absurd h (by decide)

/-- Where a plain register lies. -/
theorem plainRun_or_mem {o : Nat} {m : Word} (h : plainMask o = some m) : plainRun o ∨ o ∈ plainOffsets := by
  by_contra hc
  rw [not_or] at hc
  simp [plainMask_none hc.1 hc.2] at h

/-- The offsets of registers with a rule of their own. -/
def ruledOffsets : List Nat :=
  [0x020018, 0x020020, 0x020028, 0x020030, 0x020038, 0x020048, 0x050020, 0x050028, 0x050030, 0x060000, 0x0A0300, 0x0A0308, 0x0C8000,
   0x0C8208, 0x0C8210, 0x0E0110, 0x0E0300, 0x120030, 0x100008, 0x100100]

theorem Pkg.ruledWrite_none (p : Pkg) {o : Nat} (v : Word) (h : o ∉ ruledOffsets) : p.ruledWrite o v = none := by
  unfold Pkg.ruledWrite
  split
  case h_19 => rfl
  all_goals exact absurd h (by decide)

theorem Pkg.faultWrite_none (p : Pkg) {o : Nat} (v : Word) (h : o ∉ ruledOffsets) : p.faultWrite o v = none := by
  unfold Pkg.faultWrite
  split
  case h_3 => rfl
  all_goals exact absurd h (by decide)

/-- Whether an offset lies in a block that a rule covers: the MSI-X table, unmapped space, Easel arguments, memory ports' configuration, ports' and core clocks' commands. -/
def ruledBlock (o : Nat) : Prop :=
  0x8000 ≤ o ∧ o < 0x10000 ∨ 0x140000 ≤ o ∧ o < 0x160000 ∨ 0x010040 ≤ o ∧ o ≤ 0x010078 ∨ 0x0C0000 ≤ o ∧ o < 0x0C8000 ∧ o % 0x400 = 8 ∨
  0x080000 ≤ o ∧ o < 0x098000 ∧ (o % 0x1000 = 0 ∨ o % 0x1000 = 0x10) ∨ 0x161000 ≤ o ∧ o < 0x162800 ∧ o % 0x100 = 0xF8 ∨
  0x0E0000 ≤ o ∧ o < 0x0E0080

/-- A read-only register lies in no such block. -/
theorem roOffset_apart {o : Nat} (h : roOffset o = true) : ¬ plainRun o ∧ ¬ ruledBlock o := by
  rw [roOffset, Bool.or_eq_true] at h
  rcases h with h | h
  · simp only [roListed, Bool.or_eq_true, decide_eq_true_eq, beq_iff_eq] at h
    unfold plainRun ruledBlock
    omega
  · unfold plainRun ruledBlock
    unfold roRepeated at h
    split at h
    · simp only [Bool.or_eq_true, Bool.and_eq_true, decide_eq_true_eq, beq_iff_eq] at h
      omega
    · split at h
      · simp only [Bool.or_eq_true, Bool.and_eq_true, decide_eq_true_eq, beq_iff_eq] at h
        omega
      · split at h
        · simp only [decide_eq_true_eq] at h
          omega
        · split at h
          · omega
          · simp at h

theorem roOffset_not_mem {o : Nat} (h : roOffset o = true) : o ∉ commandOffsets ∧ o ∉ plainOffsets ∧ o ∉ ruledOffsets := by
  have hc : ∀ x ∈ commandOffsets ++ plainOffsets ++ ruledOffsets, roOffset x = false := by decide
  have hn : o ∉ commandOffsets ++ plainOffsets ++ ruledOffsets := fun hm => by simp [hc o hm] at h
  simpa only [List.mem_append, not_or, and_assoc] using hn

/-- A plain register lies in no such block, and in none of a torus port; none of the command registers is one. -/
theorem plain_apart {o : Nat} {m : Word} (h : plainMask o = some m) :
    o ∉ commandOffsets ∧ ¬ ruledBlock o ∧ ¬ (0x7F00 ≤ o ∧ o < 0x10000) ∧ ¬ (0x080000 ≤ o ∧ o < 0x098000) ∧ ¬ (0x161000 ≤ o ∧ o < 0x162800) := by
  unfold ruledBlock
  rcases plainRun_or_mem h with hr | hm
  · unfold plainRun at hr
    simp only [commandOffsets, List.mem_cons, List.not_mem_nil, or_false]
    omega
  · have hc : ∀ x ∈ plainOffsets, x ∉ commandOffsets := by decide
    refine ⟨hc o hm, ?_⟩
    simp only [plainOffsets, List.mem_cons, List.not_mem_nil, or_false] at hm
    omega

/-! ### Aligned writes of whole words -/

section
variable {p : Pkg} {o : Nat} (v : Word)

theorem Pkg.commandPort_none (p : Pkg) (h : ¬ ruledBlock o) : p.commandPort o v = none := by
  unfold ruledBlock at h
  unfold Pkg.commandPort
  by_cases hp : 0x080000 ≤ o ∧ o < 0x098000
  · rw [if_pos hp]
    dsimp only
    split
    · omega
    · omega
    · rfl
  · rw [if_neg hp, if_neg (by omega), if_neg (by omega)]

theorem Pkg.absentPort_false (p : Pkg) (h : ¬ (0x080000 ≤ o ∧ o < 0x098000)) (h' : ¬ (0x161000 ≤ o ∧ o < 0x162800)) : p.absentPort o = false := by
  rw [Pkg.absentPort, decide_eq_false h, decide_eq_false h']
  rfl

theorem Pkg.plainWrite_plain (p : Pkg) {m : Word} (h : plainMask o = some m) : p.plainWrite o v = p.setReg o (v &&& m) := by
  obtain ⟨-, hr, -, hp, ht⟩ := plain_apart h
  unfold ruledBlock at hr
  rw [Pkg.plainWrite, if_neg (by omega), if_neg (by omega), p.absentPort_false hp ht, h]
  rfl

theorem Pkg.plainWrite_ro (p : Pkg) (h : roOffset o = true) : p.plainWrite o v = p := by
  obtain ⟨hrun, hr⟩ := roOffset_apart h
  obtain ⟨-, hm, hu⟩ := roOffset_not_mem h
  unfold ruledBlock at hr
  rw [Pkg.plainWrite, if_neg (by omega), if_neg (by omega), plainMask_none hrun hm, p.ruledWrite_none v hu, p.faultWrite_none v hu]
  simp only [h, if_true, ite_self]

theorem Pkg.registerWrite_off (be : Nat) (hb : p.barPhase = .off) : p.registerWrite o be v = p := by
  simp only [Pkg.registerWrite, hb]

/-- While BAR0 is served, an aligned word written outside the blocks of commands is a plain write. -/
theorem Pkg.registerWrite_word (hb : p.barPhase = .on) (h8 : o % 8 = 0) (hm : ¬ (0x7F00 ≤ o ∧ o < 0x10000)) (hr : ¬ ruledBlock o)
    (hc : o ∉ commandOffsets) : p.registerWrite o 0xFF v = p.plainWrite o v := by
  have ho : o / 8 * 8 = o := by omega
  unfold ruledBlock at hr
  simp only [Pkg.registerWrite, hb, ho]
  rw [if_neg (by simp [hm]), if_neg (by omega), p.commandWrite_none v hc, p.commandPort_none v hr]

/-- The words below the MSI-X table that only the package changes: its pending bits. -/
theorem Pkg.registerWrite_pending (hb : p.barPhase = .on) (h8 : o % 8 = 0) (hm : 0x7F00 ≤ o ∧ o < 0x8000) : p.registerWrite o 0xFF v = p := by
  have ho : o / 8 * 8 = o := by omega
  simp only [Pkg.registerWrite, hb, ho]
  rw [if_pos (by simp; omega), if_pos hm.2]

/-- Any narrower write outside the MSI-X table is a bad access (R13). -/
theorem Pkg.registerWrite_narrow {be : Nat} (hb : p.barPhase = .on) (hbe : be < 256) (hf : be ≠ 0xFF) (hm : ¬ (0x7F00 ≤ o ∧ o < 0x10000)) :
    p.registerWrite o be v = p.badWrite (o / 8 * 8) be v := by
  simp only [Pkg.registerWrite, hb, Nat.mod_eq_of_lt hbe]
  rw [if_neg (by simp; omega), if_pos (.inl hf)]

/-! ### Bad accesses -/

theorem Reports.badWrite (p : Pkg) (off be : Nat) (v : Word) : Reports p (p.badWrite off be v) :=
  ((Reports.bump p _).trans (.setReg _ _ _)).trans (.discardBytes _ _ _ _)

theorem Pkg.badWrite_counted (p : Pkg) (off be : Nat) (v : Word) : (p.badWrite off be v).reg Reg.badAccess = p.reg Reg.badAccess + 1 := by
  rw [Pkg.badWrite, Pkg.discardBytes, Pkg.reg_logEv _ _ _ _ _ (by decide) (by decide), Pkg.reg_bump_ne _ (by decide),
    Pkg.reg_setReg_ne _ _ (by decide), Pkg.reg_bump_same]

theorem logged_badWrite (p : Pkg) (off be : Nat) (v : Word) : Logged (p.badWrite off be v) Ev.regWriteDiscarded Unit.controlDie none :=
  logged_logEv _ _ _ _ _

end

/-! ### The command -/

/-- A register write whose operation leaves package time and the fuses is the operation. -/
theorem exec_registerWrite {s : State} {t o be : Nat} {v : Word} {q : Pkg} (ho : o < 0x1000000) (hbe : be < 256)
    (h : (s.at t).registerWrite o be v = q) (hn : q.now = (s.at t).now) (hf : q.fuses = s.pkg.fuses) :
    exec (.registerWrite t o be v) s = .next { s with pkg := q } := by
  show execRegisterWrite t o be v s = _
  unfold execRegisterWrite
  split
  · subst h
    exact congrArg (fun q => Host.Outcome.next { s with pkg := q }) (Pkg.with_now_fuses hn rfl)
  · rw [State.runIf, if_pos (decide_eq_true ⟨ho, hbe⟩)]
    exact State.run_eq h hn hf

end Sys2Proof.Machine
end

section
/-! The host port's commands as runs of its operations, and what each comes to. -/

namespace Sys2Proof.Machine

section
variable (s : State) (t : Nat)

theorem exec_hostReadCompletion (k : HostRead) (bad : Bool) :
    exec (.hostReadCompletion t k bad) s = s.run t fun p => p.hostReadDone k bad := rfl
theorem exec_hostReadTimeout (k : HostRead) : exec (.hostReadTimeout t k) s = s.run t fun p => p.hostReadTimeout k := rfl
theorem exec_configurationRequest (q : ConfigReq) : exec (.configurationRequest t q) s = s.run t fun p => p.configRequest q := rfl

theorem exec_apertureRead {n off : Nat} (hn : n < 64) (ho : off < 0x80000000) (len : Nat) :
    exec (.apertureRead t n off len) s = s.run t fun p => p.apertureRead n off len := if_pos (decide_eq_true ⟨hn, ho⟩)

theorem exec_apertureWrite {n off : Nat} (hn : n < 64) (ho : off < 0x80000000) (b : Bytes) :
    exec (.apertureWrite t n off b) s = s.run t fun p => p.apertureWrite n off b := if_pos (decide_eq_true ⟨hn, ho⟩)

end

section
variable {s : State} {t : Nat} {f : Pkg → Pkg} {q : Pkg} {status : Nat} {d : Bytes} {bad : Bool}

/-! ### Requests answered -/

/-- A request answered by a package that differs in the host port's state and in reports. -/
theorem Answers.complete {x : HostSt} {P : HostSt → Prop} (h : f (s.at t) = q.complete_ status d bad)
    (hq : Reports { s.at t with host := x } q) (hP : P q.host) :
    Answers (s.run t f) fun u => AnswersRequest s.pkg u.pkg status d bad ∧ P u.pkg.host ∧ WorkKept s u :=
  .run_of h ⟨hq.answers _ _ _, by rwa [← q.complete_host status d bad] at hP, (hq.work_of_host.complete _ _ _).keptAt⟩

/-- A request answered with nothing else done. -/
theorem Answers.completeOnly (h : f (s.at t) = (s.at t).complete_ status d bad) :
    Answers (s.run t f) fun u => AnswersRequest s.pkg u.pkg status d bad ∧ u.pkg.host = s.pkg.host ∧ WorkKept s u :=
  .complete (x := s.pkg.host) (P := fun x => x = s.pkg.host) h (.refl _) rfl

theorem Answers.mono {o : Host.Outcome State Fault Refusal} {P Q : State → Prop} (h : Answers o P) (hPQ : ∀ u, P u → Q u) : Answers o Q := by
  obtain ⟨u, ho, hu⟩ := h
  exact ⟨u, ho, hPQ u hu⟩

/-! ### Configuration requests -/

section
variable (hg : s.pkg.power.pwrGood = true) (hr : s.pkg.power.risen = true)
include hg hr

theorem answers_configWrite {off w : Nat} (h1 : off / 4 * 4 ≠ 0x044) (h2 : off / 4 * 4 ≠ 0x088) (h3 : off / 4 * 4 ≠ 0x104) :
    Answers (exec (.configurationRequest t (.write off w)) s) fun u => AnswersRequest s.pkg u.pkg Cpl.success [] false ∧
      u.pkg.host = (if ((s.at t).cfgDword (off / 4 * 4)).2 = 0 then s.pkg.host else
        { s.pkg.host with config := s.pkg.host.config.set (off / 4 * 4) (w % 2 ^ 32 &&& ((s.at t).cfgDword (off / 4 * 4)).2) }) ∧
      WorkKept s u := by
  have h := (s.at t).configRequest_write hg hr off w
  rw [(s.at t).configWrite_plain w h1 h2 h3] at h
  exact Answers.complete (f := fun p => p.configRequest (.write off w)) (P := (· = _)) h (.refl _) rfl

theorem answers_configWrite_power {off w : Nat} (h : off / 4 * 4 = 0x044) :
    Answers (exec (.configurationRequest t (.write off w)) s) fun u => AnswersRequest s.pkg u.pkg Cpl.success [] false ∧
      ((w % 4 = 3 → u.pkg.host.d3 = true) ∧ (w % 4 = 0 → u.pkg.host.d3 = false)) ∧ WorkKept s u := by
  obtain ⟨x, hx, h3, h0⟩ := Reports.configWrite_power (p := s.at t) hr w h
  have hd : ((s.at t).configWrite off w).host.d3 = x.d3 := by rw [hx.host]
  exact Answers.complete (f := fun p => p.configRequest (.write off w))
    (P := fun y => (w % 4 = 3 → y.d3 = true) ∧ (w % 4 = 0 → y.d3 = false)) ((s.at t).configRequest_write hg hr off w) hx
    ⟨fun h => hd.trans (h3 h), fun h => hd.trans (h0 h)⟩

theorem answers_configMsix (en mask : Bool) :
    Answers (exec (.configurationRequest t (.msix en mask)) s) fun u => AnswersRequest s.pkg u.pkg Cpl.success [] false ∧
      (u.pkg.host.msixEn = en ∧ u.pkg.host.msixMask = mask) ∧ WorkKept s u := by
  have hx := Reports.msixControl (s.at t) en mask
  exact Answers.complete (f := fun p => p.configRequest (.msix en mask)) (P := fun y => y.msixEn = en ∧ y.msixMask = mask)
    ((s.at t).configRequest_msix hg hr en mask) hx ⟨congrArg HostSt.msixEn hx.host, congrArg HostSt.msixMask hx.host⟩

end

/-! ### Link events -/

theorem answers_d0Return (h : s.pkg.host.d3 = true) : Answers (exec (.d0Return t) s) fun u => u.pkg.host.d3 = false ∧ u.pkg.host.held = [] ∧
    (∀ x ∈ s.pkg.host.held, x.1 = false → Output.hostWrite x.2.1 x.2.2 ∈ u.pkg.out) ∧ WorkKept s u :=
  .run_of (Pkg.d0Return_of_d3 h) ⟨Pkg.releaseHost_d3 _, Pkg.releaseHost_held _,
    fun _ hx hw => mem_out_foldl_sendHeld hw _ _ (.inr hx), ((Reports.releaseHost (s.at t)).work_of_host (p := s.at t)).keptAt⟩

theorem answers_perstDeassert (hw : s.pkg.power.waiting = true) (hg : s.pkg.power.pwrGood = true) (ht : s.pkg.power.trip = false)
    (hh : s.pkg.power.supplyHold = false) (ho : s.pkg.power.halted = false) : Answers (exec (.perstDeassert t) s) fun u =>
      u.pkg.power.step = some 2 ∧ u.pkg.power.waiting = false ∧ u.pkg.power.perst = false ∧ WorkKept s u := by
  have hn : ¬ ((s.at t).withPerst false).trips := fun h => Bool.false_ne_true (ht.symm.trans h.2)
  exact .run_of ((Pkg.perstDeassert_of_waiting (p := s.at t) hw).trans (Pkg.beginBringup_of_free hn ⟨hg, rfl, hh, ho⟩))
    ⟨rfl, rfl, rfl, SameWork.kept ⟨rfl, rfl, rfl, rfl, rfl⟩⟩

/-! ### Apertures -/

/-- A good read: the data, with a record where they are poisoned. -/
theorem Answers.readTaken {c : Nat} {r : Rd} (h : f (s.at t) = ((s.at t).readTaken c r).complete_ Cpl.success r.bytes r.poison) :
    Answers (s.run t f) fun u => AnswersRequest s.pkg u.pkg Cpl.success r.bytes r.poison ∧
      (r.poison = true → Logged u.pkg Ev.hostPoisonRead Unit.hostPort (some c)) ∧ u.pkg.mem.bytes = s.pkg.mem.bytes ∧
      u.pkg.ctxs = s.pkg.ctxs ∧ u.pending = s.pending := by
  obtain ⟨hc, hm⟩ := (s.at t).readTaken_kept c r
  exact .run_of h ⟨(Unanswered.readTaken (s.at t) c r).answers _ _ _, fun hp => ((s.at t).readTaken_logged hp).complete _ _ _,
    (congrArg MemSt.bytes (Pkg.complete_mem _ _ _ _)).trans hm, (Pkg.complete_ctxs _ _ _ _).trans hc, rfl⟩

/-- A read that faults: aborted, counted and logged. -/
theorem Answers.readFault {x : Option Nat} (h : f (s.at t) = ((s.at t).apertureFault x).complete_ status d bad) :
    Answers (s.run t f) fun u => AnswersRequest s.pkg u.pkg status d bad ∧
      u.pkg.host.faults = s.pkg.host.faults + 1 ∧ Logged u.pkg Ev.remoteAccessFault Unit.hostPort x ∧ WorkKept s u := by
  obtain ⟨hf, hl, hw⟩ := (faulted_apertureFault (s.at t) x).complete status d bad
  exact .run_of h ⟨(Reports.apertureFault (s.at t) x).answers _ _ _, hf, hl, hw.keptAt⟩

/-- A write that faults: discarded, counted and logged. -/
theorem Answers.writeFault {x : Option Nat} (h : f (s.at t) = (s.at t).apertureFault x) : Answers (s.run t f) fun u =>
    u.pkg.host.faults = s.pkg.host.faults + 1 ∧ Logged u.pkg Ev.remoteAccessFault Unit.hostPort x ∧ WorkKept s u := by
  obtain ⟨hf, hl, hw⟩ := faulted_apertureFault (s.at t) x
  exact .run_of h ⟨hf, hl, hw.keptAt⟩

/-- A write that lands. -/
theorem Answers.writeLands {c va : Nat} {b : Bytes} (h : f (s.at t) = ((s.at t).vWrite c va b false).1) : Answers (s.run t f) fun u =>
    u.pkg.mem = ((s.at t).vWrite c va b false).1.mem ∧ u.pkg.host.faults = s.pkg.host.faults ∧ u.pkg.cores = s.pkg.cores ∧
      u.pkg.tasks = s.pkg.tasks ∧ u.pending = s.pending := by
  have hw := Unanswered.vWrite (s.at t) c va b false
  have hf : ((s.at t).vWrite c va b false).1.host.faults = s.pkg.host.faults := by rw [hw.host]; rfl
  exact .run_of h ⟨rfl, hf, (s.at t).vWrite_cores c va b false, hw.tasks, rfl⟩

/-! ### Reads of host memory -/

/-- The image of an Easel operation has been read: a route table's bank is loading from then on (R520). -/
theorem answers_easelRead {r : EaselRun} (h : s.pkg.easel.run = some r) : Answers (exec (.hostReadCompletion t .easel false) s) fun u =>
    u.pkg.easel = { s.pkg.easel with run := some { r with read := true } } ∧
    (r.op = 3 → u.pkg.bank (r.arg 1) = { s.pkg.bank (r.arg 1) with state := .loading, entries := [] }) ∧
    (r.op ≠ 3 → u.pkg.fab = s.pkg.fab) ∧ WorkKept s u := by
  rw [exec_hostReadCompletion]
  by_cases h3 : r.op = 3
  · exact .run_of (Pkg.easelRead_of_table (p := s.at t) h h3)
      ⟨rfl, fun _ => Tbl.get_set_same _ _ _ _, fun h => absurd h3 h, SameWork.kept ⟨rfl, rfl, rfl, rfl, rfl⟩⟩
  · exact .run_of (Pkg.easelRead_of_other (p := s.at t) h h3)
      ⟨rfl, fun h => absurd h h3, fun _ => rfl, SameWork.kept ⟨rfl, rfl, rfl, rfl, rfl⟩⟩

/-- A read of an Easel operation's image that fails before the whole image has been read ends the operation. -/
theorem Answers.readEnds {r : EaselRun} {code : Nat} (h : f (s.at t) = (s.at t).hostReadFailed .easel code) (hr : s.pkg.easel.run = some r)
    (hread : r.read = false) : Answers (s.run t f) fun u => u.pkg.host.readErrors = s.pkg.host.readErrors + 1 ∧
      u.pkg.host.aer = s.pkg.host.aer + 1 ∧ EaselEnded s.pkg u.pkg code [] ∧ WorkKept s u := by
  refine .run_of (h.trans (Pkg.hostReadFailed_easel (p := s.at t) hr hread code)) ?_
  have hrun : ((s.at t).readMissed (missBit code)).easel.run = some r := hr
  have hq := Reports.easelEnd hrun code []
  exact ⟨congrArg HostSt.readErrors hq.host, congrArg HostSt.aer hq.host, easelEnded_easelEnd hrun code [],
    (SameWork.trans (p := s.at t) (q := ((s.at t).readMissed (missBit code)).easelIdle code []) ⟨rfl, rfl, rfl, rfl, rfl⟩ hq.work).keptAt⟩

/-- A timeout of the read of an axis map refuses the load. -/
theorem answers_axisMapTimeout (x : Nat) : Answers (exec (.hostReadTimeout t .axisMap) s) fun u =>
    u.pkg.host.readErrors = s.pkg.host.readErrors + 1 ∧ u.pkg.fab.axErr.get x s.pkg.axSel = Code.invalidDescriptor ∧
    u.pkg.fab.maps = s.pkg.fab.maps ∧ Logged u.pkg Ev.axmapCmdRefused Unit.controlDie none ∧ WorkKept s u := by
  rw [exec_hostReadTimeout]
  refine .run_of ((s.at t).hostReadFailed_axisMap Code.timeout) ?_
  have hq := Reports.axRefuse ((s.at t).readMissed (missBit Code.timeout)) Code.invalidDescriptor
  have hm := congrArg Fabric.maps hq.fab
  have he := congrArg (fun fab : Fabric => fab.axErr.get x s.pkg.axSel) hq.fab
  have hw : SameWork (s.at t) (((s.at t).readMissed (missBit Code.timeout)).setAxErr Code.invalidDescriptor) := ⟨rfl, rfl, rfl, rfl, rfl⟩
  exact ⟨congrArg HostSt.readErrors hq.host, he.trans (Tbl.get_set_same _ _ _ _), hm, logged_logWith _ _ _ _ _ _ _, (hw.trans hq.work).keptAt⟩

/-! ### Registers -/

theorem exec_registerWrite_plain {o : Nat} {v m : Word} (ho : o < 0x1000000) (hb : (s.at t).barPhase = .on) (h8 : o % 8 = 0)
    (hm : plainMask o = some m) : exec (.registerWrite t o 0xFF v) s = .next { s with pkg := (s.at t).setReg o (v &&& m) } := by
  obtain ⟨hc, hr, hx, -, -⟩ := plain_apart hm
  exact exec_registerWrite ho (by decide) ((Pkg.registerWrite_word v hb h8 hx hr hc).trans (Pkg.plainWrite_plain v _ hm)) rfl rfl

theorem exec_registerWrite_ro {o : Nat} {v : Word} (ho : o < 0x1000000) (hb : (s.at t).barPhase = .on) (h8 : o % 8 = 0)
    (hro : roOffset o = true) : exec (.registerWrite t o 0xFF v) s = .next { s with pkg := s.at t } := by
  obtain ⟨-, hr⟩ := roOffset_apart hro
  obtain ⟨hc, -, -⟩ := roOffset_not_mem hro
  by_cases hx : 0x7F00 ≤ o ∧ o < 0x8000
  · exact exec_registerWrite ho (by decide) (Pkg.registerWrite_pending v hb h8 hx) rfl rfl
  · have hx' : ¬ (0x7F00 ≤ o ∧ o < 0x10000) := by
      unfold ruledBlock at hr
      omega
    exact exec_registerWrite ho (by decide) ((Pkg.registerWrite_word v hb h8 hx' hr hc).trans (Pkg.plainWrite_ro v _ hro)) rfl rfl

theorem answers_registerWrite_narrow {o be : Nat} {v : Word} (ho : o < 0x1000000) (hbe : be < 256) (hb : (s.at t).barPhase = .on)
    (hf : be ≠ 0xFF) (hx : ¬ (0x7F00 ≤ o ∧ o < 0x10000)) : Answers (exec (.registerWrite t o be v) s) fun u =>
      u.pkg.reg Reg.badAccess = s.pkg.reg Reg.badAccess + 1 ∧ Logged u.pkg Ev.regWriteDiscarded Unit.controlDie none ∧ WorkKept s u := by
  have hq := Reports.badWrite (s.at t) (o / 8 * 8) be v
  exact ⟨_, exec_registerWrite ho hbe (Pkg.registerWrite_narrow v hb hbe hf hx) hq.now hq.fuses,
    (s.at t).badWrite_counted _ _ _, logged_badWrite _ _ _ _, hq.work.keptAt⟩

end

end Sys2Proof.Machine
end

section
open Sys2Proof Sys2Proof.Machine

/-- Settles O50: each clause is the case of its operation, carried over to the command. -/
theorem hostPort : Obligations.HostPort := by
  intro s t n off len be v b hn hoff p power host a c va answer faulted read write fails misses
  refine ⟨fun h => ⟨?_, ?_⟩, fun h => ?_, fun h hp => ?_, fun h => ?_, fun h => ?_, fun hw hg ht hh ho => answers_perstDeassert hw hg ht hh ho,
    fun h => ?_, fun h => ?_, answers_d0Return, fun h => ?_, fun hb he => ⟨fun hp hf => ?_, fun h => ?_⟩, fun h => ?_, fun hb he => ?_,
    fun hb he => ⟨fun h => ?_, fun h => ?_⟩, fun k h => ?_, fun r h => answers_easelRead h, fun k h => ⟨?_, ?_⟩, ?_, ?_,
    answers_axisMapTimeout, fun o ho hbe => ⟨fun h => ?_, fun m hb hf h8 hm => ?_, fun hb hf h8 hro => ?_, fun hb hf hx => ?_⟩,
    fun h => ?_, fun h => ?_, ?_⟩
  -- link events and power states
  · exact State.run_eq (Pkg.hotReset_of_not_risen h) rfl rfl
  · exact State.run_eq (Pkg.d3Entry_of_not_risen h) rfl rfl
  · exact .hostReset (Pkg.hotReset_of_risen h) rfl rfl ⟨packageReset_resetNow _ _ _, rfl⟩
  · exact .hostReset (Pkg.perstAssert_resets h hp) rfl rfl
      ⟨packageReset_resetNow _ _ _, Pkg.resetNow_perst _ _ _, rfl⟩
  · exact State.run_eq (Pkg.perstAssert_ignored h) rfl rfl
  · exact State.run_eq (Pkg.perstDeassert_of_not_waiting h) rfl rfl
  · exact State.run_eq (Pkg.d3Entry_of_risen h) rfl rfl
  · exact State.run_eq (Pkg.d0Return_of_d0 h) rfl rfl
  -- apertures
  · exact (exec_apertureRead s t hn hoff len) ▸ (Answers.completeOnly (Pkg.apertureRead_unserved len h)).mono fun u ⟨ha, _, hw⟩ => ⟨ha, hw⟩
  · exact (exec_apertureRead s t hn hoff len) ▸ .readTaken (Pkg.apertureRead_good hn hoff hb he hp hf)
  · exact (exec_apertureRead s t hn hoff len) ▸ .readFault (Pkg.apertureRead_faults hn hoff hb he h)
  · exact (exec_apertureWrite s t hn hoff b).trans (State.run_eq (Pkg.apertureWrite_off b h) rfl rfl)
  · exact (exec_apertureWrite s t hn hoff b) ▸ .writeFault (Pkg.apertureWrite_disabled b hb he)
  · exact (exec_apertureWrite s t hn hoff b) ▸ .writeLands (Pkg.apertureWrite_lands hn hoff hb he h)
  · exact (exec_apertureWrite s t hn hoff b) ▸ .writeFault (Pkg.apertureWrite_faults hn hoff hb he h)
  -- reads of host memory
  · exact (exec_hostReadCompletion s t k false).trans (State.run_eq (Pkg.hostReadDone_same (p := s.at t) h) rfl rfl)
  · exact (exec_hostReadCompletion s t k true).trans (State.run_eq ((s.at t).hostReadFailed_ring h _) rfl rfl)
  · exact (exec_hostReadTimeout s t k).trans (State.run_eq ((s.at t).hostReadFailed_ring h _) rfl rfl)
  · rintro ⟨r, hr, hread⟩
    exact .readEnds (f := fun p => p.hostReadDone .easel true) rfl hr hread
  · rintro ⟨r, hr, hread⟩
    exact .readEnds (f := fun p => p.hostReadTimeout .easel) rfl hr hread
  -- registers
  · exact exec_registerWrite ho hbe (Pkg.registerWrite_off v be h) rfl rfl
  · exact hf ▸ exec_registerWrite_plain ho hb h8 hm
  · exact hf ▸ exec_registerWrite_ro ho hb h8 hro
  · exact answers_registerWrite_narrow ho hbe hb hf hx
  · exact .completeOnly (f := Pkg.badRead) (if_pos h)
  · exact (Answers.complete (f := Pkg.badRead) (P := fun x => x.aer = host.aer + 1) (if_neg h) (.refl _) rfl).mono fun u h => h
  -- configuration requests
  · refine ⟨fun q hg => (exec_configurationRequest s t q).trans (State.run_eq ((s.at t).configRequest_unpowered hg q) rfl rfl),
      fun q hg hr => .completeOnly (f := fun p => p.configRequest q) ((s.at t).configRequest_early hg hr q),
      fun ⟨hg, hr⟩ => .completeOnly (f := fun p => p.configRequest (.read off)) ((s.at t).configRequest_read hg hr off),
      fun x hx hd => (s.at t).configRead_given hx hd, fun hd => Pkg.configRead_bar0 hd,
      fun hd => Pkg.configRead_of_fixed (by rw [hd]; rfl),
      fun w ⟨hg, hr⟩ h1 h2 h3 => (answers_configWrite hg hr h1 h2 h3).mono fun u ⟨ha, hh, hw⟩ => ⟨ha, hw, hh⟩,
      fun w ⟨hg, hr⟩ hd => (answers_configWrite_power hg hr hd).mono fun u ⟨ha, hh, hw⟩ => ⟨ha, hw, hh⟩,
      fun en m ⟨hg, hr⟩ => (answers_configMsix hg hr en m).mono fun u ⟨ha, hh, hw⟩ => ⟨ha, hw, hh⟩⟩
end

section
/-! What a command can do, and what every one of them keeps: the queue behind it, package time, the fuses (R33, R469, R588, R592). -/

namespace Sys2Proof.Machine

/-! ### Fuses -/

theorem Fuses.Later.refl (f : Fuses) : f.Later f :=
  ⟨rfl, rfl, rfl, rfl, rfl, rfl, rfl, rfl, rfl, rfl, rfl, Nat.le_refl _, fun _ h => h⟩

/-- The fuses once COMMIT_VERSION has committed an image's header (R588). -/
def Fuses.committed (f : Fuses) (h : Bytes) : Fuses :=
  { f with
    minSec := min 64 (max f.minSec (fwSecurity h))
    revoked := f.revoked ||| (le h 19 1 % 16 &&& (15 - 2 ^ (fwKeySlot h % 4))) }

theorem Fuses.later_committed {f : Fuses} (hf : f.Legal) (h : Bytes) : f.Later (f.committed h) := by
  obtain ⟨-, -, hsec, -⟩ := hf
  refine ⟨rfl, rfl, rfl, rfl, rfl, rfl, rfl, rfl, rfl, rfl, rfl, ?_, fun i hi => ?_⟩
  · exact le_min hsec (le_max_left _ _)
  · simp only [Fuses.committed, Nat.testBit_or, hi, Bool.true_or]

theorem Fuses.legal_committed {f : Fuses} (hf : f.Legal) (h : Bytes) : (f.committed h).Legal := by
  obtain ⟨hlo, hhi, -, hrev⟩ := hf
  refine ⟨hlo, hhi, min_le_left _ _, ?_⟩
  have hmask : le h 19 1 % 16 &&& (15 - 2 ^ (fwKeySlot h % 4)) < 2 ^ 4 :=
    Nat.and_le_left.trans_lt (Nat.mod_lt _ (by decide))
  exact Nat.or_lt_two_pow hrev hmask

/-- COMMIT_VERSION blows the fuses of the running image's header, or none. -/
theorem Pkg.commitVersion_fuses (p : Pkg) :
    p.commitVersion.fuses = p.fuses ∨ p.commitVersion.fuses = p.fuses.committed p.sec.header := by
  unfold Pkg.commitVersion Pkg.hostWrite Pkg.setup
  split
  · exact .inl rfl
  · dsimp only
    split
    · exact .inl (p.discard_fuses _ _)
    · exact .inr (Pkg.logEv_fuses _ _ _ _ _)
  · exact .inl (p.discard_fuses _ _)

theorem Pkg.commitVersion_onward {p : Pkg} (hf : p.fuses.Legal) : p.fuses.Later p.commitVersion.fuses ∧ p.commitVersion.fuses.Legal := by
  obtain h | h := p.commitVersion_fuses <;> rw [h]
  · exact ⟨.refl _, hf⟩
  · exact ⟨Fuses.later_committed hf _, Fuses.legal_committed hf _⟩

/-- A register write that commits the version is COMMIT_VERSION. -/
theorem Pkg.registerWrite_commits {o be : Nat} {v : Word} (h : commitsVersion o be v = true) (p : Pkg) :
    p.registerWrite o be v = p.commitVersion := by
  simp only [commitsVersion, Bool.and_eq_true, beq_iff_eq] at h
  obtain ⟨⟨ho, rfl⟩, hv⟩ := h
  have hcmd : p.commandWrite Reg.secCmd v = some p.commitVersion := congrArg some (if_pos hv)
  unfold Pkg.registerWrite
  rw [ho]
  dsimp only
  rw [hcmd]
  cases hb : p.barPhase
  · exact (Pkg.hostWrite_off hb).symm
  · rfl
  · rfl

/-! ### What a command can do -/

theorem State.runIf_ok {ok : Bool} (h : ok = true) (s : State) (t : Nat) (f : Pkg → Pkg) : s.runIf ok t f = s.run t f := if_pos h

/-- What a well-formed command can do: an operation at its time, the same with leave to blow fuses, or package time anew. Each goes with the kind of the command. -/
inductive Meaning (i : Instr) (s : State) (o : Host.Outcome State Fault Refusal) : Prop where
  | run (f : Pkg → Pkg) (hc : i.commits = false) (hr : i.restarts s.pkg = false) (h : o = s.run i.time f)
  | commit (hc : i.commits = true) (hr : i.restarts s.pkg = false) (h : o = s.runFuses i.time Pkg.commitVersion)
  | restart (f : Pkg → Pkg) (hc : i.commits = false) (hr : i.restarts s.pkg = true) (h : o = s.restart f)

/-- A register write blows fuses where it is COMMIT_VERSION, and is an operation everywhere else. -/
theorem meaning_registerWrite {t o be : Nat} {v : Word} (hw : (Instr.registerWrite t o be v).wf = true) (s : State) :
    Meaning (.registerWrite t o be v) s (exec (.registerWrite t o be v) s) := by
  by_cases hv : commitsVersion o be v = true
  · refine .commit hv rfl ((if_pos hv).trans ?_)
    exact congrArg (s.runFuses t) (funext (Pkg.registerWrite_commits hv))
  · exact .run _ (Bool.eq_false_iff.2 hv) rfl ((if_neg hv).trans (State.runIf_ok hw s t _))

/-- SUPPLY_RESET starts package time anew where VDD_CTL is lost. -/
theorem meaning_supplyReset {t : Nat} {level : RailLevel} (hw : (Instr.supplyReset t level).wf = true) (s : State) :
    Meaning (.supplyReset t level) s (exec (.supplyReset t level) s) := by
  have hexec : exec (.supplyReset t level) s = if level.rail = 11 ∧ s.pkg.belowReset 11 level.mv = true
      then s.restart fun p => p.standby false else s.run t fun p => p.supplyReset level :=
    if_neg (by simpa [Instr.wf] using hw)
  have hkind : (Instr.supplyReset t level).restarts s.pkg = true ↔ level.rail = 11 ∧ s.pkg.belowReset 11 level.mv = true := by
    simp only [Instr.restarts, Bool.and_eq_true, beq_iff_eq]
  by_cases hl : level.rail = 11 ∧ s.pkg.belowReset 11 level.mv = true
  · exact .restart _ rfl (hkind.2 hl) (hexec.trans (if_pos hl))
  · exact .run _ rfl (Bool.eq_false_iff.2 (mt hkind.1 hl)) (hexec.trans (if_neg hl))

/-- Every other command is an operation, where the units that it names exist. -/
theorem exec_meaning {i : Instr} (hw : i.wf = true) (s : State) : Meaning i s (exec i s) := by
  cases i with
  | commitVersion t => exact .commit rfl rfl rfl
  | vddCtlApplied t => exact .restart (·.standby true) rfl rfl rfl
  | registerWrite t o be v => exact meaning_registerWrite hw s
  | supplyReset t level => exact meaning_supplyReset hw s
  | _ => exact .run _ rfl rfl (State.runIf_ok hw s _ _)

/-! ### What every command keeps -/

/-- From `s` to `u` by command `i`: the queue behind the command stays, fuses go one way and stay legal, and package time goes on or starts anew, each as the kind of the command says. -/
structure Onward (i : Instr) (s u : State) : Prop where
  queue   : u.pending = s.pending
  legal   : u.pkg.fuses.Legal
  later   : s.pkg.fuses.Later u.pkg.fuses
  unblown : i.commits = false → u.pkg.fuses = s.pkg.fuses
  anew    : i.restarts s.pkg = true → u.pkg.now = 0
  onward  : i.restarts s.pkg = false → s.pkg.now ≤ u.pkg.now

theorem exec_onward {i : Instr} {s : State} (hw : i.wf = true) (hf : s.pkg.fuses.Legal) : Answers (exec i s) (Onward i s) := by
  cases exec_meaning hw s with
  | run f hc hr h =>
    exact ⟨_, h, { queue := rfl, legal := hf, later := .refl _, unblown := fun _ => rfl
                   anew := fun ha => absurd (hr.symm.trans ha) Bool.false_ne_true, onward := fun _ => le_max_left _ _ }⟩
  | commit hc hr h =>
    obtain ⟨hlater, hlegal⟩ := Pkg.commitVersion_onward (p := s.pkg.tick i.time) hf
    exact ⟨_, h, { queue := rfl, legal := hlegal, later := hlater, unblown := fun hn => absurd (hn.symm.trans hc) Bool.false_ne_true
                   anew := fun ha => absurd (hr.symm.trans ha) Bool.false_ne_true, onward := fun _ => le_max_left _ _ }⟩
  | restart f hc hr h =>
    exact ⟨_, h, { queue := rfl, legal := hf, later := .refl _, unblown := fun _ => rfl
                   anew := fun _ => rfl, onward := fun hn => absurd (hn.symm.trans hr) Bool.false_ne_true }⟩

end Sys2Proof.Machine

open Sys2Proof Sys2Proof.Machine

/-- Settles O60: an empty queue idles, and the front command of any other goes on as its kind says. -/
theorem stepKeepsInvariant : Obligations.StepKeepsInvariant := by
  rintro ⟨p, queue⟩ ⟨hf, hq⟩
  cases queue with
  | nil => exact ⟨_, rfl, ⟨hf, hq⟩, rfl, .refl _, fun _ => rfl, nofun, fun _ => le_rfl⟩
  | cons i rest =>
    obtain ⟨hi, hrest⟩ := List.forall_mem_cons.1 hq
    obtain ⟨u, hu, ho⟩ := exec_onward (s := ⟨p, rest⟩) hi hf
    refine ⟨u, hu, ⟨ho.legal, ho.queue ▸ hrest⟩, ho.queue, ho.later, fun h => ho.unblown (h i rfl), ?_, fun h => ho.onward (h i rfl)⟩
    rintro _ _ ⟨⟩
    exact ho.anew
end

section
/-! The package right after VDD_CTL is applied (R471, R533, R619). -/

namespace Sys2Proof.Machine

theorem Fuses.legal_reset : State.reset.pkg.fuses.Legal := ⟨by decide, by decide, by decide, by decide⟩

/-- With PWR_GOOD low bring-up has not begun, and no interface drives its balls; SB_SDA alone needs no more than VDD_CTL. -/
theorem Pkg.drive_reset {o : OutPin} (h : o ≠ .sbSda) : State.reset.pkg.drive o = .released := by
  cases o with
  | sbSda => exact absurd rfl h
  | torusTx n =>
    have hdown : decide (2 ≤ (State.reset.pkg.port n).state) = false := rfl
    exact if_neg (by rw [hdown, Bool.and_false]; exact Bool.false_ne_true)
  | _ => rfl

end Sys2Proof.Machine

open Sys2Proof Sys2Proof.Machine

/-- Settles O59: the fuses of the reset state are legal and every table in it is empty. -/
theorem resetIsLegal : Obligations.ResetIsLegal :=
  ⟨⟨Fuses.legal_reset, nofun⟩, rfl, rfl, rfl, fun _ => rfl, rfl, rfl, rfl, rfl, fun _ => Pkg.drive_reset⟩
end

section
/-! The end of the maintenance slot: what a retrain's end, the patrol scrub and the vote of the critical words leave as it was (R54, R443, R444, R456, R459). -/

namespace Sys2Proof.Machine

variable {p q r s : Pkg}

theorem Pkg.memPort_updMemPort (s : Pkg) (n : Nat) (f : MemPort → MemPort) (m : Nat) :
    (s.updMemPort n f).memPort m = if m = n then f (s.memPort n) else s.memPort m := Tbl.get_set _ _ _ _ _

/-- `q` holds what `p` holds, but for reports, checks of granules and the windows in which memory ports count their corrections. -/
structure Scrubs (p q : Pkg) : Prop where
  stroke   : q.stroke = p.stroke
  bytes    : q.mem.bytes = p.mem.bytes
  ctxs     : q.ctxs = p.ctxs
  tasks    : q.tasks = p.tasks
  cores    : q.cores = p.cores
  clusters : q.clusters = p.clusters
  rst      : q.rst = p.rst
  tmr      : q.reg Reg.tmrCorrected = p.reg Reg.tmrCorrected
  ports    : ∀ n, q.memPort n = { p.memPort n with window := (q.memPort n).window }

theorem Scrubs.refl (p : Pkg) : Scrubs p p := ⟨rfl, rfl, rfl, rfl, rfl, rfl, rfl, rfl, fun _ => rfl⟩

theorem Scrubs.trans (h : Scrubs p q) (k : Scrubs q r) : Scrubs p r :=
  ⟨k.stroke.trans h.stroke, k.bytes.trans h.bytes, k.ctxs.trans h.ctxs, k.tasks.trans h.tasks, k.cores.trans h.cores,
    k.clusters.trans h.clusters, k.rst.trans h.rst, k.tmr.trans h.tmr, fun n => by rw [k.ports n, h.ports n]⟩

theorem Scrubs.foldl {α : Type} {f : Pkg → α → Pkg} (h : ∀ s x, Scrubs s (f s x)) (l : List α) (p : Pkg) : Scrubs p (l.foldl f p) := by
  induction l generalizing p with
  | nil => exact .refl p
  | cons x l ih => exact (h p x).trans (ih _)

theorem Scrubs.bump (p : Pkg) {o : Nat} (h : Reg.tmrCorrected ≠ o) : Scrubs p (p.bump o) :=
  ⟨rfl, rfl, rfl, rfl, rfl, rfl, rfl, p.reg_bump_ne h, fun _ => rfl⟩

theorem Scrubs.logEv (p : Pkg) (event unit : Nat) (ctx : Option Nat) (detail : Bytes) : Scrubs p (p.logEv event unit ctx detail) where
  stroke := p.logEv_stroke _ _ _ _
  bytes := congrArg MemSt.bytes (p.logEv_mem _ _ _ _)
  ctxs := p.logEv_ctxs _ _ _ _
  tasks := p.logEv_tasks _ _ _ _
  cores := p.logEv_cores _ _ _ _
  clusters := p.logEv_clusters _ _ _ _
  rst := p.logEv_rst _ _ _ _
  tmr := p.reg_logEv _ _ _ _ (by decide) (by decide)
  ports n := by simp [Pkg.memPort]

theorem Reg.mpBlock_ne_tmr {o : Nat} (n : Nat) (h : o % 0x400 ≠ 0x128) : Reg.tmrCorrected ≠ Reg.mpBlock n + o := by
  unfold Reg.tmrCorrected Reg.mpBlock
  omega

theorem Scrubs.poisonGranule (p : Pkg) (g finder : Nat) : Scrubs p (p.poisonGranule g finder) :=
  have h0 : Scrubs p (p.setMem { p.mem with poison := p.mem.poison.ins g, valid := p.mem.valid.del g, double := p.mem.double.del g }) :=
    ⟨rfl, rfl, rfl, rfl, rfl, rfl, rfl, rfl, fun _ => rfl⟩
  (h0.trans (.bump _ (Reg.mpBlock_ne_tmr _ (by decide)))).trans (.logEv _ _ _ _ _)

theorem Scrubs.correct (p : Pkg) (g : Nat) : Scrubs p (p.correct g) := by
  refine ⟨rfl, rfl, rfl, rfl, rfl, rfl, rfl, p.reg_bump_ne (Reg.mpBlock_ne_tmr _ (by decide)), fun n => ?_⟩
  have h : (p.correct g).memPort n = (p.updMemPort (granulePort g) fun x => { x with window := x.window + 1 }).memPort n := rfl
  rw [h, Pkg.memPort_updMemPort]
  split
  · subst_vars; rfl
  · rfl

theorem Scrubs.scrubGranule (p : Pkg) (finder g : Nat) : Scrubs p (p.scrubGranule finder g) := by
  unfold Pkg.scrubGranule
  split
  · exact .refl p
  · split
    · exact (Scrubs.bump p (by decide)).trans (.poisonGranule _ _ _)
    · split
      · exact (Scrubs.bump p (by decide)).trans (.correct _ _)
      · exact .refl p

/-- A change of where the sweep stands. -/
theorem Scrubs.sweep (p : Pkg) (granule sweeps sweepAt : Nat) (behind : Bool) :
    Scrubs p { p with msys := { p.msys with granule := granule, sweeps := sweeps, sweepAt := sweepAt, behind := behind } } :=
  ⟨rfl, rfl, rfl, rfl, rfl, rfl, rfl, rfl, fun _ => rfl⟩

theorem Scrubs.slotScrub (p : Pkg) (retrained : Bool) : Scrubs p (p.slotScrub retrained) := by
  unfold Pkg.slotScrub
  dsimp only
  split
  · exact .refl p
  · have h (gs : List Nat) (a : Nat) : Scrubs p { gs.foldl (fun s g => s.scrubGranule 1 g) p with
        msys := { (gs.foldl (fun s g => s.scrubGranule 1 g) p).msys with granule := a } } :=
      (Scrubs.foldl (fun s g => .scrubGranule s 1 g) gs p).trans (.sweep _ _ _ _ _)
    have late (x : Pkg) : Scrubs x { x.logEv Ev.scrubBehind Unit.controlDie none [] with msys := { x.msys with behind := true } } := by
      have e := Scrubs.logEv x Ev.scrubBehind Unit.controlDie none []
      exact ⟨e.stroke, e.bytes, e.ctxs, e.tasks, e.cores, e.clusters, e.rst, e.tmr, fun _ => rfl⟩
    split
    · split
      · exact ((h _ _).trans (late _)).trans (.sweep _ _ _ _ _)
      · exact (h _ _).trans (late _)
    · split
      · exact (h _ _).trans (.sweep _ _ _ _ _)
      · exact h _ _

/-! ### Retrains that end -/

/-- A memory port after its retrain. -/
def MemPort.retrained (x : MemPort) (stroke now : Nat) : MemPort :=
  { x with state := 2, turn := false, waiting := 0, abandoned := 0, last := stroke, lastAt := now, tempAt := x.temp }

theorem Pkg.memPort_retrainEnd (s : Pkg) (n m : Nat) : (s.retrainEnd n).memPort m =
    if m = n ∧ (s.memPort m).state = 3 then (s.memPort m).retrained s.stroke.number s.now else s.memPort m := by
  unfold Pkg.retrainEnd
  by_cases hn : (s.memPort n).state = 3
  · rw [if_neg (not_not.2 hn), Pkg.memPort_updMemPort]
    by_cases hm : m = n
    · subst hm
      rw [if_pos rfl, if_pos ⟨rfl, hn⟩]
      rfl
    · rw [if_neg hm, if_neg fun h => hm h.1]
      rfl
  · rw [if_pos hn, if_neg]
    rintro ⟨rfl, h⟩
    exact hn h

/-- What a retrain's end leaves: everything but its port and its port's counter. -/
theorem Pkg.retrainEnd_kept (s : Pkg) (n : Nat) : s.retrainEnd n = { s with regs := (s.retrainEnd n).regs, msys := (s.retrainEnd n).msys } ∧
    (s.retrainEnd n).reg Reg.tmrCorrected = s.reg Reg.tmrCorrected := by
  unfold Pkg.retrainEnd
  split
  · exact ⟨rfl, rfl⟩
  · exact ⟨rfl, s.reg_bump_ne (Reg.mpBlock_ne_tmr n (by decide))⟩

/-- The retrains of a list of ports ended. -/
def Pkg.retrainEnds (s : Pkg) (ns : List Nat) : Pkg := ns.foldl (fun s n => s.retrainEnd n) s

theorem Pkg.retrainEnds_kept (s : Pkg) (ns : List Nat) :
    s.retrainEnds ns = { s with regs := (s.retrainEnds ns).regs, msys := (s.retrainEnds ns).msys } ∧
    (s.retrainEnds ns).reg Reg.tmrCorrected = s.reg Reg.tmrCorrected := by
  induction ns generalizing s with
  | nil => exact ⟨rfl, rfl⟩
  | cons n ns ih =>
    obtain ⟨he, hr⟩ := s.retrainEnd_kept n
    obtain ⟨ihe, ihr⟩ := ih (s.retrainEnd n)
    refine ⟨?_, ihr.trans hr⟩
    show (s.retrainEnd n).retrainEnds ns = { s with regs := ((s.retrainEnd n).retrainEnds ns).regs, msys := ((s.retrainEnd n).retrainEnds ns).msys }
    generalize (s.retrainEnd n).retrainEnds ns = z at ihe ⊢
    rw [he] at ihe
    exact ihe

theorem Pkg.memPort_retrainEnds (s : Pkg) (ns : List Nat) (m : Nat) : (s.retrainEnds ns).memPort m =
    if m ∈ ns ∧ (s.memPort m).state = 3 then (s.memPort m).retrained s.stroke.number s.now else s.memPort m := by
  induction ns generalizing s with
  | nil => simp [Pkg.retrainEnds]
  | cons n ns ih =>
    have hk := (s.retrainEnd_kept n).1
    have hs : (s.retrainEnd n).stroke = s.stroke := by rw [hk]
    have hn : (s.retrainEnd n).now = s.now := by rw [hk]
    refine (ih (s.retrainEnd n)).trans ?_
    rw [Pkg.memPort_retrainEnd, hs, hn]
    by_cases h3 : (s.memPort m).state = 3
    · by_cases hm : m = n
      · simp [hm ▸ h3, hm, MemPort.retrained]
      · simp [h3, hm]
    · simp [h3]

/-! ### The critical words -/

theorem Tbl.get_nil_of_sum {t : Tbl NatSet} (h : (t.vals.map (·.length)).sum = 0) (w : Nat) : t.get [] w = [] := by
  induction t with
  | nil => rfl
  | cons x t ih =>
    obtain ⟨k, v⟩ := x
    obtain ⟨hv, ht⟩ : v.length = 0 ∧ (Tbl.vals t |>.map (·.length)).sum = 0 := by simpa [Tbl.vals] using h
    simp only [Tbl.get, Tbl.find]
    split
    · exact List.length_eq_zero_iff.1 hv
    · exact ih ht

theorem Pkg.revote_copies (s : Pkg) (w : Nat) : s.revote.rst.copies.get [] w = [] := by
  unfold Pkg.revote
  dsimp only
  split
  · exact Tbl.get_nil_of_sum ‹_› w
  · rfl

theorem Pkg.revote_kept (s : Pkg) : s.revote = { s with regs := s.revote.regs, rst := s.revote.rst } ∧ s.revote.reg Reg.tmrCorrected =
    s.reg Reg.tmrCorrected + BitVec.ofNat 64 ((s.rst.copies.vals.map (·.length)).sum) := by
  unfold Pkg.revote
  dsimp only
  split
  · rename_i h
    exact ⟨rfl, by simp [h]⟩
  · exact ⟨rfl, s.reg_bumpBy_same _ _⟩

/-! ### The slot's end -/

/-- The ports whose retrain ends with the slot: those that retrain, but for the one that an Easel operation retrains. -/
def Pkg.slotRetrains (s : Pkg) : List Nat :=
  let own := s.easel.run.bind fun (r : EaselRun) => if r.op = 6 then some (r.args.getD 0 0) else none
  (List.range 32).filter fun n => (s.memPort n).state == 3 && own != some n

theorem Pkg.mem_slotRetrains (he : s.easel.run = none) {n : Nat} (hn : n < 32) (h : (s.memPort n).state = 3) : n ∈ s.slotRetrains := by
  simp [Pkg.slotRetrains, he, hn, h]

theorem Pkg.slotEnd_of_slot (h : s.stroke.inSlot = true) :
    let u := ((s.retrainEnds s.slotRetrains).slotScrub !s.slotRetrains.isEmpty).revote
    s.slotEnd = { u with stroke := { u.stroke with inSlot := false } } := by
  rw [Pkg.slotEnd, if_neg (by simp [h])]
  rfl

theorem Pkg.slotEnd_of_no_slot (h : s.stroke.inSlot = false) : s.slotEnd = s := if_pos (by simp [h])

end Sys2Proof.Machine

open Sys2Proof Sys2Proof.Machine

/-- Settles O16: the slot's end is the end of its retrains, then the scrub, then the vote; each keeps what it does not name. -/
theorem slotEnds : Obligations.SlotEnds := by
  intro s t p
  refine ⟨fun h => State.run_eq (Pkg.slotEnd_of_no_slot (s := p) h) rfl rfl, fun h => Answers.run_of (Pkg.slotEnd_of_slot (s := p) h) ?_⟩
  obtain ⟨hk, htmr⟩ := p.retrainEnds_kept p.slotRetrains
  have hports := p.memPort_retrainEnds p.slotRetrains
  have hscrub := Scrubs.slotScrub (p.retrainEnds p.slotRetrains) !p.slotRetrains.isEmpty
  generalize p.retrainEnds p.slotRetrains = a at hk htmr hports hscrub ⊢
  generalize a.slotScrub (!p.slotRetrains.isEmpty) = b at hscrub ⊢
  obtain ⟨hv, hcount⟩ := b.revote_kept
  have hcopies := b.revote_copies
  generalize b.revote = c at hv hcount hcopies ⊢
  have hport (n : Nat) : c.memPort n = { a.memPort n with window := (b.memPort n).window } := by
    rw [← hscrub.ports n, hv]
    rfl
  have hrst : b.rst = p.rst := hscrub.rst.trans (by rw [hk])
  refine ⟨?_, fun he n hn h3 => ?_, fun n h3 => ?_, hcopies, ?_, ?_, ?_, ?_, ?_, ?_, rfl⟩
  · show { c.stroke with inSlot := false } = _
    rw [hv]
    show { b.stroke with inSlot := false } = _
    rw [hscrub.stroke, hk]
    rfl
  · have h := hport n
    rw [hports n, if_pos ⟨Pkg.mem_slotRetrains he hn h3, h3⟩] at h
    show (c.memPort n).state = 2 ∧ (c.memPort n).lastAt = _ ∧ (c.memPort n).last = _ ∧ (c.memPort n).turn = _ ∧
      (c.memPort n).waiting = _ ∧ (c.memPort n).abandoned = _
    rw [h]
    exact ⟨rfl, rfl, rfl, rfl, rfl, rfl⟩
  · have h := hport n
    rw [hports n, if_neg fun k => h3 k.2] at h
    show (c.memPort n).state = (p.memPort n).state
    rw [h]
  · show c.reg Reg.tmrCorrected = _
    rw [hcount, hscrub.tmr, htmr, hrst]
    rfl
  · show c.mem.bytes = _
    rw [hv]
    exact hscrub.bytes.trans (by rw [hk]; rfl)
  · show c.ctxs = _
    rw [hv]
    exact hscrub.ctxs.trans (by rw [hk]; rfl)
  · show c.tasks = _
    rw [hv]
    exact hscrub.tasks.trans (by rw [hk]; rfl)
  · show c.cores = _
    rw [hv]
    exact hscrub.cores.trans (by rw [hk]; rfl)
  · show c.clusters = _
    rw [hv]
    exact hscrub.clusters.trans (by rw [hk]; rfl)
end

section
/-! What an operation leaves, said once for every view of the package: a view `P` that is blind to the parts that an operation changes sees the same before and after it. Reports, memory accesses, device-virtual writes and packets. -/

namespace Sys2Proof.Machine

variable {α : Type} {P : Pkg → α}

/-- A view that sees no register, output, log record or host port. -/
structure ReportBlind (P : Pkg → α) : Prop where
  eq : ∀ s regs out log host, P { s with regs := regs, out := out, log := log, host := host } = P s

theorem ReportBlind.of (h : ReportBlind P) {p q : Pkg} (hr : Reports p q) : P q = P p := by
  obtain ⟨regs, pre, log, held, pba, -, rfl⟩ := hr
  exact h.eq p regs _ log _

theorem ReportBlind.bumpBy (h : ReportBlind P) (s : Pkg) (o n : Nat) : P (s.bumpBy o n) = P s := h.of (.setReg s o _)
theorem ReportBlind.bump (h : ReportBlind P) (s : Pkg) (o : Nat) : P (s.bump o) = P s := h.of (.bump s o)
theorem ReportBlind.emit (h : ReportBlind P) (s : Pkg) (o : Output) : P (s.emit o) = P s := h.eq s s.regs _ s.log s.host
theorem ReportBlind.hostW (h : ReportBlind P) (s : Pkg) (a : Nat) (d : Bytes) : P (s.hostW a d) = P s := h.of (.hostW s a d)
theorem ReportBlind.raise (h : ReportBlind P) (s : Pkg) (v : Nat) : P (s.raise v) = P s := h.of (.raise s v)
theorem ReportBlind.logWith (h : ReportBlind P) (s : Pkg) (event unit : Nat) (ctx : Option Nat) (code : Nat) (notice : Bool) (detail : Bytes) :
    P (s.logWith event unit ctx code notice detail) = P s := h.of (.logWith s _ _ _ _ _ _)
theorem ReportBlind.logEv (h : ReportBlind P) (s : Pkg) (event unit : Nat) (ctx : Option Nat) (detail : Bytes) :
    P (s.logEv event unit ctx detail) = P s := h.of (.logEv s _ _ _ _)
theorem ReportBlind.ctxIrq (h : ReportBlind P) (s : Pkg) (c : Nat) : P (s.ctxIrq c) = P s := by
  unfold Pkg.ctxIrq
  dsimp only
  split
  · exact h.raise s _
  · rfl

/-- What every step of a fold keeps, the fold keeps. -/
theorem foldl_view {β : Type} {f : Pkg → β → Pkg} (h : ∀ s x, P (f s x) = P s) (l : List β) (s : Pkg) : P (l.foldl f s) = P s :=
  foldl_keeps P f h l s

theorem foldl_view_fst {β γ : Type} {f : Pkg × γ → β → Pkg × γ} (h : ∀ s x, P (f s x).1 = P s.1) (l : List β) (s : Pkg × γ) :
    P (l.foldl f s).1 = P s.1 := by
  induction l generalizing s with
  | nil => rfl
  | cons x l ih => rw [List.foldl_cons, ih, h]

theorem view_ite {b : Prop} [Decidable b] {x y : Pkg} {z : α} (hx : P x = z) (hy : P y = z) : P (if b then x else y) = z := by
  split
  · exact hx
  · exact hy

/-! ### Memory -/

/-- A view that besides sees no byte, check or copy of GDDR, no memory port and no cached translation. -/
structure MemBlind (P : Pkg → α) : Prop where
  eq : ∀ s regs out log host mem tlb msys,
    P { s with regs := regs, out := out, log := log, host := host, mem := mem, tlb := tlb, msys := msys } = P s

theorem MemBlind.report (h : MemBlind P) : ReportBlind P := ⟨fun s regs out log host => h.eq s regs out log host s.mem s.tlb s.msys⟩

theorem MemBlind.setMem (h : MemBlind P) (s : Pkg) (m : MemSt) : P (s.setMem m) = P s := h.eq s s.regs s.out s.log s.host m s.tlb s.msys

theorem MemBlind.setTlb (h : MemBlind P) (s : Pkg) (t : Tbl (Tbl (Word × Bool))) : P { s with tlb := t } = P s :=
  h.eq s s.regs s.out s.log s.host s.mem t s.msys

theorem MemBlind.poisonGranule (h : MemBlind P) (s : Pkg) (g f : Nat) : P (s.poisonGranule g f) = P s := by
  simp only [Pkg.poisonGranule, h.report.logEv, h.report.bump, h.setMem]

theorem MemBlind.correct (h : MemBlind P) (s : Pkg) (g : Nat) : P (s.correct g) = P s := h.eq s _ s.out s.log s.host _ s.tlb _

theorem MemBlind.touch1 (h : MemBlind P) (s : Pkg) (f g : Nat) : P (s.touch1 f g) = P s := by
  unfold Pkg.touch1
  dsimp only
  (repeat' split) <;> simp only [h.report.bump, h.poisonGranule, h.correct, h.setMem]

theorem MemBlind.fillFrame (h : MemBlind P) (s : Pkg) (x : PageFill) : P (s.fillFrame x) = P s :=
  (foldl_view (fun s g => h.touch1 s 0 g) _ _).trans (h.setMem s _)

theorem MemBlind.fillBefore (h : MemBlind P) (s : Pkg) (g : Nat) : P (s.fillBefore g) = P s := by
  unfold Pkg.fillBefore
  split
  · exact h.fillFrame s _
  · rfl

theorem MemBlind.fillCtx (h : MemBlind P) (s : Pkg) (c : Nat) : P (s.fillCtx c) = P s := foldl_view (fun s x => h.fillFrame s x) _ _

theorem MemBlind.touch (h : MemBlind P) (s : Pkg) (f : Nat) (gs : List Nat) : P (s.touch f gs) = P s :=
  foldl_view (fun s g => (h.touch1 _ f g).trans (h.fillBefore s g)) gs s

theorem MemBlind.cacheAt (h : MemBlind P) (s : Pkg) (c va : Nat) : P (s.cacheAt c va) = P s := by
  unfold Pkg.cacheAt
  split
  · exact h.setTlb s _
  · rfl

theorem MemBlind.took (h : MemBlind P) (s : Pkg) (x : Rd) : P (s.took x) = P s :=
  (foldl_view (fun s (y : Nat × Nat) => h.cacheAt s y.1 y.2) x.pages _).trans (h.touch s 0 x.grans)

theorem MemBlind.tookAll (h : MemBlind P) (s : Pkg) (xs : List Rd) : P (s.tookAll xs) = P s := foldl_view (fun s x => h.took s x) xs s

theorem MemBlind.rdStruct (h : MemBlind P) (s : Pkg) (c a n : Nat) : P (s.rdStruct c a n).2 = P s := by
  unfold Pkg.rdStruct
  dsimp only
  split <;> exact h.took s _

theorem MemBlind.setVrec (h : MemBlind P) (s : Pkg) (r : Nat) (v : VRec) : P (s.setVrec r v) = P s := by
  unfold Pkg.setVrec
  split
  · rfl
  · exact h.setMem s _

theorem MemBlind.dWrite (h : MemBlind P) (s : Pkg) (a : Nat) (bs : Bytes) (bad rmw : Bool) (head : Nat) (more : Bool) :
    P (s.dWrite a bs bad rmw head more) = P s := by
  unfold Pkg.dWrite
  split
  · rfl
  · exact (h.setMem _ _).trans (h.touch s _ _)

theorem MemBlind.dLand (h : MemBlind P) (s : Pkg) (b : WrBy) (a : Nat) (bs : Bytes) (bad : Bool) : P (s.dLand b a bs bad).1 = P s := by
  unfold Pkg.dLand
  split
  · exact h.dWrite s _ _ _ _ _ _
  · exact (h.dWrite _ _ _ _ _ _ _).trans (h.report.bumpBy s _ _)

theorem MemBlind.copyFrame (h : MemBlind P) (s : Pkg) (c a b : Nat) : P (s.copyFrame c a b) = P s := by
  unfold Pkg.copyFrame
  split
  · rfl
  · exact h.setMem s _

theorem MemBlind.started (h : MemBlind P) (s : Pkg) (c : Nat) (old : Option (Tbl (Word × Bool))) : P (s.started c old) = P s := by
  unfold Pkg.started
  split
  · exact h.setTlb s _
  · rfl

theorem MemBlind.resumed (h : MemBlind P) (s before : Pkg) (c : Nat) (old : Option (Tbl (Word × Bool))) : P (s.resumed before c old) = P s := by
  unfold Pkg.resumed
  split
  · exact h.setTlb s _
  · rfl

theorem MemBlind.under (h : MemBlind P) (s : Pkg) (c : Nat) (old : Option (Tbl (Word × Bool))) {f : Pkg → Pkg}
    (hf : P (f (s.started c old)) = P (s.started c old)) : P (s.under c old f) = P s :=
  (h.resumed _ _ _ _).trans (hf.trans (h.started s c old))

/-! ### Device-virtual writes -/

/-- A context without what its own writes change: its arrival counts, the writes that wait, and which of its version records have pending frames. -/
def Ctx.apartFromWrites (x : Ctx) : Ctx := { x with cur := { x.cur with arr := [] }, arrDirect := [], stagedWrites := [], dirty := [] }

/-- A view that besides does not see the spare pool's frames. -/
structure RecordBlind (P : Pkg → α) : Prop extends mem : MemBlind P where
  pool : ∀ s used joined recycle freeLow,
    P { s with stroke := { s.stroke with used := used, joined := joined, recycle := recycle, freeLow := freeLow } } = P s

theorem RecordBlind.retire (h : RecordBlind P) (s : Pkg) (fs : List Nat) : P (s.retire fs) = P s :=
  h.pool s s.stroke.used s.stroke.joined _ s.stroke.freeLow

theorem RecordBlind.takeFrame (h : RecordBlind P) {s q : Pkg} {f : Nat} (hf : s.takeFrame = some (f, q)) : P q = P s := by
  simp only [Pkg.takeFrame] at hf
  split at hf
  · exact absurd hf nofun
  · split at hf
    · obtain ⟨-, rfl⟩ := Prod.mk.injEq .. ▸ Option.some.inj hf
      exact h.pool s _ _ _ _
    · split at hf
      · obtain ⟨-, rfl⟩ := Prod.mk.injEq .. ▸ Option.some.inj hf
        exact h.pool s _ _ _ _
      · exact absurd hf nofun

theorem RecordBlind.eachRecord (h : RecordBlind P) (s : Pkg) (d : Nat) (f : VRec → Option (VRec × List Nat)) : P (s.eachRecord d f) = P s := by
  refine foldl_view (fun s r => ?_) _ _
  dsimp only
  split
  · exact h.touch s _ _
  · split
    · exact (h.retire _ _).trans ((h.setVrec _ _ _).trans (h.touch s _ _))
    · exact h.touch s _ _

theorem RecordBlind.dropFrames (h : RecordBlind P) (s : Pkg) (d w : Nat) : P (s.dropFrames d w) = P s :=
  (h.eachRecord _ _ _).trans (h.fillCtx s d)

/-- A view that besides does not see what writes of context `c` change of it. -/
structure WriteBlind (P : Pkg → α) (c : Nat) : Prop extends toRecord : RecordBlind P where
  ctx  : ∀ (s : Pkg) (x : Ctx), x.apartFromWrites = (s.ctx c).apartFromWrites → P (s.setCtx c x) = P s

variable {c : Nat}

theorem WriteBlind.updCtx (h : WriteBlind P c) (s : Pkg) {f : Ctx → Ctx} (hf : ∀ x, (f x).apartFromWrites = x.apartFromWrites) :
    P (s.updCtx c f) = P s := h.ctx s _ (hf _)

theorem WriteBlind.foldCommitted (h : WriteBlind P c) (s : Pkg) : P (s.foldCommitted c) = P s := by
  unfold Pkg.foldCommitted
  dsimp only
  rw [h.updCtx, h.eachRecord]
  exact fun _ => rfl

theorem WriteBlind.writeFrame (h : WriteBlind P c) {s q : Pkg} {r f : Nat} {b : Bool} (hf : s.writeFrame c r = (some (f, q), b)) : P q = P s := by
  simp only [Pkg.writeFrame] at hf
  split at hf
  · obtain ⟨hq, -⟩ := Prod.mk.injEq .. ▸ hf
    obtain ⟨-, rfl⟩ := Prod.mk.injEq .. ▸ Option.some.inj hq
    exact (h.retire _ _).trans (h.setVrec s _ _)
  · split at hf
    · exact absurd hf (by simp)
    · split at hf
      · exact absurd hf (by simp)
      · rename_i ht
        obtain ⟨hq, -⟩ := Prod.mk.injEq .. ▸ hf
        obtain ⟨-, rfl⟩ := Prod.mk.injEq .. ▸ Option.some.inj hq
        rw [h.updCtx, h.retire, h.setVrec, h.copyFrame, h.takeFrame ht]
        exact fun _ => rfl

theorem WriteBlind.arrive (h : WriteBlind P c) (s : Pkg) (a n : Nat) : P (s.arrive c a n) = P s := by
  refine foldl_view (fun s w => ?_) _ _
  dsimp only
  split
  · rfl
  · refine h.updCtx s fun x => ?_
    split <;> rfl

theorem WriteBlind.vWrite1 (h : WriteBlind P c) (s : Pkg) (va : Nat) (b : WrBy) (bs : Bytes) (bad : Bool) (acc : Acc) :
    P (s.vWrite1 c va b bs bad acc).pkg = P s := by
  have hl (gs : List Nat) : P ((s.touch 0 gs).cacheAt c va) = P s := (h.cacheAt _ _ _).trans (h.touch s _ _)
  unfold Pkg.vWrite1
  split
  · exact hl _
  · exact (h.dLand _ _ _ _ _).trans (hl _)
  · dsimp only
    split
    · exact hl _
    · split
      · rename_i hf
        split
        · exact (h.dLand _ _ _ _ _).trans ((h.writeFrame hf).trans (hl _))
        · exact hl _
      · exact hl _

theorem WriteBlind.vWritePart (h : WriteBlind P c) (s : Pkg) (w : StagedWrite) : P (s.vWritePart c w).1 = P s := by
  have hw := h.vWrite1 s w.addr w.by_ w.data w.bad (if w.by_.pkt.isSome then Acc.remoteWrite else .write)
  unfold Pkg.vWritePart
  dsimp only
  split
  · dsimp only
    rw [h.updCtx]
    exact fun _ => rfl
  · split
    · rename_i he
      rw [he] at hw
      split
      · exact (h.arrive _ _ _).trans hw
      · exact hw
    · rename_i he
      rw [he] at hw
      exact hw
    · rename_i he
      rw [he] at hw
      dsimp only
      rw [h.updCtx]
      · split
        · exact (h.report.bump _ _).trans hw
        · exact hw
      · exact fun _ => rfl

theorem WriteBlind.vWriteAs (h : WriteBlind P c) (s : Pkg) (b : WrBy) (va : Nat) (bs : Bytes) (bad : Bool) : P (s.vWriteAs b c va bs bad).1 = P s := by
  unfold Pkg.vWriteAs
  refine foldl_view_fst (fun r x => ?_) _ _
  exact h.vWritePart r.1 _

theorem WriteBlind.vWrite (h : WriteBlind P c) (s : Pkg) (va : Nat) (bs : Bytes) (bad : Bool) : P (s.vWrite c va bs bad).1 = P s :=
  h.vWriteAs s {} va bs bad

/-! ### Packets -/

/-- A view that sees no register, output, log record or host port, and of the fabric no sender's flow, bucket, notice key or room of waiting packets, and of a port only its state. -/
structure SendBlind (P : Pkg → α) : Prop where
  eq : ∀ s regs out log host txFlows buckets noticeKeys redRoom,
    P { s with regs := regs, out := out, log := log, host := host,
               fab := { s.fab with txFlows := txFlows, buckets := buckets, noticeKeys := noticeKeys, redRoom := redRoom } } = P s
  port : ∀ (s : Pkg) (n : Nat) (x : Port), x.state = (s.port n).state → P (s.setPort n x) = P s

theorem SendBlind.report (h : SendBlind P) : ReportBlind P :=
  ⟨fun s regs out log host => h.eq s regs out log host s.fab.txFlows s.fab.buckets s.fab.noticeKeys s.fab.redRoom⟩

theorem SendBlind.fab (h : SendBlind P) (s : Pkg) (txFlows : List TxFlow) (buckets : Tbl (Tbl Nat)) (keys : List (Nat × Nat))
    (room : List (Nat × Packet × Room)) : P { s with fab := { s.fab with
      txFlows := txFlows, buckets := buckets, noticeKeys := keys, redRoom := room } } = P s :=
  h.eq s s.regs s.out s.log s.host txFlows buckets keys room

theorem SendBlind.updPort (h : SendBlind P) (s : Pkg) (n : Nat) {f : Port → Port} (hf : (f (s.port n)).state = (s.port n).state) :
    P (s.updPort n f) = P s := h.port s n _ hf

theorem SendBlind.freeRoom (h : SendBlind P) (s : Pkg) (r : Option Room) : P (s.freeRoom r) = P s := by
  unfold Pkg.freeRoom
  split
  · rfl
  · exact h.updPort s _ rfl

theorem SendBlind.freeRooms (h : SendBlind P) (s : Pkg) : P s.freeRooms = P s :=
  (h.fab _ _ _ _ _).trans (foldl_view (fun s (x : Nat × Packet × Room) => h.freeRoom s (some x.2.2)) _ s)

theorem SendBlind.sendSymbol (h : SendBlind P) (s : Pkg) (n q : Nat) (d : Bytes) : P (s.sendSymbol n q d) = P s :=
  (h.report.emit _ _).trans (h.port s n _ rfl)

theorem SendBlind.closeBlock (h : SendBlind P) (s : Pkg) (n : Nat) : P (s.closeBlock n) = P s := by
  unfold Pkg.closeBlock
  dsimp only
  split
  · exact h.sendSymbol s _ _ _
  · exact (h.sendSymbol _ _ _ _).trans (h.port s n _ rfl)

theorem SendBlind.place (h : SendBlind P) (s : Pkg) (n : Nat) (m : Moving) : P (s.place n m) = P s := by
  have hset (x : Port) (hx : x.state = ((s.freeRoom m.room).port n).state) : P ((s.freeRoom m.room).setPort n x) = P s :=
    (h.port _ n x hx).trans (h.freeRoom s m.room)
  unfold Pkg.place
  dsimp only
  split
  · exact (h.report.emit _ _).trans (hset _ rfl)
  · split
    · exact (h.closeBlock _ n).trans ((h.report.emit _ _).trans (hset _ rfl))
    · exact (h.report.emit _ _).trans ((h.updPort _ n rfl).trans ((h.closeBlock _ n).trans (hset _ rfl)))

theorem SendBlind.transmit (h : SendBlind P) (s : Pkg) (n : Nat) (m : Moving) : P (s.transmit n m) = P s := by
  unfold Pkg.transmit
  dsimp only
  split
  · exact h.place s _ _
  · exact h.port s n _ rfl

theorem SendBlind.routeDrop (h : SendBlind P) (s : Pkg) (k : Packet) (a : Option Nat) (r : Nat) : P (s.routeDrop k a r) = P s :=
  (h.report.logEv _ _ _ _ _).trans (h.report.bump s _)

theorem SendBlind.forward (h : SendBlind P) (s : Pkg) (k : Packet) (a : Option Nat) (r : Option Room) : P (s.forward k a r) = P s := by
  unfold Pkg.forward
  dsimp only
  split
  · exact h.freeRoom s r
  · exact (h.routeDrop _ _ _ _).trans (h.freeRoom s r)
  · refine (h.transmit _ _ _).trans ?_
    split
    · exact h.report.bump s _
    · rfl

theorem SendBlind.number (h : SendBlind P) (s : Pkg) (a b c d e : Nat) : P (s.number a b c d e).2 = P s := by
  unfold Pkg.number
  dsimp only
  split <;> exact h.fab s _ s.fab.buckets s.fab.noticeKeys s.fab.redRoom

theorem SendBlind.inject (h : SendBlind P) (s : Pkg) (d : Hd) (b : Bytes) : P (s.inject d b).2 = P s := (h.forward _ _ _ _).trans (h.number s _ _ _ _ _)

theorem SendBlind.injectRaw (h : SendBlind P) (s : Pkg) (d : Hd) (b : Bytes) : P (s.injectRaw d b) = P s := h.forward s _ _ _

theorem SendBlind.sendMgmt (h : SendBlind P) (s : Pkg) (op dst : Nat) (b : Bytes) : P (s.sendMgmt op dst b) = P s := h.inject s _ _

theorem SendBlind.noticeRaw (h : SendBlind P) (s : Pkg) (kind unit code : Nat) (b : Bytes) : P (s.noticeRaw kind unit code b) = P s := by
  unfold Pkg.noticeRaw
  split
  · exact h.report.bump s _
  · dsimp only
    have hkeys : P { s with fab := { s.fab with noticeKeys := (unit, kind) :: s.fab.noticeKeys } } = P s :=
      h.fab s s.fab.txFlows s.fab.buckets _ s.fab.redRoom
    generalize { s with fab := { s.fab with noticeKeys := (unit, kind) :: s.fab.noticeKeys } } = q at hkeys ⊢
    (repeat' split) <;>
      simp only [h.inject, Pkg.noticeRx, h.report.of (Reports.sideNotice _ _), h.report.raise, h.report.logWith, h.report.logEv, h.report.bump, hkeys]

theorem SendBlind.notice (h : SendBlind P) (s : Pkg) (kind code unit : Nat) (t : NoticeTail) : P (s.notice kind code unit t) = P s :=
  h.noticeRaw s _ _ _ _

theorem SendBlind.alert (h : SendBlind P) (s : Pkg) (event unit : Nat) (ctx : Option Nat) (code : Nat) (detail : Bytes) (kind ncode : Nat) (t : NoticeTail) :
    P (s.alert event unit ctx code detail kind ncode t) = P s := (h.notice _ _ _ _ _).trans (h.report.logWith s _ _ _ _ _ _)

/-- A view that does not see the ports either. -/
structure NetBlind (P : Pkg → α) : Prop extends toSend : SendBlind P where
  setPort : ∀ (s : Pkg) (n : Nat) (x : Port), P (s.setPort n x) = P s

theorem NetBlind.of (h : ∀ s regs out log host ports txFlows buckets noticeKeys redRoom,
    P { s with regs := regs, out := out, log := log, host := host,
               fab := { s.fab with ports := ports, txFlows := txFlows, buckets := buckets, noticeKeys := noticeKeys, redRoom := redRoom } } = P s) : NetBlind P :=
  have hp (s : Pkg) (n : Nat) (x : Port) : P (s.setPort n x) = P s :=
    h s s.regs s.out s.log s.host _ s.fab.txFlows s.fab.buckets s.fab.noticeKeys s.fab.redRoom
  ⟨⟨fun s regs out log host => h s regs out log host s.fab.ports, fun s n x _ => hp s n x⟩, hp⟩

theorem NetBlind.updPort (h : NetBlind P) (s : Pkg) (n : Nat) (f : Port → Port) : P (s.updPort n f) = P s := h.setPort s n _

theorem NetBlind.evacuate (h : NetBlind P) (s : Pkg) (n : Nat) : P (s.evacuate n) = P s :=
  (foldl_view (fun s (m : Moving) => h.forward s m.orig m.arr m.room) _ _).trans
    ((h.fab _ _ _ _ _).trans (h.setPort s _ _))

theorem NetBlind.portFail (h : NetBlind P) (s : Pkg) (n reason : Nat) : P (s.portFail n reason) = P s := by
  unfold Pkg.portFail
  dsimp only
  split
  · exact (h.evacuate _ _).trans ((h.alert _ _ _ _ _ _ _ _ _).trans (h.setPort s _ _))
  · exact (h.alert _ _ _ _ _ _ _ _ _).trans (h.setPort s _ _)

end Sys2Proof.Machine
end

section
/-! What notes on tasks and reports to a completion ring leave. -/

namespace Sys2Proof.Machine

variable {α : Type} {P : Pkg → α}

/-! ### Notes on tasks -/

/-- A task without what is noted on it as it runs: events, codes and IEEE flags. -/
def Task.apartFromNotes (t : Task) : Task := { t with events := 0, code := 0, conds := [], ieee := {} }

/-- A view that sees no report, and of a task nothing that is noted on it. -/
structure NoteBlind (P : Pkg → α) : Prop extends report : ReportBlind P where
  task : ∀ (s : Pkg) (k : Nat) (v w : Task), s.tasks.find k = some v → w.apartFromNotes = v.apartFromNotes → P (s.setTask k w) = P s

section
variable (h : NoteBlind P)
include h

theorem NoteBlind.updTask (s : Pkg) (k : Nat) {f : Task → Task} (hf : ∀ t, (f t).apartFromNotes = t.apartFromNotes) : P (s.updTask k f) = P s := by
  unfold Pkg.updTask
  split
  next v hv => exact h.task s k v _ hv (hf v)
  · rfl

theorem NoteBlind.taskEvent (s : Pkg) (k e u c : Nat) (d : Bytes) : P (s.taskEvent k e u c d) = P s := by
  unfold Pkg.taskEvent
  dsimp only
  rw [h.updTask, h.logWith]
  exact fun _ => rfl

theorem NoteBlind.taskCode (s : Pkg) (k c : Nat) : P (s.taskCode k c) = P s := by
  unfold Pkg.taskCode
  dsimp only
  split
  · rw [h.updTask]
    exact fun _ => rfl
  · rw [h.taskEvent, h.updTask]
    exact fun _ => rfl

theorem NoteBlind.taskFault (s : Pkg) (k u : Nat) : P (s.taskFault k u) = P s :=
  (h.taskCode _ _ _).trans ((h.taskEvent _ _ _ _ _ _).trans (h.bump s _))

theorem NoteBlind.taskFlags (s : Pkg) (k : Nat) (fl : Sticky) : P (s.taskFlags k fl) = P s := by
  unfold Pkg.taskFlags
  rw [h.updTask]
  exact fun _ => rfl

theorem NoteBlind.noteFor (s : Pkg) (task : Option Nat) (c event : Nat) : P (s.noteFor task c event) = P s := by
  unfold Pkg.noteFor
  split
  · exact h.taskEvent s _ _ _ _ _
  · exact h.logEv s _ _ _ _

end

/-! ### Reports to a ring -/

/-- A view that sees no report, task or context, and no cached translation. -/
structure RingBlind (P : Pkg → α) : Prop extends report : ReportBlind P where
  tasks : ∀ s t, P { s with tasks := t } = P s
  ctxs  : ∀ s t, P { s with ctxs := t } = P s
  tlb   : ∀ s t, P { s with tlb := t } = P s

section
variable (h : RingBlind P)
include h

theorem RingBlind.note : NoteBlind P := ⟨h.report, fun s _ _ _ _ _ => h.tasks s _⟩

theorem RingBlind.updCtx (s : Pkg) (c : Nat) (f : Ctx → Ctx) : P (s.updCtx c f) = P s := h.ctxs s _

theorem RingBlind.setSketch (s : Pkg) (c : Nat) (q : Sketch) : P (s.setSketch c q) = P s := h.updCtx s _ _

theorem RingBlind.taskRecs (s : Pkg) (k : Nat) (failed : Bool) : P (s.taskRecs k failed).1 = P s := by
  have ht (v : Task) : P ((s.bump Reg.tasksReported).setTask k v) = P s := (h.tasks _ _).trans (h.bump s _)
  unfold Pkg.taskRecs
  dsimp only
  (repeat' split) <;> simp only [h.updCtx, h.setSketch, ht]

theorem RingBlind.writeRecs (s : Pkg) (c : Nat) (rs : List HeldRec) (irq : Bool) : P (s.writeRecs c rs irq).1 = P s := by
  induction rs generalizing s irq with
  | nil => rfl
  | cons r rs ih =>
    unfold Pkg.writeRecs
    dsimp only
    split
    · rfl
    · exact (ih _ _).trans ((h.tasks _ _).trans ((h.ctxs _ _).trans (h.hostW s _ _)))

theorem RingBlind.freeIfDone (s : Pkg) (c : Nat) : P (s.freeIfDone c) = P s := by
  unfold Pkg.freeIfDone
  dsimp only
  split
  · exact (h.ctxs _ _).trans (h.tlb s _)
  · rfl

theorem RingBlind.flush (s : Pkg) (c : Nat) : P (s.flush c) = P s := by
  unfold Pkg.flush
  split
  · rfl
  · have hw := h.writeRecs s c (s.ctx c).cqHeld false
    generalize s.writeRecs c (s.ctx c).cqHeld false = r at hw ⊢
    dsimp only
    (repeat' split) <;> simp only [h.logEv, h.bump, h.freeIfDone, h.ctxIrq, h.hostW, h.updCtx, hw]

theorem RingBlind.putRecs (s : Pkg) (c : Nat) (rs : List HeldRec) : P (s.putRecs c rs) = P s := (h.flush _ _).trans (h.updCtx s _ _)

theorem RingBlind.plainRec (s : Pkg) (c code kind tag : Nat) : P (s.plainRec c code kind tag) = P s := h.putRecs s _ _

theorem RingBlind.taskRecsAll (ks : List Nat) (failed : Bool) (a : Pkg × List HeldRec) :
    P (ks.foldl (fun (a : Pkg × List HeldRec) k => ((a.1.taskRecs k failed).1, a.2 ++ (a.1.taskRecs k failed).2)) a).1 = P a.1 := by
  refine foldl_view_fst (fun a k => ?_) ks a
  exact h.taskRecs a.1 k failed

theorem RingBlind.reportTasks (s : Pkg) (c : Nat) (ks : List Nat) (failed : Bool) : P (s.report c ks failed) = P s := by
  have hr := h.taskRecsAll ks failed (s, [])
  unfold Pkg.report
  dsimp only
  split
  · exact hr
  · exact (h.putRecs _ _ _).trans hr

theorem RingBlind.sketchFail (s : Pkg) (c : Nat) (q : Sketch) (f : AdmFail) (tags : List (Nat × Bool)) (slots : List Nat) :
    P (s.sketchFail c q f tags slots) = P s := by
  unfold Pkg.sketchFail
  dsimp only
  rw [h.putRecs, h.tasks, h.bumpBy, h.logWith, h.bumpBy]

end

/-! ### Statistics released -/

section
variable (hcore : ∀ (s : Pkg) (c : Nat) (x : CoreSt), x.task = (s.core c).task → x.hold = (s.core c).hold → P (s.setCore c x) = P s)
  (hcl : ∀ (s : Pkg) (c : Nat) (x : ClusterSt), x.upe = (s.cluster c).upe → x.xfers = (s.cluster c).xfers → P (s.setCluster c x) = P s)
include hcore hcl

theorem lWrite_view (s : Pkg) (c : Nat) (w : LWrite) : P (s.lWrite c w) = P s := by
  unfold Pkg.lWrite
  dsimp only
  split
  · exact hcore s c _ rfl rfl
  · exact hcl s _ _ rfl rfl

theorem spillRelease_view (s : Pkg) (c a ctx tag row : Nat) : P (s.spillRelease c a ctx tag row) = P s := by
  unfold Pkg.spillRelease
  dsimp only
  split
  · rw [lWrite_view hcore hcl, lWrite_view hcore hcl]
  · rfl

/-- The release of a task's row statistics leaves what core and update engine have in hand, and the transfers. -/
theorem statMarks_view (s : Pkg) (k : Nat) (release : Bool) : P (s.statMarks k release) = P s := by
  refine foldl_view (fun s c => ?_) _ _
  dsimp only
  split
  · exact (foldl_view (fun s (m : Nat × Nat × Nat × Nat × Nat) => spillRelease_view hcore hcl s c m.1 m.2.1 m.2.2.1 m.2.2.2.1) _ _).trans (hcore s c _ rfl rfl)
  · exact hcore s c _ rfl rfl

end

end Sys2Proof.Machine
end

section
/-! What an operation leaves, of the contexts' work: reports to a ring, commits, voids, teardowns, domain resets, and the steps of a boundary, under a view that sees none of it. -/

namespace Sys2Proof.Machine

variable {α : Type} {P : Pkg → α}

/-- A view that sees, of what the package's own work changes, at most the transfers of the clusters: no context, task, core, slot, group or fabric, no reset state, and of the stroke clock neither the spare pool nor the rounds and orders that work leaves there. -/
structure WorkBlind (P : Pkg → α) : Prop where
  eq : ∀ s regs out log host mem tlb msys tasks cores ctxs slots groups fab rst used joined recycle freeLow rounds completeNo,
    P { s with
      regs := regs, out := out, log := log, host := host, mem := mem, tlb := tlb, msys := msys, tasks := tasks, cores := cores
      ctxs := ctxs, slots := slots, groups := groups, fab := fab, rst := rst
      stroke := { s.stroke with used := used, joined := joined, recycle := recycle, freeLow := freeLow, rounds := rounds, completeNo := completeNo } } = P s
  cluster : ∀ (s : Pkg) (c : Nat) (x : ClusterSt), x.xfers = (s.cluster c).xfers → P (s.setCluster c x) = P s

/-- A view that does not see the clusters either. -/
structure UnitBlind (P : Pkg → α) : Prop extends work : WorkBlind P where
  clusters : ∀ s c, P { s with clusters := c } = P s

section
variable (h : WorkBlind P)
include h

theorem WorkBlind.set (s : Pkg) (tasks : Tbl Task) (cores : Tbl CoreSt) (ctxs : Tbl Ctx) (fab : Fabric) (rst : ResetSt) (mem : MemSt) :
    P { s with tasks := tasks, cores := cores, ctxs := ctxs, fab := fab, rst := rst, mem := mem } = P s :=
  h.eq s s.regs s.out s.log s.host mem s.tlb s.msys tasks cores ctxs s.slots s.groups fab rst s.stroke.used s.stroke.joined
    s.stroke.recycle s.stroke.freeLow s.stroke.rounds s.stroke.completeNo

theorem WorkBlind.setTasks (s : Pkg) (t : Tbl Task) : P { s with tasks := t } = P s := h.set s t s.cores s.ctxs s.fab s.rst s.mem
theorem WorkBlind.setCores (s : Pkg) (t : Tbl CoreSt) : P { s with cores := t } = P s := h.set s s.tasks t s.ctxs s.fab s.rst s.mem
theorem WorkBlind.setCtxs (s : Pkg) (t : Tbl Ctx) : P { s with ctxs := t } = P s := h.set s s.tasks s.cores t s.fab s.rst s.mem
theorem WorkBlind.setFab (s : Pkg) (f : Fabric) : P { s with fab := f } = P s := h.set s s.tasks s.cores s.ctxs f s.rst s.mem
theorem WorkBlind.setRst (s : Pkg) (r : ResetSt) : P { s with rst := r } = P s := h.set s s.tasks s.cores s.ctxs s.fab r s.mem

theorem WorkBlind.setMsys (s : Pkg) (m : MemSys) : P { s with msys := m } = P s :=
  h.eq s s.regs s.out s.log s.host s.mem s.tlb m s.tasks s.cores s.ctxs s.slots s.groups s.fab s.rst s.stroke.used s.stroke.joined
    s.stroke.recycle s.stroke.freeLow s.stroke.rounds s.stroke.completeNo

theorem WorkBlind.setRounds (s : Pkg) (l : List (Nat × Nat)) : P { s with stroke := { s.stroke with rounds := l } } = P s :=
  h.eq s s.regs s.out s.log s.host s.mem s.tlb s.msys s.tasks s.cores s.ctxs s.slots s.groups s.fab s.rst s.stroke.used s.stroke.joined
    s.stroke.recycle s.stroke.freeLow l s.stroke.completeNo

theorem WorkBlind.setCtx (s : Pkg) (c : Nat) (x : Ctx) : P (s.setCtx c x) = P s := h.setCtxs s _
theorem WorkBlind.updCtx (s : Pkg) (c : Nat) (f : Ctx → Ctx) : P (s.updCtx c f) = P s := h.setCtxs s _
theorem WorkBlind.updCore (s : Pkg) (c : Nat) (f : CoreSt → CoreSt) : P (s.updCore c f) = P s := h.setCores s _

theorem WorkBlind.updTask (s : Pkg) (k : Nat) (f : Task → Task) : P (s.updTask k f) = P s := by
  unfold Pkg.updTask
  split
  · exact h.setTasks s _
  · rfl

theorem WorkBlind.updCluster (s : Pkg) (c : Nat) {f : ClusterSt → ClusterSt} (hf : (f (s.cluster c)).xfers = (s.cluster c).xfers) :
    P (s.updCluster c f) = P s := h.cluster s c _ hf

theorem WorkBlind.write (c : Nat) : WriteBlind P c where
  eq s regs out log host mem tlb msys :=
    h.eq s regs out log host mem tlb msys s.tasks s.cores s.ctxs s.slots s.groups s.fab s.rst s.stroke.used s.stroke.joined s.stroke.recycle
      s.stroke.freeLow s.stroke.rounds s.stroke.completeNo
  pool s used joined recycle freeLow :=
    h.eq s s.regs s.out s.log s.host s.mem s.tlb s.msys s.tasks s.cores s.ctxs s.slots s.groups s.fab s.rst used joined recycle freeLow
      s.stroke.rounds s.stroke.completeNo
  ctx s x _ := h.setCtx s c x

theorem WorkBlind.mem : MemBlind P := (h.write 0).mem
theorem WorkBlind.report : ReportBlind P := h.mem.report

theorem WorkBlind.net : NetBlind P :=
  .of fun s regs out log host _ _ _ _ _ => h.eq s regs out log host s.mem s.tlb s.msys s.tasks s.cores s.ctxs s.slots s.groups _ s.rst s.stroke.used s.stroke.joined s.stroke.recycle
      s.stroke.freeLow s.stroke.rounds s.stroke.completeNo

/-! ### Tasks, records and packets -/

theorem WorkBlind.ring : RingBlind P := ⟨h.report, h.setTasks, h.setCtxs, h.mem.setTlb⟩
theorem WorkBlind.note : NoteBlind P := h.ring.note

theorem WorkBlind.readTags (s : Pkg) (c : Nat) (e : Bytes) (n : Nat) : P (s.readTags c e n).2 = P s := by
  have step (a : List (Nat × Bool) × Pkg) (i : Nat) : P (match a.2.rdStruct c (le e 8 8 + 128 * i) 128 with
      | (.ok b, s) => (a.1 ++ [(le b 80 8, (le b 58 1).testBit 3)], s)
      | (.error _, s) => (a.1 ++ [(0, false)], s)).2 = P a.2 := by
    have hr := h.mem.rdStruct a.2 c (le e 8 8 + 128 * i) 128
    split <;> (rename_i he; rw [he] at hr; exact hr)
  unfold Pkg.readTags
  generalize List.range n = is
  suffices H : ∀ a : List (Nat × Bool) × Pkg, P (is.foldl (fun (a : List (Nat × Bool) × Pkg) i =>
      match a.2.rdStruct c (le e 8 8 + 128 * i) 128 with
      | (.ok b, s) => (a.1 ++ [(le b 80 8, (le b 58 1).testBit 3)], s)
      | (.error _, s) => (a.1 ++ [(0, false)], s)) a).2 = P a.2 from H ([], s)
  intro a
  induction is generalizing a with
  | nil => rfl
  | cons i is ih => exact (ih _).trans (step a i)

theorem WorkBlind.statMarks (s : Pkg) (k : Nat) (release : Bool) : P (s.statMarks k release) = P s :=
  statMarks_view (fun s _ _ _ _ => h.setCores s _) (fun s c x _ hx => h.cluster s c x hx) s k release

theorem WorkBlind.credit (s : Pkg) (c n : Nat) : P (s.credit c n) = P s := h.updCtx s _ _
theorem WorkBlind.creditRun (s : Pkg) (k : Nat) : P (s.creditRun k) = P s := h.credit s _ _

theorem WorkBlind.stopTask (s : Pkg) (k : Nat) : P (s.stopTask k) = P s := by
  unfold Pkg.stopTask
  dsimp only
  have hs (f : Ctx → Ctx) : P ((s.creditRun k).updCtx (s.task k).ctx f) = P s := (h.updCtx _ _ _).trans (h.creditRun s k)
  split
  · rfl
  · split
    · refine (h.updCluster _ _ ?_).trans (hs _)
      split <;> rfl
    · exact (h.updCore _ _ _).trans (hs _)

theorem WorkBlind.recount (s : Pkg) (c : Nat) : P (s.recount c) = P s := h.setTasks s _

theorem WorkBlind.sendVoid (s : Pkg) (n : VoidNote) (but : Option Nat) : P (s.sendVoid n but) = P s := by
  unfold Pkg.sendVoid
  split
  · rfl
  · exact (foldl_view (fun s q => h.net.sendMgmt s _ q _) _ _).trans (h.setFab s _)

theorem WorkBlind.txeMoved (s : Pkg) (n : Nat) : P (s.txeMoved n) = P s := h.setRst s _

theorem WorkBlind.injectTracked (s : Pkg) (x : Nat) (d : Hd) (b : Bytes) : P (s.injectTracked x d b) = P s := by
  unfold Pkg.injectTracked
  dsimp only
  rw [h.setFab]
  split
  · exact (h.txeMoved _ _).trans (h.net.inject s d b)
  · exact h.net.inject s d b

/-! ### Commits, deferrals and re-sharding -/

theorem WorkBlind.ledgerCommit (s : Pkg) (c : Nat) (l : LedgerCount) : P (s.ledgerCommit c l) = P s := by
  unfold Pkg.ledgerCommit
  dsimp only
  split
  · exact (h.report.logEv _ _ _ _ _).trans (h.report.bump s _)
  · split
    · rw [h.report.logEv, h.report.bump, h.mem.took]
    · refine view_ite ?_ ?_
      · rw [h.report.logEv, (h.write c).vWrite, h.mem.took]
      · rw [(h.write c).vWrite, h.mem.took]

theorem WorkBlind.commit (s : Pkg) (c w : Nat) : P (s.commit c w) = P s := by
  unfold Pkg.commit
  dsimp only
  rw [h.ring.reportTasks, foldl_view (fun s k => h.statMarks s k true), foldl_view (fun s l => h.ledgerCommit s c l), h.setCtx, h.report.bump]

theorem WorkBlind.mergeWin (s : Pkg) (c w n : Nat) : P (s.mergeWin c w n) = P s := by
  unfold Pkg.mergeWin
  dsimp only
  rw [h.updCtx, h.report.bump, (h.write c).eachRecord]

theorem WorkBlind.updReshard (s : Pkg) (c : Nat) (f : Reshard → Reshard) : P (s.updReshard c f) = P s := h.updCtx s _ _

theorem WorkBlind.reshardVoid (s : Pkg) (c w : Nat) : P (s.reshardVoid c w) = P s := by
  unfold Pkg.reshardVoid
  dsimp only
  split
  · rfl
  · split
    · rw [h.updCtx, h.report.logWith, h.report.bump]
    · exact h.updCtx s _ _

theorem WorkBlind.reshardDone (s : Pkg) (c : Nat) : P (s.reshardDone c) = P s := by
  unfold Pkg.reshardDone
  dsimp only
  split
  · exact (h.updReshard _ _ _).trans (h.report.bump s _)
  · rfl

theorem WorkBlind.pullLand (s : Pkg) (c : Nat) (p : Pull) (at_ : Nat) (b : Bytes) (bad : Bool) : P (s.pullLand c p at_ b bad) = P s := by
  unfold Pkg.pullLand
  dsimp only
  rw [h.updReshard, h.report.bumpBy, (h.write c).vWrite]

theorem WorkBlind.pullNext (s : Pkg) (c n : Nat) : P (s.pullNext c n) = P s := by
  induction n generalizing s with
  | zero => rfl
  | succ n ih =>
    unfold Pkg.pullNext
    dsimp only
    split
    · rfl
    · split
      · rw [ih, h.pullLand, h.updReshard, h.mem.took]
      · split
        · rfl
        · rw [ih, h.injectTracked, h.updReshard]

theorem WorkBlind.reshardHold (s : Pkg) (c : Nat) : P (s.reshardHold c) = P s := by
  unfold Pkg.reshardHold
  dsimp only
  split
  · exact h.updReshard s _ _
  · rfl

theorem WorkBlind.reshardStart (s : Pkg) (c n : Nat) : P (s.reshardStart c n) = P s := by
  unfold Pkg.reshardStart
  dsimp only
  split
  · exact (h.pullNext _ _ _).trans (h.updCtx s _ _)
  · rfl

theorem WorkBlind.dropWindows (s : Pkg) (c w : Nat) : P (s.dropWindows c w) = P s := by
  unfold Pkg.dropWindows
  dsimp only
  rw [foldl_view (fun s k => h.statMarks s k false), foldl_view (fun s k => h.statMarks s k false), h.updCtx, (h.write c).dropFrames]

/-! ### Resets and dumps -/

theorem WorkBlind.dumpStart (s : Pkg) (trigger unit : Nat) : P (s.dumpStart trigger unit) = P s := by
  unfold Pkg.dumpStart
  dsimp only
  split
  · exact h.report.bump s _
  · exact h.setRst s _

theorem WorkBlind.dumpDomain (s : Pkg) (d : Nat) : P (s.dumpDomain d) = P s := by
  unfold Pkg.dumpDomain
  split
  · exact h.dumpStart s _ _
  · exact (h.setRst _ _).trans (h.dumpStart s _ _)

theorem WorkBlind.closeRing (s : Pkg) (c : Nat) : P (s.closeRing c) = P s := by
  unfold Pkg.closeRing
  dsimp only
  split
  · exact h.updCtx s _ _
  · exact (h.ring.plainRec _ _ _ _ _).trans (h.updCtx s _ _)
  · exact (h.ring.sketchFail _ _ _ _ _ _).trans ((h.readTags _ _ _ _).trans (h.updCtx s _ _))

theorem WorkBlind.dropDead (s : Pkg) (c : Nat) : P (s.dropDead c) = P s := h.setTasks s _

theorem WorkBlind.countDie (s : Pkg) (d : Nat) : P (s.countDie d) = P s := by
  unfold Pkg.countDie
  dsimp only
  split <;> exact h.setRst s _

theorem WorkBlind.fence (s : Pkg) (d : Nat) : P (s.fence d) = P s := (h.report.logEv _ _ _ _ _).trans (h.setRst s _)

theorem WorkBlind.nextSuspect (s : Pkg) (u : Nat) : P (s.nextSuspect u) = P s := by
  unfold Pkg.nextSuspect
  split
  · rfl
  · dsimp only
    split
    · exact h.setRst s _
    · rw [h.report.bump, h.updCtx, h.setRst]

theorem WorkBlind.testStep (s : Pkg) (t : SuspectTest) : P (s.testStep t) = P s := by
  unfold Pkg.testStep
  split
  · rfl
  · dsimp only
    (repeat' split) <;> simp only [h.nextSuspect, h.report.logEv, h.setRst]

theorem WorkBlind.strandedStep (s : Pkg) : P s.strandedStep = P s := by
  refine foldl_view (fun s k => ?_) _ _
  split
  · exact (h.updTask _ _ _).trans (h.note.taskEvent s _ _ _ _ _)
  · exact h.updTask s _ _

/-! ### Votes -/

theorem WorkBlind.updRound (s : Pkg) (hd st : Nat) (f : VoteRound → VoteRound) : P (s.updRound hd st f) = P s := h.setFab s _

theorem WorkBlind.voteKnown (s : Pkg) (hd st : Nat) (bit : Bool) : P (s.voteKnown hd st bit) = P s := by
  unfold Pkg.voteKnown
  split
  · rfl
  · dsimp only
    (repeat' split) <;> simp only [foldl_view (fun s (q : Nat × Nat) => h.net.sendMgmt s opVOTERES q.2 _), h.setRounds, h.updRound]

theorem WorkBlind.voteTry (s : Pkg) (hd st : Nat) (ended : Bool) : P (s.voteTry hd st ended) = P s := by
  unfold Pkg.voteTry
  split
  · rfl
  · split
    · rfl
    · dsimp only
      (repeat' split) <;> simp only [h.net.sendMgmt, h.voteKnown, h.updRound]

theorem WorkBlind.castVotes (s : Pkg) (hung : List Nat) : P (s.castVotes hung) = P s := by
  unfold Pkg.castVotes
  refine (foldl_view (fun s x => (h.voteTry _ _ _ _).trans (h.updRound s _ _ _)) _ _).trans (foldl_view (fun s x => ?_) _ s)
  split
  · rfl
  · exact h.voteTry s _ _ _

end

end Sys2Proof.Machine
end

section
/-! Voids, teardowns, domain resets and the steps of a boundary, under a view that sees neither the work nor the clusters. -/

namespace Sys2Proof.Machine

/-- A hang recorded and noticed, its domain's sections read where DUMP_CFG asks (R480). -/
def Pkg.hangNoted (s : Pkg) (unit d rule streak : Nat) : Pkg :=
  let s := (s.bump Reg.hangsDetected).logWith Ev.hangDetected unit none Code.hangReset (s.noticeFree unit 0x06)
    (leBytes 2 unit ++ leBytes 1 rule ++ leBytes 1 streak)
  let s := s.noticeRaw 0x06 unit Code.hangReset (s.causeNotice 0x06 Code.hangReset unit rule (min 255 (s.resetCount d)) 0xFFFF)
  if bitAt (s.reg Reg.dumpCfg) 0 then s.dumpDomain d else s

/-- What follows a hang's record (R480, R481): the convict closed, or the suspects held, and the domain reset. -/
def Pkg.hangReset (s b : Pkg) (d rule : Nat) : Pkg :=
  match (s.rst.tests.find? (·.unit == d)).bind (·.current) with
  | some c =>
    let s := s.bump Reg.convictions
    let s := s.noticeRaw 0x07 d Code.suspectConvicted (s.causeNotice 0x07 Code.suspectConvicted d 5 (min 255 (s.resetCount d)) c)
    (s.teardown c Code.suspectConvicted []).resetUnit d 5 c
  | none =>
    let cs := s.suspects b d (s.stroke.number - 1)
    if cs.isEmpty then (s.logEv Ev.hangUnattributed d none []).resetUnit d rule 0xFFFF
    else
      let s := cs.foldl (fun s c => (s.voidCtx c (s.voidBase c)).updCtx c fun x => { x with suspectHeld := true }) s
      let tests := (s.rst.tests.filter fun (y : SuspectTest) => y.unit ≠ d) ++ [{ unit := d, waiting := cs }]
      Pkg.resetUnit { s with rst := { s.rst with tests := tests } } d rule 0xFFFF

theorem Pkg.hang_of_none {s b : Pkg} {unit rule streak : Nat} (h : s.hangDomain unit = none) : s.hang b unit rule streak = s := by
  rw [Pkg.hang, h]

theorem Pkg.hang_of_some {s b : Pkg} {unit rule streak d : Nat} (h : s.hangDomain unit = some d) : s.hang b unit rule streak =
    if (s.rst.running.any fun r => domIn r.unit d) = true then s else (s.hangNoted unit d rule streak).hangReset b d rule := by
  rw [Pkg.hang, h]
  rfl

variable {α : Type} {P : Pkg → α}

section
variable (h : UnitBlind P)
include h

theorem UnitBlind.setClustersFab (s : Pkg) (x : Tbl ClusterSt) (f : Fabric) : P { s with clusters := x, fab := f } = P s :=
  (h.setFab { s with clusters := x } f).trans (h.clusters s x)

theorem UnitBlind.setFabMsys (s : Pkg) (f : Fabric) (m : MemSys) : P { s with fab := f, msys := m } = P s :=
  (h.setMsys { s with fab := f } m).trans (h.setFab s f)

theorem UnitBlind.dropTransfers (s : Pkg) (p : Xfer → Bool) : P (s.dropTransfers p) = P s := h.setClustersFab s _ _

/-! ### Voids -/

theorem UnitBlind.voidRest (s : Pkg) (c w : Nat) : P (s.voidRest c w) = P s := by
  unfold Pkg.voidRest
  dsimp only
  rw [h.updCtx, h.recount, h.setRst, h.dropTransfers, foldl_view (fun s k => h.updTask s k _),
    foldl_view (fun s k => (h.updTask _ k _).trans (h.stopTask s k)), h.reshardVoid, h.dropWindows]

theorem UnitBlind.voidTo (s : Pkg) (c w g : Nat) : P (s.voidTo c w g) = P s := by
  unfold Pkg.voidTo
  dsimp only
  rw [h.updCtx, h.report.logEv, h.report.bump, h.net.freeRooms, h.setFab, h.voidRest]

theorem UnitBlind.voidCtx (s : Pkg) (c w : Nat) : P (s.voidCtx c w) = P s := by
  unfold Pkg.voidCtx
  dsimp only
  split
  · exact (h.sendVoid _ _ _).trans ((h.setFab _ _).trans (h.voidTo s c w _))
  · exact h.voidTo s c w _

theorem UnitBlind.defer (s : Pkg) (c w n : Nat) : P (s.defer c w n) = P s := by
  unfold Pkg.defer
  dsimp only
  split
  · exact h.voidTo s c w _
  · exact h.mergeWin s c w n

/-! ### Teardowns and resets -/

theorem UnitBlind.endTask (s : Pkg) (k code : Nat) (f : Task → Task) : P ((s.taskCode k code).updTask k f) = P s :=
  (h.updTask _ _ _).trans (h.note.taskCode s k code)

theorem UnitBlind.teardown (s : Pkg) (c code : Nat) (hung : List Nat) : P (s.teardown c code hung) = P s := by
  unfold Pkg.teardown
  dsimp only
  split
  · rfl
  · refine view_ite ?_ ?_
    · rw [h.sendVoid, h.setFab, h.net.freeRooms, h.setFab, h.dropTransfers, h.dropDead, h.updCtx, h.dropWindows, h.closeRing, h.ring.reportTasks,
        foldl_view (fun s k => h.endTask s k _ _), foldl_view (fun s k => h.stopTask s k), h.updCtx]
    · rw [h.net.freeRooms, h.setFab, h.dropTransfers, h.dropDead, h.updCtx, h.dropWindows, h.closeRing, h.ring.reportTasks,
        foldl_view (fun s k => h.endTask s k _ _), foldl_view (fun s k => h.stopTask s k), h.updCtx]

theorem UnitBlind.clearUnits (s : Pkg) (d : Nat) : P (s.clearUnits d) = P s := by
  unfold Pkg.clearUnits
  dsimp only
  refine (foldl_view (fun s c => view_ite rfl (h.clusters s _)) _ _).trans (foldl_view (fun s c => view_ite rfl (h.updCore s c _)) _ s)

theorem UnitBlind.abortDomain (s : Pkg) (d : Nat) : P (s.abortDomain d) = P s := by
  unfold Pkg.abortDomain
  dsimp only
  rw [h.dropTransfers, foldl_view (fun s c => view_ite (h.voidCtx s c _) rfl), foldl_view (fun s c => h.teardown s c _ _)]

theorem UnitBlind.resetEffect (s : Pkg) (d : Nat) : P (s.resetEffect d) = P s := by
  unfold Pkg.resetEffect
  split
  · exact (h.clearUnits _ d).trans (h.abortDomain s d)
  · exact (h.clearUnits _ d).trans (h.abortDomain s d)
  · exact (h.clearUnits _ d).trans (h.abortDomain s d)
  · dsimp only
    rw [h.net.freeRooms, h.setFabMsys, foldl_view (fun s (x : Nat × Ctx) => h.voidCtx s x.1 _)]
  · exact h.setMsys s _
  · exact foldl_view (fun s n => view_ite (h.net.portFail s n 1) rfl) _ s
  · exact foldl_view (fun s n => view_ite (h.net.portFail s n 1) rfl) _ s
  · rfl

theorem UnitBlind.resetDomain (s : Pkg) (d cause ctx : Nat) : P (s.resetDomain d cause ctx) = P s := by
  unfold Pkg.resetDomain
  dsimp only
  split
  · rfl
  · rw [h.resetEffect, h.net.noticeRaw, h.report.logWith, h.countDie, h.report.bump, h.setRst]

/-- A reset of a domain short of the package. -/
theorem UnitBlind.resetUnit (s : Pkg) {d : Nat} (cause ctx : Nat) (hd : d ≠ Unit.package) : P (s.resetUnit d cause ctx) = P s := by
  unfold Pkg.resetUnit
  rw [if_neg hd]
  split
  · split
    · rfl
    · exact (h.setRst _ _).trans (h.fence s d)
  · exact h.resetDomain s d cause ctx

theorem UnitBlind.hangNoted (s : Pkg) (unit d rule streak : Nat) : P (s.hangNoted unit d rule streak) = P s := by
  unfold Pkg.hangNoted
  dsimp only
  refine view_ite ?_ ?_
  · rw [h.dumpDomain, h.net.noticeRaw, h.report.logWith, h.report.bump]
  · rw [h.net.noticeRaw, h.report.logWith, h.report.bump]

theorem UnitBlind.hangReset (s b : Pkg) {d : Nat} (rule : Nat) (hd : d ≠ Unit.package) : P (s.hangReset b d rule) = P s := by
  unfold Pkg.hangReset
  split
  · rw [h.resetUnit _ _ _ hd, h.teardown, h.net.noticeRaw, h.report.bump]
  · refine view_ite ?_ ?_
    · rw [h.resetUnit _ _ _ hd, h.report.logEv]
    · rw [h.resetUnit _ _ _ hd, h.setRst, foldl_view (fun s c => (h.updCtx _ _ _).trans (h.voidCtx s c _))]

theorem UnitBlind.hang (s b : Pkg) {unit : Nat} (rule streak : Nat) (hd : s.hangDomain unit ≠ some Unit.package) :
    P (s.hang b unit rule streak) = P s := by
  cases he : s.hangDomain unit with
  | none => rw [Pkg.hang_of_none he]
  | some d =>
    rw [Pkg.hang_of_some he]
    exact view_ite rfl ((h.hangReset _ b rule fun e => hd (he.trans (congrArg some e))).trans (h.hangNoted s unit d rule streak))

/-! ### Step 1 -/

theorem UnitBlind.ageXfer (s : Pkg) (x : Xfer) : P (s.ageXfer x) = P s :=
  (h.report.logEv _ _ _ _ _).trans ((h.dropTransfers _ _).trans (h.report.bump s _))

theorem UnitBlind.ageAll (s : Pkg) (p : Xfer → Bool) : P (s.ageAll p) = P s := by
  unfold Pkg.ageAll
  dsimp only
  rw [foldl_view (fun s c => view_ite (h.voidCtx s c _) rfl), foldl_view (fun s x => h.ageXfer s x)]

theorem UnitBlind.ageRelays (s : Pkg) : P s.ageRelays = P s := by
  unfold Pkg.ageRelays
  dsimp only
  rw [foldl_view (fun s (r : RelayFwd) => view_ite ((h.voidCtx _ _ _).trans (h.report.bump s _)) (h.report.bump s _)), h.setFab]

theorem UnitBlind.overrun (s : Pkg) (k : Nat) : P (s.overrun k) = P s :=
  (h.updTask _ _ _).trans ((h.note.taskEvent _ _ _ _ _ _).trans (h.report.bump s _))

theorem UnitBlind.itemOne (s : Pkg) : P s.itemOne = P s := (h.ageRelays _).trans (h.ageAll s _)

theorem UnitBlind.itemTwo (s : Pkg) : P s.itemTwo = P s := (h.setCtxs _ _).trans (foldl_view (fun s k => h.overrun s k) _ s)

theorem UnitBlind.evalProgress (s b : Pkg) : P (s.evalProgress b) = P s := h.set s s.tasks s.cores s.ctxs s.fab _ _

/-! ### Steps 2 and 3 -/

theorem UnitBlind.applyResult (s : Pkg) (hd st : Nat) (bit : Bool) : P (s.applyResult hd st bit) = P s :=
  foldl_view (fun s c => view_ite rfl (view_ite (h.commit s c st) (h.defer s c st _))) _ s

theorem UnitBlind.applyDue (s : Pkg) (hd : Nat) : P (s.applyDue hd) = P s := by
  unfold Pkg.applyDue
  dsimp only
  refine (foldl_view (fun s c => h.updCtx s c _) _ _).trans (foldl_view_fst (fun _ _ => ?_) _ (s, true))
  split
  · exact (h.setFab _ _).trans (h.applyResult _ _ _ _)
  · rfl

theorem UnitBlind.applyNotices (s : Pkg) (hd : Nat) : P (s.applyNotices hd) = P s := by
  refine foldl_view (fun s c => ?_) _ s
  dsimp only
  split
  · split
    · exact view_ite (h.voidRest s c _) rfl
    · rfl
  · exact view_ite rfl (h.voidTo s c _ _)

theorem UnitBlind.poolStep (s : Pkg) (c : Nat) : P (s.poolStep c) = P s := by
  unfold Pkg.poolStep
  split
  · rfl
  · exact (h.voidCtx _ _ _).trans (h.report.logEv s _ _ _ _)

theorem UnitBlind.localStep (s : Pkg) (c : Nat) : P (s.localStep c) = P s :=
  view_ite rfl (view_ite (h.defer s c _ _) (h.commit s c _))

theorem UnitBlind.peerStep (s : Pkg) (c : Nat) : P (s.peerStep c) = P s :=
  view_ite rfl (view_ite ((h.updCtx _ _ _).trans (h.voidCtx s c _)) (h.updCtx s c _))

theorem UnitBlind.stepTwo (s : Pkg) : P s.stepTwo = P s := by
  unfold Pkg.stepTwo
  dsimp only
  rw [foldl_view (fun s c => (h.reshardDone _ c).trans (h.peerStep s c)), foldl_view (fun s c => h.localStep s c),
    foldl_view (fun s c => h.poolStep s c), h.setFab, foldl_view (fun s hd => h.applyNotices s hd), foldl_view (fun s hd => h.applyDue s hd)]

theorem UnitBlind.testsStep (s : Pkg) : P s.testsStep = P s := foldl_view (fun s t => h.testStep s t) _ s

theorem UnitBlind.switchBank (s : Pkg) : P s.switchBank = P s := by
  unfold Pkg.switchBank
  dsimp only
  split
  · rfl
  · have hb (q : Pkg) (b : Nat) (x : Bank) : P (q.setBank b x) = P q := h.setFab q _
    exact view_ite ((hb _ _ _).trans (hb s _ _)) (hb s _ _)

theorem UnitBlind.switchMaps (s : Pkg) : P s.switchMaps = P s :=
  (h.setFab _ _).trans (foldl_view (fun s (_ : AxSwitch) => h.setFab s _) _ s)

theorem UnitBlind.moveBucket (s : Pkg) (d : Nat) : P (s.moveBucket d) = P s := by
  unfold Pkg.moveBucket
  dsimp only
  (repeat' split) <;> first | rfl | exact h.setFab s _

theorem UnitBlind.moveBuckets (s : Pkg) : P s.moveBuckets = P s := by
  unfold Pkg.moveBuckets
  dsimp only
  have hr (s : Pkg) (d : Nat) : P (s.rebuildDir d) = P s := h.setFab s _
  rw [h.setFab, foldl_view (fun s d => h.moveBucket s d), h.setFab, foldl_view hr]

theorem UnitBlind.stepThree (s b : Pkg) : P (s.stepThree b) = P s := by
  unfold Pkg.stepThree
  dsimp only
  rw [h.moveBuckets, foldl_view (fun s c => (h.reshardStart _ c _).trans (h.reshardHold s c)), h.switchMaps, h.switchBank]

theorem UnitBlind.slotRetrain (s : Pkg) : P s.slotRetrain = P s := by
  unfold Pkg.slotRetrain
  split
  · split
    · exact h.setMsys s _
    · rfl
  · rfl

theorem UnitBlind.closeWindows (s : Pkg) : P s.closeWindows = P s :=
  (h.setCtxs _ _).trans (foldl_view (fun s x => h.mem.fillFrame s x) _ s)

theorem UnitBlind.poolWaits (s : Pkg) : P s.poolWaits = P s := view_ite rfl (h.setCtxs s _)

end

end Sys2Proof.Machine
end

section
/-! A boundary of the stroke clock: the next stroke's number, configuration, times and sync state (R44, R45, R48, R52, R54, R55). -/

namespace Sys2Proof.Machine

/-- The stroke clock without what the package's own work leaves in it: the spare pool's frames, the vote rounds and the number of the last completion. -/
def StrokeSt.clock (k : StrokeSt) : StrokeSt :=
  { k with used := [], joined := [], recycle := [], freeLow := 0, rounds := [], completeNo := 0 }

theorem Pkg.clock_unitBlind : UnitBlind fun s => s.stroke.clock :=
  ⟨⟨fun _ _ _ _ _ _ _ _ _ _ _ _ _ _ _ _ _ _ _ _ _ => rfl, fun _ _ _ _ => rfl⟩, fun _ _ => rfl⟩

/-! ### Engines that can hang -/

theorem Tbl.eq_or_mem_of_mem_set {α : Type} {t : Tbl α} {i : Nat} {v : α} {x : Nat × α} (h : x ∈ Tbl.set t i v) : x = (i, v) ∨ x ∈ t := by
  induction t with
  | nil => exact .inl (List.mem_singleton.1 h)
  | cons y t ih =>
    rw [Tbl.set] at h
    split at h
    · exact (List.mem_cons.1 h).imp_right (List.mem_cons_of_mem _)
    · split at h
      · exact List.mem_cons.1 h
      · rcases List.mem_cons.1 h with rfl | h
        · exact .inr List.mem_cons_self
        · exact (ih h).imp_right (List.mem_cons_of_mem _)

/-- Of the units, those of link dies alone have a domain whose reset is the package's (R471). -/
theorem Pkg.hangDomain_ne_package (s : Pkg) {u : Nat} (h : u / 4096 ≠ 7) : s.hangDomain u ≠ some Unit.package := by
  simp only [Pkg.hangDomain, Pkg.domainOf, Unit.package, Unit.core, Unit.cluster, Unit.computeDie]
  (repeat' split) <;> simp only [ne_eq, reduceCtorEq, not_false_eq_true, Option.some.injEq] <;> omega

theorem Task.engine_not_link (t : Task) : t.engine / 4096 ≠ 7 := by
  simp only [Task.engine, Unit.clusterEngine, Unit.core]
  split <;> omega

/-- No engine whose progress the model sees is a link die's. -/
theorem Pkg.engines_not_link {s b : Pkg} {e : Nat} {x : Nat × Bool} (h : x ∈ s.engines b e) : x.1 / 4096 ≠ 7 := by
  simp only [Pkg.engines, List.mem_append, List.mem_map, List.mem_filterMap, List.mem_filter, List.mem_range] at h
  rcases h with (((⟨y, -, h⟩ | ⟨y, -, rfl⟩) | ⟨d, ⟨hd, -⟩, rfl⟩) | ⟨n, ⟨hn, -⟩, rfl⟩) | ⟨n, hn, h⟩
  · split at h
    · exact absurd h nofun
    · obtain rfl := Option.some.inj h
      exact y.2.engine_not_link
  · simp only [Unit.clusterEngine]
    omega
  · simp only [Unit.memDie]
    omega
  · simp only [Unit.memPort]
    omega
  · split at h
    · obtain rfl := Option.some.inj h
      simp only [Unit.port]
      omega
    · exact absurd h nofun

/-- A streak of strokes without progress is counted for the engines named only. -/
theorem streak_not_link {old : Tbl Nat} (es : List (Nat × Bool)) (hes : ∀ x ∈ es, x.1 / 4096 ≠ 7) {t : Tbl Nat} (ht : ∀ x ∈ t, x.1 / 4096 ≠ 7) :
    ∀ x ∈ es.foldl (fun (t : Tbl Nat) (x : Nat × Bool) => if x.2 then t else t.set x.1 (old.get 0 x.1 + 1)) t, x.1 / 4096 ≠ 7 := by
  induction es generalizing t with
  | nil => exact ht
  | cons e es ih =>
    refine ih (fun x hx => hes x (List.mem_cons_of_mem _ hx)) ?_
    dsimp only
    split
    · exact ht
    · intro x hx
      rcases Tbl.eq_or_mem_of_mem_set hx with rfl | hx
      · exact hes e List.mem_cons_self
      · exact ht x hx

theorem Pkg.hangsFound_not_link {s b : Pkg} {u : Nat × Nat} (h : u ∈ (s.evalProgress b).hangsFound) : u.1 / 4096 ≠ 7 := by
  rcases List.mem_append.1 h with h | h
  · obtain ⟨t, -, rfl⟩ := List.mem_map.1 h
    exact t.engine_not_link
  · obtain ⟨x, hx, rfl⟩ := List.mem_map.1 h
    exact streak_not_link _ (fun x hx => Pkg.engines_not_link hx) (fun _ hx => absurd hx List.not_mem_nil) x (List.mem_of_mem_filter hx)

/-! ### The steps of a boundary -/

variable {α : Type} {P : Pkg → α}

theorem foldl_view_mem {β : Type} {f : Pkg → β → Pkg} (l : List β) (h : ∀ s, ∀ x ∈ l, P (f s x) = P s) (s : Pkg) : P (l.foldl f s) = P s := by
  induction l generalizing s with
  | nil => rfl
  | cons x l ih =>
    exact (ih (fun s y hy => h s y (List.mem_cons_of_mem _ hy)) _).trans (h s x List.mem_cons_self)

theorem UnitBlind.itemsOneToFour (h : UnitBlind P) (s b : Pkg) : P (s.itemsOneToFour b).1 = P s := by
  have hhang : ∀ q, ∀ u ∈ (s.itemOne.itemTwo.evalProgress b).hangsFound, P (q.hang b u.1 u.2 (q.rst.streak.get 0 u.1)) = P q :=
    fun q u hu => h.hang q b _ _ (q.hangDomain_ne_package (Pkg.hangsFound_not_link hu))
  exact (h.setRst _ _).trans ((foldl_view_mem _ hhang _).trans ((h.evalProgress _ b).trans ((h.itemTwo _).trans (h.itemOne s))))

/-- What follows the opening of the stroke in a boundary: steps 1 to 3 of the slot. -/
def Pkg.slotSteps (s b : Pkg) : Pkg :=
  let s := s.dueNotices.closeWindows.poolWaits
  let (s, hung) := s.itemsOneToFour b
  let s := s.strandedStep.castVotes hung
  let s := s.stepTwo.testsStep
  (s.stepThree b).slotRetrain

/-- The boundary of a package whose strokes run: its next stroke opens, once the energy of the last one is shared out, which moves neither clock. -/
theorem Pkg.boundary_of_run {b : Pkg} (h : b.strokesRun = true) : ∃ q : Pkg, q.stroke = b.stroke ∧ q.now = b.now ∧ b.boundary = q.openStroke.slotSteps b := by
  unfold Pkg.boundary Pkg.slotSteps
  rw [if_neg (by simp [h])]
  refine ⟨_, ?_, ?_, rfl⟩
  · refine view_ite (P := Pkg.stroke) ?_ ?_ <;> exact foldl_keeps Pkg.stroke (fun (s : Pkg) (t : Nat × Task) => s.creditRun t.1) (fun _ _ => rfl) _ b
  · refine view_ite (P := Pkg.now) ?_ ?_ <;> exact foldl_keeps Pkg.now (fun (s : Pkg) (t : Nat × Task) => s.creditRun t.1) (fun _ _ => rfl) _ b

theorem Pkg.boundary_of_not_run {b : Pkg} (h : b.strokesRun = false) : b.boundary = b := if_pos (by simp [h])

theorem UnitBlind.slotSteps (h : UnitBlind P) (s b : Pkg) : P (s.slotSteps b) = P s := by
  unfold Pkg.slotSteps
  dsimp only
  rw [h.slotRetrain, h.stepThree, h.testsStep, h.stepTwo, h.castVotes, h.strandedStep, h.itemsOneToFour, h.poolWaits, h.closeWindows]
  exact h.setFab s _

/-! ### The opening of the stroke -/

theorem Pkg.stroke_reportBlind : ReportBlind fun s => s.stroke := ⟨fun _ _ _ _ _ => rfl⟩
theorem Pkg.stroke_netBlind : NetBlind fun s => s.stroke := .of fun _ _ _ _ _ _ _ _ _ _ => rfl

theorem Pkg.retrim_stroke (s : Pkg) : s.retrim.stroke = s.stroke := by
  unfold Pkg.retrim
  dsimp only
  split
  · rfl
  · exact Pkg.stroke_reportBlind.logEv _ _ _ _ _

theorem Pkg.syncTo_stroke (s : Pkg) (y : Sync) : (s.syncTo y).stroke = { s.stroke with sync := y } := by
  unfold Pkg.syncTo
  dsimp only
  split
  next h => rw [← h]
  · split
    · exact Pkg.retrim_stroke _
    · exact (Pkg.stroke_netBlind.notice _ _ _ _ _).trans (Pkg.retrim_stroke _)

theorem Pkg.sendMark_stroke (s : Pkg) (but : Option Nat) (n p sl : Nat) : (s.sendMark but n p sl).stroke = s.stroke :=
  foldl_view (fun s n => Pkg.stroke_netBlind.updPort s n _) _ s

/-- The stroke clock as a boundary at time `now` leaves it, but for the sync state of a source. -/
def StrokeSt.next (k : StrokeSt) (now : Nat) : StrokeSt :=
  let cfg := k.cfgNext.getD k.cfg
  let k := { k with cfg := cfg, cfgNext := none, onAlt := k.onAlt && fld cfg 35 24 == fld k.cfg 35 24 }
  { k with
    number := (k.number + 1) % 2 ^ 48, curPeriod := k.timing.1, curSlot := k.timing.2, inSlot := true, openedAt := now, nextAt := now + 1000 * k.timing.1
    marked := false, parentHeard := false, holdovers := if k.sync = Sync.holdover ∧ k.source = false then k.holdovers + 1 else k.holdovers }

/-- The stroke clock as a boundary at time `now` leaves it. -/
def StrokeSt.opened (k : StrokeSt) (now : Nat) : StrokeSt :=
  { k.next now with sync := if (k.next now).source then .locked else k.sync }

/-- The package with the next stroke's clock, its teardowns one stroke further. -/
def Pkg.strokeNext (s : Pkg) : Pkg :=
  let s := { s with stroke := s.stroke.next s.now, fab := { s.fab with noticeKeys := [] } }.retrim
  { s with ctxs := s.ctxs.mapV fun _ x => match x.teardown with
    | .waiting (n + 1) => { x with teardown := .waiting n }
    | _ => x }

theorem Pkg.strokeNext_stroke (s : Pkg) : s.strokeNext.stroke = s.stroke.next s.now := Pkg.retrim_stroke _

theorem Pkg.openStroke_eq (s : Pkg) : s.openStroke =
    if (s.stroke.next s.now).source then
      (s.strokeNext.syncTo .locked).sendMark none (s.stroke.next s.now).number (s.stroke.next s.now).curPeriod (s.stroke.next s.now).curSlot
    else s.strokeNext := rfl

theorem Pkg.openStroke_stroke (s : Pkg) : s.openStroke.stroke = s.stroke.opened s.now := by
  rw [Pkg.openStroke_eq, StrokeSt.opened]
  split
  · rw [Pkg.sendMark_stroke, Pkg.syncTo_stroke, Pkg.strokeNext_stroke]
  · exact s.strokeNext_stroke

theorem StrokeSt.clock_eq {k l : StrokeSt} (h : k.clock = l.clock) : k.cfg = l.cfg ∧ k.cfgNext = l.cfgNext ∧ k.number = l.number ∧
    k.sync = l.sync ∧ k.lastMark = l.lastMark ∧ k.curPeriod = l.curPeriod ∧ k.curSlot = l.curSlot ∧ k.inSlot = l.inSlot ∧
    k.openedAt = l.openedAt ∧ k.nextAt = l.nextAt :=
  have hf {β : Type} (f : StrokeSt → β) : f k.clock = f l.clock := congrArg f h
  ⟨hf StrokeSt.cfg, hf StrokeSt.cfgNext, hf StrokeSt.number, hf StrokeSt.sync, hf StrokeSt.lastMark, hf StrokeSt.curPeriod, hf StrokeSt.curSlot,
    hf StrokeSt.inSlot, hf StrokeSt.openedAt, hf StrokeSt.nextAt⟩

/-- A stroke that this package times itself has the register's period and slot (R44). -/
theorem StrokeSt.timing_own {k : StrokeSt} (h : k.lastMark = none ∨ k.source = true) : k.timing = (fld k.cfg 11 0, fld k.cfg 20 16) := by
  unfold StrokeSt.timing
  split
  next m hm => exact if_pos (h.resolve_left (by simp [hm]))
  · rfl

/-- A stroke of a package that follows marks has the period and slot last received (R45). -/
theorem StrokeSt.timing_followed {k : StrokeSt} {m : Nat × Nat} (h : k.lastMark = some m) (hs : k.source = false) : k.timing = m := by
  rw [StrokeSt.timing, h]
  exact if_neg (by simp [hs])

theorem Pkg.boundary_clock {b : Pkg} (h : b.strokesRun = true) : b.boundary.stroke.clock = (b.stroke.opened b.now).clock := by
  obtain ⟨q, hstroke, hnow, hb⟩ := Pkg.boundary_of_run h
  rw [hb, Pkg.clock_unitBlind.slotSteps, Pkg.openStroke_stroke, hstroke, hnow]

end Sys2Proof.Machine

open Sys2Proof Sys2Proof.Machine

/-- Settles O15: what follows the stroke's opening leaves the stroke clock as the opening set it. -/
theorem strokeOpens : Obligations.StrokeOpens := by
  intro s t p k cfg
  refine ⟨fun h => State.run_eq (Pkg.boundary_of_not_run (b := p) h) rfl rfl, fun h => Answers.run (f := Pkg.boundary) ?_⟩
  have hc : p.boundary.stroke.clock = (k.opened p.now).clock := Pkg.boundary_clock (b := p) h
  obtain ⟨hcfg, hnext, hnum, hsync, hlast, hper, hslot, hin, hopen, hat⟩ := StrokeSt.clock_eq hc
  have htimes {m : Nat × Nat} (hm : (k.opened p.now).timing = m) :
      p.boundary.stroke.curPeriod = m.1 ∧ p.boundary.stroke.curSlot = m.2 := ⟨hper.trans (congrArg Prod.fst hm), hslot.trans (congrArg Prod.snd hm)⟩
  refine ⟨hnum, hcfg, hnext, hin, hopen, hat.trans (congrArg (fun x => p.now + 1000 * x) hper.symm), hsync, hlast, fun ho => ?_, fun m hm hs => ?_, rfl⟩
  · exact htimes (StrokeSt.timing_own (k := k.opened p.now) ho)
  · obtain ⟨hp, hsl⟩ := htimes (StrokeSt.timing_followed (k := k.opened p.now) hm hs)
    exact Prod.ext hp hsl
end

section
/-! Marks, their absence and the limit of holdover (R46, R47, R49, R50, R51). -/

namespace Sys2Proof.Machine

variable {s : Pkg}

/-! ### Marks sent on -/

theorem Pkg.port_updPort (s : Pkg) (n : Nat) (f : Port → Port) (q : Nat) : (s.updPort n f).port q = if q = n then f (s.port n) else s.port q :=
  Tbl.get_set _ _ _ _ _

theorem Pkg.port_foldl_markOut (l : List Nat) (m : Nat × Nat × Nat) (s : Pkg) (q : Nat) :
    (l.foldl (fun (s : Pkg) n => s.updPort n fun p => { p with markOut := some m }) s).port q =
      if q ∈ l then { s.port q with markOut := some m } else s.port q := by
  induction l generalizing s with
  | nil => rfl
  | cons n l ih =>
    rw [List.foldl_cons, ih, Pkg.port_updPort]
    by_cases hq : q = n
    · subst hq
      simp
    · simp [hq]

theorem Pkg.port_sendMark (s : Pkg) (but : Option Nat) (n period slot q : Nat) :
    (s.sendMark but n period slot).port q =
      if q ∈ s.markPorts but then { s.port q with markOut := some (n, period, slot) } else s.port q :=
  Pkg.port_foldl_markOut _ _ s q

theorem SendBlind.syncTo {α : Type} {P : Pkg → α} (h : SendBlind P) (hk : ∀ s k c, P { s with stroke := k, clk := c } = P s) (s : Pkg) (y : Sync) :
    P (s.syncTo y) = P s := by
  have hr (s : Pkg) : P s.retrim = P s := by
    unfold Pkg.retrim
    dsimp only
    exact view_ite rfl ((h.report.logEv _ _ _ _ _).trans (hk s s.stroke _))
  unfold Pkg.syncTo
  dsimp only
  exact view_ite rfl (view_ite ((hr _).trans (hk s _ s.clk)) ((h.notice _ _ _ _ _).trans ((hr _).trans (hk s _ s.clk))))

/-! ### A mark heard -/

/-- The boundary moved by a phase (R47). -/
def Pkg.steered (s : Pkg) (phase : Int) : Pkg :=
  { s with stroke := { s.stroke with openedAt := ((s.stroke.openedAt : Int) + phase).toNat } }

/-- The stroke clock with a mark recorded as the last one received (R45). -/
def StrokeSt.noted (k : StrokeSt) (alt : Bool) (port period slot : Nat) (phase : Int) : StrokeSt :=
  { k with offset := BitVec.ofInt 16 phase, markPort := port, lastMark := some (period, slot), marked := true, onAlt := alt,
           curPeriod := period, curSlot := slot, nextAt := k.openedAt + 1000 * period }

/-- A mark recorded and sent on (R45, R46). -/
def Pkg.noted (s : Pkg) (alt : Bool) (port n period slot : Nat) (phase : Int) : Pkg :=
  ({ s with stroke := s.stroke.noted alt port period slot phase }).sendMark (some port) n period slot

theorem Pkg.noted_stroke (s : Pkg) (alt : Bool) (port n period slot : Nat) (phase : Int) :
    (s.noted alt port n period slot phase).stroke = s.stroke.noted alt port period slot phase := Pkg.sendMark_stroke _ _ _ _ _

theorem Pkg.port_noted (s : Pkg) (alt : Bool) (port n period slot : Nat) (phase : Int) (q : Nat) :
    (s.noted alt port n period slot phase).port q =
      if q ∈ s.markPorts (some port) then { s.port q with markOut := some (n, period, slot) } else s.port q :=
  Pkg.port_sendMark _ _ _ _ _ q

theorem Pkg.noted_ctxs (s : Pkg) (alt : Bool) (port n period slot : Nat) (phase : Int) : (s.noted alt port n period slot phase).ctxs = s.ctxs :=
  foldl_keeps Pkg.ctxs (fun (s : Pkg) n => s.updPort n _) (fun _ _ => rfl) _ _

theorem Pkg.noted_clusters (s : Pkg) (alt : Bool) (port n period slot : Nat) (phase : Int) :
    (s.noted alt port n period slot phase).clusters = s.clusters :=
  foldl_keeps Pkg.clusters (fun (s : Pkg) n => s.updPort n _) (fun _ _ => rfl) _ _

/-- Whether a package takes the marks of a port at all: its strokes run, it is no source, and the port is up (R46). -/
def Pkg.takesMarks (s : Pkg) (port : Nat) : Prop := s.strokesRun = true ∧ s.stroke.source = false ∧ (s.port port).state = 4

/-- Whether a mark meets this package's stroke (R50). -/
def Pkg.markFits (s : Pkg) (n : Nat) (phase : Int) : Prop := n = s.stroke.number ∧ -2000 ≤ phase ∧ phase ≤ 2000

section
variable {port n period slot offset : Nat} {alt : Bool}

theorem Pkg.markIn_of_not_taken (h : ¬ s.takesMarks port) : s.markIn port n period slot offset = s := by
  refine if_pos ?_
  simp only [Pkg.takesMarks] at h
  simp only [Bool.or_eq_true, Bool.not_eq_true', bne_iff_ne, ne_eq]
  by_contra hc
  simp_all

theorem Pkg.markIn_of_unheard (h : s.takesMarks port) (hh : s.hears port = none) : s.markIn port n period slot offset =
    if s.stroke.fromParent port then { s with stroke := { s.stroke with parentHeard := true } } else s := by
  obtain ⟨hr, hs, hp⟩ := h
  unfold Pkg.markIn
  dsimp only
  rw [if_neg (by simp [hr, hs, hp]), hh]

/-- A mark heard: steered by, lost by, or adopted (R47, R50, R51). -/
theorem Pkg.markIn_of_heard (h : s.takesMarks port) (hh : s.hears port = some alt) : s.markIn port n period slot offset =
    let phase := s.markPhase port offset
    let ok := decide (n = s.stroke.number) && decide (-2000 ≤ phase ∧ phase ≤ 2000)
    match s.stroke.sync with
    | .unsync | .lost => (s.adopt n phase).noted alt port n period slot phase
    | .locked => if ok then (s.steered phase).noted alt port n period slot phase else s.strokeLost.noted alt port n period slot phase
    | .holdover => if ok then ((s.steered phase).syncTo .locked).noted alt port n period slot phase
        else if s.stroke.parent = some port then s.strokeLost.noted alt port n period slot phase else s := by
  obtain ⟨hr, hs, hp⟩ := h
  unfold Pkg.markIn
  dsimp only
  rw [if_neg (by simp [hr, hs, hp]), hh]
  rfl

theorem Pkg.markFits_iff {phase : Int} :
    (decide (n = s.stroke.number) && decide (-2000 ≤ phase ∧ phase ≤ 2000)) = true ↔ s.markFits n phase := by
  rw [Bool.and_eq_true, decide_eq_true_eq, decide_eq_true_eq]
  rfl

theorem Pkg.markIn_of_locked_fits (h : s.takesMarks port) (hh : s.hears port = some alt) (hk : s.stroke.sync = .locked)
    (hg : s.markFits n (s.markPhase port offset)) : s.markIn port n period slot offset =
      (s.steered (s.markPhase port offset)).noted alt port n period slot (s.markPhase port offset) := by
  rw [Pkg.markIn_of_heard h hh, hk]
  exact if_pos (Pkg.markFits_iff.2 hg)

theorem Pkg.markIn_of_holdover_fits (h : s.takesMarks port) (hh : s.hears port = some alt) (hk : s.stroke.sync = .holdover)
    (hg : s.markFits n (s.markPhase port offset)) : s.markIn port n period slot offset =
      ((s.steered (s.markPhase port offset)).syncTo .locked).noted alt port n period slot (s.markPhase port offset) := by
  rw [Pkg.markIn_of_heard h hh, hk]
  exact if_pos (Pkg.markFits_iff.2 hg)

theorem Pkg.markIn_of_misfit (h : s.takesMarks port) (hh : s.hears port = some alt) (hk : s.stroke.sync = .locked ∨ s.stroke.sync = .holdover)
    (hg : ¬ s.markFits n (s.markPhase port offset)) (hp : s.stroke.parent = some port) : s.markIn port n period slot offset =
      s.strokeLost.noted alt port n period slot (s.markPhase port offset) := by
  rw [Pkg.markIn_of_heard h hh]
  rcases hk with hk | hk <;> rw [hk]
  · exact if_neg fun h => hg (Pkg.markFits_iff.1 h)
  · exact (if_neg fun h => hg (Pkg.markFits_iff.1 h)).trans (if_pos hp)

theorem Pkg.markIn_of_holdover_misfit (h : s.takesMarks port) (hh : s.hears port = some alt) (hk : s.stroke.sync = .holdover)
    (hg : ¬ s.markFits n (s.markPhase port offset)) (hp : s.stroke.parent ≠ some port) : s.markIn port n period slot offset = s := by
  rw [Pkg.markIn_of_heard h hh, hk]
  exact (if_neg fun h => hg (Pkg.markFits_iff.1 h)).trans (if_neg hp)

theorem Pkg.markIn_of_apart (h : s.takesMarks port) (hh : s.hears port = some alt) (hk : s.stroke.sync = .unsync ∨ s.stroke.sync = .lost) :
    s.markIn port n period slot offset = (s.adopt n (s.markPhase port offset)).noted alt port n period slot (s.markPhase port offset) := by
  rw [Pkg.markIn_of_heard h hh]
  rcases hk with hk | hk <;> rw [hk]

end

/-! ### Stroke lost -/

theorem UnitBlind.foldVoid {α : Type} {P : Pkg → α} (h : UnitBlind P) (w : Pkg → Nat → Nat) (l : List (Nat × Ctx)) (s : Pkg) :
    P (l.foldl (fun s x => s.voidCtx x.1 (w s x.1)) s) = P s := by
  refine foldl_view (fun s x => ?_) l s
  exact h.voidCtx s x.1 _

theorem Pkg.strokeLost_clock (s : Pkg) : s.strokeLost.stroke.clock = { s.stroke with sync := .lost }.clock := by
  refine (Pkg.clock_unitBlind.foldVoid Pkg.voidBase _ _).trans ?_
  rw [Pkg.syncTo_stroke]
  exact congrArg (fun k : StrokeSt => { k with sync := .lost }.clock) (Pkg.stroke_reportBlind.logEv s _ _ _ _)

/-! ### A mark adopted -/

/-- The work of the contexts, of a package that adopts a mark: committed windows folded, the others voided, every transfer dropped (R51). -/
def Pkg.adoptWork (s : Pkg) : Pkg :=
  let all := (s.clusters.vals.map fun c => c.xfers.length).sum
  let s := s.ctxs.keys.foldl (fun s c => s.foldCommitted c) s
  let s := (s.ctxs.filter fun x => x.2.phase == .open).foldl (fun s x => s.voidCtx x.1 (s.uncommitted x.1)) s
  (s.bumpBy Reg.agedDrops all).dropTransfers fun _ => true

/-- The number and the phase taken over, with every open context committed through the stroke before (R51). -/
def Pkg.adoptClock (s : Pkg) (n : Nat) (phase : Int) : Pkg :=
  let k := s.stroke
  { s with
    ctxs := s.ctxs.mapV fun _ (x : Ctx) => if x.phase = CtxPhase.open then { x with committed := n - 1, closed := [], replayFrom := if s.stroke.inSlot then n else n + 1 } else x
    stroke := { k with number := n, openedAt := ((k.openedAt : Int) + phase).toNat, nextAt := ((k.nextAt : Int) + phase).toNat }
    fab := { s.fab with votes := [], voidIn := [], voidNew := [], voidCause := [] } }

theorem Pkg.adopt_eq (s : Pkg) (n : Nat) (phase : Int) : s.adopt n phase = (s.adoptWork.adoptClock n phase).syncTo .locked := rfl

theorem UnitBlind.adoptWork {α : Type} {P : Pkg → α} (h : UnitBlind P) (s : Pkg) : P s.adoptWork = P s := by
  unfold Pkg.adoptWork
  dsimp only
  rw [h.dropTransfers, h.report.bumpBy, h.foldVoid Pkg.uncommitted, foldl_view (fun s c => (h.write c).foldCommitted s)]

theorem Pkg.dropTransfers_all (s : Pkg) (c : Nat) : ((s.dropTransfers fun _ => true).cluster c).xfers = [] := by
  unfold Pkg.dropTransfers Pkg.cluster
  dsimp only
  rw [Tbl.get, Tbl.find_mapV]
  cases s.clusters.find c <;> simp

theorem Pkg.adoptClock_ctx (s : Pkg) (n : Nat) (phase : Int) (c : Nat) (h : ((s.adoptClock n phase).ctx c).phase = .open) :
    ((s.adoptClock n phase).ctx c).committed = n - 1 ∧ ((s.adoptClock n phase).ctx c).closed = [] := by
  revert h
  unfold Pkg.adoptClock Pkg.ctx
  dsimp only
  rw [Tbl.get, Tbl.find_mapV]
  cases s.ctxs.find c with
  | none => exact nofun
  | some x =>
    dsimp only [Option.map_some, Option.getD_some]
    split
    · exact fun _ => ⟨rfl, rfl⟩
    next h => exact fun ho => absurd ho h

theorem Pkg.adopt_clock (s : Pkg) (n : Nat) (phase : Int) : (s.adopt n phase).stroke.clock =
    { s.stroke.clock with
      number := n, openedAt := ((s.stroke.openedAt : Int) + phase).toNat, nextAt := ((s.stroke.nextAt : Int) + phase).toNat, sync := .locked } := by
  have hw : s.adoptWork.stroke.clock = s.stroke.clock := Pkg.clock_unitBlind.adoptWork s
  rw [Pkg.adopt_eq, Pkg.syncTo_stroke]
  exact congrArg (fun k : StrokeSt => { k with
    number := n, openedAt := ((k.openedAt : Int) + phase).toNat, nextAt := ((k.nextAt : Int) + phase).toNat, sync := .locked }) hw

theorem Pkg.ctxs_netBlind : NetBlind fun s => s.ctxs := .of fun _ _ _ _ _ _ _ _ _ _ => rfl
theorem Pkg.clusters_netBlind : NetBlind fun s => s.clusters := .of fun _ _ _ _ _ _ _ _ _ _ => rfl

theorem Pkg.adopt_ctxs (s : Pkg) (n : Nat) (phase : Int) : (s.adopt n phase).ctxs = (s.adoptWork.adoptClock n phase).ctxs :=
  Pkg.ctxs_netBlind.syncTo (fun _ _ _ => rfl) _ _

theorem Pkg.adopt_clusters (s : Pkg) (n : Nat) (phase : Int) : (s.adopt n phase).clusters = s.adoptWork.clusters :=
  Pkg.clusters_netBlind.syncTo (fun _ _ _ => rfl) _ _

theorem Pkg.adoptNoted_ctx (s : Pkg) (n : Nat) (phase : Int) (alt : Bool) (port period slot c : Nat) :
    ((s.adopt n phase).noted alt port n period slot phase).ctx c = (s.adoptWork.adoptClock n phase).ctx c :=
  congrArg (fun t : Tbl Ctx => Tbl.get ({} : Ctx) t c) (((s.adopt n phase).noted_ctxs alt port n period slot phase).trans (s.adopt_ctxs n phase))

theorem Pkg.adoptNoted_xfers (s : Pkg) (n : Nat) (phase : Int) (alt : Bool) (port period slot c : Nat) :
    (((s.adopt n phase).noted alt port n period slot phase).cluster c).xfers = [] :=
  (congrArg (fun t : Tbl ClusterSt => (Tbl.get ({} : ClusterSt) t c).xfers) (((s.adopt n phase).noted_clusters alt port n period slot phase).trans (s.adopt_clusters n phase))).trans
    (Pkg.dropTransfers_all _ c)

/-! ### Marks that stay away -/

theorem Pkg.markTimeout_of_heard (h : ¬ (s.stroke.source = false ∧ s.stroke.marked = false ∧ s.stroke.sync = .locked)) : s.markTimeout = s := by
  refine if_pos ?_
  by_contra hc
  exact h (by simpa [and_assoc] using hc)

theorem Pkg.markTimeout_to_other (h : s.stroke.source = false ∧ s.stroke.marked = false ∧ s.stroke.sync = .locked)
    (ha : (s.stroke.onAlt = false ∧ bitAt s.stroke.cfg 35 = true) ∨ (s.stroke.onAlt = true ∧ s.stroke.parentHeard = true)) : s.markTimeout =
    { s.logEv Ev.strokeParentSwitch Unit.controlDie none [] with stroke := { s.stroke with onAlt := !s.stroke.onAlt } } := by
  obtain ⟨h1, h2, h3⟩ := h
  unfold Pkg.markTimeout
  dsimp only
  rw [if_neg (by simp [h1, h2, h3])]
  exact if_pos (by simpa using ha)

theorem Pkg.markTimeout_to_holdover (h : s.stroke.source = false ∧ s.stroke.marked = false ∧ s.stroke.sync = .locked)
    (ha : ¬ ((s.stroke.onAlt = false ∧ bitAt s.stroke.cfg 35 = true) ∨ (s.stroke.onAlt = true ∧ s.stroke.parentHeard = true))) :
    s.markTimeout.stroke = { s.stroke with sync := .holdover, holdovers := 0 } := by
  obtain ⟨h1, h2, h3⟩ := h
  unfold Pkg.markTimeout
  dsimp only
  rw [if_neg (by simp [h1, h2, h3]), if_neg (by simpa using ha)]
  dsimp only
  rw [Pkg.syncTo_stroke]
  exact congrArg (fun k : StrokeSt => { k with sync := .holdover, holdovers := 0 }) (Pkg.stroke_reportBlind.logEv s _ _ _ _)

theorem Pkg.markPorts_sendBlind (but : Option Nat) : SendBlind fun s => s.markPorts but where
  eq _ _ _ _ _ _ _ _ _ := rfl
  port s n x hx := by
    have hst (q : Nat) : ((s.setPort n x).port q).state = (s.port q).state := by
      show ((s.fab.ports.set n x).get _ q).state = _
      rw [Tbl.get_set]
      split
      next h => exact hx.trans (congrArg (fun q => (s.port q).state) h.symm)
      · rfl
    simp only [Pkg.markPorts, hst]
    rfl

end Sys2Proof.Machine

open Sys2Proof Sys2Proof.Machine

/-- Settles O17: a mark steers the clock, is adopted, or leaves the package stroke lost, by the sync state and by how it meets this package's stroke. -/
theorem strokeMarks : Obligations.StrokeMarks := by
  constructor
  · intro s t port n period slot offset alt hport p k phase i runs follows good opened kept
    have hi : exec i s = s.run t fun p => p.markIn port n period slot offset := if_pos (decide_eq_true hport)
    rw [hi]
    refine ⟨fun h => State.run_eq (Pkg.markIn_of_not_taken (s := p) h) rfl rfl, fun h hh => ?_, fun ⟨h, hh⟩ hk hg => ?_, fun ⟨h, hh⟩ hk hg => ?_,
      fun ⟨h, hh⟩ hk hg hn => State.run_eq (Pkg.markIn_of_holdover_misfit (s := p) h hh hk hg hn) rfl rfl, fun ⟨h, hh⟩ hk hg hn => ?_, fun ⟨h, hh⟩ hk => ?_⟩
    · refine State.run_eq (Pkg.markIn_of_unheard (s := p) h hh) ?_ ?_ <;> split <;> rfl
    · refine .run_of (Pkg.markIn_of_locked_fits (s := p) h hh hk hg) ⟨Pkg.noted_stroke _ _ _ _ _ _ _, fun q hq => ?_, fun q hq => ?_, ?_, ?_, ?_, rfl⟩
      · exact (Pkg.port_sendMark _ _ _ _ _ q).trans (if_pos hq)
      · exact (Pkg.port_sendMark _ _ _ _ _ q).trans (if_neg hq)
      · exact foldl_keeps Pkg.ctxs (fun (s : Pkg) n => s.updPort n _) (fun _ _ => rfl) _ _
      · exact foldl_keeps Pkg.mem (fun (s : Pkg) n => s.updPort n _) (fun _ _ => rfl) _ _
      · exact foldl_keeps Pkg.out (fun (s : Pkg) n => s.updPort n _) (fun _ _ => rfl) _ _
    · refine .run_of (Pkg.markIn_of_holdover_fits (s := p) h hh hk hg) ⟨(Pkg.noted_stroke _ _ _ _ _ _ _).trans ?_, fun q hq => ?_, rfl⟩
      · rw [Pkg.syncTo_stroke]
        rfl
      · have hq' : q ∈ ((p.steered phase).syncTo .locked).markPorts (some port) := by
          rw [(Pkg.markPorts_sendBlind (some port)).syncTo fun _ _ _ => rfl]
          exact hq
        exact congrArg Port.markOut ((Pkg.port_noted _ _ _ _ _ _ _ q).trans (if_pos hq'))
    · refine .run_of (Pkg.markIn_of_misfit (s := p) h hh hk hg hn) ?_
      obtain ⟨-, -, hnum, hsync, -, -, -, -, hopen, -⟩ := StrokeSt.clock_eq p.strokeLost_clock
      have hs := p.strokeLost.noted_stroke alt port n period slot (p.markPhase port offset)
      exact ⟨(congrArg StrokeSt.sync hs).trans hsync, (congrArg StrokeSt.number hs).trans hnum, (congrArg StrokeSt.openedAt hs).trans hopen, rfl⟩
    · refine .run_of (Pkg.markIn_of_apart (s := p) h hh hk) ?_
      obtain ⟨-, -, hnum, hsync, -, -, -, -, hopen, -⟩ := StrokeSt.clock_eq
        (l := { k with sync := .locked, number := n, openedAt := opened, nextAt := ((k.nextAt : Int) + phase).toNat }) (p.adopt_clock n phase)
      have hs := (p.adopt n phase).noted_stroke alt port n period slot phase
      have hctx (c : Nat) := p.adoptNoted_ctx n phase alt port period slot c
      refine ⟨(congrArg StrokeSt.sync hs).trans hsync, (congrArg StrokeSt.number hs).trans hnum, (congrArg StrokeSt.openedAt hs).trans hopen, fun c ho => ?_,
        p.adoptNoted_xfers n phase alt port period slot, rfl⟩
      obtain ⟨hcm, hcl⟩ := p.adoptWork.adoptClock_ctx n phase c ((congrArg Ctx.phase (hctx c)).symm.trans ho)
      exact ⟨(congrArg Ctx.committed (hctx c)).trans hcm, (congrArg Ctx.closed (hctx c)).trans hcl⟩
  · intro s t p k waits alt
    refine ⟨fun h => State.run_eq (Pkg.markTimeout_of_heard (s := p) h) rfl rfl, fun h ha => .run_of (Pkg.markTimeout_to_other (s := p) h ha) ⟨rfl, logged_logEv _ _ _ _ _, rfl⟩,
      fun h ha => .run (f := Pkg.markTimeout) ⟨Pkg.markTimeout_to_holdover (s := p) h ha, rfl⟩, fun h => State.run_eq (if_neg h) rfl rfl, fun h hl => .run_of (if_pos ⟨h, hl⟩) ?_⟩
    obtain ⟨-, -, hnum, hsync, -, -, -, -, hopen, -⟩ := StrokeSt.clock_eq p.strokeLost_clock
    exact ⟨hsync, hnum, hopen, rfl⟩
end

section
/-! Transfers and packets past their lifetime (R81). -/

namespace Sys2Proof.Machine

variable {p q r : Pkg}

/-! ### Transfers dropped -/

/-- The transfers outstanding on a cluster. -/
def Pkg.xfersOf (s : Pkg) (c : Nat) : List Xfer := (s.cluster c).xfers

theorem Pkg.xfersOf_workBlind : WorkBlind Pkg.xfersOf where
  eq _ _ _ _ _ _ _ _ _ _ _ _ _ _ _ _ _ _ _ _ _ := rfl
  cluster s c x hx := by
    funext d
    show ((s.clusters.set c x).get _ d).xfers = _
    rw [Tbl.get_set]
    split
    next h => exact hx.trans (congrArg (fun d => (s.cluster d).xfers) h.symm)
    · rfl

theorem Pkg.xfersOf_dropTransfers (s : Pkg) (f : Xfer → Bool) (c : Nat) : (s.dropTransfers f).xfersOf c = (s.xfersOf c).filter fun x => !f x := by
  unfold Pkg.dropTransfers Pkg.xfersOf Pkg.cluster
  dsimp only
  rw [Tbl.get, Tbl.find_mapV, Tbl.get]
  cases s.clusters.find c <;> rfl

/-- Of the transfers, `q` holds none that `p` does not hold. -/
def XfersWithin (p q : Pkg) : Prop := ∀ c, q.xfersOf c ⊆ p.xfersOf c

theorem XfersWithin.trans (h : XfersWithin p q) (k : XfersWithin q r) : XfersWithin p r := fun c _ hx => h c (k c hx)

theorem XfersWithin.of_eq (h : q.xfersOf = p.xfersOf) : XfersWithin p q := fun c => by rw [h]; exact List.Subset.refl _

theorem XfersWithin.foldl {β : Type} {f : Pkg → β → Pkg} (h : ∀ s x, XfersWithin s (f s x)) (l : List β) (s : Pkg) : XfersWithin s (l.foldl f s) := by
  induction l generalizing s with
  | nil => exact .of_eq rfl
  | cons x l ih => exact (h s x).trans (ih _)

theorem XfersWithin.dropTransfers (s : Pkg) (f : Xfer → Bool) : XfersWithin s (s.dropTransfers f) := fun c => by
  rw [Pkg.xfersOf_dropTransfers]
  exact List.filter_subset_self _

theorem XfersWithin.voidRest (s : Pkg) (c w : Nat) : XfersWithin s (s.voidRest c w) := by
  have h := Pkg.xfersOf_workBlind
  unfold Pkg.voidRest
  dsimp only
  refine .trans ?_ (.of_eq ((h.updCtx _ _ _).trans ((h.recount _ _).trans (h.setRst _ _))))
  refine .trans (.of_eq ?_) (.dropTransfers _ _)
  rw [foldl_view (fun s k => h.updTask s k _), foldl_view (fun s k => (h.updTask _ k _).trans (h.stopTask s k)), h.reshardVoid, h.dropWindows]

theorem XfersWithin.voidTo (s : Pkg) (c w g : Nat) : XfersWithin s (s.voidTo c w g) := by
  have h := Pkg.xfersOf_workBlind
  refine (XfersWithin.voidRest s c w).trans (.of_eq ?_)
  unfold Pkg.voidTo
  dsimp only
  rw [h.updCtx, h.report.logEv, h.report.bump, h.net.freeRooms, h.setFab]

theorem XfersWithin.voidCtx (s : Pkg) (c w : Nat) : XfersWithin s (s.voidCtx c w) := by
  have h := Pkg.xfersOf_workBlind
  unfold Pkg.voidCtx
  dsimp only
  split
  · exact (XfersWithin.voidTo s c w _).trans (.of_eq ((h.sendVoid _ _ _).trans (h.setFab _ _)))
  · exact .voidTo s c w _

/-! ### Transfers at their bound -/

theorem Pkg.xfersOf_ageXfer (s : Pkg) (x : Xfer) (c : Nat) : (s.ageXfer x).xfersOf c = (s.xfersOf c).filter fun y => !(y.key == x.key) := by
  have h := Pkg.xfersOf_workBlind
  unfold Pkg.ageXfer
  rw [h.report.logEv, Pkg.xfersOf_dropTransfers, h.report.bump]

theorem XfersWithin.ageXfer (s : Pkg) (x : Xfer) : XfersWithin s (s.ageXfer x) := fun c => by
  rw [Pkg.xfersOf_ageXfer]
  exact List.filter_subset_self _

theorem Pkg.xfersOf_ageXfers (l : List Xfer) (s : Pkg) {c : Nat} {x y : Xfer} (hx : x ∈ l) (hy : y ∈ (l.foldl (fun s x => s.ageXfer x) s).xfersOf c) :
    y.key ≠ x.key := by
  induction l generalizing s with
  | nil => exact absurd hx List.not_mem_nil
  | cons z l ih =>
    rcases List.mem_cons.1 hx with rfl | hx
    · have hw := XfersWithin.foldl XfersWithin.ageXfer l (s.ageXfer x) c hy
      rw [Pkg.xfersOf_ageXfer] at hw
      simpa using (List.mem_filter.1 hw).2
    · exact ih _ hx hy

theorem Tbl.mem_of_find {α : Type} {t : Tbl α} {i : Nat} {v : α} (h : t.find i = some v) : (i, v) ∈ t := by
  induction t with
  | nil => exact absurd h nofun
  | cons y t ih =>
    rw [Tbl.find] at h
    split at h
    next hk => exact hk ▸ Option.some.inj h ▸ List.mem_cons_self
    · exact List.mem_cons_of_mem _ (ih h)

theorem Pkg.mem_xfers_of_mem_xfersOf {s : Pkg} {c : Nat} {x : Xfer} (h : x ∈ s.xfersOf c) : x ∈ s.clusters.vals.flatMap fun c => c.xfers := by
  unfold Pkg.xfersOf Pkg.cluster at h
  rw [Tbl.get] at h
  cases hf : s.clusters.find c with
  | none => rw [hf] at h; exact absurd h List.not_mem_nil
  | some v =>
    rw [hf] at h
    exact List.mem_flatMap.2 ⟨v, List.mem_map.2 ⟨_, Tbl.mem_of_find hf, rfl⟩, h⟩

/-- What is left of the transfers after those of a test have been dropped at their bound. -/
theorem Pkg.mem_xfersOf_ageAll {s : Pkg} {f : Xfer → Bool} {c : Nat} {x : Xfer} (h : x ∈ (s.ageAll f).xfersOf c) : f x = false ∧ x ∈ s.xfersOf c := by
  unfold Pkg.ageAll at h
  dsimp only at h
  have hv (s : Pkg) (c w : Nat) : XfersWithin s (if (s.ctx c).phase = .open then s.voidCtx c (max w (s.voidBase c)) else s) := by
    split
    · exact .voidCtx s c _
    · exact .of_eq rfl
  have hx := XfersWithin.foldl (fun s c => hv s c _) _ _ _ h
  have hs := XfersWithin.foldl XfersWithin.ageXfer _ _ _ hx
  refine ⟨?_, hs⟩
  by_contra hf
  have hm : x ∈ s.clusters.vals.flatMap fun c => c.xfers.filter f := by
    obtain ⟨v, hv, hxv⟩ := List.mem_flatMap.1 (Pkg.mem_xfers_of_mem_xfersOf hs)
    exact List.mem_flatMap.2 ⟨v, hv, List.mem_filter.2 ⟨hxv, by simpa using hf⟩⟩
  exact Pkg.xfersOf_ageXfers _ s hm hx rfl

theorem Pkg.ageAll_of_none {s : Pkg} {f : Xfer → Bool} (h : ∀ c ∈ s.clusters.vals, ∀ x ∈ c.xfers, f x = false) : s.ageAll f = s := by
  have hnil : (s.clusters.vals.flatMap fun c => c.xfers.filter f) = [] :=
    List.flatMap_eq_nil_iff.2 fun c hc => List.filter_eq_nil_iff.2 fun x hx => by simp [h c hc x hx]
  unfold Pkg.ageAll
  rw [hnil]
  rfl

/-! ### Room of receive buffers -/

/-- The room of packets that are gone freed. -/
def Pkg.freeAll (s : Pkg) (l : List Room) : Pkg := l.foldl (fun s r => s.freeRoom (some r)) s

theorem Pkg.foldl_freeRoom {β : Type} (f : β → Option Room) (l : List β) (s : Pkg) :
    l.foldl (fun s x => s.freeRoom (f x)) s = s.freeAll (l.filterMap f) := by
  induction l generalizing s with
  | nil => rfl
  | cons x l ih =>
    rw [List.foldl_cons, ih, List.filterMap_cons]
    cases f x <;> rfl

theorem Pkg.freeRoom_port (s : Pkg) (r : Room) (m : Nat) : SameButRoom (s.port m) ((s.freeRoom (some r)).port m) ∧
    ((s.freeRoom (some r)).port m).waiting = (s.port m).waiting ∧
    ∀ ch, ((s.freeRoom (some r)).port m).freed.get 0 ch = (s.port m).freed.get 0 ch + (if r.port == m && r.chan == ch then r.own else 0) := by
  unfold Pkg.freeRoom
  dsimp only
  rw [Pkg.port_updPort]
  split
  next h =>
    subst h
    refine ⟨rfl, rfl, fun ch => ?_⟩
    dsimp only
    rw [Tbl.upd, Tbl.get_set]
    by_cases hc : ch = r.chan
    · simp [hc]
    · simp [hc, Ne.symm hc]
  next h => exact ⟨rfl, rfl, fun ch => by simp [Ne.symm h]⟩

theorem SameButRoom.trans {p q r : Port} (h : SameButRoom p q) (k : SameButRoom q r) : SameButRoom p r := by
  unfold SameButRoom at *
  rw [k, h]

theorem Pkg.freeAll_port (l : List Room) (s : Pkg) (m : Nat) : SameButRoom (s.port m) ((s.freeAll l).port m) ∧
    ((s.freeAll l).port m).waiting = (s.port m).waiting ∧
    ∀ ch, ((s.freeAll l).port m).freed.get 0 ch = (s.port m).freed.get 0 ch + ((l.filter fun r => r.port == m && r.chan == ch).map (·.own)).sum := by
  induction l generalizing s with
  | nil => exact ⟨rfl, rfl, fun _ => rfl⟩
  | cons r l ih =>
    obtain ⟨hs, hw, hf⟩ := s.freeRoom_port r m
    obtain ⟨hs', hw', hf'⟩ := ih (s.freeRoom (some r))
    refine ⟨hs.trans hs', hw'.trans hw, fun ch => (hf' ch).trans ?_⟩
    rw [hf ch, List.filter_cons]
    split
    · rw [List.map_cons, List.sum_cons, Nat.add_assoc]
    · rfl

/-- Packets that have waited in a port's queue for longer than a stroke period. -/
def Pkg.staleWaiting (s : Pkg) (n : Nat) : List (Nat × Moving) :=
  (s.port n).waiting.filter fun x => decide (x.1 + 1000 * s.stroke.curPeriod < s.now)

/-- Packets that have waited in a port's receive buffer for a reduction slot for longer than a stroke period. -/
def Pkg.staleTiles (s : Pkg) (n : Nat) : List (Nat × Packet × Room) :=
  s.fab.redRoom.filter fun x => decide (x.1 + 1000 * s.stroke.curPeriod < s.now) && x.2.2.port == n

/-- The queue without its stale packets, and what is dropped counted. -/
def Pkg.staleCounted (s : Pkg) (n : Nat) : Pkg :=
  (s.bumpBy Reg.agedDrops ((s.staleWaiting n).length + (s.staleTiles n).length)).setPort n
    { s.port n with waiting := (s.port n).waiting.filter fun x => !decide (x.1 + 1000 * s.stroke.curPeriod < s.now) }

/-- Packets of a list taken out of those that wait for a reduction slot. -/
def Pkg.tilesOut (s : Pkg) (l : List (Nat × Packet × Room)) : Pkg :=
  { s with fab := { s.fab with redWait := s.fab.redWait.filter fun w => !l.any fun x => w == .packet x.2.1 } }

theorem Pkg.ageDrop_of_none {s : Pkg} {n : Nat} (h : (s.staleWaiting n).length + (s.staleTiles n).length = 0) : s.ageDrop n = s := by
  refine if_pos ?_
  obtain ⟨h1, h2⟩ := Nat.add_eq_zero_iff.1 h
  exact Bool.and_eq_true_iff.2 ⟨List.isEmpty_iff_length_eq_zero.2 h1, List.isEmpty_iff_length_eq_zero.2 h2⟩

theorem Pkg.ageDrop_of_stale {s : Pkg} {n : Nat} (h : 0 < (s.staleWaiting n).length + (s.staleTiles n).length) :
    s.ageDrop n = (((s.staleCounted n).freeAll ((s.staleWaiting n).filterMap fun x => x.2.room)).tilesOut (s.staleTiles n)).freeRooms := by
  rw [← Pkg.foldl_freeRoom]
  refine if_neg fun hc => ?_
  obtain ⟨h1, h2⟩ := Bool.and_eq_true_iff.1 hc
  exact h.ne' (Nat.add_eq_zero_iff.2 ⟨List.isEmpty_iff_length_eq_zero.1 h1, List.isEmpty_iff_length_eq_zero.1 h2⟩)

theorem Pkg.freeAll_kept (l : List Room) (s : Pkg) : ∃ ports, s.freeAll l = { s with fab := { s.fab with ports := ports } } := by
  induction l generalizing s with
  | nil => exact ⟨s.fab.ports, rfl⟩
  | cons r l ih =>
    obtain ⟨ports, h⟩ := ih (s.freeRoom (some r))
    exact ⟨ports, h⟩

/-- The room of reduction packets that no longer wait. -/
def Pkg.goneRooms (s : Pkg) : List Room := (s.fab.redRoom.filter fun x => !s.fab.redWait.contains (.packet x.2.1)).map (·.2.2)

theorem Pkg.freeRooms_port (s : Pkg) (m : Nat) : s.freeRooms.port m = (s.freeAll s.goneRooms).port m := by
  rw [Pkg.goneRooms, Pkg.freeAll, List.foldl_map]
  rfl

theorem Pkg.freeRooms_kept (s : Pkg) : ∃ ports room, s.freeRooms = { s with fab := { s.fab with ports := ports, redRoom := room } } := by
  obtain ⟨ports, h⟩ := s.freeAll_kept s.goneRooms
  refine ⟨ports, s.fab.redRoom.filter fun x => s.fab.redWait.contains (.packet x.2.1), ?_⟩
  rw [Pkg.goneRooms, Pkg.freeAll, List.foldl_map] at h
  unfold Pkg.freeRooms
  dsimp only
  rw [h]

theorem Pkg.mem_redWait_tilesOut (s : Pkg) (l : List (Nat × Packet × Room)) (x : Packet) :
    RedWait.packet x ∈ (s.tilesOut l).fab.redWait ↔ RedWait.packet x ∈ s.fab.redWait ∧ (l.any fun y => y.2.1 == x) = false := by
  unfold Pkg.tilesOut
  dsimp only
  rw [List.mem_filter, Bool.not_eq_true']
  have hany : (l.any fun y => RedWait.packet x == .packet y.2.1) = l.any fun y => y.2.1 == x :=
    List.any_congr rfl fun y => decide_eq_decide.2 ⟨fun h => (RedWait.packet.inj h).symm, fun h => congrArg RedWait.packet h.symm⟩
  rw [hany]

theorem Pkg.staleCounted_port (s : Pkg) (n m : Nat) : (s.staleCounted n).port m =
    if m = n then { s.port n with waiting := (s.port n).waiting.filter fun x => !decide (x.1 + 1000 * s.stroke.curPeriod < s.now) } else s.port m :=
  Tbl.get_set _ _ _ _ _

theorem Pkg.goneRooms_tilesOut (s : Pkg) (l : List (Nat × Packet × Room)) : (s.tilesOut l).goneRooms =
    (s.fab.redRoom.filter fun x => (l.any fun y => y.2.1 == x.2.1) || !s.fab.redWait.contains (.packet x.2.1)).map (·.2.2) := by
  refine congrArg (List.map fun x : Nat × Packet × Room => x.2.2) (List.filter_congr fun x _ => ?_)
  have h := s.mem_redWait_tilesOut l x.2.1
  rw [← List.contains_iff_mem, ← List.contains_iff_mem] at h
  have hbool : ∀ a b c : Bool, (a = true ↔ b = true ∧ c = false) → (!a) = (c || !b) := by decide
  exact hbool _ _ _ h

/-- The stale packets of a port dropped: what of each port changes, what still waits for a reduction slot, and the count. -/
theorem Pkg.ageDrop_kept {s : Pkg} {n : Nat} (h : 0 < (s.staleWaiting n).length + (s.staleTiles n).length) :
    (s.ageDrop n).ctxs = s.ctxs ∧ (s.ageDrop n).mem = s.mem ∧
    (s.ageDrop n).reg Reg.agedDrops = s.reg Reg.agedDrops + BitVec.ofNat 64 ((s.staleWaiting n).length + (s.staleTiles n).length) ∧
    ∀ x, RedWait.packet x ∈ (s.ageDrop n).fab.redWait ↔
      RedWait.packet x ∈ s.fab.redWait ∧ ((s.staleTiles n).any fun y => y.2.1 == x) = false := by
  rw [Pkg.ageDrop_of_stale h]
  obtain ⟨ports, hf⟩ := (s.staleCounted n).freeAll_kept ((s.staleWaiting n).filterMap fun x => x.2.room)
  rw [hf]
  obtain ⟨ports', room, hr⟩ := Pkg.freeRooms_kept (Pkg.tilesOut { s.staleCounted n with fab := { (s.staleCounted n).fab with ports := ports } } (s.staleTiles n))
  rw [hr]
  exact ⟨rfl, rfl, Pkg.reg_bumpBy_same _ _ _, fun x => Pkg.mem_redWait_tilesOut _ _ x⟩

theorem Pkg.ageDrop_port {s : Pkg} {n : Nat} (h : 0 < (s.staleWaiting n).length + (s.staleTiles n).length) (m : Nat) :
    SameButRoom (s.port m) ((s.ageDrop n).port m) ∧
    ((s.ageDrop n).port m).waiting = (if m = n then (s.port n).waiting.filter fun x => !decide (x.1 + 1000 * s.stroke.curPeriod < s.now) else (s.port m).waiting) ∧
    ∀ ch, ((s.ageDrop n).port m).freed.get 0 ch = (s.port m).freed.get 0 ch +
      (((((s.staleWaiting n).filterMap fun x => x.2.room) ++
        (s.fab.redRoom.filter fun x => ((s.staleTiles n).any fun y => y.2.1 == x.2.1) || !s.fab.redWait.contains (.packet x.2.1)).map (·.2.2)).filter
          fun r => r.port == m && r.chan == ch).map (·.own)).sum := by
  rw [Pkg.ageDrop_of_stale h]
  obtain ⟨hs, hw, hfr⟩ := (s.staleCounted n).freeAll_port ((s.staleWaiting n).filterMap fun x => x.2.room) m
  obtain ⟨ports, hf⟩ := (s.staleCounted n).freeAll_kept ((s.staleWaiting n).filterMap fun x => x.2.room)
  generalize (s.staleCounted n).freeAll ((s.staleWaiting n).filterMap fun x => x.2.room) = b at hs hw hfr hf ⊢
  obtain ⟨hs', hw', hfr'⟩ := (b.tilesOut (s.staleTiles n)).freeAll_port (b.tilesOut (s.staleTiles n)).goneRooms m
  rw [Pkg.freeRooms_port]
  have hrooms : (b.tilesOut (s.staleTiles n)).goneRooms =
      (s.fab.redRoom.filter fun x => ((s.staleTiles n).any fun y => y.2.1 == x.2.1) || !s.fab.redWait.contains (.packet x.2.1)).map (·.2.2) := by
    rw [Pkg.goneRooms_tilesOut, hf]
    rfl
  have hp := s.staleCounted_port n m
  have hsame : SameButRoom (s.port m) ((s.staleCounted n).port m) := by
    rw [hp]
    split
    next he => exact he ▸ rfl
    · rfl
  refine ⟨hsame.trans (hs.trans hs'), (hw'.trans hw).trans ?_, fun ch => (hfr' ch).trans ?_⟩
  · rw [hp]
    split <;> rfl
  · show (b.port m).freed.get 0 ch + _ = _
    rw [hfr ch, hrooms, List.filter_append, List.map_append, List.sum_append, Nat.add_assoc, hp]
    split
    next he => rw [he]
    · rfl

end Sys2Proof.Machine

open Sys2Proof Sys2Proof.Machine

/-- Settles O20: a void drops transfers and adds none, so that what is dropped at its bound is gone; stale packets are dropped, and their room is freed, one by one. -/
theorem lifetimeBound : Obligations.LifetimeBound := by
  intro s t p n
  constructor
  · intro cl id hcl hid due
    have hi : exec (.transferAged t cl id) s = s.run t fun p => p.transferAged cl id :=
      if_pos (by simp [hcl, hid])
    have hdue (x : Xfer) : (x.cluster == cl && x.id == id && decide (x.stroke + 2 ≤ n)) = true ↔ due x := by
      simp [due, and_assoc]
    rw [hi]
    refine ⟨fun h => State.run_eq (Pkg.ageAll_of_none (s := p) fun c hc x hx => ?_) rfl rfl, fun _ => .run ⟨fun c x hx => ?_, rfl⟩⟩
    · exact Bool.eq_false_iff.2 fun hd => h c hc x hx ((hdue x).1 hd)
    · obtain ⟨hf, hm⟩ := Pkg.mem_xfersOf_ageAll (s := p) hx
      exact ⟨fun hd => Bool.eq_false_iff.1 hf ((hdue x).2 hd), hm⟩
  · intro port hport old q late gone ends rooms
    have hi : exec (.packetAgeDrop t port) s = s.run t fun p => p.ageDrop port := if_pos (decide_eq_true hport)
    rw [hi]
    refine ⟨fun h => State.run_eq (Pkg.ageDrop_of_none (s := p) h) rfl rfl, fun h => .run (f := fun p => p.ageDrop port) ?_⟩
    obtain ⟨hctx, hmem, hreg, hwait⟩ := Pkg.ageDrop_kept (s := p) h
    have hport := Pkg.ageDrop_port (s := p) h
    refine ⟨(hport port).2.1.trans (if_pos rfl), fun m => (hport m).1, fun m hm => (hport m).2.1.trans (if_neg hm), fun m => (hport m).2.2, hwait, hreg, hctx, hmem, rfl⟩
end

section
/-! The window of a local context at a boundary (R66, R75, R232): the task table. -/

namespace Sys2Proof.Machine

/-- A package whose task table lists index 0 twice, which no command brings about: first a task of context 1, then a completed one of context 0. The stroke just ended is stroke 0. Context 0 has its window closed; context 1 has the sketch of the first task. -/
def Pkg.taskTwice : Pkg :=
  { ctxs := [(0, { phase := .open, closed := [(0, {})] }),
             (1, { sketches := [{ seq := 0, tag := 0, summary := false, irq := false, waitBack := 0, count := 2, unreported := 2 }] })]
    tasks := [(0, { ctx := 1 }), (0, { phase := .completed })]
    stroke := { number := 1 } }

/-- The commit of context 0 reports index 0, whose first listing is a task of context 1: its sketch waits for one report fewer. -/
theorem Pkg.taskTwice_reports_other : ((Pkg.taskTwice.localStep 0).ctx 1).sketches.map (·.unreported) = [1] := by decide +kernel

end Sys2Proof.Machine

open Sys2Proof Sys2Proof.Machine

/-- Refutes O21: of a package whose task table lists an index twice, for tasks of two contexts, the commit of the one context reports the task of the other, whose sketch changes. The statement ranges over every package, those that no command reaches among them. -/
theorem not_windowCommits : ¬ Obligations.WindowCommits := by
  intro h
  have hc := (h Pkg.taskTwice 0 {} [] [] rfl rfl rfl nofun nofun (Nat.le_refl 0)).1 rfl rfl
  obtain ⟨-, -, -, -, -, -, -, hother, -⟩ := hc
  have hone := Pkg.taskTwice_reports_other
  rw [hother 1 Nat.one_ne_zero] at hone
  exact absurd hone (by decide)
end

section
/-! Frames recycled (R65, R66, R69). -/

namespace Sys2Proof.Machine

variable {s : Pkg}

/-! ### What reads of granules leave -/

theorem NatSet.mem_ins (t : NatSet) (i j : Nat) : (t.ins i).mem j = (j == i || t.mem j) := by
  have h : j ∈ t.ins i ↔ j = i ∨ j ∈ t := by
    induction t with
    | nil => simp [NatSet.ins]
    | cons k t ih =>
      rw [NatSet.ins]
      split
      next hk => simp [hk]
      · split
        · simp
        · simp only [List.mem_cons, ih]
          exact or_left_comm
  rw [Bool.eq_iff_iff]
  simpa [NatSet.mem] using h

theorem NatSet.mem_del (t : NatSet) (i j : Nat) : (t.del i).mem j = (t.mem j && j != i) := by
  rw [Bool.eq_iff_iff]
  simp [NatSet.mem, NatSet.del]

theorem Pkg.granBad_reportBlind : ReportBlind Pkg.granBad := ⟨fun _ _ _ _ _ => rfl⟩
theorem Pkg.memStopped_reportBlind : ReportBlind Pkg.memStopped := ⟨fun _ _ _ _ _ => rfl⟩

theorem Pkg.granBad_poisonGranule (s : Pkg) {g f : Nat} (h : s.granBad g = true) (i : Nat) : (s.poisonGranule g f).granBad i = s.granBad i := by
  unfold Pkg.poisonGranule
  rw [Pkg.granBad_reportBlind.logEv, Pkg.granBad_reportBlind.bump]
  show ((s.mem.poison.ins g).mem i || !(s.mem.valid.del g).mem i || (s.mem.double.del g).mem i) = s.granBad i
  rw [NatSet.mem_ins, NatSet.mem_del, NatSet.mem_del]
  by_cases hi : i = g
  · simp [hi, h]
  · simp [beq_eq_false_iff_ne.2 hi, bne_iff_ne.2 hi, Pkg.granBad]

theorem Pkg.granBad_touch1 (s : Pkg) (f g : Nat) : (s.touch1 f g).granBad = s.granBad := by
  funext i
  unfold Pkg.touch1
  dsimp only
  split
  · rfl
  next hp =>
    split
    next hd => exact Pkg.granBad_poisonGranule _ (by simpa [Pkg.granBad] using Or.inr hd) i
    · split
      · rfl
      · split
        · rfl
        next hv => exact Pkg.granBad_poisonGranule _ (by simpa [Pkg.granBad] using Or.inl (Or.inr hv)) i

/-- A view that the read of one granule leaves is left by the reads of many, with the copies of frames that they make. -/
theorem touch_view {α : Type} {P : Pkg → α} (h1 : ∀ s f g, P (Pkg.touch1 s f g) = P s) (hf : ∀ s l, P (Pkg.setMem s { s.mem with fills := l }) = P s)
    (s : Pkg) (f : Nat) (gs : List Nat) : P (s.touch f gs) = P s := by
  have hb (s : Pkg) (g : Nat) : P (s.fillBefore g) = P s := by
    unfold Pkg.fillBefore
    split
    · exact (foldl_view (fun s g => h1 s 0 g) _ _).trans (hf s _)
    · rfl
  exact foldl_view (fun s g => (h1 _ f g).trans (hb s g)) gs s

theorem Pkg.dBad_touch (s : Pkg) (f : Nat) (gs : List Nat) (a n : Nat) : (s.touch f gs).dBad a n = s.dBad a n :=
  congrArg (List.any _) (touch_view (P := Pkg.granBad) Pkg.granBad_touch1 (fun _ _ => rfl) s f gs)

theorem Tbl.any_set_of_not {α : Type} {t : Tbl α} {i : Nat} {v : α} {f : Nat × α → Bool} (h : t.any f = false) (hv : f (i, v) = false) :
    (t.set i v).any f = false := by
  rw [List.any_eq_false] at h ⊢
  intro x hx
  rcases Tbl.eq_or_mem_of_mem_set hx with rfl | hx
  · simp [hv]
  · exact h x hx

theorem Pkg.memStopped_correct (h : s.memStopped = false) (g : Nat) : (s.correct g).memStopped = false := by
  obtain ⟨hf, hp⟩ := Bool.or_eq_false_iff.1 h
  refine Bool.or_eq_false_iff.2 ⟨hf, Tbl.any_set_of_not hp ?_⟩
  show ((s.msys.ports.get {} (granulePort g)).state == 4) = false
  cases hx : s.msys.ports.find (granulePort g) with
  | none => rw [Tbl.get, hx]; rfl
  | some x =>
    rw [Tbl.get, hx]
    exact Bool.eq_false_iff.2 (List.any_eq_false.1 hp _ (Tbl.mem_of_find hx))

theorem Pkg.memStopped_poisonGranule (s : Pkg) (g f : Nat) : (s.poisonGranule g f).memStopped = s.memStopped := by
  unfold Pkg.poisonGranule
  rw [Pkg.memStopped_reportBlind.logEv, Pkg.memStopped_reportBlind.bump]
  rfl

theorem Pkg.memStopped_touch1 (h : s.memStopped = false) (f g : Nat) : (s.touch1 f g).memStopped = false := by
  unfold Pkg.touch1
  dsimp only
  split
  · exact h
  · split
    · exact (Pkg.memStopped_poisonGranule _ _ _).trans h
    · split
      · exact Pkg.memStopped_correct (s := s.setMem (s.mem.serve [g])) h g
      · split
        · exact h
        · exact (Pkg.memStopped_poisonGranule _ _ _).trans h

theorem Pkg.memStopped_touch (h : s.memStopped = false) (f : Nat) (gs : List Nat) : (s.touch f gs).memStopped = false := by
  have hfold (f : Nat) (gs : List Nat) {s : Pkg} (h : s.memStopped = false) : (gs.foldl (fun s g => s.touch1 f g) s).memStopped = false := by
    induction gs generalizing s with
    | nil => exact h
    | cons g gs ih => exact ih (Pkg.memStopped_touch1 h f g)
  have hb {s : Pkg} (h : s.memStopped = false) (g : Nat) : (s.fillBefore g).memStopped = false := by
    unfold Pkg.fillBefore
    split
    · exact hfold 0 _ h
    · exact h
  unfold Pkg.touch
  induction gs generalizing s with
  | nil => exact h
  | cons g gs ih => exact ih (Pkg.memStopped_touch1 (hb h g) f g)

/-! ### Records folded -/

/-- Of the stroke clock, the frames that wait for the recycler alone change, and none of them leaves. -/
def Recycles (p q : Pkg) : Prop := ∃ l, q.stroke = { p.stroke with recycle := p.stroke.recycle ++ l }

theorem Recycles.of_eq {p q : Pkg} (h : q.stroke = p.stroke) : Recycles p q := ⟨[], by rw [h, List.append_nil]⟩

theorem Recycles.trans {p q r : Pkg} (h : Recycles p q) (k : Recycles q r) : Recycles p r := by
  obtain ⟨l, h⟩ := h
  obtain ⟨m, k⟩ := k
  exact ⟨l ++ m, by rw [k, h, ← List.append_assoc]⟩

theorem Recycles.foldl {β : Type} {f : Pkg → β → Pkg} (h : ∀ s x, Recycles s (f s x)) (l : List β) (s : Pkg) : Recycles s (l.foldl f s) := by
  induction l generalizing s with
  | nil => exact .of_eq rfl
  | cons x l ih => exact (h s x).trans (ih _)

theorem Pkg.stroke_memBlind : MemBlind Pkg.stroke := ⟨fun _ _ _ _ _ _ _ _ => rfl⟩

theorem Recycles.eachRecord (s : Pkg) (c : Nat) (f : VRec → Option (VRec × List Nat)) : Recycles s (s.eachRecord c f) := by
  refine .foldl (fun s r => ?_) _ s
  have ht := Pkg.stroke_memBlind.touch s 0 [r / 256]
  dsimp only
  split
  · exact .of_eq ht
  · split
    next v freed _ =>
      refine ⟨freed, ?_⟩
      unfold Pkg.retire
      dsimp only
      rw [Pkg.stroke_memBlind.setVrec, ht]
    · exact .of_eq ht

/-- A record with the committed windows folded in, and the frames that this frees; none where it frees none (R66). -/
def Pkg.recordFold (s : Pkg) (c : Nat) (v : VRec) : Option (VRec × List Nat) :=
  let p := v.fold (s.ctx c).committed
  if p.2.isEmpty then none else some p

theorem Pkg.recordFold_some {c : Nat} {v : VRec} (h : (v.fold (s.ctx c).committed).2 ≠ []) : s.recordFold c v = some (v.fold (s.ctx c).committed) :=
  if_neg (by simpa using h)

theorem Pkg.foldCommitted_eq (s : Pkg) (c : Nat) : s.foldCommitted c =
    (s.eachRecord c (s.recordFold c)).updCtx c fun y =>
      { y with dirty := y.dirty.filter fun r => !((s.eachRecord c (s.recordFold c)).vrec r).pending.isEmpty } := rfl

theorem Recycles.foldCommitted (s : Pkg) (c : Nat) : Recycles s (s.foldCommitted c) := by
  rw [Pkg.foldCommitted_eq]
  exact (Recycles.eachRecord s c _).trans (.of_eq rfl)

theorem RecordBlind.foldCommitted {α : Type} {P : Pkg → α} (h : RecordBlind P) (hc : ∀ s t, P { s with ctxs := t } = P s) (s : Pkg) (c : Nat) :
    P (s.foldCommitted c) = P s := by
  rw [Pkg.foldCommitted_eq]
  exact (hc _ _).trans (h.eachRecord s c _)

theorem Pkg.ctx_updCtx (s : Pkg) (c : Nat) (f : Ctx → Ctx) (d : Nat) : (s.updCtx c f).ctx d = if d = c then f (s.ctx c) else s.ctx d :=
  Tbl.get_set _ _ _ _ _

theorem Pkg.ctxs_recordBlind : RecordBlind Pkg.ctxs := ⟨⟨fun _ _ _ _ _ _ _ _ => rfl⟩, fun _ _ _ _ _ => rfl⟩

/-- A fold of a context's records leaves the other contexts, and of the context all but which of its records have pending frames. -/
theorem Pkg.foldCommitted_ctx_eq (s : Pkg) (c d : Nat) : (s.foldCommitted c).ctx d =
    if d = c then { s.ctx c with dirty := ((s.foldCommitted c).ctx c).dirty } else s.ctx d := by
  have he (f : VRec → Option (VRec × List Nat)) (d : Nat) : (s.eachRecord c f).ctx d = s.ctx d :=
    congrArg (fun t => Tbl.get ({} : Ctx) t d) (Pkg.ctxs_recordBlind.eachRecord s c f)
  rw [Pkg.foldCommitted_eq, Pkg.ctx_updCtx, Pkg.ctx_updCtx, he, he, if_pos rfl]

theorem Pkg.foldCommitted_ctx (s : Pkg) (c d : Nat) : (s.foldCommitted c).ctx d = { s.ctx d with dirty := ((s.foldCommitted c).ctx d).dirty } := by
  have h := s.foldCommitted_ctx_eq c d
  split at h
  next hd => rwa [hd] at h ⊢
  · rw [h]

/-- The records of several contexts folded. -/
def Pkg.foldAll (s : Pkg) (l : List Nat) : Pkg := l.foldl (fun s c => s.foldCommitted c) s

theorem Recycles.foldAll (s : Pkg) (l : List Nat) : Recycles s (s.foldAll l) := .foldl Recycles.foldCommitted l s

theorem Pkg.foldAll_ctx (s : Pkg) (l : List Nat) (d : Nat) : (s.foldAll l).ctx d = { s.ctx d with dirty := ((s.foldAll l).ctx d).dirty } := by
  induction l generalizing s with
  | nil => rfl
  | cons c l ih =>
    refine (ih (s.foldCommitted c)).trans ?_
    rw [s.foldCommitted_ctx c d]
    rfl

theorem Pkg.foldAll_keeps {α : Type} {P : Pkg → α} (h : RecordBlind P) (hc : ∀ s t, P { s with ctxs := t } = P s) (s : Pkg) (l : List Nat) :
    P (s.foldAll l) = P s := foldl_view (fun s c => h.foldCommitted hc s c) l s

/-- Contexts none of whose records has pending frames stay as they are. -/
theorem Pkg.foldAll_idle (s : Pkg) (l : List Nat) (h : ∀ d ∈ l, (s.ctx d).dirty = []) :
    ∃ t, s.foldAll l = { s with ctxs := t } ∧ ∀ d, (s.foldAll l).ctx d = s.ctx d := by
  induction l generalizing s with
  | nil => exact ⟨s.ctxs, rfl, fun _ => rfl⟩
  | cons c l ih =>
    have hc := h c List.mem_cons_self
    have he : s.foldCommitted c = s.updCtx c fun y => { y with dirty := y.dirty.filter fun r => !(s.vrec r).pending.isEmpty } := by
      have hr : s.eachRecord c (s.recordFold c) = s := by
        unfold Pkg.eachRecord
        rw [hc]
        rfl
      rw [Pkg.foldCommitted_eq, hr]
    have hctx (d : Nat) : (s.foldCommitted c).ctx d = s.ctx d := by
      rw [he, Pkg.ctx_updCtx]
      split
      next hd =>
        rw [hd]
        have hl : ((s.ctx c).dirty.filter fun r => !(s.vrec r).pending.isEmpty) = (s.ctx c).dirty := by rw [hc]; rfl
        exact congrArg (fun l => { s.ctx c with dirty := l }) hl
      · rfl
    obtain ⟨t, ht, hts⟩ := ih (s.foldCommitted c) fun d hd => (hctx d).symm ▸ h d (List.mem_cons_of_mem _ hd)
    refine ⟨t, ht.trans ?_, fun d => (hts d).trans (hctx d)⟩
    rw [he]
    rfl

theorem Pkg.setVrec_bytes (h : s.memStopped = false) (r : Nat) (v : VRec) : (s.setVrec r v).mem.bytes = s.mem.bytes.writeN r v.bytes := by
  have he : s.setVrec r v = s.setMem { s.mem with bytes := s.mem.bytes.writeN r v.bytes } := if_neg (by simp [h])
  rw [he, Pkg.setMem_mem]

/-- One record with pending frames, which reads well. -/
theorem Pkg.eachRecord_one {c r : Nat} {f : VRec → Option (VRec × List Nat)} {x : VRec × List Nat} (hd : (s.ctx c).dirty = [r])
    (hb : s.dBad r 32 = false) (hf : f (s.vrec r) = some x) : s.eachRecord c f = ((s.touch 0 [r / 256]).setVrec r x.1).retire x.2 := by
  have hv : (s.touch 0 [r / 256]).vrec r = s.vrec r := by
    unfold Pkg.vrec Pkg.dRead
    rw [s.bytes_touch]
  unfold Pkg.eachRecord
  rw [hd, List.foldl_cons, List.foldl_nil]
  dsimp only
  rw [Pkg.dBad_touch, hb, hv, hf]
  exact if_neg Bool.false_ne_true

/-- One record with pending frames, of which committed windows supersede some (R66). -/
theorem Pkg.foldCommitted_one {c r : Nat} (hd : (s.ctx c).dirty = [r]) (hm : s.memStopped = false) (hb : s.dBad r 32 = false)
    (hf : ((s.vrec r).fold (s.ctx c).committed).2 ≠ []) :
    (s.foldCommitted c).mem.bytes = s.mem.bytes.writeN r ((s.vrec r).fold (s.ctx c).committed).1.bytes ∧
    (s.foldCommitted c).stroke.recycle = s.stroke.recycle ++ ((s.vrec r).fold (s.ctx c).committed).2 := by
  rw [Pkg.foldCommitted_eq, s.eachRecord_one hd hb (Pkg.recordFold_some hf)]
  constructor
  · refine (Pkg.setVrec_bytes (Pkg.memStopped_touch hm 0 _) r _).trans ?_
    rw [s.bytes_touch]
  · refine (congrArg (fun k : StrokeSt => k.recycle ++ _) (Pkg.stroke_memBlind.setVrec _ r _)).trans ?_
    rw [Pkg.stroke_memBlind.touch]

theorem Pkg.foldAll_one {c r : Nat} {l : List Nat} (hl : l.Nodup) (hc : c ∈ l) (hd : (s.ctx c).dirty = [r]) (ho : ∀ d, d ≠ c → (s.ctx d).dirty = [])
    (hm : s.memStopped = false) (hb : s.dBad r 32 = false) (hf : ((s.vrec r).fold (s.ctx c).committed).2 ≠ []) :
    (s.foldAll l).mem.bytes = s.mem.bytes.writeN r ((s.vrec r).fold (s.ctx c).committed).1.bytes ∧
    (s.foldAll l).stroke.recycle = s.stroke.recycle ++ ((s.vrec r).fold (s.ctx c).committed).2 := by
  obtain ⟨a, b, rfl⟩ := List.append_of_mem hc
  obtain ⟨-, hcb, hab⟩ := List.nodup_append.1 hl
  have hnb : c ∉ b := (List.nodup_cons.1 hcb).1
  have hna : c ∉ a := fun h => hab c h c List.mem_cons_self rfl
  have hsplit : s.foldAll (a ++ c :: b) = ((s.foldAll a).foldCommitted c).foldAll b := List.foldl_append
  obtain ⟨t, ht, hts⟩ := s.foldAll_idle a fun d hda => ho d fun e => hna (e ▸ hda)
  obtain ⟨hone, hrec⟩ := Pkg.foldCommitted_one (s := s.foldAll a) (c := c) (r := r) (by rw [hts, hd]) (by rw [ht]; exact hm) (by rw [ht]; exact hb)
    (by rw [hts, ht]; exact hf)
  obtain ⟨t', ht', -⟩ := ((s.foldAll a).foldCommitted c).foldAll_idle b fun d hdb => by
    have hdc : d ≠ c := fun e => hnb (e ▸ hdb)
    rw [Pkg.foldCommitted_ctx_eq, if_neg hdc, hts]
    exact ho d hdc
  rw [hsplit, ht']
  refine ⟨hone.trans ?_, hrec.trans ?_⟩
  · rw [hts, ht]
    rfl
  · rw [hts, ht]
    rfl

/-! ### Frames given back -/

/-- Whether a frame lies in the pool's region. -/
def StrokeSt.inPool (k : StrokeSt) (f : Nat) : Prop := poolBase k.spareCfg ≤ f ∧ f < poolBase k.spareCfg + poolPages k.spareCfg

theorem StrokeSt.give_in {k : StrokeSt} {f : Nat} (h : k.inPool f) : k.give f = { k with used := k.used.del (f - poolBase k.spareCfg) } := if_pos h

theorem StrokeSt.give_out {k : StrokeSt} {f : Nat} (h : ¬ k.inPool f) : k.give f = { k with joined := k.joined.ins f } := if_neg h

/-- `l` is `k` with frames given back: fewer used, more joined. -/
structure Gives (k l : StrokeSt) : Prop where
  eq     : l = { k with used := l.used, joined := l.joined }
  used   : ∀ f, l.used.mem f = true → k.used.mem f = true
  joined : ∀ f, k.joined.mem f = true → l.joined.mem f = true

theorem Gives.refl (k : StrokeSt) : Gives k k := ⟨rfl, fun _ h => h, fun _ h => h⟩

theorem Gives.trans {k l m : StrokeSt} (h : Gives k l) (g : Gives l m) : Gives k m := by
  refine ⟨?_, fun f hf => h.used f (g.used f hf), fun f hf => g.joined f (h.joined f hf)⟩
  rw [g.eq, h.eq]

theorem Gives.spareCfg {k l : StrokeSt} (h : Gives k l) : l.spareCfg = k.spareCfg := by rw [h.eq]

theorem Gives.give (k : StrokeSt) (f : Nat) : Gives k (k.give f) := by
  by_cases h : k.inPool f
  · rw [StrokeSt.give_in h]
    refine ⟨rfl, fun g hg => ?_, fun _ hg => hg⟩
    rw [NatSet.mem_del, Bool.and_eq_true] at hg
    exact hg.1
  · rw [StrokeSt.give_out h]
    refine ⟨rfl, fun _ hg => hg, fun g hg => ?_⟩
    rw [NatSet.mem_ins, hg, Bool.or_true]

/-- The frames of a list given back to the pool (R66). -/
def StrokeSt.giveAll (k : StrokeSt) (l : List Nat) : StrokeSt := l.foldl (fun k f => k.give f) k

theorem Gives.giveAll (k : StrokeSt) (l : List Nat) : Gives k (k.giveAll l) := by
  induction l generalizing k with
  | nil => exact .refl k
  | cons f l ih => exact (Gives.give k f).trans (ih _)

/-- A frame of the pool's region that is given back is free, and any other has joined the pool. -/
theorem StrokeSt.giveAll_mem {k : StrokeSt} {l : List Nat} {f : Nat} (h : f ∈ l) :
    (k.inPool f → (k.giveAll l).used.mem (f - poolBase k.spareCfg) = false) ∧ (¬ k.inPool f → (k.giveAll l).joined.mem f = true) := by
  induction l generalizing k with
  | nil => exact absurd h List.not_mem_nil
  | cons g l ih =>
    rcases List.mem_cons.1 h with rfl | h
    · have hl := Gives.giveAll (k.give f) l
      refine ⟨fun hp => Bool.eq_false_iff.2 fun hu => ?_, fun hp => hl.joined f ?_⟩
      · have hu := hl.used _ hu
        rw [StrokeSt.give_in hp, NatSet.mem_del] at hu
        simp at hu
      · rw [StrokeSt.give_out hp, NatSet.mem_ins]
        simp
    · have hs := (Gives.give k g).spareCfg
      have hi := ih (k := k.give g) h
      unfold StrokeSt.inPool at hi ⊢
      rwa [hs] at hi

theorem Pkg.frameRecycle_eq (s : Pkg) : s.frameRecycle = { s.foldAll s.ctxs.keys with
    stroke := { (s.foldAll s.ctxs.keys).stroke.giveAll (s.foldAll s.ctxs.keys).stroke.recycle with recycle := [] } } := rfl

theorem Pkg.tasks_recordBlind : RecordBlind Pkg.tasks := ⟨⟨fun _ _ _ _ _ _ _ _ => rfl⟩, fun _ _ _ _ _ => rfl⟩
theorem Pkg.slots_recordBlind : RecordBlind Pkg.slots := ⟨⟨fun _ _ _ _ _ _ _ _ => rfl⟩, fun _ _ _ _ _ => rfl⟩
theorem Pkg.cores_recordBlind : RecordBlind Pkg.cores := ⟨⟨fun _ _ _ _ _ _ _ _ => rfl⟩, fun _ _ _ _ _ => rfl⟩
theorem Pkg.clusters_recordBlind : RecordBlind Pkg.clusters := ⟨⟨fun _ _ _ _ _ _ _ _ => rfl⟩, fun _ _ _ _ _ => rfl⟩

theorem Pkg.mem_keys_of_dirty {c r : Nat} (h : (s.ctx c).dirty = [r]) : c ∈ s.ctxs.keys := by
  cases hx : s.ctxs.find c with
  | some x => exact List.mem_map.2 ⟨_, Tbl.mem_of_find hx, rfl⟩
  | none =>
    rw [Pkg.ctx, Tbl.get, hx] at h
    exact absurd h nofun

end Sys2Proof.Machine

end

section
/-! Staged writes resumed (R67, R69, R85, R86). -/

namespace Sys2Proof.Machine

variable {s : Pkg}

/-! ### Registers that an access leaves -/

section
variable {r : Nat} (h : r ≠ Reg.logHostDrops) (h' : r ≠ Reg.logOverwritten)
include h h'

theorem Pkg.reg_taskEvent (s : Pkg) (k e u c : Nat) (d : Bytes) : (s.taskEvent k e u c d).reg r = s.reg r := by
  unfold Pkg.taskEvent
  rw [Pkg.reg_updTask, Pkg.reg_logWith _ _ _ _ _ _ _ h h']

theorem Pkg.reg_taskCode (s : Pkg) (k c : Nat) : (s.taskCode k c).reg r = s.reg r := by
  unfold Pkg.taskCode
  dsimp only
  split
  · exact Pkg.reg_updTask _ _ _ _
  · rw [Pkg.reg_taskEvent h h', Pkg.reg_updTask]

/-- A register that counts no granule's error is left by reads of granules. -/
theorem Pkg.reg_touch (hp : ∀ n, r ≠ Reg.poisonReads n) (hu : ∀ n, r ≠ Reg.ueCount n) (hc : ∀ n, r ≠ Reg.mpBlock n + 0x100) (s : Pkg) (f : Nat)
    (gs : List Nat) : (s.touch f gs).reg r = s.reg r := by
  have hpoison (s : Pkg) (g f : Nat) : (s.poisonGranule g f).reg r = s.reg r := by
    unfold Pkg.poisonGranule
    rw [Pkg.reg_logEv _ _ _ _ _ h h', Pkg.reg_bump_ne _ (hu _)]
    rfl
  refine touch_view (P := fun s => s.reg r) (fun s f g => ?_) (fun _ _ => rfl) s f gs
  unfold Pkg.touch1
  dsimp only
  split
  · exact Pkg.reg_bump_ne _ (hp _)
  · split
    · exact hpoison _ _ _
    · split
      · exact Pkg.reg_bump_ne _ (hc _)
      · split
        · rfl
        · exact hpoison _ _ _

end

/-! ### A write that faults or waits -/

/-- A write within a page that faults, or waits, has looked its page up, and no more. -/
theorem Pkg.vWrite1_looks {c va : Nat} {b : WrBy} {bs : Bytes} {bad : Bool} {acc : Acc} {r : Pkg}
    (h : s.vWrite1 c va b bs bad acc = .fault r ∨ ∃ n e, s.vWrite1 c va b bs bad acc = .staged r n e) : ∃ gs, r = (s.touch 0 gs).cacheAt c va := by
  unfold Pkg.vWrite1 at h
  split at h
  next gs _ =>
    rcases h with h | ⟨n, e, h⟩
    · exact ⟨gs, (WrRes.fault.inj h).symm⟩
    · exact absurd h nofun
  · rcases h with h | ⟨n, e, h⟩ <;> exact absurd h nofun
  next gs _ =>
    dsimp only at h
    refine ⟨gs, ?_⟩
    split at h
    · rcases h with h | ⟨n, e, h⟩
      · exact absurd h nofun
      · exact (WrRes.staged.inj h).1.symm
    · split at h
      · split at h
        · rcases h with h | ⟨n, e, h⟩ <;> exact absurd h nofun
        · rcases h with h | ⟨n, e, h⟩
          · exact (WrRes.fault.inj h).symm
          · exact absurd h nofun
      · rcases h with h | ⟨n, e, h⟩
        · exact absurd h nofun
        · exact (WrRes.staged.inj h).1.symm

/-- What such a write leaves: bytes, contexts, the stroke clock and every register but the counts of granules' errors. -/
theorem Pkg.looked_kept (s : Pkg) (gs : List Nat) (c va : Nat) : ((s.touch 0 gs).cacheAt c va).mem.bytes = s.mem.bytes ∧
    ((s.touch 0 gs).cacheAt c va).ctxs = s.ctxs ∧ ((s.touch 0 gs).cacheAt c va).stroke = s.stroke ∧
    ((s.touch 0 gs).cacheAt c va).reg Reg.ptFaults = s.reg Reg.ptFaults ∧ ((s.touch 0 gs).cacheAt c va).reg Reg.poolEmpty = s.reg Reg.poolEmpty := by
  obtain ⟨hx, hb⟩ := (s.touch 0 gs).cacheAt_ctxs_bytes c va
  have hr (r : Nat) : ((s.touch 0 gs).cacheAt c va).reg r = (s.touch 0 gs).reg r := by
    unfold Pkg.cacheAt
    split <;> rfl
  refine ⟨hb.trans (s.bytes_touch 0 gs), hx.trans (s.touch_ctxs 0 gs), (Pkg.stroke_memBlind.cacheAt _ c va).trans (Pkg.stroke_memBlind.touch s 0 gs), ?_, ?_⟩
  · rw [hr, Pkg.reg_touch] <;> simp only [Reg.ptFaults, Reg.logHostDrops, Reg.logOverwritten, Reg.poisonReads, Reg.ueCount, Reg.mpBlock] <;> omega
  · rw [hr, Pkg.reg_touch] <;> simp only [Reg.poolEmpty, Reg.logHostDrops, Reg.logOverwritten, Reg.poisonReads, Reg.ueCount, Reg.mpBlock] <;> omega

/-! ### One write that waits -/

/-- What the one write that waits in a context comes to when it is resumed, `q` being the package without it. -/
def Pkg.resumeOne (q : Pkg) (c : Nat) (w : StagedWrite) : Pkg :=
  match (q.started c w.old).vWrite1 c w.addr w.by_ w.data w.bad (if w.by_.pkt.isSome then .remoteWrite else .write) with
  | .done r fl =>
    let r := if w.by_.arrives then r.arrive c w.addr w.data.length else r
    match w.by_.task with
    | some (j, _) => r.taskFlags j fl
    | none => r
  | .fault r =>
    match w.by_.task with
    | some (j, unit) => r.taskFault j unit
    | none => r
  | .staged r n e =>
    let r := if e && !w.counted then r.bump Reg.poolEmpty else r
    let r := r.updCtx c fun x => { x with stagedWrites := x.stagedWrites ++ [{ w with record := some n, counted := w.counted || e }] }
    match w.by_.task with
    | some (j, _) => r.taskFlags j {}
    | none => r

theorem Ctx.flowWaits_of_none {x : Ctx} (h : x.stagedWrites = []) (b : WrBy) : x.flowWaits b = false := by
  unfold Ctx.flowWaits
  rw [h]
  cases b.pkt <;> rfl

theorem Pkg.started_ctx (s : Pkg) (c : Nat) (old : Option (Tbl (Word × Bool))) : (s.started c old).ctxs = s.ctxs := by
  unfold Pkg.started
  split <;> rfl

theorem Pkg.stagedResume_one {c : Nat} {w : StagedWrite} (h : (s.ctx c).stagedWrites = [w]) :
    s.stagedResume c = ((s.updCtx c fun x => { x with stagedWrites := [] }).resumeOne c w).resumed (s.updCtx c fun x => { x with stagedWrites := [] }) c w.old := by
  unfold Pkg.stagedResume
  rw [h, List.foldl_cons, List.foldl_nil]
  generalize hq : (s.updCtx c fun x => { x with stagedWrites := [] }) = q
  have hs : (q.ctx c).stagedWrites = [] := by
    rw [← hq, Pkg.ctx_updCtx, if_pos rfl]
  have hw : ((q.started c w.old).ctx c).flowWaits w.by_ = false :=
    Ctx.flowWaits_of_none ((congrArg (fun t => (Tbl.get ({} : Ctx) t c).stagedWrites) (q.started_ctx c w.old)).trans hs) _
  unfold Pkg.under Pkg.vWritePart Pkg.resumeOne
  dsimp only
  rw [hw, if_neg Bool.false_ne_true]
  refine congrArg (fun r : Pkg => r.resumed q c w.old) ?_
  cases (q.started c w.old).vWrite1 c w.addr w.by_ w.data w.bad (if w.by_.pkt.isSome then .remoteWrite else .write) with
  | done r fl => cases w.by_.task <;> rfl
  | fault r => cases w.by_.task <;> rfl
  | staged r n e => cases w.by_.task <;> rfl

theorem Pkg.resumed_eq (s before : Pkg) (c : Nat) (old : Option (Tbl (Word × Bool))) : ∃ t, s.resumed before c old = { s with tlb := t } := by
  unfold Pkg.resumed
  split
  · exact ⟨_, rfl⟩
  · exact ⟨s.tlb, rfl⟩

theorem Pkg.started_eq (s : Pkg) (c : Nat) (old : Option (Tbl (Word × Bool))) : ∃ t, s.started c old = { s with tlb := t } := by
  unfold Pkg.started
  split
  · exact ⟨_, rfl⟩
  · exact ⟨s.tlb, rfl⟩

/-- The write of a page that a context makes where its one write that waits is resumed. -/
def Pkg.resumedWrite (q : Pkg) (c : Nat) (w : StagedWrite) : WrRes :=
  (q.started c w.old).vWrite1 c w.addr w.by_ w.data w.bad (if w.by_.pkt.isSome then .remoteWrite else .write)

/-- The look-up of the page of a write that is resumed leaves bytes, contexts, the stroke clock and the counts of faults and waits. -/
theorem Pkg.resumedWrite_looked {q r : Pkg} {c : Nat} {w : StagedWrite} (h : q.resumedWrite c w = .fault r ∨ ∃ n e, q.resumedWrite c w = .staged r n e) :
    r.mem.bytes = q.mem.bytes ∧ r.ctxs = q.ctxs ∧ r.stroke = q.stroke ∧ r.reg Reg.ptFaults = q.reg Reg.ptFaults ∧
    r.reg Reg.poolEmpty = q.reg Reg.poolEmpty := by
  obtain ⟨gs, rfl⟩ := Pkg.vWrite1_looks h
  obtain ⟨t, ht⟩ := q.started_eq c w.old
  rw [ht]
  exact Pkg.looked_kept _ gs c w.addr

theorem Pkg.resumeOne_fault {q r : Pkg} {c : Nat} {w : StagedWrite} (h : q.resumedWrite c w = .fault r) :
    (q.resumeOne c w).ctxs = q.ctxs ∧ (q.resumeOne c w).mem.bytes = q.mem.bytes ∧ (q.resumeOne c w).stroke = q.stroke ∧
    (w.by_.task.isSome = true → (q.resumeOne c w).reg Reg.ptFaults = q.reg Reg.ptFaults + 1) := by
  obtain ⟨hb, hx, hk, hf, -⟩ := Pkg.resumedWrite_looked (.inl h)
  have he : q.resumeOne c w = match w.by_.task with
    | some (j, unit) => r.taskFault j unit
    | none => r := by
    unfold Pkg.resumeOne
    rw [show Pkg.vWrite1 _ _ _ _ _ _ _ = _ from h]
  rw [he]
  cases w.by_.task with
  | none => exact ⟨hx, hb, hk, nofun⟩
  | some x =>
    refine ⟨(NoteBlind.taskFault (P := Pkg.ctxs) ⟨⟨fun _ _ _ _ _ => rfl⟩, fun _ _ _ _ _ _ => rfl⟩ _ _ _).trans hx,
      (NoteBlind.taskFault (P := fun s => s.mem.bytes) ⟨⟨fun _ _ _ _ _ => rfl⟩, fun _ _ _ _ _ _ => rfl⟩ _ _ _).trans hb,
      (NoteBlind.taskFault (P := Pkg.stroke) ⟨⟨fun _ _ _ _ _ => rfl⟩, fun _ _ _ _ _ _ => rfl⟩ _ _ _).trans hk, fun _ => ?_⟩
    unfold Pkg.taskFault
    rw [Pkg.reg_taskCode (by decide) (by decide), Pkg.reg_taskEvent (by decide) (by decide), Pkg.reg_bump_same, hf]

/-- A first write that finds the pool empty counted (R69). -/
def Pkg.countEmpty (s : Pkg) (b : Bool) : Pkg := if b then s.bump Reg.poolEmpty else s

theorem Pkg.countEmpty_kept (s : Pkg) (b : Bool) : (s.countEmpty b).ctxs = s.ctxs ∧ (s.countEmpty b).mem.bytes = s.mem.bytes ∧
    (s.countEmpty b).stroke = s.stroke ∧ (s.countEmpty b).reg Reg.poolEmpty = s.reg Reg.poolEmpty + BitVec.ofNat 64 b.toNat := by
  cases b with
  | false => exact ⟨rfl, rfl, rfl, (BitVec.add_zero _).symm⟩
  | true => exact ⟨rfl, rfl, rfl, Pkg.reg_bump_same _ _⟩

theorem Pkg.resumeOne_staged {q r : Pkg} {c n : Nat} {e : Bool} {w : StagedWrite} (h : q.resumedWrite c w = .staged r n e)
    (hs : (q.ctx c).stagedWrites = []) :
    ((q.resumeOne c w).ctx c).stagedWrites = [{ w with record := some n, counted := w.counted || e }] ∧
    (q.resumeOne c w).mem.bytes = q.mem.bytes ∧ (q.resumeOne c w).stroke = q.stroke ∧
    (q.resumeOne c w).reg Reg.poolEmpty = q.reg Reg.poolEmpty + BitVec.ofNat 64 (e && !w.counted).toNat := by
  obtain ⟨hb, hx, hk, -, hp⟩ := Pkg.resumedWrite_looked (.inr ⟨n, e, h⟩)
  let r0 : Pkg := r.countEmpty (e && !w.counted)
  let r1 : Pkg := r0.updCtx c fun x => { x with stagedWrites := x.stagedWrites ++ [{ w with record := some n, counted := w.counted || e }] }
  have he : q.resumeOne c w = match w.by_.task with
    | some (j, _) => r1.taskFlags j {}
    | none => r1 := by
    unfold Pkg.resumeOne
    rw [show Pkg.vWrite1 _ _ _ _ _ _ _ = _ from h]
    rfl
  have hv {α : Type} {P : Pkg → α} (ht : ∀ s k f, P (Pkg.updTask s k f) = P s) : P (q.resumeOne c w) = P r1 := by
    rw [he]
    cases w.by_.task with
    | none => rfl
    | some x => exact ht _ _ _
  have h0 : r0.ctxs = r.ctxs ∧ r0.mem.bytes = r.mem.bytes ∧ r0.stroke = r.stroke ∧
      r0.reg Reg.poolEmpty = r.reg Reg.poolEmpty + BitVec.ofNat 64 (e && !w.counted).toNat := by
    exact r.countEmpty_kept _
  obtain ⟨hx0, hb0, hk0, hp0⟩ := h0
  refine ⟨?_, (hv (P := fun s => s.mem.bytes) fun s k f => congrArg MemSt.bytes (s.updTask_mem k f)).trans (hb0.trans hb), (hv fun s k f => s.updTask_stroke k f).trans (hk0.trans hk),
    (hv (P := fun s => s.reg Reg.poolEmpty) fun s k f => s.reg_updTask k f _).trans (hp0.trans (by rw [hp]))⟩
  have hr1 : (q.resumeOne c w).ctx c = r1.ctx c := congrArg (fun t => Tbl.get ({} : Ctx) t c) (hv fun s k f => s.updTask_ctxs k f)
  rw [hr1, Pkg.ctx_updCtx, if_pos rfl]
  have hs0 : (r0.ctx c).stagedWrites = [] := (congrArg (fun t => (Tbl.get ({} : Ctx) t c).stagedWrites) (hx0.trans hx)).trans hs
  dsimp only
  rw [hs0, List.nil_append]

theorem Pkg.resumeOne_done {q r : Pkg} {c : Nat} {fl : Sticky} {w : StagedWrite} (h : q.resumedWrite c w = .done r fl) :
    q.resumeOne c w =
      let r := if w.by_.arrives then r.arrive c w.addr w.data.length else r
      match w.by_.task with
      | some (j, _) => r.taskFlags j fl
      | none => r := by
  unfold Pkg.resumeOne
  rw [show Pkg.vWrite1 _ _ _ _ _ _ _ = _ from h]

end Sys2Proof.Machine

open Sys2Proof Sys2Proof.Machine

/-- Settles O19: folds of records recycle frames and touch no work; a write that is resumed is the same write, under its translations. -/
theorem sparePoolAtWork : Obligations.SparePoolAtWork := by
  intro s t p k b
  constructor
  · have hi : exec (.frameRecycle t) s = s.run t Pkg.frameRecycle := rfl
    obtain ⟨l, hk⟩ : ∃ l, (p.foldAll p.ctxs.keys).stroke = { k with recycle := k.recycle ++ l } := Recycles.foldAll p p.ctxs.keys
    have hg := Gives.giveAll { k with recycle := k.recycle ++ l } (k.recycle ++ l)
    have hm {f : Nat} := StrokeSt.giveAll_mem (k := { k with recycle := k.recycle ++ l }) (l := k.recycle ++ l) (f := f)
    have hq : p.frameRecycle = { p.foldAll p.ctxs.keys with
        stroke := { StrokeSt.giveAll { k with recycle := k.recycle ++ l } (k.recycle ++ l) with recycle := [] } } := by
      rw [Pkg.frameRecycle_eq, hk]
    rw [hi]
    refine ⟨k.recycle ++ l, fun f hf => List.mem_append_left _ hf, .run_of hq ⟨congrArg (fun k : StrokeSt => { k with recycle := [] }) hg.eq,
      Pkg.foldAll_keeps Pkg.tasks_recordBlind (fun _ _ => rfl) p _, Pkg.foldAll_keeps Pkg.slots_recordBlind (fun _ _ => rfl) p _,
      Pkg.foldAll_keeps Pkg.cores_recordBlind (fun _ _ => rfl) p _, Pkg.foldAll_keeps Pkg.clusters_recordBlind (fun _ _ => rfl) p _,
      fun c => p.foldAll_ctx _ c, ?_, fun f hf hlo hhi => (hm hf).1 ⟨hlo, hhi⟩, fun f hf ho => (hm hf).2 ho,
      hg.used, hg.joined, rfl⟩⟩
    intro c r hn hd ho hst hb f hf
    obtain ⟨hbytes, hrec⟩ := Pkg.foldAll_one (s := p) hn (Pkg.mem_keys_of_dirty (s := p) hd) hd ho hst hb hf
    exact ⟨hbytes, (congrArg StrokeSt.recycle hk).symm.trans hrec⟩
  · intro c w hc hw q
    have hi : exec (.stagedWriteResume t c) s = s.run t fun p => p.stagedResume c := if_pos (decide_eq_true hc)
    rw [hi]
    refine .run_of (Pkg.stagedResume_one (s := p) hw) ⟨rfl, ?_⟩
    have hs : (q.ctx c).stagedWrites = [] := by rw [Pkg.ctx_updCtx, if_pos rfl]
    obtain ⟨t2, h2⟩ := (q.resumeOne c w).resumed_eq q c w.old
    split
    next r fl hv =>
      have hd := Pkg.resumeOne_done (q := q) hv
      rw [hd]
      rfl
    next r hv =>
      rw [h2]
      obtain ⟨hx, hb, hk, hf⟩ := Pkg.resumeOne_fault (q := q) hv
      exact ⟨(congrArg (fun t => (Tbl.get ({} : Ctx) t c).stagedWrites) hx).trans hs, hb, hk, hf⟩
    next r n e hv =>
      rw [h2]
      exact Pkg.resumeOne_staged (q := q) hv hs
end

section
/-! Arrival windows (R84, R238): the keys under which the tasks of earlier entries await. -/

namespace Sys2Proof.Machine

theorem exec_arrivalSet (s : State) (t : Nat) {c : Nat} (e : Bytes) (h : c < 4096) : exec (.arrivalSet t c e) s = s.run t fun p => p.arrivalSet c e :=
  if_pos (decide_eq_true h)

/-- What a run is known to answer holds of the operation's package. -/
theorem Answers.of_run {s : State} {t : Nat} {f : Pkg → Pkg} {P : State → Prop} (h : Answers (s.run t f) P) :
    P { s with pkg := { f (s.at t) with now := (s.at t).now, fuses := s.pkg.fuses } } := by
  obtain ⟨u, hu, hP⟩ := h
  exact Host.Outcome.next.inj hu ▸ hP

/-- An ARRIVAL_SET entry that gives counter `n` a stroke-buffered window of 64 B at `base`. -/
def arrivalEntry (n base : Nat) : Bytes := leBytes 1 4 ++ leBytes 1 n ++ leBytes 1 3 ++ leBytes 5 0 ++ leBytes 8 base ++ leBytes 8 64 ++ leBytes 40 0

/-- Counter 7 of context 1 stands at 5. Task 3 awaits it; task 4 awaits counter 8, which has no window. Two entries are ready. -/
def State.twoAwait : State := { pkg := {
  power := { ready := true }
  ctxs := [(1, { phase := .open, sqProd := 2, arrWin := [(7, ⟨0x2000, 64, true, false⟩)], cur := { arr := [(7, 5)] } })]
  tasks := [(3, { ctx := 1, desc := BitVec.ofNat 1024 (2 ^ 472 + 7 * 2 ^ 480) }), (4, { ctx := 1, desc := BitVec.ofNat 1024 (2 ^ 472 + 8 * 2 ^ 480) })] } }

/-- The first entry has given counter 8 a window: task 4 awaits key 256 from now on, under which no window stands. -/
def State.eightSet : State := { pkg := State.twoAwait.pkg.arrivalSet 1 (arrivalEntry 8 0x1000) }

/-- The refuting state is one that the model itself comes to. -/
theorem exec_arrivalSet_twoAwait : exec (.arrivalSet 0 1 (arrivalEntry 8 0x1000)) State.twoAwait = .next State.eightSet :=
  (exec_arrivalSet _ 0 _ (by decide)).trans (State.run_eq rfl (by decide +kernel) (by decide +kernel))

theorem State.eightSet_ready : (State.eightSet.at 0).entryReady 1 = true ∧ le (arrivalEntry 7 0x3000) 0 1 = 4 := by decide +kernel

/-- The next entry, for counter 7, is well formed, and its window overlaps none. -/
theorem State.eightSet_legal : let e := arrivalEntry 7 0x3000
    (le e 2 1 < 4 ∧ zeros e 3 5 = true ∧ zeros e 24 40 = true) ∧ le e 8 8 % 64 = 0 ∧ 1 ≤ le e 16 8 ∧ le e 16 8 % 64 = 0 ∧
    ∀ w ∈ (State.eightSet.pkg.ctx 1).arrWin, w.1 ≠ le e 1 1 → w.1 < 256 → w.2.base + w.2.len ≤ le e 8 8 ∨ le e 8 8 + le e 16 8 ≤ w.2.base := by
  decide +kernel

theorem State.eightSet_tables : let x := State.eightSet.pkg.ctx 1
    x.arrWin = [(7, ⟨0x2000, 64, true, false⟩), (8, ⟨0x1000, 64, true, false⟩)] ∧ x.cur.arr = [(7, 5)] ∧ x.arrDirect = [] := by decide +kernel

/-- Task 4 as the first entry leaves it. -/
def Task.awaitsKept : Task := { ctx := 1, desc := BitVec.ofNat 1024 (2 ^ 472 + 8 * 2 ^ 480), awaits := [(8, 256)] }

theorem State.eightSet_task : State.eightSet.pkg.tasks.find 4 = some Task.awaitsKept := by decide +kernel

theorem State.awaitsKept_await : Task.awaitsKept.awaitEn 0 = true ∧ ∀ v ∈ Task.awaitsKept.awaits.vals, 256 ≤ v := by decide +kernel

/-- It awaits a counter that has no window, at 0. -/
theorem State.eightSet_arrival : (State.eightSet.pkg.ctx 1).arrival (Task.awaitsKept.awaitKey 0) = 0 := by decide +kernel

/-- The next entry keeps the window of counter 7 for task 3 under key 256, at 5: task 4 awaits under the same key. -/
theorem State.eightSet_then_seven : let q := (State.eightSet.at 0).arrivalSet 1 (arrivalEntry 7 0x3000)
    (q.ctx 1).arrival ((q.task 4).awaitKey 0) = 5 := by decide +kernel

end Sys2Proof.Machine

open Sys2Proof Sys2Proof.Machine

/-- Refutes O27: a task that awaits a counter without a window is moved by an ARRIVAL_SET of that counter to a key under which no window stands. The next ARRIVAL_SET of an awaited counter takes the same key for that counter's window, whose value the first task then finds in place of its own, 0. -/
theorem not_arrivalWindows : ¬ Obligations.ArrivalWindows := by
  intro h
  obtain ⟨hready, hkind⟩ := State.eightSet_ready
  obtain ⟨hformed, hlegal⟩ := State.eightSet_legal
  obtain ⟨hwin, harr, hdirect⟩ := State.eightSet_tables
  have hrun := (h State.eightSet 0 1 (arrivalEntry 7 0x3000) (by decide)).2 hready hkind
  rw [exec_arrivalSet _ _ _ (by decide)] at hrun
  have hafter := hrun.of_run
  have hfive := State.eightSet_then_seven
  generalize (State.eightSet.at 0).arrivalSet 1 (arrivalEntry 7 0x3000) = q at hafter hfive
  generalize State.eightSet.pkg.fuses = fuses at hafter
  obtain ⟨-, -, hset, -⟩ := hafter
  obtain ⟨-, -, -, -, -, -, hkept, -⟩ := hset hformed fun _ => hlegal
  have hsorted : Tbl.sorted (State.eightSet.pkg.ctx 1).arrWin := by
    rw [hwin]
    unfold Tbl.sorted
    decide
  have hone : Tbl.sorted (State.eightSet.pkg.ctx 1).cur.arr := by
    rw [harr]
    unfold Tbl.sorted
    decide
  have hnone : Tbl.sorted (State.eightSet.pkg.ctx 1).arrDirect := by
    rw [hdirect]
    exact List.Pairwise.nil
  have habove : ∀ k, 256 ≤ k → (State.eightSet.pkg.ctx 1).arrWin.find k = none →
      (State.eightSet.pkg.ctx 1).cur.arr.find k = none ∧ (State.eightSet.pkg.ctx 1).arrDirect.find k = none := by
    intro k hk _
    rw [harr, hdirect]
    exact ⟨if_neg (by omega), rfl⟩
  have hval := hkept hsorted hone hnone habove 4 Task.awaitsKept 0 State.eightSet_task rfl nofun (by decide) State.awaitsKept_await.1 State.awaitsKept_await.2
  rw [State.eightSet_arrival] at hval
  exact absurd (hfive.symm.trans hval) (by decide)
end

section
/-! Completion of tasks (R60, R75, R85, R190, R236, R237, R250, R283). -/

namespace Sys2Proof.Machine

variable {α : Type} {P : Pkg → α} {s : Pkg}

/-! ### Tasks, but for what is noted on them -/

/-- The task at an index, where it is listed, without what is noted on it. -/
def Pkg.taskPlain (s : Pkg) (j : Nat) : Option Task := (s.tasks.find j).map Task.apartFromNotes

theorem Pkg.taskPlain_noteBlind : NoteBlind Pkg.taskPlain where
  eq _ _ _ _ _ := rfl
  task s k v w hv hw := by
    funext j
    unfold Pkg.taskPlain Pkg.setTask
    dsimp only
    by_cases hj : j = k
    · subst hj
      rw [Tbl.find_set_same, hv]
      exact congrArg some hw
    · rw [Tbl.find_set_ne _ _ hj]

theorem Pkg.taskPlain_writeBlind (c : Nat) : WriteBlind Pkg.taskPlain c :=
  ⟨⟨⟨fun _ _ _ _ _ _ _ _ => rfl⟩, fun _ _ _ _ _ => rfl⟩, fun _ _ _ => rfl⟩

/-- A task listed before and after, and the same but for notes. -/
theorem Pkg.find_of_taskPlain {q : Pkg} (h : q.taskPlain = s.taskPlain) {j : Nat} {v : Task} (hv : s.tasks.find j = some v) :
    ∃ w, q.tasks.find j = some w ∧ w.apartFromNotes = v.apartFromNotes := by
  have hj : q.taskPlain j = some v.apartFromNotes := by rw [h, Pkg.taskPlain, hv]; rfl
  obtain ⟨w, hw, he⟩ := Option.map_eq_some_iff.1 hj
  exact ⟨w, hw, he⟩

theorem Pkg.task_of_find {j : Nat} {v : Task} (h : s.tasks.find j = some v) : s.task j = v := by rw [Pkg.task, Tbl.get, h]; rfl

theorem Pkg.find_of_running {k : Nat} (h : (s.task k).phase = .running) : s.tasks.find k = some (s.task k) := by
  rw [Pkg.task, Tbl.get] at h ⊢
  cases hf : s.tasks.find k with
  | none => rw [hf] at h; exact absurd h nofun
  | some v => rfl

/-! ### Maxima recorded (R250) -/

theorem recordMax_view {c : Nat} (h : WriteBlind P c) (n : NoteBlind P) (s : Pkg) (task : Option Nat) (t : TensorRef) (step value : Nat) :
    P (s.recordMax task c t step value) = P s := by
  unfold Pkg.recordMax
  dsimp only
  split
  · exact (n.noteFor _ _ _ _).trans ((n.bump _ _).trans (h.took s _))
  · exact (h.vWrite _ _ _ _).trans (h.took s _)

/-- The maxima of a completing task recorded. -/
def Pkg.recordMaxima (s : Pkg) (k : Nat) : Pkg :=
  (s.task k).maxima.foldl (fun q m => match (q.task k).tensor m.tensor with
    | some r => q.recordMax (some k) (s.task k).ctx r (s.task k).step (magF32 (m.m, m.e))
    | none => q) s

theorem recordMaxima_view {k : Nat} (h : WriteBlind P (s.task k).ctx) (n : NoteBlind P) : P (s.recordMaxima k) = P s := by
  refine foldl_view (fun q m => ?_) _ s
  split
  · exact recordMax_view h n q _ _ _ _
  · rfl

/-! ### The end of a run -/

/-- A task marked completed, and its successors released (R75, R237). -/
def Pkg.completed (s : Pkg) (k : Nat) (t : Task) (mhz : Nat) : Pkg :=
  let s := { s with stroke := { s.stroke with completeNo := s.stroke.completeNo + 1 } }
  let s := s.updTask k fun x => { x with
    phase := .completed, cycles := (s.now - t.at0) * mhz / 1000, window := s.stroke.number, order := s.stroke.completeNo
    atCompletion := !t.replayable }
  { s with tasks := s.tasks.mapV fun _ u =>
    if u.ctx = t.ctx ∧ u.seq = t.seq ∧ t.succs.contains u.idx then { u with deps := u.deps - t.listed u.idx } else u }

/-- What follows a completion: the task's row statistics are released where no tensor of its context is buffered, and a task that is not replayable is reported. -/
def Pkg.completionTail (s : Pkg) (k : Nat) (t : Task) : Pkg :=
  let buffered := (s.tasks.any fun u => u.2.ctx == t.ctx && u.2.tensors.any (·.buffered)) || s.slots.any fun m => m.2.owner == t.ctx
  let s := if buffered then s else s.statMarks k true
  if t.replayable then s else s.report t.ctx [k] false

theorem Pkg.complete_eq (s : Pkg) (k : Nat) : s.complete k =
    (((s.recordMaxima k).stopTask k).completed k (s.task k) (s.dieMhz ((s.task k).dieOf (s.task k).core))).completionTail k (s.task k) := rfl

theorem Pkg.core_setCore (s : Pkg) (c : Nat) (x : CoreSt) (j : Nat) : (s.setCore c x).core j = if j = c then x else s.core j := Tbl.get_set _ _ _ _ _

theorem Pkg.cluster_setCluster (s : Pkg) (c : Nat) (x : ClusterSt) (j : Nat) : (s.setCluster c x).cluster j = if j = c then x else s.cluster j :=
  Tbl.get_set _ _ _ _ _

/-- What a core has in hand, and what a cluster's update engine has. -/
def Pkg.inHand (s : Pkg) (c : Nat) : Option Nat × Hold × Option Nat := ((s.core c).task, (s.core c).hold, (s.cluster c).upe.task)

theorem Pkg.inHand_ringBlind : RingBlind Pkg.inHand := ⟨⟨fun _ _ _ _ _ => rfl⟩, fun _ _ => rfl, fun _ _ => rfl, fun _ _ => rfl⟩

theorem Pkg.inHand_noteBlind : NoteBlind Pkg.inHand := Pkg.inHand_ringBlind.note

theorem Pkg.inHand_writeBlind (c : Nat) : WriteBlind Pkg.inHand c := ⟨⟨⟨fun _ _ _ _ _ _ _ _ => rfl⟩, fun _ _ _ _ _ => rfl⟩, fun _ _ _ => rfl⟩

theorem Pkg.inHand_statMarks (s : Pkg) (k : Nat) (r : Bool) : (s.statMarks k r).inHand = s.inHand := by
  refine statMarks_view (P := Pkg.inHand) (fun s c x ht hh => ?_) (fun s c x hu _ => ?_) s k r
  · funext d
    unfold Pkg.inHand
    rw [Pkg.core_setCore]
    split
    next hd => rw [hd, ht, hh]; rfl
    · rfl
  · funext d
    unfold Pkg.inHand
    rw [Pkg.cluster_setCluster]
    split
    next hd => rw [hd, hu]; rfl
    · rfl

theorem Pkg.inHand_completionTail (s : Pkg) (k : Nat) (t : Task) : (s.completionTail k t).inHand = s.inHand := by
  unfold Pkg.completionTail
  dsimp only
  refine view_ite ?_ ((Pkg.inHand_ringBlind.reportTasks _ _ _ _).trans ?_) <;> exact view_ite rfl (Pkg.inHand_statMarks s k true)

/-- A replayable task's completion leaves the tasks as the end of its run has marked them. -/
theorem Pkg.tasks_completionTail {t : Task} (h : t.replayable = true) (s : Pkg) (k : Nat) : (s.completionTail k t).tasks = s.tasks := by
  unfold Pkg.completionTail
  rw [if_pos h]
  exact view_ite rfl (statMarks_view (P := Pkg.tasks) (fun _ _ _ _ _ => rfl) (fun _ _ _ _ _ => rfl) s k true)

/-- The number of the stroke and the completions counted so far. -/
def Pkg.counts (s : Pkg) : Nat × Nat := (s.stroke.number, s.stroke.completeNo)

theorem Pkg.counts_ringBlind : RingBlind Pkg.counts := ⟨⟨fun _ _ _ _ _ => rfl⟩, fun _ _ => rfl, fun _ _ => rfl, fun _ _ => rfl⟩

theorem Pkg.counts_writeBlind (c : Nat) : WriteBlind Pkg.counts c := ⟨⟨⟨fun _ _ _ _ _ _ _ _ => rfl⟩, fun _ _ _ _ _ => rfl⟩, fun _ _ _ => rfl⟩

theorem Pkg.counts_completionTail (s : Pkg) (k : Nat) (t : Task) : (s.completionTail k t).counts = s.counts := by
  have hm := statMarks_view (P := Pkg.counts) (fun _ _ _ _ _ => rfl) (fun _ _ _ _ _ => rfl) s k true
  unfold Pkg.completionTail
  dsimp only
  refine view_ite ?_ ((Pkg.counts_ringBlind.reportTasks _ _ _ _).trans ?_) <;> exact view_ite rfl hm

/-! ### A task stopped -/

theorem Pkg.stopTask_keeps (s : Pkg) (k : Nat) : (s.stopTask k).tasks = s.tasks ∧ (s.stopTask k).counts = s.counts := by
  unfold Pkg.stopTask
  dsimp only
  (repeat' split) <;> exact ⟨rfl, rfl⟩

/-- The unit of a running task that is stopped is free. -/
theorem Pkg.inHand_stopTask {k : Nat} (h : (s.task k).phase = .running) :
    if (s.task k).update then (s.cluster (s.task k).core).upe.task = some k → ((s.stopTask k).inHand (s.task k).core).2.2 = none
    else (s.core (s.task k).core).task = some k → ((s.stopTask k).inHand (s.task k).core).1 = none ∧ ((s.stopTask k).inHand (s.task k).core).2.1 = .none := by
  unfold Pkg.stopTask
  dsimp only
  rw [if_neg (not_not_intro h)]
  split
  · intro hc
    have hf : ((s.creditRun k).cluster (s.task k).core).upe.task = some k := hc
    unfold Pkg.inHand Pkg.updCluster
    rw [Pkg.cluster_setCluster, if_pos rfl]
    exact congrArg (fun c : ClusterSt => c.upe.task) (if_pos hf)
  · intro hc
    have hf : ((s.creditRun k).core (s.task k).core).task = some k := hc
    unfold Pkg.inHand
    rw [Pkg.core_updCore_same]
    exact ⟨congrArg CoreSt.task (if_pos hf), congrArg CoreSt.hold (if_pos hf)⟩

/-! ### A task completed -/

/-- What a completion makes of each task: the one that completes is completed in the current window, and its successors wait for it no longer. -/
theorem Pkg.find_completed {k : Nat} {v : Task} (hv : s.tasks.find k = some v) (t : Task) (mhz : Nat) :
    (∃ w, (s.completed k t mhz).tasks.find k = some w ∧ w.phase = .completed ∧ w.window = s.stroke.number ∧ w.order = s.stroke.completeNo + 1) ∧
    ∀ j y, j ≠ k → s.tasks.find j = some y → (s.completed k t mhz).tasks.find j =
      some (if y.ctx = t.ctx ∧ y.seq = t.seq ∧ t.succs.contains y.idx = true then { y with deps := y.deps - t.listed y.idx } else y) := by
  unfold Pkg.completed Pkg.updTask
  dsimp only
  rw [hv]
  dsimp only [Pkg.setTask]
  constructor
  · rw [Tbl.find_mapV, Tbl.find_set_same]
    refine ⟨_, rfl, ?_⟩
    dsimp only
    split <;> exact ⟨rfl, rfl, rfl⟩
  · intro j y hj hy
    rw [Tbl.find_mapV, Tbl.find_set_ne _ _ hj, hy]
    rfl

theorem Pkg.completed_keeps (s : Pkg) (k : Nat) (t : Task) (mhz : Nat) : (s.completed k t mhz).inHand = s.inHand ∧
    (s.completed k t mhz).counts = (s.counts.1, s.counts.2 + 1) := by
  unfold Pkg.completed Pkg.updTask
  dsimp only
  split <;> exact ⟨rfl, rfl⟩

/-! ### The completion of a running task -/

theorem Task.same_of_apartFromNotes {v w : Task} (h : w.apartFromNotes = v.apartFromNotes) : w.ctx = v.ctx ∧ w.seq = v.seq ∧ w.idx = v.idx ∧
    w.deps = v.deps ∧ w.update = v.update ∧ w.phase = v.phase ∧ w.core = v.core := by
  cases v
  cases w
  cases h
  exact ⟨rfl, rfl, rfl, rfl, rfl, rfl, rfl⟩

theorem Pkg.recordMaxima_task (s : Pkg) {k : Nat} (h : (s.task k).phase = .running) :
    ((s.recordMaxima k).task k).apartFromNotes = (s.task k).apartFromNotes := by
  obtain ⟨w, hw, he⟩ := Pkg.find_of_taskPlain (recordMaxima_view (Pkg.taskPlain_writeBlind _) Pkg.taskPlain_noteBlind) (Pkg.find_of_running h)
  rw [Pkg.task_of_find hw, he]

theorem Pkg.counts_complete (s : Pkg) (k : Nat) : (s.complete k).counts = (s.counts.1, s.counts.2 + 1) := by
  rw [Pkg.complete_eq, Pkg.counts_completionTail, (Pkg.completed_keeps _ _ _ _).2, (Pkg.stopTask_keeps _ _).2,
    recordMaxima_view (Pkg.counts_writeBlind _) Pkg.counts_ringBlind.note]

/-- The completion of a running task frees its unit. -/
theorem Pkg.inHand_complete {k : Nat} (h : (s.task k).phase = .running) :
    if (s.task k).update then (s.cluster (s.task k).core).upe.task = some k → ((s.complete k).inHand (s.task k).core).2.2 = none
    else (s.core (s.task k).core).task = some k → ((s.complete k).inHand (s.task k).core).1 = none ∧ ((s.complete k).inHand (s.task k).core).2.1 = .none := by
  obtain ⟨-, -, -, -, hupd, hphase, hcore⟩ := Task.same_of_apartFromNotes (Pkg.recordMaxima_task s h)
  have hhand : (s.recordMaxima k).inHand (s.task k).core = s.inHand (s.task k).core :=
    congrFun (recordMaxima_view (Pkg.inHand_writeBlind _) Pkg.inHand_noteBlind) _
  have hs := Pkg.inHand_stopTask (hphase.trans h)
  rw [hcore, hupd] at hs
  rw [Pkg.complete_eq, Pkg.inHand_completionTail, (Pkg.completed_keeps _ _ _ _).1]
  split
  next hu =>
    rw [if_pos hu] at hs
    exact fun hc => hs ((congrArg (fun x => x.2.2) hhand).trans hc)
  next hu =>
    rw [if_neg hu] at hs
    exact fun hc => hs ((congrArg (fun x => x.1) hhand).trans hc)

/-- The completion of a running, replayable task, and what it makes of the tasks of its sketch. -/
theorem Pkg.task_complete {k : Nat} (h : (s.task k).phase = .running) (hr : (s.task k).replayable = true) :
    ((s.complete k).task k).phase = .completed ∧ ((s.complete k).task k).window = s.stroke.number ∧ ((s.complete k).task k).order = s.stroke.completeNo + 1 ∧
    ∀ j y, j ≠ k → s.tasks.find j = some y →
      ((s.complete k).task j).deps = (if y.ctx = (s.task k).ctx ∧ y.seq = (s.task k).seq ∧ (s.task k).succs.contains y.idx = true then
        y.deps - (s.task k).listed y.idx else y.deps) ∧
      ((s.complete k).task j).phase = y.phase := by
  have hview : (s.recordMaxima k).taskPlain = s.taskPlain := recordMaxima_view (Pkg.taskPlain_writeBlind _) Pkg.taskPlain_noteBlind
  have hcounts : ((s.recordMaxima k).stopTask k).counts = s.counts :=
    (Pkg.stopTask_keeps _ _).2.trans (recordMaxima_view (Pkg.counts_writeBlind _) Pkg.counts_ringBlind.note)
  have htasks := (Pkg.stopTask_keeps (s.recordMaxima k) k).1
  obtain ⟨w, hw, -⟩ := Pkg.find_of_taskPlain hview (Pkg.find_of_running h)
  obtain ⟨⟨z, hz, hphase, hwin, hord⟩, hothers⟩ := Pkg.find_completed (s := (s.recordMaxima k).stopTask k) (v := w) (by rw [htasks, hw]) (s.task k)
    (s.dieMhz ((s.task k).dieOf (s.task k).core))
  replace hwin := hwin.trans (congrArg Prod.fst hcounts)
  replace hord := hord.trans (congrArg (fun x => x.2 + 1) hcounts)
  have htail := Pkg.tasks_completionTail hr (((s.recordMaxima k).stopTask k).completed k (s.task k) (s.dieMhz ((s.task k).dieOf (s.task k).core))) k
  rw [← Pkg.complete_eq] at htail
  rw [← htail] at hz hothers
  rw [Pkg.task_of_find hz]
  refine ⟨hphase, hwin, hord, fun j y hj hy => ?_⟩
  obtain ⟨u, hu, he⟩ := Pkg.find_of_taskPlain hview hy
  obtain ⟨hctx, hseq, hidx, hdeps, -, hph, -⟩ := Task.same_of_apartFromNotes he
  rw [Pkg.task_of_find (hothers j u hj (by rw [htasks, hu])), hctx, hseq, hidx]
  split
  · exact ⟨congrArg (· - _) hdeps, hph⟩
  · exact ⟨hdeps, hph⟩

end Sys2Proof.Machine

open Sys2Proof Sys2Proof.Machine

theorem Pkg.taskComplete_eq {s : Pkg} {c k : Nat} (h : (s.core c).task = some k) : s.taskComplete c =
    if (s.task k).phase = .running ∧ s.stagedFor k = false ∧ s.dieStopped (c / 32) = false ∧ (s.core c).ended = true ∧ s.taskXfers k none = []
    then s.complete k else s := by
  unfold Pkg.taskComplete
  rw [h]
  dsimp only
  refine if_congr ?_ rfl rfl
  simp only [Bool.and_eq_true, Bool.not_eq_true', List.isEmpty_iff, beq_iff_eq]
  tauto

theorem Pkg.updateComplete_eq {s : Pkg} {c k : Nat} (h : (s.cluster c).upe.task = some k) : s.updateComplete c =
    if (s.task k).phase = .running ∧ s.stagedFor k = false ∧ s.dieStopped (c / 4) = false ∧ (s.cluster c).upe.done = true then s.complete k else s := by
  unfold Pkg.updateComplete
  dsimp only
  rw [h]
  dsimp only
  refine if_congr ?_ rfl rfl
  simp only [Bool.and_eq_true, Bool.not_eq_true', beq_iff_eq]
  tauto

/-- Settles O29, by what the completion of a running task frees, marks and counts. -/
theorem taskCompletion : Obligations.TaskCompletion := by
  intro s t unit k update hunit p x i hk ends
  have hrun : exec i s = s.run t fun p => if update then p.updateComplete unit else p.taskComplete unit := by
    cases update
    · exact if_pos (decide_eq_true hunit)
    · exact if_pos (decide_eq_true hunit)
  have hdone : (if update then p.updateComplete unit else p.taskComplete unit) = if ends then p.complete k else p := by
    cases update
    · exact Pkg.taskComplete_eq (s := p) hk
    · exact Pkg.updateComplete_eq (s := p) hk
  rw [hrun]
  refine ⟨fun hn => State.run_eq (hdone.trans (if_neg hn)) rfl rfl, fun he hunit hupd => .run_of (hdone.trans (if_pos he)) ?_⟩
  have hcounts := Pkg.counts_complete p k
  have hhand := Pkg.inHand_complete (s := p) he.1
  refine ⟨?_, fun hr _ => ?_, congrArg Prod.fst hcounts, rfl⟩
  · subst hunit hupd
    cases hu : x.update
    · rw [hu] at hk
      exact (if_neg (ne_true_of_eq_false hu)).mp hhand hk
    · rw [hu] at hk
      exact (if_pos hu).mp hhand hk
  · obtain ⟨hphase, hwin, hord, hothers⟩ := Pkg.task_complete (s := p) he.1 hr
    exact ⟨hphase, hwin, congrArg Prod.snd hcounts, hord, hothers⟩
end

section
/-! Dispatch of tasks (R54, R57, R58, R78, R102, R170, R183, R237, R240, R242, R249, R288). -/

namespace Sys2Proof.Machine

variable {α : Type} {P : Pkg → α} {s : Pkg}

/-! ### The task whose turn it is (R240) -/

/-- The least of a list: one of its members, before which none comes. -/
theorem foldl_least {less : α → α → Bool} (hasymm : ∀ a b, less a b = true → less b a = false)
    (htrans : ∀ a b c, less b a = false → less c b = false → less c a = false) (l : List α) (b : α) :
    let m := l.foldl (fun b y => if less y b then y else b) b
    m ∈ b :: l ∧ ∀ y ∈ b :: l, less y m = false := by
  induction l generalizing b with
  | nil =>
    refine ⟨List.mem_cons_self, fun y hy => ?_⟩
    obtain rfl := List.mem_singleton.1 hy
    by_contra hn
    exact hn (hasymm _ _ (Bool.eq_true_of_not_eq_false hn))
  | cons x l ih =>
    obtain ⟨hmem, hleast⟩ := ih (if less x b then x else b)
    rw [List.foldl_cons]
    refine ⟨?_, fun y hy => ?_⟩
    · rcases List.mem_cons.1 hmem with h | h
      · rw [h]
        split <;> simp
      · simp [h]
    · have hhead := hleast _ List.mem_cons_self
      have hbx : less b (if less x b then x else b) = false ∧ less x (if less x b then x else b) = false := by
        have hirr (a : α) : less a a = false := by
          by_contra hn
          exact hn (hasymm _ _ (Bool.eq_true_of_not_eq_false hn))
        split
        next hx => exact ⟨hasymm _ _ hx, hirr x⟩
        next hx => exact ⟨hirr b, Bool.eq_false_iff.2 hx⟩
      rcases List.mem_cons.1 hy with rfl | hy
      · exact htrans _ _ _ hhead hbx.1
      · rcases List.mem_cons.1 hy with rfl | hy
        · exact htrans _ _ _ hhead hbx.2
        · exact hleast y (List.mem_cons_of_mem _ hy)

theorem bestOf_some {less : α → α → Bool} (hasymm : ∀ a b, less a b = true → less b a = false)
    (htrans : ∀ a b c, less b a = false → less c b = false → less c a = false) {l : List α} {m : α} (h : bestOf less l = some m) :
    m ∈ l ∧ ∀ y ∈ l, less y m = false := by
  cases l with
  | nil => exact absurd h nofun
  | cons x l =>
    obtain rfl := Option.some.inj h
    exact foldl_least hasymm htrans l x

theorem Task.before_eq_false (a b : Task) : a.before b = false ↔ b.seq < a.seq ∨ (b.seq = a.seq ∧ b.idx ≤ a.idx) := by
  simp only [Task.before, decide_eq_false_iff_not]
  omega

theorem Tbl.mem_keys_of_find {β : Type} {t : Tbl β} {k : Nat} (h : (t.find k).isSome = true) : k ∈ t.keys := by
  obtain ⟨v, hv⟩ := Option.isSome_iff_exists.1 h
  exact List.mem_map_of_mem (f := Prod.fst) (Tbl.mem_of_find hv)

theorem Pkg.isReady_of_canRun {k : Nat} (h : s.canRun k = true) : s.isReady k = true := by
  unfold Pkg.canRun at h
  simp only [Bool.and_eq_true] at h
  exact h.1.1

theorem Pkg.listed_of_isReady {k : Nat} (h : s.isReady k = true) : (s.tasks.find k).isSome = true := by
  unfold Pkg.isReady at h
  simp only [Bool.and_eq_true] at h
  tauto

/-- The task whose turn it is can run, and no other of its context that can run comes before it. -/
theorem Pkg.nextTask_least {k : Nat} (h : s.nextTask = some k) : s.canRun k = true ∧
    ∀ j, s.canRun j = true → (s.task j).ctx = (s.task k).ctx → (s.task j).before (s.task k) = false := by
  unfold Pkg.nextTask at h
  dsimp only at h
  split at h
  · exact absurd h nofun
  next c _ =>
    obtain ⟨hmem, hleast⟩ := bestOf_some
      (fun a b hab => (Task.before_eq_false _ _).2 (by simp only [Task.before, decide_eq_true_eq] at hab; omega))
      (fun a b c hab hbc => by rw [Task.before_eq_false] at *; omega) h
    simp only [List.mem_filter, beq_iff_eq] at hmem hleast
    obtain ⟨⟨-, hcan⟩, hctx⟩ := hmem
    exact ⟨hcan, fun j hj hc => hleast j ⟨⟨Tbl.mem_keys_of_find (Pkg.listed_of_isReady (Pkg.isReady_of_canRun hj)), hj⟩, hc.trans hctx⟩⟩

/-! ### Records read at dispatch (R102, R249, R252) -/

theorem WriteBlind.scaleRoll {c : Nat} (h : WriteBlind P c) (s : Pkg) (t : TensorRef) (step : Nat) : P (s.scaleRoll c t step) = P s := by
  unfold Pkg.scaleRoll
  dsimp only
  split
  · exact (h.report.bump _ _).trans (h.vWrite s _ _ _)
  · exact (h.vWrite _ _ _ _).trans ((h.vWrite _ _ _ _).trans ((h.report.bump _ _).trans (h.vWrite s _ _ _)))

theorem WriteBlind.readScale {k : Nat} (h : WriteBlind P (s.task k).ctx) (t : TensorRef) (roll : Bool) : P (s.readScale k t roll).2 = P s := by
  have hr := h.rdStruct s (s.task k).ctx t.scalePtr 32
  unfold Pkg.readScale
  dsimp only
  split
  next he => rwa [he] at hr
  next b s₁ he =>
    rw [he] at hr
    split
    · exact hr
    · split
      · exact hr
      · have hh := h.rdStruct s₁ (s.task k).ctx (t.scalePtr + 32) 288
        split
        next he => exact (he ▸ hh).trans hr
        next b s₂ he =>
          replace hh : P s₂ = P s₁ := (congrArg (fun r => P r.2) he).symm.trans hh
          split
          · exact hh.trans hr
          · split
            · split
              · exact (h.scaleRoll s₂ _ _).trans (hh.trans hr)
              · exact hh.trans hr
            · exact hh.trans hr

theorem Pkg.tasks_writeBlind (c : Nat) : WriteBlind Pkg.tasks c := ⟨⟨⟨fun _ _ _ _ _ _ _ _ => rfl⟩, fun _ _ _ _ _ => rfl⟩, fun _ _ _ => rfl⟩

theorem WriteBlind.readScales {k : Nat} (roll : Bool) (ts : List TensorRef) {s : Pkg} (h : WriteBlind P (s.task k).ctx) :
    P (s.readScales k roll ts).2 = P s := by
  induction ts generalizing s with
  | nil => rfl
  | cons t ts ih =>
    have ht := h.readScale t roll
    have htasks := (Pkg.tasks_writeBlind (s.task k).ctx).readScale t roll
    unfold Pkg.readScales
    split
    next he => rwa [he] at ht
    next t' s₁ he =>
      rw [he] at ht htasks
      have hts : P (s₁.readScales k roll ts).2 = P s₁ := ih (by rwa [Pkg.task, htasks])
      split
      next he => exact (he ▸ hts).trans ht
      next he => exact (he ▸ hts).trans ht

/-! ### What a dispatch leaves -/

/-- The units, package time and the fuses. -/
def Pkg.units (s : Pkg) : Tbl CoreSt × Tbl ClusterSt × Nat × Fuses := (s.cores, s.clusters, s.now, s.fuses)

theorem Pkg.units_noteBlind : NoteBlind Pkg.units := ⟨⟨fun _ _ _ _ _ => rfl⟩, fun _ _ _ _ _ _ => rfl⟩

theorem Pkg.units_writeBlind (c : Nat) : WriteBlind Pkg.units c := ⟨⟨⟨fun _ _ _ _ _ _ _ _ => rfl⟩, fun _ _ _ _ _ => rfl⟩, fun _ _ _ => rfl⟩

theorem Pkg.units_updTask (s : Pkg) (k : Nat) (f : Task → Task) : (s.updTask k f).units = s.units := by
  unfold Pkg.updTask
  split <;> rfl

theorem Pkg.find_updTask {k : Nat} {v : Task} (h : s.tasks.find k = some v) (f : Task → Task) : (s.updTask k f).tasks.find k = some (f v) := by
  unfold Pkg.updTask
  rw [h]
  exact Tbl.find_set_same _ _ _

theorem NoteBlind.dispatchNotes (h : NoteBlind P) (s : Pkg) (k : Nat) : P (s.dispatchNotes k) = P s := by
  unfold Pkg.dispatchNotes
  dsimp only
  have h1 : P (if (s.task k).tensors.any fun r => r.auto && decide ((s.task k).step < le r.hist 8 8) then
      (s.bump Reg.stepBehind).taskEvent k Ev.scaleStepBehind Unit.controlDie 0 [] else s) = P s :=
    view_ite ((h.taskEvent _ _ _ _ _ _).trans (h.bump s _)) rfl
  refine view_ite ((h.taskCode _ _ _).trans ?_) ?_ <;> exact view_ite ((h.taskCode _ _ _).trans h1) h1

/-- The control store of a core and its counters apart, a copied image leaves every core as it was. -/
theorem Pkg.copyImage_keeps {c k : Nat} {img : Image} {q : Pkg} (h : s.copyImage c k = (.ok img, q)) :
    q.tasks = s.tasks ∧ q.clusters = s.clusters ∧ q.now = s.now ∧ q.fuses = s.fuses ∧ OtherCores c s q ∧
    (q.core c).stats = (s.core c).stats ∧ (q.core c).tps = (s.core c).tps := by
  unfold Pkg.copyImage at h
  dsimp only at h
  split at h
  · obtain ⟨-, rfl⟩ := Prod.mk.injEq .. ▸ h
    exact ⟨rfl, rfl, rfl, rfl, fun _ _ => rfl, rfl, rfl⟩
  · generalize s.vRead (s.task k).ctx (s.task k).image (64 + 32 * fld (s.task k).imageHdr 22 16 + 2 * fld (s.task k).imageHdr 95 64) .read true = r at h
    have ht := (Pkg.tasks_writeBlind 0).took s r
    have hu := (Pkg.units_writeBlind 0).took s r
    generalize s.took r = p at h ht hu
    obtain ⟨hcores, hclusters, hnow, hfuses⟩ : p.cores = s.cores ∧ p.clusters = s.clusters ∧ p.now = s.now ∧ p.fuses = s.fuses := by
      simpa [Pkg.units] using hu
    have hcore (j : Nat) : p.core j = s.core j := by rw [Pkg.core, hcores]; rfl
    split at h
    · exact absurd h (by simp)
    · split at h
      · exact absurd h (by simp)
      · obtain ⟨-, rfl⟩ := Prod.mk.injEq .. ▸ h
        unfold Pkg.coreCount
        simp only [Pkg.core_updCore_same, OtherCores, Pkg.core_updCore]
        refine ⟨ht, hclusters, hnow, hfuses, fun j hj => ?_, ?_, ?_⟩
        · rw [if_neg hj, if_neg hj, hcore]
        · rw [hcore]
        · rw [hcore]

/-- A task that begins to run: on which unit, since when, and as it was else. -/
theorem Pkg.task_run (s : Pkg) (k u : Nat) : ((s.run k u).task k).phase = .running ∧ ((s.run k u).task k).core = u ∧
    ((s.run k u).task k).at0 = s.now ∧ ((s.run k u).task k).tensors = (s.task k).tensors ∧ ((s.run k u).task k).desc = (s.task k).desc ∧
    ((s.run k u).task k).idx = (s.task k).idx := by
  have ht : (s.run k u).task k = { s.task k with
      phase := .running, core := u, at0 := s.now, overruns := 0, progress := none
      map := if (s.task k).replay then (s.task k).map else if (s.ctx (s.task k).ctx).herdEn then s.activeMap (s.ctx (s.task k).ctx).herdId else none } :=
    Tbl.get_set_same _ _ _ _
  rw [ht]
  exact ⟨rfl, rfl, rfl, rfl, rfl, rfl⟩

theorem Tbl.find_zipIdx {β γ : Type} (f : β → γ) (l : List β) (m n : Nat) {d : β} (h : l[n]? = some d) :
    Tbl.find ((l.zipIdx m).map fun (x, i) => (i, f x)) (m + n) = some (f d) := by
  induction l generalizing m n with
  | nil => exact absurd h (by simp)
  | cons x l ih =>
    rw [List.zipIdx_cons, List.map_cons, Tbl.find]
    cases n with
    | zero =>
      obtain rfl := Option.some.inj h
      exact if_pos rfl
    | succ n =>
      rw [if_neg (by omega), show m + (n + 1) = m + 1 + n by omega]
      exact ih (m + 1) n h

/-! ### An update task's start (R288) -/

theorem upeAdvance_view (h : NoteBlind P) (hctx : ∀ s t, P { s with ctxs := t } = P s) (k : Nat) (rs : List Nat) (s : Pkg) (ps : Tbl (List Nat)) (b : Bool) :
    P (s.upeAdvance k rs ps b).1 = P s := by
  induction rs generalizing s ps b with
  | nil => rfl
  | cons r rs ih =>
    unfold Pkg.upeAdvance
    dsimp only
    split
    · exact ih s ps b
    · exact (ih _ _ _).trans ((hctx _ _).trans (h.taskFlags s k _))

/-- What an update engine has in hand of a task that has just begun. -/
def UpeSt.Begins (x : UpeSt) (k : Nat) : Prop := x.task = some k ∧ x.elem = 0 ∧ x.began = false

/-- The tasks but for notes, and the units. -/
def Pkg.plainUnits (s : Pkg) : (Nat → Option Task) × Tbl CoreSt × Tbl ClusterSt × Nat × Fuses := (s.taskPlain, s.units)

theorem Pkg.plainUnits_noteBlind : NoteBlind Pkg.plainUnits :=
  ⟨⟨fun _ _ _ _ _ => rfl⟩, fun s k v w hv hw => congrArg (·, s.units) (Pkg.taskPlain_noteBlind.task s k v w hv hw)⟩

/-- The start of an update task puts it into the engine's hand, and leaves else what notes on tasks and the contexts' states leave. -/
theorem Pkg.upeStart_put (s : Pkg) (cl k : Nat) : ∃ (q : Pkg) (x : UpeSt), s.upeStart cl k = q.updCluster cl (fun c => { c with upe := x }) ∧ x.Begins k ∧
    q.plainUnits = s.plainUnits := by
  have hn := Pkg.plainUnits_noteBlind
  unfold Pkg.upeStart
  dsimp only
  generalize (((List.range (s.task k).span).filter _).length) = n
  generalize hs : (if n > 0 then ((s.bump Reg.updTasks).bumpBy Reg.frozenSkips n).taskEvent k Ev.frozenSkip (Unit.clusterEngine cl 1) 0 []
      else s.bump Reg.updTasks) = s₁
  have h1 : s₁.plainUnits = s.plainUnits := by
    rw [← hs]
    exact view_ite ((hn.taskEvent _ _ _ _ _ _).trans ((hn.bumpBy _ _ _).trans (hn.bump _ _))) (hn.bump _ _)
  split
  · exact ⟨_, _, rfl, ⟨rfl, rfl, rfl⟩, (hn.taskCode s₁ _ _).trans h1⟩
  · split
    · exact ⟨_, _, rfl, ⟨rfl, rfl, rfl⟩, (hn.taskCode _ _ _).trans ((hn.bump s₁ _).trans h1)⟩
    · have h2 := (upeAdvance_view hn (fun _ _ => rfl) k (List.range (s.task k).span) s₁ [] false).trans h1
      generalize s₁.upeAdvance k (List.range (s.task k).span) [] false = r at h2
      have h3 : (if r.2.2 then (r.1.bump Reg.groupBehind).taskEvent k Ev.groupStepBehind (Unit.clusterEngine cl 1) 0 [] else r.1).plainUnits =
          s.plainUnits := view_ite ((hn.taskEvent _ _ _ _ _ _).trans ((hn.bump r.1 _).trans h2)) h2
      split
      · exact ⟨_, _, rfl, ⟨rfl, rfl, rfl⟩, h3⟩
      · exact ⟨_, _, rfl, ⟨rfl, rfl, rfl⟩, h3⟩

/-- When a dispatch may go on, it goes on past the first of its tests. -/
theorem Pkg.dispatch_gate {s : Pkg} {k u : Nat} {update : Bool} :
    (!(s.power.ready && !s.frozen && !s.stroke.inSlot && (s.task k).update == update && s.nextTask == some k && s.canPlace (s.task k) u)) = false ↔
    s.power.ready = true ∧ s.frozen = false ∧ s.stroke.inSlot = false ∧ (s.task k).update = update ∧ s.nextTask = some k ∧ s.canPlace (s.task k) u = true := by
  simp only [Bool.not_eq_false', Bool.and_eq_true, Bool.not_eq_true', beq_iff_eq, and_assoc]

/-- The task whose dispatch finds all in order, before its image is copied: its records and slot tensors as they have been read. -/
def Pkg.readFor (q : Pkg) (k : Nat) (ts ss : List TensorRef) (slots : Tbl TensorRef) : Pkg :=
  q.updTask k fun y => { y with tensors := ts, slotRefs := slots.keys.zip ss }

/-- What is read for a task leaves it, but for what has been read, and every unit as they were. -/
theorem Pkg.readFor_keeps {s : Pkg} {k : Nat} {v : Task} {rs vs ts ss : List TensorRef} {q q2 : Pkg} (hv : s.tasks.find k = some v)
    (h1 : s.readScales k true rs = (some ts, q)) (h2 : q.readScales k false vs = (some ss, q2)) (slots : Tbl TensorRef) :
    (q2.readFor k ts ss slots).tasks.find k = some { v with tensors := ts, slotRefs := slots.keys.zip ss } ∧ (q2.readFor k ts ss slots).units = s.units := by
  have ht1 := (Pkg.tasks_writeBlind (s.task k).ctx).readScales true rs
  have hu1 := (Pkg.units_writeBlind (s.task k).ctx).readScales true rs
  have ht2 := (Pkg.tasks_writeBlind (q.task k).ctx).readScales false vs
  have hu2 := (Pkg.units_writeBlind (q.task k).ctx).readScales false vs
  rw [h1] at ht1 hu1
  rw [h2] at ht2 hu2
  have hfind : q2.tasks.find k = some v := by rw [ht2, ht1, hv]
  exact ⟨Pkg.find_updTask hfind _, (Pkg.units_updTask _ _ _).trans (hu2.trans hu1)⟩

/-- A dispatch that finds its unit's clock too slow for the time left: the task is noted as held for its budget, once (R57). -/
theorem Pkg.dispatch_held {s : Pkg} {k u : Nat} {update : Bool}
    (hmay : s.power.ready = true ∧ s.frozen = false ∧ s.stroke.inSlot = false ∧ (s.task k).update = update ∧ s.nextTask = some k ∧ s.canPlace (s.task k) u = true)
    (hnever : s.neverFits (s.task k) = false) (hfit : s.fits (s.task k) u = false) : s.dispatch k u update =
      if (s.task k).budgetHeld then s else (s.bump Reg.budgetHold).setTask k { s.task k with budgetHeld := true } := by
  unfold Pkg.dispatch
  dsimp only
  rw [Pkg.dispatch_gate.2 hmay, hnever, hfit]
  rfl

/-- A dispatch that fits its unit, of a task whose records read in order. -/
theorem Pkg.dispatch_reads {s q q2 : Pkg} {k u : Nat} {update : Bool} {ts ss : List TensorRef}
    (hmay : s.power.ready = true ∧ s.frozen = false ∧ s.stroke.inSlot = false ∧ (s.task k).update = update ∧ s.nextTask = some k ∧ s.canPlace (s.task k) u = true)
    (hnever : s.neverFits (s.task k) = false) (hfit : s.fits (s.task k) u = true)
    (hepoch : ∀ r ∈ (s.task k).tensors, r.epoch = (s.ctx (s.task k).ctx).cur.epoch) (h1 : s.readScales k true (s.task k).tensors = (some ts, q))
    (h2 : q.readScales k false (s.slotDescs (s.task k)).vals = (some ss, q2)) : s.dispatch k u update =
      let r := q2.readFor k ts ss (s.slotDescs (s.task k))
      let read := (s.readScales k false (s.task k).tensors).2
      if update then ((r.run k u).dispatchNotes k).upeStart u k
      else match r.copyImage u k with
        | (.error bad, _) => ((read.copyImage u k).2).failTask k (if bad then Code.poisonedInput else Code.invalidDescriptor)
        | (.ok img, s) => ((s.run k u).startCore u k img).dispatchNotes k := by
  have hany : ((s.task k).tensors.any fun r => r.epoch != (s.ctx (s.task k).ctx).cur.epoch) = false := by
    rw [List.any_eq_false]
    intro r hr
    simp [hepoch r hr]
  unfold Pkg.dispatch
  dsimp only
  rw [Pkg.dispatch_gate.2 hmay, hnever, hfit, hany, h1]
  dsimp only
  rw [h2]
  rfl

/-- A task that begins on a core: what the core has in hand, and what stays. -/
theorem Pkg.core_startCore (s : Pkg) (c k : Nat) (img : Image) (j : Nat) : (s.startCore c k img).core j =
    if j = c then
      { task := some k, store := fitStore (s.core c).store 0x40000, image := (s.task k).image, pc := fld img.hdr 48 32
        ags := img.presets.zipIdx.map fun (d, n) => (n, ({ desc := d, side := fld d 253 232 } : Ag))
        sreg := [(0, BitVec.ofNat 64 (s.logicalOf c)), (1, BitVec.ofNat 64 (s.task k).idx), (2, BitVec.ofNat 64 (s.task k).step),
          (3, BitVec.ofNat 64 (s.task k).tensorArr)]
        tps := (s.core c).tps, stats := (s.core c).stats, spillMarks := (s.core c).spillMarks, ctr := (s.core c).ctr }
    else s.core j := Pkg.core_setCore _ _ _ _

theorem Pkg.logicalOf_of_fuses {s q : Pkg} (h : q.fuses = s.fuses) (c : Nat) : q.logicalOf c = s.logicalOf c := by
  unfold Pkg.logicalOf Pkg.presentCores Pkg.corePresent
  rw [h]

/-- A task, noted on or not. -/
theorem Pkg.task_of_taskPlain {s q : Pkg} {k : Nat} {v : Task} (h : q.taskPlain = s.taskPlain) (hv : s.tasks.find k = some v) :
    (q.task k).apartFromNotes = v.apartFromNotes := by
  obtain ⟨w, hw, he⟩ := Pkg.find_of_taskPlain h hv
  rw [Pkg.task_of_find hw, he]

/-- A task that begins to run on a unit and is noted on: its run, the units but for the core it begins on. -/
theorem Task.run_of_apartFromNotes {v w : Task} (h : w.apartFromNotes = v.apartFromNotes) :
    w.phase = v.phase ∧ w.core = v.core ∧ w.at0 = v.at0 ∧ w.tensors = v.tensors := by
  cases v
  cases w
  cases h
  exact ⟨rfl, rfl, rfl, rfl⟩

theorem Pkg.find_run (s : Pkg) (k u : Nat) : (s.run k u).tasks.find k = some ((s.run k u).task k) := by
  have h : (s.run k u).tasks.find k = some _ := Tbl.find_set_same _ _ _
  rw [Pkg.task_of_find h, h]

theorem Pkg.cores_of_units {s q : Pkg} (h : q.units = s.units) : q.cores = s.cores := congrArg (·.1) h
theorem Pkg.clusters_of_units {s q : Pkg} (h : q.units = s.units) : q.clusters = s.clusters := congrArg (·.2.1) h
theorem Pkg.now_of_units {s q : Pkg} (h : q.units = s.units) : q.now = s.now := congrArg (·.2.2.1) h
theorem Pkg.fuses_of_units {s q : Pkg} (h : q.units = s.units) : q.fuses = s.fuses := congrArg (·.2.2.2) h

/-- A task whose image has been copied begins on its core: since when it runs, what the core has in hand, and what stays. -/
theorem Pkg.begins_onCore {r q : Pkg} {k u : Nat} {v : Task} {img : Image} (hv : r.tasks.find k = some v) (himg : r.copyImage u k = (.ok img, q)) :
    let z := ((q.run k u).startCore u k img).dispatchNotes k
    ((z.task k).phase = .running ∧ (z.task k).core = u ∧ (z.task k).at0 = r.now ∧ (z.task k).tensors = v.tensors) ∧
    z.clusters = r.clusters ∧ OtherCores u r z ∧ ∃ store marks ctr, z.core u =
      { task := some k, store := store, image := v.image, pc := fld img.hdr 48 32
        ags := img.presets.zipIdx.map fun (d, n) => (n, ({ desc := d, side := fld d 253 232 } : Ag))
        sreg := [(0, BitVec.ofNat 64 (r.logicalOf u)), (1, BitVec.ofNat 64 v.idx), (2, BitVec.ofNat 64 v.step), (3, BitVec.ofNat 64 v.tensorArr)]
        tps := (r.core u).tps, stats := (r.core u).stats, spillMarks := marks, ctr := ctr } := by
  obtain ⟨htasks, hclusters, hnow, hfuses, hothers, hstats, htps⟩ := Pkg.copyImage_keeps himg
  obtain ⟨hphase, hcore, hat, htensors, hdesc, hidx⟩ := Pkg.task_run q k u
  have hq : q.task k = v := Pkg.task_of_find (by rw [htasks, hv])
  rw [hq] at htensors hdesc hidx
  intro z
  have hunits : z.units = ((q.run k u).startCore u k img).units := Pkg.units_noteBlind.dispatchNotes _ _
  have htask := Pkg.task_of_taskPlain (Pkg.taskPlain_noteBlind.dispatchNotes ((q.run k u).startCore u k img) k) (Pkg.find_run q k u)
  obtain ⟨hp, hc, ha, ht⟩ := Task.run_of_apartFromNotes htask
  have hcores (j : Nat) : z.core j = ((q.run k u).startCore u k img).core j := by
    rw [Pkg.core, Pkg.cores_of_units hunits]
    rfl
  have hcoreRun (j : Nat) : (q.run k u).core j = q.core j := rfl
  refine ⟨⟨hp.trans hphase, hc.trans hcore, ha.trans (hat.trans hnow), ht.trans htensors⟩, (Pkg.clusters_of_units hunits).trans hclusters,
    fun j hj => ?_, fitStore (q.core u).store 0x40000, (q.core u).spillMarks, (q.core u).ctr, ?_⟩
  · rw [hcores, Pkg.core_startCore, if_neg hj, hcoreRun, hothers j hj]
  · have hl : (q.run k u).logicalOf u = r.logicalOf u := Pkg.logicalOf_of_fuses hfuses u
    rw [hcores, Pkg.core_startCore, if_pos rfl, Task.image, Task.step, Task.tensorArr, hdesc, hidx, hcoreRun, hstats, htps, hl]
    rfl

/-- An update task begins on its engine. -/
theorem Pkg.begins_onEngine {r : Pkg} {k u : Nat} :
    let z := ((r.run k u).dispatchNotes k).upeStart u k
    ((z.task k).phase = .running ∧ (z.task k).core = u ∧ (z.task k).at0 = r.now) ∧ z.cores = r.cores ∧ (z.cluster u).upe.Begins k := by
  obtain ⟨q, x, hz, hx, hkept⟩ := Pkg.upeStart_put ((r.run k u).dispatchNotes k) u k
  replace hkept := hkept.trans (Pkg.plainUnits_noteBlind.dispatchNotes (r.run k u) k)
  have hunits : q.units = r.units := congrArg Prod.snd hkept
  obtain ⟨hphase, hcore, hat, -⟩ := Pkg.task_run r k u
  obtain ⟨hp, hc, ha, -⟩ := Task.run_of_apartFromNotes (Pkg.task_of_taskPlain (congrArg Prod.fst hkept) (Pkg.find_run r k u))
  intro z
  have htask : z.task k = q.task k := (congrArg (fun s => Pkg.task s k) hz :)
  have hcores : z.cores = q.cores := (congrArg Pkg.cores hz :)
  have hcluster : z.cluster u = { q.cluster u with upe := x } :=
    (congrArg (fun s => Pkg.cluster s u) hz).trans ((Pkg.cluster_setCluster _ _ _ _).trans (if_pos rfl))
  rw [htask, hcores, hcluster]
  exact ⟨⟨hp.trans hphase, hc.trans hcore, ha.trans hat⟩, Pkg.cores_of_units hunits, hx⟩

end Sys2Proof.Machine

open Sys2Proof Sys2Proof.Machine

/-- Settles O28, by what the reads of a dispatch leave and what the start of the run puts in place. -/
theorem taskDispatch : Obligations.TaskDispatch := by
  intro s t k unit update hk hunit p x i may
  have hrun : exec i s = s.run t fun p => p.dispatch k unit update := by
    cases update
    · exact if_pos (decide_eq_true ⟨hk, hunit⟩)
    · exact if_pos (decide_eq_true ⟨hk, hunit⟩)
  rw [hrun]
  refine ⟨fun hnext => ?_, fun hmay => ?_, fun hmay hnever hfit => ?_, ?_⟩
  · obtain ⟨hcan, hleast⟩ := Pkg.nextTask_least hnext
    exact ⟨Pkg.isReady_of_canRun hcan, fun j hj hc => (Task.before_eq_false _ _).1 (hleast j hj hc)⟩
  · refine State.run_eq (?_ : p.dispatch k unit update = p) rfl rfl
    exact if_pos (Bool.eq_true_of_not_eq_false fun h => hmay (Pkg.dispatch_gate.1 h))
  · have hheld := Pkg.dispatch_held (s := p) hmay hnever hfit
    cases hb : x.budgetHeld
    · exact .run_of (hheld.trans (if_neg (ne_true_of_eq_false hb))) ⟨Tbl.get_set_same _ _ _ _, p.reg_bump_same _, rfl, rfl, rfl⟩
    · refine .run_of (hheld.trans (if_pos hb)) ⟨?_, (add_zero _).symm, rfl, rfl, rfl⟩
      rw [← hb]
      rfl
  · intro hmay hnever hfit hepoch slots ts q ss q2 h1 h2
    have hreads := Pkg.dispatch_reads (s := p) hmay hnever hfit hepoch h1 h2
    obtain ⟨-, -, -, -, hnext, -⟩ := hmay
    obtain ⟨v, hv⟩ := Option.isSome_iff_exists.1 (Pkg.listed_of_isReady (Pkg.isReady_of_canRun (Pkg.nextTask_least hnext).1))
    obtain rfl : x = v := Pkg.task_of_find (s := p) hv
    obtain ⟨hfind, hunits⟩ := Pkg.readFor_keeps hv h1 h2 slots
    have hcores : (q2.readFor k ts ss slots).cores = p.cores := Pkg.cores_of_units hunits
    have hnow : (q2.readFor k ts ss slots).now = p.now := Pkg.now_of_units hunits
    have hcore (j : Nat) : (q2.readFor k ts ss slots).core j = s.pkg.core j := by
      rw [Pkg.core, hcores]
      rfl
    refine ⟨fun hu img q' himg => ?_, fun hu => ?_⟩
    · have hcopy : (q2.readFor k ts ss (p.slotDescs (p.task k))).copyImage unit k = (.ok img, q') := himg
      rw [if_neg (by simp [hu]), hcopy] at hreads
      change _ = ((q'.run k unit).startCore unit k img).dispatchNotes k at hreads
      obtain ⟨⟨hp, hc, ha, ht⟩, hclusters, hothers, store, marks, ctr, hunit⟩ := Pkg.begins_onCore hfind hcopy
      rw [hcore, Pkg.logicalOf_of_fuses (Pkg.fuses_of_units hunits)] at hunit
      generalize ((q'.run k unit).startCore unit k img).dispatchNotes k = z at hreads hunit hp hc ha ht hclusters hothers
      have hags (n : Nat) (d : BitVec 256) (hd : img.presets[n]? = some d) :
          Tbl.find (img.presets.zipIdx.map fun (d, n) => (n, ({ desc := d, side := fld d 253 232 } : Ag))) n = some { desc := d, side := fld d 253 232 } := by
        simpa using Tbl.find_zipIdx (fun d => ({ desc := d, side := fld d 253 232 } : Ag)) img.presets 0 n hd
      refine .run_of hreads ⟨hp, hc, ha.trans hnow, ht, ?_⟩
      exact hunit.symm ▸ (⟨rfl, rfl, rfl, rfl, rfl, rfl, rfl, rfl, rfl, rfl, hags, rfl, rfl, rfl, rfl, rfl, rfl,
        fun j hj => (hothers j hj).trans (hcore j), hclusters.trans (Pkg.clusters_of_units (s := p) hunits), rfl⟩ : _)
    · rw [if_pos hu] at hreads
      obtain ⟨⟨hp, hc, ha⟩, hkept, htask, helem, hbegan⟩ := Pkg.begins_onEngine (r := q2.readFor k ts ss slots) (k := k) (u := unit)
      exact .run_of hreads ⟨hp, hc, ha.trans hnow, htask, helem, hbegan, hkept.trans hcores, rfl⟩
end

section
/-! Packets for an endpoint of this package, as they arrive (R350, R364, R488). -/

namespace Sys2Proof.Machine

variable {α : Type} {P : Pkg → α}

theorem SendBlind.consumed (h : SendBlind P) (s : Pkg) (k : Packet) (room : Option Room) : P (s.consumed k room) = P s := by
  unfold Pkg.consumed
  split
  · split
    · exact (h.freeRooms _).trans (h.fab s s.fab.txFlows s.fab.buckets s.fab.noticeKeys _)
    · exact (h.freeRooms _).trans (h.freeRoom s _)
  · exact h.freeRooms s

theorem Pkg.digestEir_of_not (s : Pkg) {k : Packet} (hk : k.isEir = false) (tx : Bool) : s.digestEir k tx = s := if_pos (by simp [hk])

/-- A packet that is no part of a reduction, counted on its port. -/
theorem SendBlind.entered (h : SendBlind P) (s : Pkg) (arr : Option Nat) {k : Packet} (hk : k.isEir = false) : P (s.entered arr k) = P s := by
  unfold Pkg.entered
  split
  · unfold Pkg.delivered
    dsimp only
    rw [Pkg.digestEir_of_not _ hk]
    exact h.updPort s _ rfl
  · rfl

theorem Pkg.selfIdx_sendBlind : SendBlind fun s => s.fab.selfIdx := ⟨fun _ _ _ _ _ _ _ _ _ => rfl, fun _ _ _ _ => rfl⟩

/-- A good packet for this package is ejected, whatever it is, and its room freed. -/
theorem Pkg.arriveAt_here {p : Pkg} {arr : Option Nat} {k : Packet} (h : ForUs p arr k) (hop : k.hd.op ≠ 0) (hk : k.isEir = false) :
    p.arriveAt arr k = ((p.entered arr k).eject k).consumed k (arr.map fun n => (p.port n).roomFor n k) := by
  obtain ⟨-, ⟨hfrozen, hup⟩, hgood, ⟨hself, hidx⟩, -⟩ := h
  have hroute (q : Pkg) (a : Option Nat) (hq : q.fab.selfIdx = p.fab.selfIdx) : q.route k a = .eject := by
    unfold Pkg.route
    exact if_pos ⟨hself.trans (by rw [Pkg.self, Pkg.self, hq]), by rw [hq]; exact Option.isSome_iff_ne_none.2 hidx⟩
  unfold Pkg.arriveAt
  cases arr with
  | none =>
    simp only [hgood, hfrozen, beq_eq_false_iff_ne.2 hop, Bool.not_true, Bool.or_self, Bool.false_eq_true, if_false, hroute p _ rfl]
    rfl
  | some n =>
    obtain ⟨hp, hs, hr⟩ := hup n rfl
    have hd : (p.delivered n k).fab.selfIdx = p.fab.selfIdx := Pkg.selfIdx_sendBlind.entered p (some n) hk
    simp only [hgood, hfrozen, hp, hs, hr, beq_eq_false_iff_ne.2 hop, beq_self_eq_true, Bool.and_self, Bool.not_true, Bool.or_self, Bool.false_eq_true, if_false,
      hroute _ _ hd]
    rfl

theorem Pkg.dieStopped_sendBlind : SendBlind Pkg.dieStopped := ⟨fun _ _ _ _ _ _ _ _ _ => rfl, fun _ _ _ _ => rfl⟩

theorem Pkg.ctxs_sendBlind : SendBlind Pkg.ctxs := ⟨fun _ _ _ _ _ _ _ _ _ => rfl, fun _ _ _ _ => rfl⟩

/-- What a packet for this package is at its ejection: an acknowledgement, a refusal, or the next of a flow. -/
theorem Pkg.eject_here {p : Pkg} {arr : Option Nat} {k : Packet} (h : ForUs p arr k) (hk : k.isEir = false) : (p.entered arr k).eject k =
    if k.hd.op = opACK then (p.entered arr k).ackIn k.hd else if k.hd.op = opNACK then (p.entered arr k).nackIn k.hd else (p.entered arr k).orderStage k := by
  obtain ⟨-, -, -, -, hep, hruns, htag⟩ := h
  have hstop : (p.entered arr k).epStopped (eidEp k.hd.dst) = false := by
    rw [Pkg.epStopped, Pkg.dieStopped_sendBlind.entered p arr hk]
    exact hruns
  have hctx : (p.entered arr k).ctx k.hd.ctx = p.ctx k.hd.ctx := by
    rw [Pkg.ctx, Pkg.ctxs_sendBlind.entered p arr hk]
    rfl
  have hopen : (k.hd.cls != 3 && ((p.ctx k.hd.ctx).phase != .open || (p.ctx k.hd.ctx).gen != k.hd.gen)) = false := by
    rcases htag with h3 | ⟨ho, hg⟩
    · simp [h3]
    · simp [ho, hg]
  unfold Pkg.eject
  dsimp only
  rw [hep, hctx, hopen, hstop]
  simp only [Bool.not_true, Bool.false_eq_true, if_false]
  by_cases ha : k.hd.op = opACK
  · rw [if_pos (.inl ha), if_pos ha, if_pos ha]
  · by_cases hn : k.hd.op = opNACK
    · rw [if_pos (.inr hn), if_neg ha, if_neg ha, if_pos hn]
    · rw [if_neg (not_or.2 ⟨ha, hn⟩), if_neg ha, if_neg hn]

/-- A packet command of a packet for this package. -/
theorem exec_packet {s : State} {t op : Nat} {arr : Option Nat} {k : Packet} (h : ForUs (s.at t) arr k) (hop : k.hd.op = op) :
    s.runIf (arr.all fun n => n < 24) t (fun p => p.packetIn op arr k) = s.run t fun p => p.arriveAt arr k := by
  have hr : (arr.all fun n => decide (n < 24)) = true := by
    cases arr with
    | none => rfl
    | some n => exact decide_eq_true (h.range n rfl)
  have hf : (fun p : Pkg => p.packetIn op arr k) = fun p => p.arriveAt arr k := funext fun p => if_pos hop
  rw [State.runIf_ok hr, hf]

/-! ### Flows in turn (R364) -/

/-- A flow's entry changed, and still its flow's. -/
theorem Pkg.rxFlow_updFlow {s : Pkg} {h : Hd} {f : RxFlow} (hf : s.rxFlow h = some f) {g : RxFlow → RxFlow} (hg : ∀ f, f.of h = true → (g f).of h = true) :
    (s.updFlow h g).rxFlow h = some (g f) := by
  unfold Pkg.rxFlow Pkg.updFlow at *
  dsimp only at *
  rw [List.find?_map]
  have hc : ((fun f : RxFlow => f.of h) ∘ fun f => if f.of h = true then g f else f) = fun f => f.of h := by
    funext f
    simp only [Function.comp_apply]
    split
    next ht => rw [hg f ht, ht]
    · rfl
  rw [hc, hf]
  exact congrArg some (if_pos (List.find?_some (p := fun f : RxFlow => f.of h) hf))

theorem Pkg.rxFlows_sendBlind : SendBlind fun s => s.fab.rxFlows := ⟨fun _ _ _ _ _ _ _ _ _ => rfl, fun _ _ _ _ => rfl⟩

theorem List.find?_filter_of {β : Type} {l : List β} {p q : β → Bool} {a : β} (h : l.find? q = some a) (hp : p a = true) : (l.filter p).find? q = some a := by
  induction l with
  | nil => exact absurd h nofun
  | cons x l ih =>
    rw [List.find?_cons] at h
    cases hq : q x with
    | true =>
      rw [hq] at h
      obtain rfl := Option.some.inj h
      rw [List.filter_cons_of_pos hp, List.find?_cons_of_pos hq]
    | false =>
      rw [hq] at h
      rw [List.filter_cons]
      split
      · rw [List.find?_cons_of_neg (by simp [hq])]
        exact ih h
      · exact ih h

/-- The package with its receivers' flow entries replaced. -/
def Pkg.withFlows (s : Pkg) (fs : List RxFlow) : Pkg := { s with fab := { s.fab with rxFlows := fs } }

/-- A flow's entry once the packet expected next has left the order stage. -/
def Pkg.Turned (s q : Pkg) (h : Hd) : Prop := ∃ g : RxFlow, q.rxFlow h = some g ∧ g.next = (h.seq + 1) % 2 ^ 32 ∧ g.run = (s.rxFlow h).bind (·.run)

/-- A flow whose only waiting packet is the one expected next. -/
theorem Pkg.drainFlow_one {s : Pkg} {k : Packet} {f : RxFlow} (hstop : s.epStopped (eidEp k.hd.dst) = false) (hf : s.rxFlow k.hd = some f)
    (he : f.early = [k]) (hb : f.bad = []) (hn : f.next = k.hd.seq) :
    ∃ fs g, Pkg.drainFlow k.hd 1 s = (s.withFlows fs).applyPacket k [] ∧ (s.withFlows fs).rxFlow k.hd = some g ∧
      g.next = (k.hd.seq + 1) % 2 ^ 32 ∧ g.run = f.run := by
  refine ⟨_, _, ?_, Pkg.rxFlow_updFlow hf (g := fun f => { f with
    next := (f.next + 1) % 2 ^ 32, early := f.early.filter fun q => q.hd.seq ≠ k.hd.seq, bad := f.bad.filter fun q => q.1 ≠ k.hd.seq
    lastStroke := s.stroke.number }) fun _ hx => hx, by rw [hn], rfl⟩
  have hfind : f.early.find? (fun q => q.hd.seq == f.next) = some k := by
    rw [he, List.find?_cons_of_pos (by simp [hn])]
  rw [Pkg.drainFlow, if_neg (ne_true_of_eq_false hstop), hf]
  dsimp only
  rw [hfind]
  dsimp only
  rw [hb]
  rfl

/-- The entry of a flow that begins. -/
def RxFlow.opened (k : Packet) (n : Nat) : RxFlow :=
  { src := k.hd.src, dst := k.hd.dst, ctx := k.hd.ctx, gen := k.hd.gen, cls := k.hd.cls, arrived := n, early := [k] }

theorem RxFlow.opened_of (k : Packet) (n : Nat) : (RxFlow.opened k n).of k.hd = true := by simp [RxFlow.of, RxFlow.opened]

/-- The order stage, once the poisoned entries of a packet's flow are gone. -/
def Pkg.orderLive (s : Pkg) (p : Packet) : Pkg :=
  let h := p.hd
  let n := s.stroke.number
  let full := decide (s.reorderBytes h.die + 32 + p.payload.length > 0x400000)
  match s.rxFlow h with
  | none =>
    if (s.dieFlows h.die).length ≥ 0x40000 || (!h.start && full) then s.bump Reg.orderDrops
    else Pkg.drainFlow h 1 (s.withFlows (s.fab.rxFlows ++ [.opened p n]))
  | some f =>
    let idle := decide (f.lastStroke + 2 ≤ n)
    let f' := if h.start && idle then { f with next := 0, unackN := 0, ackedTo := none } else f
    let d := (h.seq + 2 ^ 32 - f'.next) % 2 ^ 32
    let s := s.updFlow h fun _ => { f' with arrived := n }
    if d ≥ 2 ^ 31 ∨ f'.early.any (fun q => q.hd.seq == h.seq) then s.bump Reg.dupDrops
    else if d ≠ 0 ∧ full then s.bump Reg.orderDrops
    else Pkg.drainFlow h (f'.early.length + 1) (s.updFlow h fun f => { f with early := f.early ++ [p] })

theorem Pkg.orderStage_eq (s : Pkg) (k : Packet) :
    s.orderStage k = (s.withFlows (s.fab.rxFlows.filter fun f => !(f.of k.hd && f.poison))).orderLive k := rfl

/-- The first packet of a flow that has no entry. -/
theorem Pkg.orderLive_first {s : Pkg} {k : Packet} (hnone : s.rxFlow k.hd = none) (hseq : k.hd.seq = 0) (hstart : k.hd.start = true)
    (hroom : (s.dieFlows k.hd.die).length < 0x40000) (hstop : s.epStopped (eidEp k.hd.dst) = false) :
    ∃ fs g, s.orderLive k = (s.withFlows fs).applyPacket k [] ∧ (s.withFlows fs).rxFlow k.hd = some g ∧ g.next = (k.hd.seq + 1) % 2 ^ 32 ∧ g.run = none := by
  have hopen : (s.withFlows (s.fab.rxFlows ++ [.opened k s.stroke.number])).rxFlow k.hd = some (.opened k s.stroke.number) := by
    change (s.fab.rxFlows ++ [_]).find? _ = _
    rw [List.find?_append, show s.fab.rxFlows.find? (fun f => f.of k.hd) = none from hnone,
      List.find?_cons_of_pos (p := fun f : RxFlow => f.of k.hd) (RxFlow.opened_of k _)]
    rfl
  obtain ⟨fs, g, hdrain, hg, hn, hr⟩ := Pkg.drainFlow_one (s := s.withFlows (s.fab.rxFlows ++ [.opened k s.stroke.number])) hstop hopen rfl rfl hseq.symm
  refine ⟨fs, g, ?_, hg, hn, hr⟩
  unfold Pkg.orderLive
  dsimp only
  rw [hnone]
  dsimp only
  rw [if_neg (by simp [hstart]; omega)]
  exact hdrain

/-- The packet that a flow with none waiting expects. -/
theorem Pkg.orderLive_next {s : Pkg} {k : Packet} {f : RxFlow} (hf : s.rxFlow k.hd = some f) (he : f.early = []) (hb : f.bad = []) (hn : f.next = k.hd.seq)
    (hstart : k.hd.start = false) (hstop : s.epStopped (eidEp k.hd.dst) = false) :
    ∃ fs g, s.orderLive k = (s.withFlows fs).applyPacket k [] ∧ (s.withFlows fs).rxFlow k.hd = some g ∧ g.next = (k.hd.seq + 1) % 2 ^ 32 ∧ g.run = f.run := by
  have hof : f.of k.hd = true := List.find?_some (p := fun f : RxFlow => f.of k.hd) hf
  have h1 := Pkg.rxFlow_updFlow hf (g := fun _ => { f with arrived := s.stroke.number }) fun _ _ => hof
  have h2 := Pkg.rxFlow_updFlow h1 (g := fun f => { f with early := f.early ++ [k] }) fun _ hx => hx
  obtain ⟨fs, g, hdrain, hg, hgn, hr⟩ := Pkg.drainFlow_one
    (s := (s.updFlow k.hd fun _ => { f with arrived := s.stroke.number }).updFlow k.hd fun f => { f with early := f.early ++ [k] })
    hstop h2 (by rw [he]; rfl) hb hn
  refine ⟨fs, g, ?_, hg, hgn, hr⟩
  have hidle : ¬ (k.hd.start && decide (f.lastStroke + 2 ≤ s.stroke.number)) = true := by simp [hstart]
  have hdist : (k.hd.seq + 2 ^ 32 - f.next) % 2 ^ 32 = 0 := by
    rw [hn]
    simp
  have hone : f.early.length + 1 = 1 := by rw [he]; rfl
  unfold Pkg.orderLive
  dsimp only
  rw [hf]
  dsimp only
  rw [if_neg hidle, hdist, hone, if_neg (by simp [he]), if_neg (by simp)]
  exact hdrain

/-- The next packet of its flow leaves the order stage at once, and its flow expects the one after it. -/
theorem Pkg.orderStage_inTurn {s : Pkg} {k : Packet} (hturn : InTurn s k.hd) (hstop : s.epStopped (eidEp k.hd.dst) = false) :
    ∃ fs, s.orderStage k = (s.withFlows fs).applyPacket k [] ∧ s.Turned (s.withFlows fs) k.hd := by
  rw [Pkg.orderStage_eq]
  rcases hturn with ⟨hnone, hseq, hstart, hroom⟩ | ⟨f, hf, hpoison, hearly, hbad, hnext, hstart⟩
  · have hno : (s.fab.rxFlows.filter fun f => !(f.of k.hd && f.poison)).find? (fun f => f.of k.hd) = none := by
      rw [List.find?_eq_none]
      exact fun f hf => List.find?_eq_none.1 hnone f (List.mem_filter.1 hf).1
    obtain ⟨fs, g, ho, hg, hn, hr⟩ := Pkg.orderLive_first (s := s.withFlows (s.fab.rxFlows.filter fun f => !(f.of k.hd && f.poison))) hno hseq hstart
      ((List.filter_sublist.filter _).length_le.trans_lt hroom) hstop
    exact ⟨fs, ho, g, hg, hn, by rw [hr, hnone]; rfl⟩
  · obtain ⟨fs, g, ho, hg, hn, hr⟩ := Pkg.orderLive_next (s := s.withFlows (s.fab.rxFlows.filter fun f => !(f.of k.hd && f.poison)))
      (List.find?_filter_of hf (by simp [hpoison])) hearly hbad hnext hstart hstop
    exact ⟨fs, ho, g, hg, hn, by rw [hr, hf]; rfl⟩

/-! ### What an arrival leaves -/

/-- The package with its ports and receivers' flow entries replaced. -/
def Pkg.received (s : Pkg) (ports : Tbl Port) (fs : List RxFlow) : Pkg := { s with fab := { s.fab with ports := ports, rxFlows := fs } }

/-- The package with its ports and the rooms of packets that wait for a reduction slot replaced. -/
def Pkg.settled (s : Pkg) (ports : Tbl Port) (rooms : List (Nat × Packet × Room)) : Pkg := { s with fab := { s.fab with ports := ports, redRoom := rooms } }

theorem Pkg.freeRoom_settled (s : Pkg) (r : Option Room) : ∃ ports, s.freeRoom r = s.settled ports s.fab.redRoom := by
  unfold Pkg.freeRoom
  split
  · exact ⟨s.fab.ports, rfl⟩
  · exact ⟨_, rfl⟩

theorem Pkg.freeAll_settled (l : List (Nat × Packet × Room)) (s : Pkg) : ∃ ports, l.foldl (fun s x => s.freeRoom (some x.2.2)) s = s.settled ports s.fab.redRoom := by
  induction l generalizing s with
  | nil => exact ⟨s.fab.ports, rfl⟩
  | cons x l ih =>
    obtain ⟨ports, hp⟩ := s.freeRoom_settled (some x.2.2)
    obtain ⟨ports', hp'⟩ := ih (s.freeRoom (some x.2.2))
    exact ⟨ports', by rw [List.foldl_cons, hp', hp]; rfl⟩

theorem Pkg.freeRooms_settled (s : Pkg) : ∃ ports rooms, s.freeRooms = s.settled ports rooms := by
  obtain ⟨ports, hp⟩ := Pkg.freeAll_settled (s.fab.redRoom.filter fun x => !s.fab.redWait.contains (.packet x.2.1)) s
  unfold Pkg.freeRooms
  dsimp only
  rw [hp]
  exact ⟨ports, _, rfl⟩

theorem Pkg.consumed_settled (s : Pkg) (k : Packet) (room : Option Room) : ∃ ports rooms, s.consumed k room = s.settled ports rooms := by
  have hthen (q : Pkg) (ports : Tbl Port) (rooms : List (Nat × Packet × Room)) (hq : q = s.settled ports rooms) : ∃ ports rooms, q.freeRooms = s.settled ports rooms := by
    obtain ⟨ports', rooms', h⟩ := q.freeRooms_settled
    exact ⟨ports', rooms', by rw [h, hq]; rfl⟩
  unfold Pkg.consumed
  split
  · split
    · exact hthen _ s.fab.ports _ rfl
    · obtain ⟨ports, h⟩ := s.freeRoom_settled (some _)
      exact hthen _ ports _ h
  · exact s.freeRooms_settled

theorem Pkg.entered_received (s : Pkg) (arr : Option Nat) {k : Packet} (hk : k.isEir = false) : ∃ ports, s.entered arr k = s.received ports s.fab.rxFlows := by
  unfold Pkg.entered
  split
  · unfold Pkg.delivered
    dsimp only
    rw [Pkg.digestEir_of_not _ hk]
    exact ⟨_, rfl⟩
  · exact ⟨s.fab.ports, rfl⟩

/-- A packet of a flow, in turn, for this package: it is applied at once, its flow expects the next number, and of the rest of the fabric only ports and rooms change. -/
theorem Pkg.arrive_inTurn {p : Pkg} {arr : Option Nat} {k : Packet} (h : ForUs p arr k) (hturn : InTurn p k.hd) (hk : k.isEir = false)
    (h0 : k.hd.op ≠ 0) (hack : k.hd.op ≠ opACK) (hnack : k.hd.op ≠ opNACK) :
    ∃ ports fs ports' rooms, p.arriveAt arr k = ((p.received ports fs).applyPacket k []).settled ports' rooms ∧ p.Turned (p.received ports fs) k.hd := by
  obtain ⟨ports, hports⟩ := p.entered_received arr hk
  have hstop : (p.received ports p.fab.rxFlows).epStopped (eidEp k.hd.dst) = false := h.runs
  obtain ⟨fs, ho, ht⟩ := Pkg.orderStage_inTurn (s := p.received ports p.fab.rxFlows) hturn hstop
  obtain ⟨ports', rooms, hc⟩ := (((p.received ports p.fab.rxFlows).withFlows fs).applyPacket k []).consumed_settled k (arr.map fun n => (p.port n).roomFor n k)
  refine ⟨ports, fs, ports', rooms, ?_, ht⟩
  rw [Pkg.arriveAt_here h h0 hk, Pkg.eject_here h hk, if_neg hack, if_neg hnack, hports, ho, hc]
  rfl

/-- A management packet applied: no refusal, and no acknowledgement. -/
theorem Pkg.applyPacket_mgmt (s : Pkg) {k : Packet} (h : k.hd.cls = 3) : s.applyPacket k [] = s.mgmtIn k := by
  have hr : s.refusal k = none := if_pos h
  unfold Pkg.applyPacket
  simp only [spoils, List.isEmpty_nil, Bool.not_true, Bool.false_and, Bool.false_eq_true, if_false, hr, h, if_true]

end Sys2Proof.Machine
end

section
/-! Acknowledgements (R85, R364, R365, R384, R393). -/

namespace Sys2Proof.Machine

variable {α : Type} {P : Pkg → α}

/-! ### Answers to tracked packets -/

/-- What acknowledgements of relayed packets and the packets sent for them leave: the packets waited for, the clusters, memory and the tasks. -/
def Pkg.tracked (s : Pkg) : List Pending × Tbl ClusterSt × MemSt × Tbl Task := (s.fab.pending, s.clusters, s.mem, s.tasks)

theorem Pkg.tracked_sendBlind : SendBlind Pkg.tracked := ⟨fun _ _ _ _ _ _ _ _ _ => rfl, fun _ _ _ _ => rfl⟩

theorem SendBlind.sendAck (h : SendBlind P) (hrx : ∀ s fs, P { s with fab := { s.fab with rxFlows := fs } } = P s) (s : Pkg) (d : Hd) : P (s.sendAck d) = P s := by
  unfold Pkg.sendAck
  split
  · rfl
  · dsimp only
    split
    · rfl
    · exact (h.injectRaw _ _ _).trans (hrx s _)

theorem Pkg.tracked_relayCounts (s : Pkg) (r : RelayFwd) (x : RelayPkt) : (s.relayCounts r x).tracked = s.tracked := by
  have harr (s : Pkg) (c a n : Nat) : (s.arrive c a n).tracked = s.tracked := by
    refine foldl_view (fun s w => ?_) _ s
    dsimp only
    split <;> rfl
  refine (foldl_view (fun s (q : Nat × Nat) => ?_) _ _).trans rfl
  split
  · rfl
  · exact harr s _ _ _

/-- What an acknowledgement does to the packets and transfers of this package: those it covers are answered. -/
def Pkg.acked (s : Pkg) (hit : Pending → Bool) : Pkg :=
  (s.fab.pending.filter hit).foldl (fun s x => s.answered x.xfer false) { s with fab := { s.fab with pending := s.fab.pending.filter fun x => !hit x } }

/-- Whether an acknowledgement or refusal names a packet's flow. -/
def Pending.backTo (x : Pending) (h : Hd) : Bool := x.src == h.dst && x.dst == h.src && x.ctx == h.ctx && x.gen == h.gen && x.cls == nbits h.aux 1 0

theorem Pkg.ackIn_tracked (s : Pkg) (h : Hd) : (s.ackIn h).tracked =
    (s.acked fun x => x.backTo h && decide ((h.seq + 2 ^ 32 - x.seq) % 2 ^ 32 < 2 ^ 31)).tracked := by
  unfold Pkg.ackIn
  dsimp only
  split
  · rfl
  · refine (foldl_view (fun s (r : RelayFwd) => Pkg.tracked_sendBlind.sendAck (fun _ _ => rfl) s _) _ _).trans ?_
    refine (foldl_view (fun s (r : RelayFwd) => foldl_view (fun s x => Pkg.tracked_relayCounts s r x) _ s) _ _).trans ?_
    rfl

theorem Pkg.answered_keeps (s : Pkg) (key : Nat) (refused : Bool) : (s.answered key refused).mem = s.mem ∧ (s.answered key refused).tasks = s.tasks := by
  unfold Pkg.answered
  (repeat' split) <;> exact ⟨rfl, rfl⟩

/-- An answer to a transfer's packet ends none but that transfer's others. -/
theorem Pkg.mem_pending_answered (s : Pkg) (key : Nat) (refused : Bool) (x : Pending) :
    (x ∈ (s.answered key refused).fab.pending → x ∈ s.fab.pending) ∧ (x ∈ s.fab.pending → x.xfer ≠ key → x ∈ (s.answered key refused).fab.pending) := by
  have hdrop : (x ∈ (s.dropXfer key).fab.pending → x ∈ s.fab.pending) ∧ (x ∈ s.fab.pending → x.xfer ≠ key → x ∈ (s.dropXfer key).fab.pending) :=
    ⟨fun h => (List.mem_filter.1 h).1, fun h hk => List.mem_filter.2 ⟨h, decide_eq_true hk⟩⟩
  have hkeep : (x ∈ s.fab.pending → x ∈ s.fab.pending) ∧ (x ∈ s.fab.pending → x.xfer ≠ key → x ∈ s.fab.pending) := ⟨id, fun h _ => h⟩
  unfold Pkg.answered
  (repeat' split) <;> first | exact hdrop | exact hkeep

theorem Pkg.mem_pending_answeredAll (l : List Pending) (s : Pkg) (x : Pending) :
    let q := l.foldl (fun s y => s.answered y.xfer false) s
    (x ∈ q.fab.pending → x ∈ s.fab.pending) ∧ (x ∈ s.fab.pending → (∀ y ∈ l, y.xfer ≠ x.xfer) → x ∈ q.fab.pending) := by
  induction l generalizing s with
  | nil => exact ⟨id, fun h _ => h⟩
  | cons y l ih =>
    obtain ⟨hsub, hkeep⟩ := ih (s.answered y.xfer false)
    obtain ⟨hsub1, hkeep1⟩ := s.mem_pending_answered y.xfer false x
    exact ⟨fun h => hsub1 (hsub h), fun h hl => hkeep (hkeep1 h (hl y List.mem_cons_self).symm) fun z hz => hl z (List.mem_cons_of_mem _ hz)⟩

theorem Pkg.acked_keeps (s : Pkg) (hit : Pending → Bool) : (s.acked hit).mem = s.mem ∧ (s.acked hit).tasks = s.tasks :=
  ⟨foldl_view (P := Pkg.mem) (fun s (x : Pending) => (s.answered_keeps x.xfer false).1) _ _,
    foldl_view (P := Pkg.tasks) (fun s (x : Pending) => (s.answered_keeps x.xfer false).2) _ _⟩

theorem Pkg.mem_pending_acked (s : Pkg) (hit : Pending → Bool) (x : Pending) :
    (x ∈ (s.acked hit).fab.pending → x ∈ s.fab.pending ∧ hit x = false) ∧
    (x ∈ s.fab.pending → hit x = false → (∀ y ∈ s.fab.pending, hit y = true → y.xfer ≠ x.xfer) → x ∈ (s.acked hit).fab.pending) := by
  obtain ⟨hsub, hkeep⟩ := Pkg.mem_pending_answeredAll (s.fab.pending.filter hit) { s with fab := { s.fab with pending := s.fab.pending.filter fun x => !hit x } } x
  refine ⟨fun h => ?_, fun hx hn hy => ?_⟩
  · obtain ⟨hm, hh⟩ := List.mem_filter.1 (hsub h)
    exact ⟨hm, Bool.not_eq_true' _ ▸ hh⟩
  · exact hkeep (List.mem_filter.2 ⟨hx, by simp [hn]⟩) fun y hyf => hy y (List.mem_filter.1 hyf).1 (List.mem_filter.1 hyf).2

theorem Pkg.findXfer_dropXfer (s : Pkg) (key : Nat) : (s.dropXfer key).findXfer key = none := by
  unfold Pkg.findXfer Pkg.dropXfer Pkg.updCluster
  split
  · rfl
  · rw [Pkg.cluster_setCluster, if_pos rfl]
    dsimp only
    rw [List.find?_eq_none]
    intro x hx
    simpa using (List.mem_filter.1 hx).2

/-- The last answer that a copy to another package waits for ends it. -/
theorem Pkg.findXfer_acked {s : Pkg} {hit : Pending → Bool} {x : Pending} {f : Xfer} (hp : s.fab.pending = [x]) (hx : hit x = true)
    (hf : s.findXfer x.xfer = some f) (hk : f.kind = .copyOut) (hl : f.left = 1) : (s.acked hit).findXfer x.xfer = none := by
  have hq : s.acked hit = Pkg.answered { s with fab := { s.fab with pending := [] } } x.xfer false := by
    unfold Pkg.acked
    rw [hp]
    simp [hx]
  have hf' : Pkg.findXfer { s with fab := { s.fab with pending := [] } } x.xfer = some f := hf
  rw [hq, Pkg.answered, hf']
  simp only [hk, hl, beq_iff_eq, reduceCtorEq, Bool.not_false, Bool.and_true, if_false, le_refl, decide_true, Bool.true_or, if_true]
  exact Pkg.findXfer_dropXfer _ _

/-! ### Refusals -/

/-- A code on record with a listed task is the worst so far, or a worse one stands. -/
theorem Pkg.code_taskCode {s : Pkg} {k : Nat} (h : (s.tasks.find k).isSome = true) (code : Nat) : code ≤ ((s.taskCode k code).task k).code := by
  obtain ⟨v, hv⟩ := Option.isSome_iff_exists.1 h
  unfold Pkg.taskCode
  dsimp only
  split
  · rw [Pkg.task_of_find (Pkg.find_updTask hv _)]
    exact le_max_right _ _
  · have hf := Pkg.find_updTask hv fun t => { t with conds := t.conds ++ [code] }
    generalize (s.updTask k fun t => { t with conds := t.conds ++ [code] }) = q at hf
    unfold Pkg.taskEvent
    dsimp only
    have hl : (q.logWith code (if (s.task k).phase = .running then (s.task k).unit else Unit.controlDie) (some (q.task k).ctx) code false []).tasks.find k =
        some { v with conds := v.conds ++ [code] } := (congrArg (fun t => Tbl.find t k) ((Pkg.tasks_writeBlind 0).report.logWith q _ _ _ _ _ _)).trans hf
    rw [Pkg.task_of_find (Pkg.find_updTask hl _)]
    exact (le_max_left _ _).trans (le_max_right _ _)

/-- What a refusal's note on its task leaves: the packets waited for, the clusters and memory. -/
def Pkg.sent (s : Pkg) : List Pending × Tbl ClusterSt × MemSt := (s.fab.pending, s.clusters, s.mem)

theorem Pkg.sent_noteBlind : NoteBlind Pkg.sent := ⟨⟨fun _ _ _ _ _ => rfl⟩, fun _ _ _ _ _ _ => rfl⟩

theorem Pkg.findXfer_of_clusters {s q : Pkg} (h : q.clusters = s.clusters) (key : Nat) : q.findXfer key = s.findXfer key := by
  unfold Pkg.findXfer Pkg.cluster
  rw [h]

/-- The refusal of a transfer's last packet waited for: a contribution of a REDUCE is complete, and the code is on record with the task. -/
theorem Pkg.nackIn_one {s : Pkg} {h : Hd} {x : Pending} {f : Xfer} (hp : s.fab.pending = [x]) (hx : x.backTo h = true) (hseq : x.seq = h.seq)
    (hf : s.findXfer x.xfer = some f) (hcode : nbits h.aux 15 8 ≠ Code.fenced) (ht : (s.tasks.find f.task).isSome = true) :
    (s.nackIn h).fab.pending = [] ∧ nbits h.aux 15 8 ≤ ((s.nackIn h).task f.task).code ∧ (f.kind = .reduce → (s.nackIn h).findXfer x.xfer = none) ∧
    (s.nackIn h).mem = s.mem := by
  have hq : s.nackIn h = (Pkg.answered { s with fab := { s.fab with pending := [] } } x.xfer true).taskCode f.task (nbits h.aux 15 8) := by
    have hhit : (x.src == h.dst && x.dst == h.src && x.ctx == h.ctx && x.gen == h.gen && x.cls == nbits h.aux 1 0 && x.seq == h.seq) = true :=
      Bool.and_eq_true_iff.2 ⟨hx, beq_iff_eq.2 hseq⟩
    have hf' : Pkg.findXfer { s with fab := { s.fab with pending := [] } } x.xfer = some f := hf
    unfold Pkg.nackIn
    simp only [hp, List.find?_cons, List.filter_cons, List.filter_nil, hhit, Bool.not_true, Bool.false_eq_true, if_false, hf']
    exact if_neg hcode
  have hkeep := Pkg.answered_keeps { s with fab := { s.fab with pending := [] } } x.xfer true
  have hred : f.kind = .reduce → (Pkg.answered { s with fab := { s.fab with pending := [] } } x.xfer true).findXfer x.xfer = none := by
    intro hk
    have hf' : Pkg.findXfer { s with fab := { s.fab with pending := [] } } x.xfer = some f := hf
    rw [Pkg.answered, hf']
    simp only [hk, beq_self_eq_true, Bool.or_true, List.any_nil, Bool.not_false, Bool.and_self, if_true]
    exact Pkg.findXfer_dropXfer _ _
  have hnone : (Pkg.answered { s with fab := { s.fab with pending := [] } } x.xfer true).fab.pending = [] :=
    List.eq_nil_iff_forall_not_mem.2 fun y hy => List.not_mem_nil ((Pkg.mem_pending_answered _ x.xfer true y).1 hy)
  rw [hq]
  generalize Pkg.answered { s with fab := { s.fab with pending := [] } } x.xfer true = q at hkeep hred hnone
  have hsent : (q.taskCode f.task (nbits h.aux 15 8)).sent = q.sent := Pkg.sent_noteBlind.taskCode _ _ _
  exact ⟨(congrArg (·.1) hsent :).trans hnone, Pkg.code_taskCode (by rw [hkeep.2]; exact ht) _,
    fun hk => (Pkg.findXfer_of_clusters (congrArg (·.2.1) hsent :) _).trans (hred hk), (congrArg (·.2.2) hsent :).trans hkeep.1⟩

/-! ### The acknowledgement timer -/

theorem RxFlow.cls_of {f : RxFlow} {h : Hd} (hf : f.of h = true) : f.cls = h.cls := by
  simp only [RxFlow.of, Bool.and_eq_true, beq_iff_eq] at hf
  exact hf.2

/-- A flow's packets acknowledged through the last, where none is held back. -/
theorem Pkg.rxFlow_sendAck {s : Pkg} {h : Hd} {f : RxFlow} (hf : s.rxFlow h = some f) (hn : 1 ≤ f.next) (ha : s.ackable f = f.next) (h1 : h.cls ≠ 1) (h3 : h.cls ≠ 3)
    (hl : f.ackedTo ≠ some (f.next - 1)) : (s.sendAck h).rxFlow h = some { f with ackedTo := some (f.next - 1), unackN := 0 } := by
  have hof : f.of h = true := List.find?_some (p := fun f : RxFlow => f.of h) hf
  have hcls := RxFlow.cls_of hof
  have hrx (q : Pkg) (d : Hd) (b : Bytes) : (q.injectRaw d b).rxFlow h = q.rxFlow h :=
    congrArg (List.find? fun f : RxFlow => f.of h) (Pkg.rxFlows_sendBlind.injectRaw q d b)
  unfold Pkg.sendAck
  rw [hf]
  dsimp only
  rw [ha, if_neg (by rw [hcls]; simp [hl, h1, h3]; omega), hrx, Pkg.rxFlow_updFlow hf]
  exact fun _ hx => hx

end Sys2Proof.Machine

open Sys2Proof Sys2Proof.Machine

theorem Pending.backTo_iff (x : Pending) (h : Hd) : x.backTo h = true ↔
    x.src = h.dst ∧ x.dst = h.src ∧ x.ctx = h.ctx ∧ x.gen = h.gen ∧ x.cls = nbits h.aux 1 0 := by
  simp [Pending.backTo, and_assoc]

/-- Settles O37, by what an answer does to the packets waited for and to their transfers. -/
theorem acknowledgements : Obligations.Acknowledgements := by
  intro s t arr k p h back covered
  have hcov (x : Pending) : (x.backTo h && decide ((h.seq + 2 ^ 32 - x.seq) % 2 ^ 32 < 2 ^ 31)) = true ↔ covered x := by
    rw [Bool.and_eq_true, Pending.backTo_iff, decide_eq_true_iff]
  refine ⟨fun hus hop => ?_, fun hus hop x f hp hb hseq hf hcode ht => ?_, ?_⟩
  · have heir : k.isEir = false := by simp [Packet.isEir, show k.hd.op = opACK from hop, opACK]
    have hrun : exec (.ack t arr k) s = s.run t fun p => p.arriveAt arr k := exec_packet hus hop
    have harr := Pkg.arriveAt_here hus (by rw [show k.hd.op = opACK from hop]; decide) heir
    rw [Pkg.eject_here hus heir, if_pos hop] at harr
    have hin : (p.entered arr k).tracked = p.tracked := Pkg.tracked_sendBlind.entered p arr heir
    have hpend : (p.entered arr k).fab.pending = s.pkg.fab.pending := congrArg (·.1) hin
    have hout : (p.arriveAt arr k).tracked = _ := (congrArg Pkg.tracked harr).trans ((Pkg.tracked_sendBlind.consumed _ _ _).trans (Pkg.ackIn_tracked (p.entered arr k) h))
    generalize hhit : (fun x : Pending => x.backTo h && decide ((h.seq + 2 ^ 32 - x.seq) % 2 ^ 32 < 2 ^ 31)) = hit at hout
    have hhit (x : Pending) : hit x = true ↔ covered x := hhit ▸ hcov x
    obtain ⟨hmem, htasks⟩ := (p.entered arr k).acked_keeps hit
    have hq : (p.arriveAt arr k).fab.pending = ((p.entered arr k).acked hit).fab.pending := congrArg (·.1) hout
    rw [hrun]
    refine .run ⟨fun x hx => ?_, fun x hx hn hy => ?_, fun x f hp hx hf hk hl => ?_, ?_, ?_, rfl⟩
    · rw [show (p.arriveAt arr k).fab.pending = _ from hq] at hx
      obtain ⟨hm, hc⟩ := (Pkg.mem_pending_acked _ hit x).1 hx
      exact ⟨hpend ▸ hm, fun h => Bool.eq_false_iff.1 hc ((hhit x).2 h)⟩
    · rw [show (p.arriveAt arr k).fab.pending = _ from hq]
      refine (Pkg.mem_pending_acked _ hit x).2 (hpend ▸ hx) (Bool.eq_false_iff.2 fun h => hn ((hhit x).1 h)) fun y hyp hyc => hy y (hpend ▸ hyp) ((hhit y).1 hyc)
    · have hxf (key : Nat) : (p.entered arr k).findXfer key = p.findXfer key := Pkg.findXfer_of_clusters (congrArg (·.2.1) hin) key
      have hkept (key : Nat) : (p.arriveAt arr k).findXfer key = ((p.entered arr k).acked hit).findXfer key := Pkg.findXfer_of_clusters (congrArg (·.2.1) hout) key
      exact (hkept _).trans (Pkg.findXfer_acked (hpend.trans hp) ((hhit x).2 hx) ((hxf _).trans hf) hk hl)
    · exact (congrArg (·.2.2.1) hout).trans (hmem.trans (congrArg (·.2.2.1) hin))
    · exact (congrArg (·.2.2.2) hout).trans (htasks.trans (congrArg (·.2.2.2) hin))
  · have heir : k.isEir = false := by simp [Packet.isEir, show k.hd.op = opNACK from hop, opNACK]
    have hrun : exec (.nack t arr k) s = s.run t fun p => p.arriveAt arr k := exec_packet hus hop
    have harr := Pkg.arriveAt_here hus (by rw [show k.hd.op = opNACK from hop]; decide) heir
    rw [Pkg.eject_here hus heir, if_neg (by rw [show k.hd.op = opNACK from hop]; decide), if_pos hop] at harr
    have hin : (p.entered arr k).tracked = p.tracked := Pkg.tracked_sendBlind.entered p arr heir
    have hout : (p.arriveAt arr k).tracked = ((p.entered arr k).nackIn h).tracked := (congrArg Pkg.tracked harr).trans (Pkg.tracked_sendBlind.consumed _ _ _)
    have hxf (key : Nat) : (p.entered arr k).findXfer key = p.findXfer key := Pkg.findXfer_of_clusters (congrArg (·.2.1) hin) key
    have htasks : (p.entered arr k).tasks = s.pkg.tasks := congrArg (·.2.2.2) hin
    obtain ⟨hnone, hle, hred, hmem⟩ := Pkg.nackIn_one (s := p.entered arr k) (h := h) ((congrArg (·.1) hin).trans hp) ((Pending.backTo_iff x h).2 hb) hseq
      ((hxf _).trans hf) hcode (by rw [htasks]; exact ht)
    have htask : (p.arriveAt arr k).task f.task = ((p.entered arr k).nackIn h).task f.task := congrArg (fun t => Tbl.get ({} : Task) t f.task) (congrArg (·.2.2.2) hout)
    rw [hrun]
    refine .run ⟨(congrArg (·.1) hout).trans hnone, hle.trans_eq (congrArg Task.code htask).symm, fun hk => ?_, ?_, rfl⟩
    · exact (Pkg.findXfer_of_clusters (congrArg (·.2.1) hout) x.xfer :).trans (hred hk)
    · exact (congrArg (·.2.2.1) hout).trans (hmem.trans (congrArg (·.2.2.1) hin))
  · intro src dst ctx gen cls g
    have htimer : exec (.ackTimer t src dst ctx gen cls) s = s.run t fun p => p.ackTimer src dst ctx gen cls := rfl
    have hexpire : exec (.flowEntryExpire t src dst ctx gen cls) s = s.run t fun p => p.flowExpire src dst ctx gen cls := rfl
    rw [htimer, hexpire]
    refine ⟨fun hn => State.run_eq ?_ rfl rfl, fun f hf hn ha h1 h3 hl => ?_, .run ⟨rfl, fun f => ?_, rfl⟩⟩
    · change p.sendAck g = p
      rw [Pkg.sendAck, hn]
    · have hrx := Pkg.rxFlow_sendAck (s := p) hf hn ha h1 h3 hl
      have hmem : (p.sendAck g).tracked = p.tracked := Pkg.tracked_sendBlind.sendAck (fun _ _ => rfl) p g
      exact .run ⟨(congrArg (Option.map _) hrx :), (congrArg (Option.map _) hrx :), (congrArg (·.2.2.1) hmem :), rfl⟩
    · change f ∈ s.pkg.fab.rxFlows.filter _ ↔ _
      rw [List.mem_filter, Bool.not_eq_true', ← Bool.not_eq_true, Bool.and_eq_true, decide_eq_true_iff]
      rfl
end

section
/-! Management packets in turn: votes, results and notices (R71, R73, R77, R379, R422, R423, R424, R659). -/

namespace Sys2Proof.Machine

variable {s : Pkg}

/-! ### Rounds of votes -/

/-- A round's record changed: it is what the change makes of it, or of a new record. -/
theorem Pkg.round_updRound (s : Pkg) (h st : Nat) {f : VoteRound → VoteRound} (hf : ∀ v, (f v).herd = v.herd ∧ (f v).stroke = v.stroke) :
    (s.updRound h st f).round h st = some (f ((s.round h st).getD { herd := h, stroke := st })) := by
  have hkey (v : VoteRound) : ((f v).herd == h && (f v).stroke == st) = (v.herd == h && v.stroke == st) := by rw [(hf v).1, (hf v).2]
  unfold Pkg.updRound Pkg.round
  dsimp only
  cases hr : s.fab.votes.find? fun v => v.herd == h && v.stroke == st with
  | none =>
    have hany : (s.fab.votes.any fun v => v.herd == h && v.stroke == st) = false := by
      rw [List.any_eq_false]
      exact fun v hv => List.find?_eq_none.1 hr v hv
    rw [hany, if_neg Bool.false_ne_true, List.find?_append, hr, Option.none_or, List.find?_cons_of_pos (by rw [hkey]; simp)]
    rfl
  | some v =>
    have hv : (v.herd == h && v.stroke == st) = true := List.find?_some (p := fun v : VoteRound => v.herd == h && v.stroke == st) hr
    have hany : (s.fab.votes.any fun v => v.herd == h && v.stroke == st) = true := List.any_eq_true.2 ⟨v, List.mem_of_find?_eq_some hr, hv⟩
    have hcomp : ((fun v : VoteRound => v.herd == h && v.stroke == st) ∘ fun v => if v.herd = h ∧ v.stroke = st then f v else v) =
        fun v => v.herd == h && v.stroke == st := by
      funext v
      simp only [Function.comp_apply]
      split
      · exact hkey v
      · rfl
    rw [if_pos hany, List.find?_map, hcomp, hr]
    exact congrArg some (if_pos (by simpa using hv))

theorem Pkg.votes_sendBlind : SendBlind fun s => s.fab.votes := ⟨fun _ _ _ _ _ _ _ _ _ => rfl, fun _ _ _ _ => rfl⟩

theorem Pkg.round_of_votes {s q : Pkg} (h : q.fab.votes = s.fab.votes) (hd st : Nat) : q.round hd st = s.round hd st := by rw [Pkg.round, h]; rfl

/-- A result that becomes known is on record with its round. -/
theorem Pkg.round_voteKnown {h st : Nat} {bit : Bool} {v : VoteRound} (hv : s.round h st = some v) (hn : v.result = none) :
    (s.voteKnown h st bit).round h st = some { v with result := some bit } := by
  have hu := s.round_updRound h st (f := fun v => { v with result := some bit }) fun _ => ⟨rfl, rfl⟩
  rw [hv] at hu
  unfold Pkg.voteKnown
  rw [hv]
  dsimp only
  rw [if_neg (by simp [hn])]
  split
  · exact hu
  · refine (Pkg.round_of_votes (foldl_view (P := fun s => s.fab.votes) (fun s (q : Nat × Nat) => ?_) _ _) h st).trans hu
    exact Pkg.votes_sendBlind.sendMgmt s _ _ _

/-- A child's vote in a round that has none of it, where this package's own is not in. -/
theorem Pkg.round_voteIn {h st q phase : Nat} {bit : Bool} (hst : s.stroke.number < st + 2) :
    (s.round h st = none → ((s.voteIn h st q bit phase).round h st).map (·.votes) = some [(phase, q, bit)]) ∧
    (∀ v, s.round h st = some v → v.sent = [] → v.own = none → (∀ x ∈ v.votes, x.2.1 ≠ q) →
      ((s.voteIn h st q bit phase).round h st).map (·.votes) = some (v.votes ++ [(phase, q, bit)])) := by
  have hlate : ¬ st + 2 ≤ s.stroke.number := by omega
  refine ⟨fun hr => ?_, fun v hr hsent hown hnew => ?_⟩
  · unfold Pkg.voteIn
    rw [if_neg hlate, hr]
    dsimp only
    rw [Pkg.round_updRound s h st (f := fun v => { v with votes := [(phase, q, bit)] }) fun _ => ⟨rfl, rfl⟩]
    rfl
  · have hu := s.round_updRound h st (f := fun v => { v with votes := v.votes ++ [(phase, q, bit)] }) fun _ => ⟨rfl, rfl⟩
    rw [hr] at hu
    have hany : (v.votes.any fun x => x.2.1 == q) = false := by
      rw [List.any_eq_false]
      simpa using hnew
    unfold Pkg.voteIn
    rw [if_neg hlate, hr]
    dsimp only
    rw [hsent, hany, if_neg (by simp), Pkg.voteTry, hu]
    dsimp only [Option.getD_some]
    rw [hown]
    dsimp only
    rw [hu]
    rfl

/-- The end of a round's wait: at the root of the tree the result is decided, elsewhere the vote goes on to the parent. -/
theorem Pkg.round_voteExpire {h st : Nat} {v : VoteRound} {own : Bool} (hv : s.round h st = some v) (ho : v.own = some own) (hsent : v.sent = [])
    (hres : v.result = none) :
    let kids : List Nat := ((s.herdMap h).map fun m => m.voteKids.map (·.2)).getD []
    let all := own && kids.all fun q => v.votes.any fun x => x.2.1 == q && x.2.2
    ((s.herdMap h).bind (·.voteParent) = none → ((s.voteExpire h st).round h st).map (·.result) = some (some all)) ∧
    (∀ a q, (s.herdMap h).bind (·.voteParent) = some (a, q) →
      ((s.voteExpire h st).round h st).map (·.sent) = some [a] ∧ ((s.voteExpire h st).round h st).map (·.result) = some none) := by
  intro kids all
  have hkids : (match s.herdMap h with
      | some m => m.voteKids.map (·.2)
      | none => ([] : List Nat)) = kids := by
    unfold kids
    cases s.herdMap h <;> rfl
  have hsentBy (l : List Nat) := s.round_updRound h st (f := fun v => { v with sent := l }) fun _ => ⟨rfl, rfl⟩
  rw [hv] at hsentBy
  unfold Pkg.voteExpire Pkg.voteTry
  rw [hv]
  dsimp only
  rw [ho]
  dsimp only
  rw [hsent, hres, if_neg (by simp)]
  refine ⟨fun hp => ?_, fun a q hp => ?_⟩
  · rw [hp]
    dsimp only
    refine (congrArg (Option.map _) (Pkg.round_voteKnown (hsentBy [5]) hres)).trans ?_
    exact congrArg (fun kids : List Nat => some (some (own && kids.all fun q => v.votes.any fun x => x.2.1 == q && x.2.2))) hkids
  · rw [hp]
    dsimp only
    rw [Pkg.round_of_votes (Pkg.votes_sendBlind.sendMgmt _ _ _ _), hsentBy [a]]
    exact ⟨rfl, congrArg some hres⟩

/-! ### Notices -/

/-- A void notice is taken for the coming slot, and passed on, once. -/
theorem Pkg.fab_voidNotice (s : Pkg) (n : VoidNote) (q : Nat) : (s.voidNotice n q).fab.voidSent.contains n = true ∧
    (s.voidNotice n q).fab.voidIn = if s.fab.voidSent.contains n then s.fab.voidIn else s.fab.voidIn ++ [n] := by
  have hsent : SendBlind fun s => s.fab.voidSent := ⟨fun _ _ _ _ _ _ _ _ _ => rfl, fun _ _ _ _ => rfl⟩
  unfold Pkg.voidNotice
  split
  next hc => exact ⟨hc, rfl⟩
  next hc =>
    refine ⟨?_, rfl⟩
    have hs : (s.sendVoid n (some q)).fab.voidSent = n :: s.fab.voidSent := by
      unfold Pkg.sendVoid
      rw [if_neg hc]
      refine (foldl_view (P := fun s => s.fab.voidSent) (fun s (q : Nat) => ?_) _ _).trans rfl
      exact hsent.sendMgmt s _ _ _
    change (s.sendVoid n (some q)).fab.voidSent.contains n = true
    rw [hs]
    simp

/-- A fault notice leaves two records of the unit that it names. -/
theorem Pkg.recs_noticeRx (s : Pkg) (b : Bytes) : ∃ e f rest, (s.noticeRx b).log.recs = e :: f :: rest ∧ f.event = Ev.faultNoticeRx ∧
    e.event = Ev.faultNoticeRx ∧ f.unit = le b 2 2 ∧ e.unit = le b 2 2 ∧ f.detail = slice b 0 32 ∧ e.detail = slice b 32 32 := by
  unfold Pkg.noticeRx Pkg.logEv
  dsimp only
  rw [Pkg.logWith_recs, Pkg.logWith_recs]
  exact ⟨_, _, _, rfl, rfl, rfl, rfl, rfl, rfl, rfl⟩

/-- What makes a peer notice good. -/
def PeerGood (s : Pkg) (b : Bytes) : Prop := 1 ≤ le b 0 1 ∧ le b 0 1 ≤ 3 ∧ zeros b 1 7 = true ∧ zeros b 18 6 = true ∧ zeros b 30 34 = true ∧
  le b 8 8 = (s.reg Reg.planId).toNat

theorem Pkg.peerNotice_gate (s : Pkg) (b : Bytes) : (decide (1 ≤ le b 0 1 ∧ le b 0 1 ≤ 3) && zeros b 1 7 && zeros b 18 6 && zeros b 30 34 &&
    le b 8 8 == (s.reg Reg.planId).toNat) = true ↔ PeerGood s b := by
  simp [PeerGood, and_assoc]

/-- A bad peer notice is dropped, counted and logged. -/
theorem Pkg.peerNotice_bad {b : Bytes} (h : ¬ PeerGood s b) : s.peerNotice b = (s.bump Reg.noticesDropped).logEv Ev.peerNoticeRejected Unit.controlDie none [] := by
  unfold Pkg.peerNotice
  exact if_pos (by rw [Bool.not_eq_true', ← Bool.not_eq_true, s.peerNotice_gate]; exact h)

/-- A good peer notice is counted, and does what its kind says. -/
theorem Pkg.peerNotice_good {b : Bytes} (h : PeerGood s b) : s.peerNotice b =
    let s := s.bump Reg.noticesReceived
    let q := le b 16 2
    if le b 0 1 = 1 then { s with fab := { s.fab with absent := NatSet.ins s.fab.absent q } }
    else if le b 0 1 = 2 then { s with fab := { s.fab with absent := NatSet.del s.fab.absent q } }
    else
      let n := le b 24 6
      match s.armCandidate n with
      | some c => (s.armBank c n).setReg Reg.routeSwitch (BitVec.ofNat 64 (n + 2 ^ 48))
      | none => s.discard Reg.routeSwitch (BitVec.ofNat 64 (n + 2 ^ 48)) := by
  unfold Pkg.peerNotice
  exact if_neg (by rw [(s.peerNotice_gate b).2 h]; decide)

theorem Pkg.absent_reportBlind : ReportBlind fun s => s.fab.absent := ⟨fun _ _ _ _ _ => rfl⟩

theorem Pkg.bank_armBank (s : Pkg) (b st : Nat) : ((s.armBank b st).bank b).swStroke = st ∧
    ((s.armBank b st).bank b).state = if s.activeBank = none then .active else .armed := by
  have h : (s.armBank b st).bank b = { s.bank b with state := if s.activeBank.isNone then .active else .armed, swStroke := st } := Tbl.get_set_same _ _ _ _
  rw [h]
  exact ⟨rfl, if_congr Option.isNone_iff_eq_none rfl rfl⟩

/-- A good notice of a switch arms the candidate bank for its stroke, and leaves the value that a write of ROUTE_SWITCH would leave. -/
theorem Pkg.peerNotice_switch {b : Bytes} {c : Nat} (h : PeerGood s b) (hkind : le b 0 1 = 3) (harm : s.armCandidate (le b 24 6) = some c) :
    s.peerNotice b = ((s.bump Reg.noticesReceived).armBank c (le b 24 6)).setReg Reg.routeSwitch (BitVec.ofNat 64 (le b 24 6 + 2 ^ 48)) := by
  have harm' : (s.bump Reg.noticesReceived).armCandidate (le b 24 6) = some c := harm
  rw [Pkg.peerNotice_good h]
  dsimp only
  rw [if_neg (by omega), if_neg (by omega), harm']

/-- A bank armed by a notice: its stroke and state, the value of ROUTE_SWITCH, and the notice counted. -/
theorem Pkg.armed_of_eq {q : Pkg} {c st : Nat} {w : Word} (h : q = ((s.bump Reg.noticesReceived).armBank c st).setReg Reg.routeSwitch w) :
    (q.bank c).swStroke = st ∧ (q.bank c).state = (if s.activeBank = none then .active else .armed) ∧ q.reg Reg.routeSwitch = w ∧
    q.reg Reg.noticesReceived = s.reg Reg.noticesReceived + 1 := by
  obtain ⟨hst, hstate⟩ := Pkg.bank_armBank (s.bump Reg.noticesReceived) c st
  rw [h]
  exact ⟨hst, hstate, Pkg.reg_setReg_same _ _ _, (Pkg.reg_setReg_ne _ _ (by decide)).trans (Pkg.reg_bump_same _ _)⟩

/-- A management packet in turn, whose effect is known whatever becomes of ports and flow entries. -/
theorem Answers.mgmt {s : State} {t op : Nat} {arr : Option Nat} {k : Packet} {P : State → Prop} {o : Host.Outcome State Fault Refusal}
    (ho : o = s.run t fun p => p.arriveAt arr k) (hready : ForUs (s.at t) arr k ∧ InTurn (s.at t) k.hd ∧ k.hd.cls = 3) (hop : k.hd.op = op) (hlt : 0x14 < op)
    (hP : ∀ ports fs ports' rooms, P { s with pkg := { (((s.at t).received ports fs).mgmtIn k).settled ports' rooms with
      now := (s.at t).now, fuses := s.pkg.fuses } }) : Answers o P := by
  obtain ⟨hus, hturn, hcls⟩ := hready
  subst hop ho
  have heir : k.isEir = false := by
    simp only [Packet.isEir, decide_eq_false_iff_not]
    omega
  obtain ⟨ports, fs, ports', rooms, harr, -⟩ := Pkg.arrive_inTurn hus hturn heir (by omega) (by unfold opACK; omega) (by unfold opNACK; omega)
  rw [Pkg.applyPacket_mgmt _ hcls] at harr
  exact .run_of harr (hP ports fs ports' rooms)

/-- The effect of each management packet. -/
theorem Pkg.mgmtIn_vote (s : Pkg) {k : Packet} (h : k.hd.op = opVOTE) :
    s.mgmtIn k = s.voteIn (le k.payload 0 2) (le k.payload 2 6) (eidPkg k.hd.src) ((le k.payload 8 1).testBit 0) (le k.payload 9 1) := if_pos h

theorem Pkg.mgmtIn_result (s : Pkg) {k : Packet} (h : k.hd.op = opVOTERES) :
    s.mgmtIn k = s.voteKnown (le k.payload 0 2) (le k.payload 2 6) ((le k.payload 8 1).testBit 0) := by
  unfold Pkg.mgmtIn
  simp only [h]
  rfl

theorem Pkg.mgmtIn_void (s : Pkg) {k : Packet} (h : k.hd.op = opVOID) :
    s.mgmtIn k = s.voidNotice ⟨le k.payload 0 2, le k.payload 2 6, le k.payload 10 2⟩ (eidPkg k.hd.src) := by
  unfold Pkg.mgmtIn
  simp only [h]
  rfl

theorem Pkg.mgmtIn_fault (s : Pkg) {k : Packet} (h : k.hd.op = opFAULT) : s.mgmtIn k = s.noticeRx k.payload := by
  unfold Pkg.mgmtIn
  simp only [h]
  rfl

theorem Pkg.mgmtIn_peer (s : Pkg) {k : Packet} (h : k.hd.op = opPEER) : s.mgmtIn k = s.peerNotice k.payload := by
  unfold Pkg.mgmtIn
  simp only [h]
  rfl

/-- A peer command of a packet for this package of the command's kind. -/
theorem exec_peer {s : State} {t kind : Nat} {arr : Option Nat} {k : Packet} (h : ForUs (s.at t) arr k) (hop : k.hd.op = opPEER) (hkind : le k.payload 0 1 = kind) :
    s.runIf (arr.all fun n => n < 24) t (fun p => p.peerIn kind arr k) = s.run t fun p => p.arriveAt arr k := by
  have hr : (arr.all fun n => decide (n < 24)) = true := by
    cases arr with
    | none => rfl
    | some n => exact decide_eq_true (h.range n rfl)
  have hf : (fun p : Pkg => p.peerIn kind arr k) = fun p => p.arriveAt arr k := funext fun p => if_pos ⟨hop, hkind⟩
  rw [State.runIf_ok hr, hf]

end Sys2Proof.Machine

open Sys2Proof Sys2Proof.Machine

/-- Settles O39, by what the effect of each packet in turn leaves. -/
theorem managementPackets : Obligations.ManagementPackets := by
  intro s t arr k p h b herd st bit note ready known counted
  refine ⟨fun hr hop hst hround => ?_, fun v hr hop hst hround hsent hown hnew => ?_, fun v hr hop hround hres => ?_, fun hr hop => ?_, fun hr hop => ?_,
    fun hr hop hk hkind => ?_, fun hr hop hk hkind => ?_, fun c hr hop hk hkind harm => ?_, fun i hi n hr hop hk hn hin => ?_, fun hd stroke v own hv ho hs hres => ?_⟩
  · refine .mgmt (exec_packet hr.1 hop) hr hop (by decide) fun ports fs ports' rooms => ⟨?_, rfl⟩
    rw [Pkg.mgmtIn_vote _ hop]
    exact (Pkg.round_voteIn (s := p.received ports fs) hst).1 hround
  · refine .mgmt (exec_packet hr.1 hop) hr hop (by decide) fun ports fs ports' rooms => ⟨?_, rfl⟩
    rw [Pkg.mgmtIn_vote _ hop]
    exact (Pkg.round_voteIn (s := p.received ports fs) hst).2 v hround hsent hown hnew
  · refine .mgmt (exec_packet hr.1 hop) hr hop (by decide) fun ports fs ports' rooms => ⟨?_, rfl⟩
    rw [Pkg.mgmtIn_result _ hop]
    exact congrArg (Option.map _) (Pkg.round_voteKnown (s := p.received ports fs) hround hres)
  · refine .mgmt (exec_packet hr.1 hop) hr hop (by decide) fun ports fs ports' rooms => ?_
    rw [Pkg.mgmtIn_void _ hop]
    obtain ⟨hs, hin⟩ := Pkg.fab_voidNotice (p.received ports fs) note (eidPkg k.hd.src)
    exact ⟨hs, hin, rfl⟩
  · refine .mgmt (exec_packet hr.1 hop) hr hop (by decide) fun ports fs ports' rooms => ?_
    rw [Pkg.mgmtIn_fault _ hop]
    obtain ⟨e, f, rest, hrecs, hf, he, hfu, heu, hfd, hed⟩ := Pkg.recs_noticeRx (p.received ports fs) b
    exact ⟨e, f, rest, hrecs, hf, he, hfu, heu, hfd, hed, rfl⟩
  · refine .mgmt (exec_peer hr.1 hop hkind) hr hop (by decide) fun ports fs ports' rooms => ?_
    rw [Pkg.mgmtIn_peer _ hop, Pkg.peerNotice_good (s := p.received ports fs) hk, if_pos hkind]
    exact ⟨(NatSet.mem_ins _ _ _).trans (by simp), Pkg.reg_bump_same _ _, rfl⟩
  · refine .mgmt (exec_peer hr.1 hop hkind) hr hop (by decide) fun ports fs ports' rooms => ?_
    rw [Pkg.mgmtIn_peer _ hop, Pkg.peerNotice_good (s := p.received ports fs) hk, if_neg (by omega), if_pos hkind]
    exact ⟨(NatSet.mem_del _ _ _).trans (by simp), Pkg.reg_bump_same _ _, rfl⟩
  · refine .mgmt (exec_peer hr.1 hop hkind) hr hop (by decide) fun ports fs ports' rooms => ?_
    obtain ⟨hst, hstate, hreg, hctr⟩ := Pkg.armed_of_eq (Pkg.peerNotice_switch (s := p.received ports fs) hk hkind harm)
    rw [Pkg.mgmtIn_peer _ hop]
    exact ⟨hst, hstate, hreg, hctr, rfl⟩
  · have hrun : exec i s = s.run t fun p => p.arriveAt arr k := by
      rcases hin with ⟨rfl, rfl⟩ | ⟨rfl, rfl⟩ | ⟨rfl, rfl⟩ <;> exact exec_peer hr.1 hop hn
    refine .mgmt hrun hr hop (by decide) fun ports fs ports' rooms => ?_
    rw [Pkg.mgmtIn_peer _ hop, Pkg.peerNotice_bad (s := p.received ports fs) hk]
    exact ⟨(Pkg.reg_logEv _ _ _ _ _ (by decide) (by decide)).trans (Pkg.reg_bump_same _ _), logged_logEv _ _ _ _ _,
      (Pkg.absent_reportBlind.logEv _ _ _ _ _).trans rfl, rfl⟩
  · have hrun : exec (.voteWaitExpiry t hd stroke) s = s.run t fun p => p.voteExpire hd stroke := rfl
    obtain ⟨hroot, hparent⟩ := Pkg.round_voteExpire (s := p) hv ho hs hres
    rw [hrun]
    intro m kids all
    refine ⟨fun hp => .run ⟨hroot hp, rfl⟩, fun a q hp => ?_⟩
    obtain ⟨hsent, hres⟩ := hparent a q hp
    exact .run ⟨hsent, hres, rfl⟩
end

section
/-! What the write path reads of the fabric: nothing of its ports, nothing of its flow entries (R61 to R69, R239, R364). -/

namespace Sys2Proof.Machine

/-- An operation that neither reads nor changes the ports and the receivers' flow entries. -/
def FlowFree (f : Pkg → Pkg) : Prop := ∀ s ports fs, f (s.received ports fs) = (f s).received ports fs

theorem FlowFree.comp {f g : Pkg → Pkg} (hf : FlowFree f) (hg : FlowFree g) : FlowFree fun s => f (g s) := fun s ports fs => by
  show f (g (s.received ports fs)) = _
  rw [hg, hf]

theorem FlowFree.congr {f g : Pkg → Pkg} (hg : FlowFree g) (h : ∀ s, f s = g s) : FlowFree f := by rwa [funext h]

theorem FlowFree.refl : FlowFree fun s => s := fun _ _ _ => rfl

theorem FlowFree.ite {c : Pkg → Prop} [∀ s, Decidable (c s)] {f g : Pkg → Pkg} (hc : ∀ s ports fs, c (s.received ports fs) ↔ c s)
    (hf : FlowFree f) (hg : FlowFree g) : FlowFree fun s => if c s then f s else g s := fun s ports fs => by
  show (if c (s.received ports fs) then f (s.received ports fs) else g (s.received ports fs)) = (if c s then f s else g s).received ports fs
  by_cases h : c s
  · rw [if_pos h, if_pos ((hc s ports fs).2 h), hf]
  · rw [if_neg h, if_neg fun h' => h ((hc s ports fs).1 h'), hg]

theorem FlowFree.option {β : Type} {d : Pkg → Option β} {f : β → Pkg → Pkg} {g : Pkg → Pkg} (hd : ∀ s ports fs, d (s.received ports fs) = d s)
    (hf : ∀ x, FlowFree (f x)) (hg : FlowFree g) : FlowFree fun s => (d s).elim (g s) fun x => f x s := fun s ports fs => by
  show (d (s.received ports fs)).elim (g (s.received ports fs)) (fun x => f x (s.received ports fs)) = Pkg.received ((d s).elim (g s) fun x => f x s) ports fs
  rw [hd]
  cases d s with
  | some x => exact hf x s ports fs
  | none => exact hg s ports fs

theorem FlowFree.foldl {β : Type} {f : Pkg → β → Pkg} (hf : ∀ x, FlowFree fun s => f s x) (l : List β) : FlowFree fun s => l.foldl f s := by
  induction l with
  | nil => exact fun _ _ _ => rfl
  | cons x l ih => exact ih.comp (hf x)

/-! ### Reports -/

theorem FlowFree.hostW (a : Nat) (d : Bytes) : FlowFree fun s => s.hostW a d :=
  .ite (fun _ _ _ => Iff.rfl) (fun _ _ _ => rfl) fun _ _ _ => rfl

theorem FlowFree.raise (v : Nat) : FlowFree fun s => s.raise v :=
  .ite (fun _ _ _ => Iff.rfl) (fun _ _ _ => rfl)
    (.ite (fun _ _ _ => Iff.rfl) (fun _ _ _ => rfl) (.ite (fun _ _ _ => Iff.rfl) (fun _ _ _ => rfl) .refl))

theorem FlowFree.logCopy (e : Event) : FlowFree fun s => s.logCopy e := fun s ports fs => by
  have hr : (s.received ports fs).reg = s.reg := rfl
  have hw (a : Nat) (d : Bytes) : Pkg.hostW { s.received ports fs with log := { s.log with lostNext := false } } a d =
      (Pkg.hostW { s with log := { s.log with lostNext := false } } a d).received ports fs := FlowFree.hostW a d { s with log := { s.log with lostNext := false } } ports fs
  have hv (q : Pkg) (v : Nat) : (q.received ports fs).raise v = (q.raise v).received ports fs := FlowFree.raise v q ports fs
  dsimp only
  unfold Pkg.logCopy
  dsimp only
  rw [hr]
  split
  · split
    · rfl
    · have hl : (s.received ports fs).log = s.log := rfl
      rw [hl, hw]
      split
      · exact hv _ _
      · rfl
  · rfl

/-- An event's record put at the head of the log. -/
def Pkg.withRecord (s : Pkg) (e : Event) : Pkg := { s with log := { s.log with recs := (e :: s.log.recs).take 16384, nextSeq := s.log.nextSeq + 1 } }

theorem FlowFree.logWith (e u : Nat) (c : Option Nat) (code : Nat) (n : Bool) (d : Bytes) : FlowFree fun s => s.logWith e u c code n d := fun s ports fs => by
  have hn (q : Pkg) (x : Event) : Pkg.logCopy ((q.received ports fs).withRecord x) x = ((q.withRecord x).logCopy x).received ports fs :=
    FlowFree.logCopy x (q.withRecord x) ports fs
  have hl : (s.received ports fs).log.recs.length = s.log.recs.length := rfl
  dsimp only
  unfold Pkg.logWith
  dsimp only
  rw [hl]
  split
  · exact hn (s.bump Reg.logOverwritten) _
  · exact hn s _

theorem FlowFree.logEv (e u : Nat) (c : Option Nat) (d : Bytes) : FlowFree fun s => s.logEv e u c d := .logWith e u c 0 false d

theorem FlowFree.bump (r : Nat) : FlowFree fun s => s.bump r := fun _ _ _ => rfl

/-! ### Granules -/

theorem FlowFree.poisonGranule (g f : Nat) : FlowFree fun s => s.poisonGranule g f :=
  (FlowFree.logEv _ _ _ _).comp (g := fun s => (s.setMem { s.mem with poison := s.mem.poison.ins g, valid := s.mem.valid.del g, double := s.mem.double.del g }).bump
    (Reg.ueCount (granulePort g))) fun _ _ _ => rfl

theorem FlowFree.correct (g : Nat) : FlowFree fun s => s.correct g := fun _ _ _ => rfl

theorem FlowFree.touch1 (f g : Nat) : FlowFree fun s => s.touch1 f g := by
  have hs : FlowFree fun s => s.setMem (s.mem.serve [g]) := fun _ _ _ => rfl
  refine FlowFree.comp (f := fun s => if s.mem.poison.mem g then s.bump (Reg.poisonReads (granulePort g)) else if s.mem.double.mem g then s.poisonGranule g f
    else if s.mem.single.mem g then s.correct g else if s.mem.valid.mem g then s else s.poisonGranule g f) ?_ hs
  exact .ite (fun _ _ _ => Iff.rfl) (.bump _) (.ite (fun _ _ _ => Iff.rfl) (.poisonGranule g f) (.ite (fun _ _ _ => Iff.rfl) (.correct g)
    (.ite (fun _ _ _ => Iff.rfl) (fun _ _ _ => rfl) (.poisonGranule g f))))

theorem FlowFree.fillFrame (x : PageFill) : FlowFree fun s => s.fillFrame x :=
  (FlowFree.foldl (f := fun s g => s.touch1 0 g) (FlowFree.touch1 0) (upto (x.src * 1024) 1024)).comp
    (g := fun s => s.setMem { s.mem with fills := s.mem.fills.filter fun q => q.frame ≠ x.frame }) fun _ _ _ => rfl

theorem FlowFree.fillBefore (g : Nat) : FlowFree fun s => s.fillBefore g := fun s ports fs => by
  have hm : (s.received ports fs).mem = s.mem := rfl
  have hf (x : PageFill) : (s.received ports fs).fillFrame x = (s.fillFrame x).received ports fs := FlowFree.fillFrame x s ports fs
  dsimp only
  unfold Pkg.fillBefore
  rw [hm]
  cases s.mem.fills.find? fun p => p.frame == g / 1024 with
  | some x => exact hf x
  | none => rfl

theorem FlowFree.touch (f : Nat) (gs : List Nat) : FlowFree fun s => s.touch f gs :=
  .foldl (f := fun s g => (s.fillBefore g).touch1 f g) (fun g => (FlowFree.touch1 f g).comp (.fillBefore g)) gs

theorem FlowFree.cacheAt (c va : Nat) : FlowFree fun s => s.cacheAt c va :=
  (FlowFree.option (d := fun s => s.leafOf c va) (f := fun e s => { s with tlb := s.tlb.upd [] c fun t => t.set (va / 0x10000) e })
    (fun _ _ _ => rfl) (fun _ _ _ _ => rfl) .refl).congr fun s => by
    unfold Pkg.cacheAt
    cases s.leafOf c va <;> rfl

theorem FlowFree.setVrec (r : Nat) (v : VRec) : FlowFree fun s => s.setVrec r v :=
  .ite (c := fun s => s.memStopped = true) (fun _ _ _ => Iff.rfl) .refl fun _ _ _ => rfl

theorem FlowFree.copyFrame (c src dst : Nat) : FlowFree fun s => s.copyFrame c src dst :=
  .ite (c := fun s => s.memStopped = true) (fun _ _ _ => Iff.rfl) .refl fun _ _ _ => rfl

/-! ### Writes -/

theorem FlowFree.dWrite (a : Nat) (bs : Bytes) (bad rmw : Bool) (head : Nat) (more : Bool) : FlowFree fun s => s.dWrite a bs bad rmw head more := by
  refine .ite (c := fun s => s.memStopped = true) (fun _ _ _ => Iff.rfl) .refl fun s ports fs => ?_
  have ht (gs : List Nat) : (s.received ports fs).touch 3 gs = (s.touch 3 gs).received ports fs := FlowFree.touch 3 gs s ports fs
  dsimp only
  rw [ht]
  rfl

/-- The package that an operation leaves has ports and flow entries replaced, and what it answers is the same. -/
def FlowFree2 {β : Type} (f : Pkg → Pkg × β) : Prop := ∀ s ports fs, f (s.received ports fs) = ((f s).1.received ports fs, (f s).2)

theorem FlowFree2.dLand (b : WrBy) (a : Nat) (bs : Bytes) (bad : Bool) : FlowFree2 fun s => s.dLand b a bs bad := fun s ports fs => by
  dsimp only
  unfold Pkg.dLand
  cases b.op with
  | none => exact congrArg (·, ({} : Sticky)) (FlowFree.dWrite a bs bad false b.head b.more s ports fs)
  | some ty => exact congrArg (·, (adderSector ty (s.dRead a bs.length) bs).2) (FlowFree.dWrite a (adderSector ty (s.dRead a bs.length) bs).1 bad true 0 false (s.bumpBy Reg.adderOps (bs.length / 64)) ports fs)

theorem FlowFree.arrive (c va n : Nat) : FlowFree fun s => s.arrive c va n := fun s ports fs => by
  unfold Pkg.arrive
  exact FlowFree.foldl (f := fun s (w : Nat × ArrWin) =>
    let k := overlap va n w.2.base w.2.len
    if k = 0 then s
    else s.updCtx c fun y =>
      if w.2.buffered then { y with cur := { y.cur with arr := y.cur.arr.upd 0 w.1 (· + k) } }
      else { y with arrDirect := y.arrDirect.upd 0 w.1 (· + k) })
    (fun w => .ite (fun _ _ _ => Iff.rfl) .refl fun _ _ _ => rfl) (s.ctx c).arrWin s ports fs

theorem Pkg.takeFrame_received (s : Pkg) (ports : Tbl Port) (fs : List RxFlow) :
    (s.received ports fs).takeFrame = s.takeFrame.map fun x => (x.1, x.2.received ports fs) := by
  have hk : (s.received ports fs).stroke = s.stroke := rfl
  unfold Pkg.takeFrame
  dsimp only
  rw [hk]
  split
  · rfl
  · cases firstFree s.stroke.used (poolPages s.stroke.spareCfg) 0 with
    | some i => rfl
    | none =>
      dsimp only
      cases s.stroke.joined <;> rfl

/-- The frame that a write goes to, and the package that has it, ports and flow entries replaced. -/
theorem Pkg.writeFrame_received (s : Pkg) (c r : Nat) (ports : Tbl Port) (fs : List RxFlow) :
    (s.received ports fs).writeFrame c r = ((s.writeFrame c r).1.map fun x => (x.1, x.2.received ports fs), (s.writeFrame c r).2) := by
  have hw : (s.received ports fs).window = s.window := rfl
  have hv : (s.received ports fs).vrec r = s.vrec r := rfl
  have hc : (s.received ports fs).ctx c = s.ctx c := rfl
  have hset (v : VRec) : (s.received ports fs).setVrec r v = (s.setVrec r v).received ports fs := FlowFree.setVrec r v s ports fs
  unfold Pkg.writeFrame
  dsimp only
  rw [hw, hv, hc]
  split
  · rw [hset]
    rfl
  · split
    · rfl
    · rw [Pkg.takeFrame_received]
      cases s.takeFrame with
      | none => rfl
      | some x =>
        dsimp only [Option.map]
        rw [show (x.2.received ports fs).copyFrame _ _ x.1 = _ from FlowFree.copyFrame _ _ _ x.2 ports fs,
          show (Pkg.received _ ports fs).setVrec r _ = _ from FlowFree.setVrec r _ _ ports fs]
        rfl

/-- What a write of a page left, with ports and flow entries replaced. -/
def WrRes.received (w : WrRes) (ports : Tbl Port) (fs : List RxFlow) : WrRes := match w with
  | .done s fl => .done (s.received ports fs) fl
  | .fault s => .fault (s.received ports fs)
  | .staged s r e => .staged (s.received ports fs) r e

theorem Pkg.vWrite1_received (s : Pkg) (c va : Nat) (b : WrBy) (bs : Bytes) (bad : Bool) (acc : Acc) (ports : Tbl Port) (fs : List RxFlow) :
    (s.received ports fs).vWrite1 c va b bs bad acc = (s.vWrite1 c va b bs bad acc).received ports fs := by
  have hl (gs : List Nat) : ((s.received ports fs).touch 0 gs).cacheAt c va = ((s.touch 0 gs).cacheAt c va).received ports fs :=
    ((FlowFree.cacheAt c va).comp (FlowFree.touch 0 gs)) s ports fs
  have hlook : (s.received ports fs).look c va acc = s.look c va acc := rfl
  have hd (q : Pkg) (a : Nat) : (q.received ports fs).dLand b a bs bad = ((q.dLand b a bs bad).1.received ports fs, (q.dLand b a bs bad).2) :=
    FlowFree2.dLand b a bs bad q ports fs
  unfold Pkg.vWrite1
  rw [hlook]
  split
  · rw [hl]
    rfl
  · rw [hl, hd]
    rfl
  next r o _ gs _ =>
    dsimp only
    rw [hl]
    generalize (s.touch 0 gs).cacheAt c va = q
    have hany : ((q.received ports fs).ctx c).stagedWrites = (q.ctx c).stagedWrites := rfl
    rw [hany]
    split
    · rfl
    · rw [Pkg.writeFrame_received]
      generalize q.writeFrame c r = w
      obtain ⟨_ | x, e⟩ := w
      · rfl
      · dsimp only [Option.map]
        have hu : (q.received ports fs).mem.usable = q.mem.usable := rfl
        rw [hu, hd]
        split <;> rfl

theorem FlowFree2.vWritePart (c : Nat) (w : StagedWrite) : FlowFree2 fun s => s.vWritePart c w := fun s ports fs => by
  have hx : (s.received ports fs).ctx c = s.ctx c := rfl
  have harr (q : Pkg) (a n : Nat) : (q.received ports fs).arrive c a n = (q.arrive c a n).received ports fs := FlowFree.arrive c a n q ports fs
  dsimp only
  unfold Pkg.vWritePart
  dsimp only
  rw [hx, Pkg.vWrite1_received]
  split
  · rfl
  · generalize s.vWrite1 c w.addr w.by_ w.data w.bad _ = v
    cases v with
    | done q fl =>
      dsimp only [WrRes.received]
      rw [harr]
      split <;> rfl
    | fault q => rfl
    | staged q r e =>
      dsimp only [WrRes.received]
      split <;> rfl

/-- One page's part of a write of bytes, and what came of the parts before it. -/
def Pkg.writePiece (b : WrBy) (c va : Nat) (bs : Bytes) (bad : Bool) (r : Pkg × Bool × Sticky) (p : Nat × Nat) : Pkg × Bool × Sticky :=
  let q := r.1.vWritePart c { addr := p.1, data := (bs.drop (p.1 - va)).take p.2, bad := bad, by_ := b }
  (q.1, r.2.1 || q.2.1, r.2.2.or q.2.2)

theorem Pkg.writePieces_received (b : WrBy) (c va : Nat) (bs : Bytes) (bad : Bool) (ports : Tbl Port) (fs : List RxFlow) (l : List (Nat × Nat)) (r : Pkg × Bool × Sticky) :
    l.foldl (Pkg.writePiece b c va bs bad) (r.1.received ports fs, r.2) =
      ((l.foldl (Pkg.writePiece b c va bs bad) r).1.received ports fs, (l.foldl (Pkg.writePiece b c va bs bad) r).2) := by
  induction l generalizing r with
  | nil => rfl
  | cons p l ih =>
    have hp (w : StagedWrite) : (r.1.received ports fs).vWritePart c w = ((r.1.vWritePart c w).1.received ports fs, (r.1.vWritePart c w).2) :=
      FlowFree2.vWritePart c w r.1 ports fs
    rw [List.foldl_cons, List.foldl_cons, ← ih]
    unfold Pkg.writePiece
    dsimp only
    rw [hp]

theorem FlowFree2.vWriteAs (b : WrBy) (c va : Nat) (bs : Bytes) (bad : Bool) : FlowFree2 fun s => s.vWriteAs b c va bs bad := fun s ports fs =>
  Pkg.writePieces_received b c va bs bad ports fs (piecesOf va bs.length) (s, false, {})

end Sys2Proof.Machine
end

section
/-! Registers that arriving data does not count in (R239, R364, R398). -/

namespace Sys2Proof.Machine

variable {s : Pkg} {r : Nat}

/-- A register that neither a report, nor an access to GDDR, nor the forwarding of a packet, nor a version record counts in. -/
structure QuietReg (r : Nat) : Prop where
  copy     : r ≠ Reg.logHostDrops
  log      : r ≠ Reg.logOverwritten
  poison   : ∀ n, r ≠ Reg.poisonReads n
  ue       : ∀ n, r ≠ Reg.ueCount n
  fixed    : ∀ n, r ≠ Reg.mpBlock n + 0x100
  adders   : r ≠ Reg.adderOps
  pool     : r ≠ Reg.poolEmpty
  routes   : r ≠ Reg.hopDrops ∧ r ≠ Reg.epochDrops ∧ r ≠ Reg.unreachDrops ∧ r ≠ Reg.escapes
  versions : r ≠ Reg.verRecords ∧ r ≠ Reg.verReplaced ∧ r ≠ Reg.verMismatch ∧ r ≠ Reg.guardStale

theorem Reg.adderRemote_quiet : QuietReg Reg.adderRemote where
  copy := by decide
  log := by decide
  poison n := by unfold Reg.adderRemote Reg.poisonReads Reg.mpBlock; omega
  ue n := by unfold Reg.adderRemote Reg.ueCount Reg.mpBlock; omega
  fixed n := by unfold Reg.adderRemote Reg.mpBlock; omega
  adders := by decide
  pool := by decide
  routes := by decide
  versions := by decide

theorem Reg.relayDep_quiet : QuietReg Reg.relayDep where
  copy := by decide
  log := by decide
  poison n := by unfold Reg.relayDep Reg.poisonReads Reg.mpBlock; omega
  ue n := by unfold Reg.relayDep Reg.ueCount Reg.mpBlock; omega
  fixed n := by unfold Reg.relayDep Reg.mpBlock; omega
  adders := by decide
  pool := by decide
  routes := by decide
  versions := by decide

theorem Pkg.regs_setVrec (s : Pkg) (a : Nat) (v : VRec) : (s.setVrec a v).regs = s.regs := by
  unfold Pkg.setVrec
  split
  · rfl
  · dsimp only [Pkg.setMem]

theorem Pkg.regs_copyFrame (s : Pkg) (c a b : Nat) : (s.copyFrame c a b).regs = s.regs := by
  unfold Pkg.copyFrame
  split
  · rfl
  · dsimp only [Pkg.setMem]

theorem Pkg.regs_takeFrame {q : Pkg} {f : Nat} (hf : s.takeFrame = some (f, q)) : q.regs = s.regs := by
  unfold Pkg.takeFrame at hf
  dsimp only at hf
  split at hf
  · exact absurd hf nofun
  · split at hf
    · obtain ⟨-, rfl⟩ := Prod.mk.injEq .. ▸ Option.some.inj hf
      rfl
    · split at hf
      · obtain ⟨-, rfl⟩ := Prod.mk.injEq .. ▸ Option.some.inj hf
        rfl
      · exact absurd hf nofun

theorem Pkg.regs_writeFrame {q : Pkg} {c a f : Nat} {e : Bool} (hf : s.writeFrame c a = (some (f, q), e)) : q.regs = s.regs := by
  unfold Pkg.writeFrame at hf
  dsimp only at hf
  split at hf
  · obtain ⟨hq, -⟩ := Prod.mk.injEq .. ▸ hf
    obtain ⟨-, rfl⟩ := Prod.mk.injEq .. ▸ Option.some.inj hq
    exact Pkg.regs_setVrec s _ _
  · split at hf
    · exact absurd hf (by simp)
    · split at hf
      · exact absurd hf (by simp)
      next ht =>
        obtain ⟨hq, -⟩ := Prod.mk.injEq .. ▸ hf
        obtain ⟨-, rfl⟩ := Prod.mk.injEq .. ▸ Option.some.inj hq
        exact (Pkg.regs_setVrec _ _ _).trans ((Pkg.regs_copyFrame _ _ _ _).trans (Pkg.regs_takeFrame ht))

theorem Pkg.regs_arrive (s : Pkg) (c a n : Nat) : (s.arrive c a n).regs = s.regs := by
  refine foldl_view (P := Pkg.regs) (fun s w => ?_) _ _
  dsimp only
  split <;> rfl

/-! ### Packets -/

section
variable {α : Type} {P : Pkg → α} (hport : ∀ (s : Pkg) (n : Nat) (x : Port), P (s.setPort n x) = P s) (hemit : ∀ (s : Pkg) (o : Output), P (s.emit o) = P s)
include hport

theorem freeRoom_view (s : Pkg) (room : Option Room) : P (s.freeRoom room) = P s := by
  unfold Pkg.freeRoom
  split
  · rfl
  · exact hport s _ _

include hemit

theorem closeBlock_view (s : Pkg) (n : Nat) : P (s.closeBlock n) = P s := by
  unfold Pkg.closeBlock
  dsimp only
  split
  · exact (hemit _ _).trans (hport s _ _)
  · exact (hemit _ _).trans ((hport _ _ _).trans (hport s _ _))

/-- A packet given to a port changes ports and puts out symbols and packets. -/
theorem transmit_view (s : Pkg) (n : Nat) (m : Moving) : P (s.transmit n m) = P s := by
  have hset (x : Port) : P ((s.freeRoom m.room).setPort n x) = P s := (hport _ n x).trans (freeRoom_view hport s m.room)
  unfold Pkg.transmit
  dsimp only
  split
  · unfold Pkg.place
    dsimp only
    split
    · exact (hemit _ _).trans (hset _)
    · split
      · exact (closeBlock_view hport hemit _ n).trans ((hemit _ _).trans (hset _))
      · exact (hemit _ _).trans ((hport _ n _).trans ((closeBlock_view hport hemit _ n).trans (hset _)))
  · exact hport s n _

end

section
variable (h : QuietReg r)
include h

/-! ### Writes -/

theorem QuietReg.touch (s : Pkg) (f : Nat) (gs : List Nat) : (s.touch f gs).reg r = s.reg r := Pkg.reg_touch h.copy h.log h.poison h.ue h.fixed s f gs

theorem QuietReg.dWrite (s : Pkg) (a : Nat) (bs : Bytes) (bad rmw : Bool) (head : Nat) (more : Bool) : (s.dWrite a bs bad rmw head more).reg r = s.reg r := by
  unfold Pkg.dWrite
  split
  · rfl
  · exact h.touch s _ _

theorem QuietReg.dLand (s : Pkg) (b : WrBy) (a : Nat) (bs : Bytes) (bad : Bool) : (s.dLand b a bs bad).1.reg r = s.reg r := by
  unfold Pkg.dLand
  split
  · exact h.dWrite s _ _ _ _ _ _
  · exact (h.dWrite _ _ _ _ _ _ _).trans (Pkg.reg_bumpBy_ne _ _ h.adders)

theorem QuietReg.looked (s : Pkg) (gs : List Nat) (c va : Nat) : ((s.touch 0 gs).cacheAt c va).reg r = s.reg r := by
  unfold Pkg.cacheAt
  split <;> exact h.touch s 0 gs

theorem QuietReg.vWrite1 (s : Pkg) (c va : Nat) (b : WrBy) (bs : Bytes) (bad : Bool) (acc : Acc) : (s.vWrite1 c va b bs bad acc).pkg.reg r = s.reg r := by
  have hl (gs : List Nat) := h.looked s gs c va
  unfold Pkg.vWrite1
  split
  · exact hl _
  · exact (h.dLand _ _ _ _ _).trans (hl _)
  · dsimp only
    split
    · exact hl _
    · split
      · rename_i hf
        have hw : Pkg.reg _ r = Pkg.reg _ r := congrArg (fun t => (Tbl.get 0 t r : Word)) (Pkg.regs_writeFrame hf)
        split
        · exact (h.dLand _ _ _ _ _).trans (hw.trans (hl _))
        · exact hl _
      · exact hl _

theorem QuietReg.vWritePart (s : Pkg) (c : Nat) (w : StagedWrite) : (s.vWritePart c w).1.reg r = s.reg r := by
  have hw := h.vWrite1 s c w.addr w.by_ w.data w.bad (if w.by_.pkt.isSome then Acc.remoteWrite else .write)
  unfold Pkg.vWritePart
  dsimp only
  split
  · rfl
  · split
    next he =>
      rw [he] at hw
      split
      · exact (congrArg (fun t => (Tbl.get 0 t r : Word)) (Pkg.regs_arrive _ _ _ _)).trans hw
      · exact hw
    next he => rwa [he] at hw
    next he =>
      rw [he] at hw
      refine Eq.trans ?_ hw
      dsimp only [WrRes.pkg]
      split
      · exact Pkg.reg_bump_ne _ h.pool
      · rfl

theorem QuietReg.vWriteAs (s : Pkg) (b : WrBy) (c va : Nat) (bs : Bytes) (bad : Bool) : (s.vWriteAs b c va bs bad).1.reg r = s.reg r := by
  unfold Pkg.vWriteAs
  refine foldl_view_fst (P := fun s => s.reg r) (fun q x => ?_) _ _
  exact h.vWritePart q.1 c _

/-! ### Packets and version records -/

theorem QuietReg.forward (s : Pkg) (k : Packet) (a : Option Nat) (room : Option Room) : (s.forward k a room).reg r = s.reg r := by
  obtain ⟨hhop, hepoch, hunreach, hesc⟩ := h.routes
  have hfree : (s.freeRoom room).reg r = s.reg r := freeRoom_view (P := fun s => s.reg r) (fun _ _ _ => rfl) s room
  have hsend (q : Pkg) (n : Nat) (m : Moving) : (q.transmit n m).reg r = q.reg r := transmit_view (P := fun s => s.reg r) (fun _ _ _ => rfl) (fun _ _ => rfl) q n m
  unfold Pkg.forward
  dsimp only
  split
  · exact hfree
  · unfold Pkg.routeDrop
    dsimp only
    rw [Pkg.reg_logEv _ _ _ _ _ h.copy h.log, Pkg.reg_bump_ne, hfree]
    split
    · exact hhop
    · split
      · exact hepoch
      · exact hunreach
  · rw [hsend]
    split
    · exact Pkg.reg_bump_ne _ hesc
    · rfl

theorem QuietReg.inject (s : Pkg) (d : Hd) (b : Bytes) : (s.inject d b).2.reg r = s.reg r := by
  unfold Pkg.inject
  refine (h.forward _ _ _ _).trans ?_
  unfold Pkg.number
  dsimp only
  split <;> rfl

theorem QuietReg.sendAck (s : Pkg) (d : Hd) : (s.sendAck d).reg r = s.reg r := by
  unfold Pkg.sendAck
  split
  · rfl
  · dsimp only
    split
    · rfl
    · exact h.forward _ _ _ _

theorem QuietReg.passed (s : Pkg) (d : Hd) (last : Bool) : (s.passed d last).reg r = s.reg r := by
  unfold Pkg.passed
  dsimp only
  split
  · split
    · exact h.sendAck _ _
    · rfl
  · rfl

theorem QuietReg.versionMode (s : Pkg) (mode c tensor step origin version : Nat) : (s.versionMode mode c tensor step origin version).reg r = s.reg r := by
  obtain ⟨hrec, hrep, hmis, hstale⟩ := h.versions
  have hflag (q : Pkg) (st : Nat) : (q.raiseFlag none c st false).reg r = q.reg r := by
    unfold Pkg.raiseFlag
    dsimp only
    split
    · exact (Pkg.reg_logEv _ _ _ _ _ h.copy h.log).trans (Pkg.reg_bump_ne _ hstale)
    · rfl
  have hirq (q : Pkg) : (q.ctxIrq c).reg r = q.reg r := by
    unfold Pkg.ctxIrq
    dsimp only
    split
    · exact Pkg.reg_raise _ _ _
    · rfl
  unfold Pkg.versionMode
  dsimp only
  split
  · split
    · exact Pkg.reg_bump_ne _ hrec
    · split
      · exact Pkg.reg_bump_ne _ hrec
      · split <;> exact (Pkg.reg_bump_ne _ hrep).trans (Pkg.reg_bump_ne _ hrec)
  · split
    · rfl
    · rw [hirq, Pkg.reg_logWith _ _ _ _ _ _ _ h.copy h.log, Pkg.reg_updCtx, hflag, Pkg.reg_bump_ne _ hmis]
  · rfl

end

end Sys2Proof.Machine
end

section
/-! READ answered in the flow back (R64, R362, R452). -/

namespace Sys2Proof.Machine

variable {s : Pkg}

/-! ### The bytes of a unit -/

theorem Memory.readN_length (m : Memory) (a n : Nat) : (m.readN a n).length = n := by
  induction n generalizing a with
  | zero => rfl
  | succ n ih => rw [Memory.readN, List.length_cons, ih]

/-- The pieces of a unit make up the unit. -/
theorem piecesOf_unit_sum (va : Nat) : ((piecesOf va 64).map (·.2)).sum = 64 := by
  have hk : piecesOf va 64 = pieces 2 va 64 := rfl
  rw [hk, pieces, if_neg (by decide)]
  dsimp only
  rw [pieces]
  by_cases hall : 64 ≤ 0x10000 - va % 0x10000
  · rw [Nat.min_eq_left hall, if_pos rfl]
    rfl
  · rw [Nat.min_eq_right (by omega), if_neg (by omega)]
    simp only [pieces, List.map_cons, List.map_nil, List.sum_cons, List.sum_nil]
    omega

/-- A read of a piece that faults or lands adds the piece's bytes. -/
theorem foldl_length {β : Type} {f : Rd → β → Rd} {n : β → Nat} (h : ∀ r x, (f r x).bytes.length = r.bytes.length + n x) (l : List β) (r : Rd) :
    (l.foldl f r).bytes.length = r.bytes.length + (l.map n).sum := by
  induction l generalizing r with
  | nil => rfl
  | cons x l ih => rw [List.foldl_cons, ih, h, List.map_cons, List.sum_cons, Nat.add_assoc]

theorem Pkg.vRead_length (s : Pkg) (c va n : Nat) (acc : Acc) (own : Bool) : (s.vRead c va n acc own).bytes.length = ((piecesOf va n).map (·.2)).sum := by
  unfold Pkg.vRead
  rw [foldl_length (n := fun x : Nat × Nat => x.2)]
  · exact Nat.zero_add _
  · intro r x
    dsimp only
    split
    · rw [List.length_append, List.length_replicate]
    · rw [List.length_append, Pkg.dRead, Memory.readN_length]

/-! ### Numbers of a sender's flow -/

theorem forward_txFlows (s : Pkg) (k : Packet) (a : Option Nat) (room : Option Room) : (s.forward k a room).fab.txFlows = s.fab.txFlows := by
  have hfree : (s.freeRoom room).fab.txFlows = s.fab.txFlows := freeRoom_view (P := fun s => s.fab.txFlows) (fun _ _ _ => rfl) s room
  have hsend (q : Pkg) (n : Nat) (m : Moving) : (q.transmit n m).fab.txFlows = q.fab.txFlows :=
    transmit_view (P := fun s => s.fab.txFlows) (fun _ _ _ => rfl) (fun _ _ => rfl) q n m
  have hrep : ReportBlind fun s => s.fab.txFlows := ⟨fun _ _ _ _ _ => rfl⟩
  unfold Pkg.forward
  dsimp only
  split
  · exact hfree
  · unfold Pkg.routeDrop
    exact (hrep.logEv _ _ _ _ _).trans ((hrep.bump _ _).trans hfree)
  · rw [hsend]
    split <;> rfl

/-- Whether a sender's flow is the one that a header names. -/
def TxFlow.of (x : TxFlow) (h : Hd) : Bool := x.src == h.src && x.dst == h.dst && x.ctx == h.ctx && x.gen == h.gen && x.cls == h.cls

/-- The flow that a header names, at its sender. -/
def Pkg.txFlow (s : Pkg) (h : Hd) : Option TxFlow := s.fab.txFlows.find? fun x => x.of h

/-- A sender's flow from which `j` packets have gone out in this stroke. -/
def Pkg.SentNow (s : Pkg) (h : Hd) (j : Nat) : Prop :=
  (j = 0 → s.txFlow h = none) ∧ (j ≠ 0 → ∃ x, s.txFlow h = some x ∧ x.next = j ∧ x.lastStroke = s.stroke.number)

theorem Pkg.number_first {h : Hd} (hf : s.txFlow h = none) : (s.number h.src h.dst h.ctx h.gen h.cls).2.fab.txFlows =
    s.fab.txFlows ++ [{ src := h.src, dst := h.dst, ctx := h.ctx, gen := h.gen, cls := h.cls, next := 1, lastStroke := s.stroke.number }] := by
  unfold Pkg.number
  dsimp only
  rw [show s.fab.txFlows.find? (fun x => x.src == h.src && x.dst == h.dst && x.ctx == h.ctx && x.gen == h.gen && x.cls == h.cls) = _ from hf]

theorem Pkg.number_next {h : Hd} {x : TxFlow} (hf : s.txFlow h = some x) (hl : x.lastStroke = s.stroke.number) :
    (s.number h.src h.dst h.ctx h.gen h.cls).2.fab.txFlows =
      s.fab.txFlows.map fun z => if z.of h then { x with next := (x.next + 1) % 2 ^ 32, lastStroke := s.stroke.number } else z := by
  unfold Pkg.number
  dsimp only
  rw [show s.fab.txFlows.find? (fun x => x.src == h.src && x.dst == h.dst && x.ctx == h.ctx && x.gen == h.gen && x.cls == h.cls) = _ from hf]
  dsimp only
  rw [if_neg (by simp [hl])]
  rfl

theorem Pkg.number_stroke (s : Pkg) (a b c d e : Nat) : (s.number a b c d e).2.stroke = s.stroke := by
  unfold Pkg.number
  dsimp only
  split <;> rfl

theorem Pkg.sentNow_number {h : Hd} {j : Nat} (hj : s.SentNow h j) (hlt : j + 1 < 2 ^ 32) : (s.number h.src h.dst h.ctx h.gen h.cls).2.SentNow h (j + 1) := by
  obtain ⟨hnone, hsome⟩ := hj
  refine ⟨fun h0 => absurd h0 (by omega), fun _ => ?_⟩
  rw [Pkg.number_stroke]
  unfold Pkg.txFlow
  by_cases h0 : j = 0
  · rw [Pkg.number_first (hnone h0), List.find?_append, show s.fab.txFlows.find? (fun x => x.of h) = none from hnone h0,
      List.find?_cons_of_pos (p := fun x : TxFlow => x.of h) (by simp [TxFlow.of])]
    exact ⟨_, rfl, by rw [h0], rfl⟩
  · obtain ⟨x, hx, hn, hl⟩ := hsome h0
    have hof : x.of h = true := List.find?_some (p := fun x : TxFlow => x.of h) hx
    have hc : ((fun z : TxFlow => z.of h) ∘ fun z => if z.of h then { x with next := (x.next + 1) % 2 ^ 32, lastStroke := s.stroke.number } else z) = fun z => z.of h := by
      funext z
      simp only [Function.comp_apply]
      split
      next hz => exact hof.trans hz.symm
      · rfl
    rw [Pkg.number_next hx hl, List.find?_map, hc, show s.fab.txFlows.find? (fun x => x.of h) = some x from hx]
    exact ⟨_, congrArg some (if_pos hof), by rw [hn]; exact Nat.mod_eq_of_lt hlt, rfl⟩

theorem Pkg.stroke_sendBlind : SendBlind Pkg.stroke := ⟨fun _ _ _ _ _ _ _ _ _ => rfl, fun _ _ _ _ => rfl⟩

/-- A sequenced packet sent: one more of its flow has gone out. -/
theorem Pkg.sentNow_inject {h : Hd} {j : Nat} (hj : s.SentNow h j) (hlt : j + 1 < 2 ^ 32) {d : Hd} (hd : d.src = h.src ∧ d.dst = h.dst ∧ d.ctx = h.ctx ∧ d.gen = h.gen ∧ d.cls = h.cls)
    (b : Bytes) : (s.inject d b).2.SentNow h (j + 1) := by
  obtain ⟨h1, h2, h3, h4, h5⟩ := hd
  have hn := Pkg.sentNow_number hj hlt
  unfold Pkg.inject
  dsimp only
  rw [h1, h2, h3, h4, h5]
  generalize (s.number h.src h.dst h.ctx h.gen h.cls).2 = q at hn ⊢
  unfold Pkg.SentNow Pkg.txFlow at *
  rw [forward_txFlows, show (q.forward _ none none).stroke = q.stroke from Pkg.stroke_sendBlind.forward _ _ _ _]
  exact hn

/-- The READ_DATA packets of a READ number their flow. -/
theorem Pkg.sentNow_sendData (h : Hd) (idx : Nat) (l : List (Nat × Bytes)) {s : Pkg} {j : Nat} {g : Hd}
    (hg : g.src = h.dst ∧ g.dst = h.src ∧ g.ctx = h.ctx ∧ g.gen = h.gen ∧ g.cls = 1) (hj : s.SentNow g j) (hlt : j + l.length < 2 ^ 32) :
    (s.sendData h idx l).SentNow g (j + l.length) := by
  obtain ⟨h1, h2, h3, h4, h5⟩ := hg
  induction l generalizing s j with
  | nil => exact hj
  | cons x l ih =>
    rw [List.length_cons] at hlt ⊢
    rw [Pkg.sendData, show j + (l.length + 1) = j + 1 + l.length by omega]
    have hx := Pkg.sentNow_inject (h := g) hj (by omega)
      (d := { op := opREADDATA, cls := 1, src := h.dst, dst := h.src, ctx := h.ctx, gen := h.gen, layout := h.layout, addr := x.1
              aux := idx + (if l.isEmpty then 1024 else 0) }) ⟨h1.symm, h2.symm, h3.symm, h4.symm, h5.symm⟩ x.2
    exact ih hx (by omega)

/-! ### The READ -/

/-- Cut into pieces of `n`, a list gives one piece for every `n` bytes begun. -/
theorem chunk_length {β : Type} {n : Nat} (hn : 0 < n) (f : Nat) (l : List β) (hf : l.length ≤ f * n) : (chunk f n l).length = (l.length + n - 1) / n := by
  have hnil : ([] : List (List β)).length = (0 + n - 1) / n := by
    rw [Nat.div_eq_of_lt (by omega)]
    rfl
  induction f generalizing l with
  | zero =>
    have h0 : l.length = 0 := by omega
    rw [chunk, h0]
    exact hnil
  | succ f ih =>
    rw [chunk]
    split
    next he =>
      rw [List.isEmpty_iff.1 he]
      exact hnil
    next he =>
      have hpos : l.length ≠ 0 := fun h => he (List.isEmpty_iff.2 (List.length_eq_zero_iff.1 h))
      rw [List.length_cons, ih _ (by rw [List.length_drop]; rw [Nat.succ_mul] at hf; omega), List.length_drop]
      by_cases hle : l.length ≤ n
      · rw [Nat.sub_eq_zero_of_le hle, Nat.div_eq_of_lt (by omega), Nat.div_eq_of_lt_le (m := l.length + n - 1) (k := 1) (by omega) (by omega)]
      · rw [← Nat.add_div_right _ hn]
        congr 1
        omega

end Sys2Proof.Machine
end

section
/-! Data packets applied: WRITE, READ, READ_DATA and RELAY (R64, R202, R239, R389 to R392, R440, R452). -/

namespace Sys2Proof.Machine

variable {α : Type} {P : Pkg → α} {p : Pkg}

/-! ### Bytes that land for another package (R389, R440) -/

/-- The package once bytes of another one have landed, before their reports. -/
def Pkg.stored (p : Pkg) (h : Hd) (b : WrBy) (old : Option (Tbl (Word × Bool))) (d : Bytes) : Pkg :=
  p.under h.ctx old fun p => (p.vWriteAs { b with pkt := some ⟨h.src, h.dst, h.gen, h.cls, h.seq⟩ } h.ctx h.addr d false).1

theorem FlowFree.under {f : Pkg → Pkg} (hf : FlowFree f) (c : Nat) (old : Option (Tbl (Word × Bool))) : FlowFree fun s => s.under c old f := fun s ports fs => by
  dsimp only
  unfold Pkg.under
  cases old with
  | none => exact hf s ports fs
  | some t => exact congrArg (fun q : Pkg => { q with tlb := q.tlb.set c (s.tlb.get [] c) }) (hf { s with tlb := s.tlb.set c t } ports fs)

theorem Pkg.stored_received (p : Pkg) (h : Hd) (b : WrBy) (old : Option (Tbl (Word × Bool))) (d : Bytes) (ports : Tbl Port) (fs : List RxFlow) :
    (p.received ports fs).stored h b old d = (p.stored h b old d).received ports fs :=
  FlowFree.under (fun s ports fs => congrArg (·.1) (FlowFree2.vWriteAs _ h.ctx h.addr d false s ports fs)) h.ctx old p ports fs

theorem Pkg.storeIn_eq (s : Pkg) (h : Hd) (b : WrBy) (old : Option (Tbl (Word × Bool))) (d : Bytes) : (s.storeIn h b old d).1 =
    if ((s.stored h b old d).ctx h.ctx).adderTouched h.addr d.length = true then
      ((s.stored h b old d).bump Reg.adderRemote).logEv Ev.adderRemoteStore (Unit.memDie 0) (some h.ctx) []
    else s.stored h b old d := rfl

/-- What the reports on bytes that landed leave. -/
theorem ReportBlind.storeIn (hP : ReportBlind P) (s : Pkg) (h : Hd) (b : WrBy) (old : Option (Tbl (Word × Bool))) (d : Bytes) :
    P (s.storeIn h b old d).1 = P (s.stored h b old d) := by
  rw [Pkg.storeIn_eq]
  exact view_ite ((hP.logEv _ _ _ _ _).trans (hP.bump _ _)) rfl

theorem WriteBlind.stored {h : Hd} (hP : WriteBlind P h.ctx) (s : Pkg) (b : WrBy) (old : Option (Tbl (Word × Bool))) (d : Bytes) : P (s.stored h b old d) = P s :=
  hP.mem.under s h.ctx old (hP.vWriteAs _ _ _ _ _)

theorem QuietReg.stored {r : Nat} (hr : QuietReg r) (s : Pkg) (h : Hd) (b : WrBy) (old : Option (Tbl (Word × Bool))) (d : Bytes) :
    (s.stored h b old d).reg r = s.reg r := by
  unfold Pkg.stored Pkg.under
  cases old with
  | none => exact hr.vWriteAs s _ _ _ _ _
  | some t => exact hr.vWriteAs { s with tlb := s.tlb.set h.ctx t } _ _ _ _ _

/-- A context's adder windows. -/
def Pkg.addersOf (c : Nat) (s : Pkg) : Tbl Word := (s.ctx c).adders

theorem Pkg.addersOf_writeBlind (c : Nat) : WriteBlind (Pkg.addersOf c) c := by
  refine ⟨⟨⟨fun _ _ _ _ _ _ _ _ => rfl⟩, fun _ _ _ _ _ => rfl⟩, fun s x hx => ?_⟩
  unfold Pkg.addersOf Pkg.ctx Pkg.setCtx
  rw [Tbl.get_set, if_pos rfl]
  exact (congrArg Ctx.adders hx :)

theorem Ctx.adderTouched_congr {x y : Ctx} (h : x.adders = y.adders) (va n : Nat) : x.adderTouched va n = y.adderTouched va n := by
  unfold Ctx.adderTouched
  rw [h]

/-- A store of another package's that touches an adder window is counted. -/
theorem Pkg.adderRemote_storeIn (s : Pkg) (h : Hd) (b : WrBy) (old : Option (Tbl (Word × Bool))) (d : Bytes) :
    (s.storeIn h b old d).1.reg Reg.adderRemote = s.reg Reg.adderRemote + BitVec.ofNat 64 ((s.ctx h.ctx).adderTouched h.addr d.length).toNat := by
  have hreg := Reg.adderRemote_quiet.stored s h b old d
  have htouch : ((s.stored h b old d).ctx h.ctx).adderTouched h.addr d.length = (s.ctx h.ctx).adderTouched h.addr d.length :=
    Ctx.adderTouched_congr ((Pkg.addersOf_writeBlind h.ctx).stored s b old d) _ _
  rw [Pkg.storeIn_eq, htouch]
  cases (s.ctx h.ctx).adderTouched h.addr d.length with
  | true => exact (Pkg.reg_logEv _ _ _ _ _ (by decide) (by decide)).trans ((Pkg.reg_bump_same _ _).trans (congrArg (· + 1) hreg))
  | false => exact hreg.trans (BitVec.add_zero _).symm

theorem QuietReg.storeIn {r : Nat} (hr : QuietReg r) (ha : r ≠ Reg.adderRemote) (s : Pkg) (h : Hd) (b : WrBy) (old : Option (Tbl (Word × Bool))) (d : Bytes) :
    (s.storeIn h b old d).1.reg r = s.reg r := by
  rw [Pkg.storeIn_eq]
  exact (view_ite (P := fun s => s.reg r) ((Pkg.reg_logEv _ _ _ _ _ hr.copy hr.log).trans (Pkg.reg_bump_ne _ ha)) rfl).trans (hr.stored s h b old d)

/-! ### A packet counted toward its flow's acknowledgement -/

theorem SendBlind.passed (hP : SendBlind P) (hrx : ∀ s fs, P { s with fab := { s.fab with rxFlows := fs } } = P s) (s : Pkg) (d : Hd) (last : Bool) :
    P (s.passed d last) = P s := by
  have hu : P (s.updFlow d fun f => { f with unackN := f.unackN + 1 }) = P s := hrx s _
  unfold Pkg.passed
  dsimp only
  split
  · split
    · exact (hP.sendAck hrx _ _).trans hu
    · exact hu
  · exact hu

/-- The number that a flow expects. -/
def Pkg.expects (d : Hd) (s : Pkg) : Option Nat := (s.rxFlow d).map (·.next)

theorem Pkg.expects_sendBlind (d : Hd) : SendBlind (Pkg.expects d) := ⟨fun _ _ _ _ _ _ _ _ _ => rfl, fun _ _ _ _ => rfl⟩

theorem Pkg.expects_updFlow (s : Pkg) (d : Hd) {g : RxFlow → RxFlow} (hg : ∀ f, (g f).of d = f.of d ∧ (g f).next = f.next) :
    (s.updFlow d g).expects d = s.expects d := by
  unfold Pkg.expects
  cases hf : s.rxFlow d with
  | some f =>
    rw [Pkg.rxFlow_updFlow hf fun f h => (hg f).1.trans h]
    exact congrArg some (hg f).2
  | none =>
    have hnone : (s.updFlow d g).rxFlow d = none := by
      refine List.find?_eq_none.2 fun x hx => ?_
      obtain ⟨f, hm, rfl⟩ := List.mem_map.1 hx
      have hf := List.find?_eq_none.1 hf f hm
      rwa [if_neg hf]
    rw [hnone]

theorem Pkg.expects_passed (s : Pkg) (d : Hd) (last : Bool) : (s.passed d last).expects d = s.expects d := by
  have hu (s : Pkg) {g : RxFlow → RxFlow} (hg : ∀ f, (g f).of d = f.of d ∧ (g f).next = f.next) := s.expects_updFlow d hg
  have hack (s : Pkg) : (s.sendAck d).expects d = s.expects d := by
    unfold Pkg.sendAck
    split
    · rfl
    · dsimp only
      split
      · rfl
      · exact ((Pkg.expects_sendBlind d).injectRaw _ _ _).trans (hu s fun _ => ⟨rfl, rfl⟩)
  have h1 := hu s (g := fun f => { f with unackN := f.unackN + 1 }) fun _ => ⟨rfl, rfl⟩
  unfold Pkg.passed
  dsimp only
  split
  · split
    · exact (hack _).trans h1
    · exact h1
  · exact h1

theorem Pkg.txFlows_passed (s : Pkg) (d : Hd) (last : Bool) : (s.passed d last).fab.txFlows = s.fab.txFlows := by
  have hack (s : Pkg) : (s.sendAck d).fab.txFlows = s.fab.txFlows := by
    unfold Pkg.sendAck
    split
    · rfl
    · dsimp only
      split
      · rfl
      · exact forward_txFlows _ _ _ _
  unfold Pkg.passed
  dsimp only
  split
  · split
    · exact hack _
    · rfl
  · rfl

/-! ### WRITE -/

/-- The bytes that a transfer wrote before in the granule where its next packet lands (R434). -/
def Pkg.runBefore (p : Pkg) (d : Hd) : Nat := match (p.rxFlow d).bind (·.run) with
  | some (va, n, w) => if va = d.addr ∧ p.sameFrame d.ctx va w = true then n else 0
  | none => 0

/-- How a WRITE's bytes lie in their transfer. -/
def Pkg.writeBy (p : Pkg) (d : Hd) : WrBy := { arrives := true, head := p.runBefore d, more := nbits d.aux 0 0 == 0 }

theorem Pkg.runBefore_turned {ports : Tbl Port} {fs : List RxFlow} {d : Hd} (ht : p.Turned (p.received ports fs) d) : (p.received ports fs).runBefore d = p.runBefore d := by
  obtain ⟨g, hg, -, hrun⟩ := ht
  have hb : ((p.received ports fs).rxFlow d).bind (·.run) = (p.rxFlow d).bind (·.run) := by
    rw [hg]
    exact hrun
  unfold Pkg.runBefore
  rw [hb]
  rfl

/-- A flow's entry with what its transfer has written replaced. -/
def RxFlow.withRun (r : Option (Nat × Nat × Nat)) (f : RxFlow) : RxFlow := { f with run := r }

theorem Pkg.writeIn_eq (s : Pkg) (d : Hd) (b : Bytes) : ∃ r, s.writeIn d b = (s.storeIn d (s.writeBy d) none b).1.updFlow d (RxFlow.withRun r) := by
  unfold Pkg.writeIn Pkg.writeBy Pkg.runBefore
  cases (s.rxFlow d).bind (·.run) with
  | none => exact ⟨_, rfl⟩
  | some x =>
    simp only [Bool.and_eq_true, decide_eq_true_iff]
    exact ⟨_, rfl⟩

end Sys2Proof.Machine
end

section
/-! READ, READ_DATA and RELAY applied (R64, R202, R391, R392, R452). -/

namespace Sys2Proof.Machine

variable {α : Type} {P : Pkg → α} {p s : Pkg}

/-! ### READ -/

theorem SendBlind.sendData (hP : SendBlind P) (d : Hd) (idx : Nat) (l : List (Nat × Bytes)) (s : Pkg) : P (s.sendData d idx l) = P s := by
  induction l generalizing s with
  | nil => rfl
  | cons x l ih => exact (ih _).trans (hP.inject s _ _)

/-- The reads that a READ asks for. -/
def Pkg.readsOf (s : Pkg) (d : Hd) : List Rd := (List.range d.readUnits).map fun i => s.vRead d.ctx (d.addr + 64 * i) 64 .remoteRead (eidEp d.src != 80)

/-- The bytes that answer a READ: poisoned units as zeros. -/
def Pkg.readBytes (s : Pkg) (d : Hd) : Bytes := (s.readsOf d).flatMap fun u => if u.poison then List.replicate 64 0 else u.bytes

/-- The READ_DATA packets that answer a READ: offset and bytes. -/
def Pkg.readPackets (s : Pkg) (d : Hd) : List (Nat × Bytes) := (chunk ((s.readBytes d).length / 512 + 1) 512 (s.readBytes d)).zipIdx.map fun (b, i) => (512 * i, b)

/-- The package once the reads of a READ are accounted for. -/
def Pkg.readTook (s : Pkg) (d : Hd) : Pkg := (s.tookAll (s.readsOf d)).bumpBy Reg.poisonZeroed ((s.readsOf d).filter (·.poison)).length

theorem Pkg.readBytes_length (s : Pkg) (d : Hd) : (s.readBytes d).length = 64 * d.readUnits := by
  have hunit (l : List Rd) (h : ∀ u ∈ l, u.bytes.length = 64) : (l.flatMap fun u => if u.poison then List.replicate 64 (0 : Byte) else u.bytes).length = 64 * l.length := by
    induction l with
    | nil => rfl
    | cons u l ih =>
      have hu : (if u.poison = true then List.replicate 64 (0 : Byte) else u.bytes).length = 64 := by
        split
        · exact List.length_replicate
        · exact h u List.mem_cons_self
      rw [List.flatMap_cons, List.length_append, hu, ih fun u hu => h u (List.mem_cons_of_mem _ hu), List.length_cons]
      omega
  unfold Pkg.readBytes
  rw [hunit]
  · rw [Pkg.readsOf, List.length_map, List.length_range]
  · intro u hu
    obtain ⟨i, -, rfl⟩ := List.mem_map.1 hu
    rw [Pkg.vRead_length, piecesOf_unit_sum]

theorem Pkg.readPackets_length (s : Pkg) (d : Hd) : (s.readPackets d).length = (d.readUnits + 7) / 8 := by
  unfold Pkg.readPackets
  rw [List.length_map, List.length_zipIdx, chunk_length (by decide) _ _ (by omega), Pkg.readBytes_length]
  omega

theorem Hd.readUnits_lt (d : Hd) : d.readUnits < 2 ^ 14 := Nat.mod_lt _ (by decide)

theorem Pkg.tookAll_bytes (l : List Rd) (s : Pkg) : (s.tookAll l).mem.bytes = s.mem.bytes := foldl_view (P := fun s => s.mem.bytes) Pkg.took_bytes l s

/-- A READ leaves GDDR's bytes, the cores and the clusters. -/
theorem Pkg.readIn_keeps (s : Pkg) (d : Hd) : (s.readIn d).mem.bytes = s.mem.bytes ∧ (s.readIn d).cores = s.cores ∧ (s.readIn d).clusters = s.clusters ∧
    (s.readIn d).fab.rxFlows = s.fab.rxFlows := by
  have hsend {β : Type} {P : Pkg → β} (hP : SendBlind P) : P (s.readIn d) = P (s.readTook d) := hP.sendData d _ _ _
  have htook {β : Type} {P : Pkg → β} (hP : MemBlind P) : P (s.readTook d) = P s := (hP.report.bumpBy _ _ _).trans (hP.tookAll s _)
  exact ⟨(hsend (P := fun s => s.mem.bytes) ⟨fun _ _ _ _ _ _ _ _ _ => rfl, fun _ _ _ _ => rfl⟩).trans (s.tookAll_bytes _ :),
    (hsend (P := Pkg.cores) ⟨fun _ _ _ _ _ _ _ _ _ => rfl, fun _ _ _ _ => rfl⟩).trans (htook ⟨fun _ _ _ _ _ _ _ _ => rfl⟩),
    (hsend (P := Pkg.clusters) ⟨fun _ _ _ _ _ _ _ _ _ => rfl, fun _ _ _ _ => rfl⟩).trans (htook ⟨fun _ _ _ _ _ _ _ _ => rfl⟩),
    (hsend Pkg.rxFlows_sendBlind).trans (htook (P := fun s => s.fab.rxFlows) ⟨fun _ _ _ _ _ _ _ _ => rfl⟩)⟩

/-- The flow in which a packet is answered. -/
def Hd.back (d : Hd) : Hd := { src := d.dst, dst := d.src, ctx := d.ctx, gen := d.gen, cls := 1 }

/-- One READ_DATA packet for every 512 bytes, in the flow back. -/
theorem Pkg.readIn_sent {d : Hd} (hu : 1 ≤ d.readUnits) (hf : s.txFlow d.back = none) :
    ∃ x, (s.readIn d).txFlow d.back = some x ∧ x.next = (d.readUnits + 7) / 8 := by
  have htook : (s.readTook d).txFlow d.back = none := by
    have h : (s.readTook d).fab.txFlows = s.fab.txFlows := (ReportBlind.bumpBy (P := fun s => s.fab.txFlows) ⟨fun _ _ _ _ _ => rfl⟩ _ _ _).trans
      (MemBlind.tookAll (P := fun s => s.fab.txFlows) ⟨fun _ _ _ _ _ _ _ _ => rfl⟩ s _)
    unfold Pkg.txFlow
    rwa [h]
  have hlt := d.readUnits_lt
  have hlen := s.readPackets_length d
  have hn := Pkg.sentNow_sendData d (nbits d.aux 9 0) (s.readPackets d) (s := s.readTook d) (j := 0) (g := d.back) ⟨rfl, rfl, rfl, rfl, rfl⟩
    ⟨fun _ => htook, fun h => absurd rfl h⟩ (by omega)
  obtain ⟨x, hx, hnext, -⟩ := hn.2 (by omega)
  exact ⟨x, hx, by omega⟩

/-! ### READ_DATA -/

/-- The core-local memory that a core reaches. -/
def Pkg.localMem (c : Nat) (s : Pkg) : Memory × Memory := ((s.core c).pal, (s.cluster (clusterOf c)).mem)

/-- One write in the memory that a core reaches. -/
def landed (m : Memory × Memory) (w : LWrite) : Memory × Memory :=
  if w.addr < clusterBase then (m.1.writeN w.addr w.data, m.2) else (m.1, m.2.writeN (w.addr - clusterBase) w.data)

theorem Pkg.localMem_lWrite (s : Pkg) (c : Nat) (w : LWrite) : (s.lWrite c w).localMem c = landed (s.localMem c) w := by
  unfold Pkg.lWrite landed Pkg.localMem
  dsimp only
  split
  · rw [Pkg.updCore, Pkg.core_setCore, if_pos rfl]
    rfl
  · rw [Pkg.updCluster, Pkg.cluster_setCluster, if_pos rfl]
    rfl

theorem Pkg.localMem_lWrites (c : Nat) (ws : List LWrite) (s : Pkg) : (ws.foldl (fun s w => s.lWrite c w) s).localMem c = ws.foldl landed (s.localMem c) := by
  induction ws generalizing s with
  | nil => rfl
  | cons w ws ih => rw [List.foldl_cons, List.foldl_cons, ih, Pkg.localMem_lWrite]

/-- A byte of core-local memory. -/
def localByte (m : Memory × Memory) (a : Nat) : Byte := if a < clusterBase then m.1.read a else m.2.read (a - clusterBase)

theorem Pkg.lByte_eq (s : Pkg) (c a : Nat) : s.lByte c a = localByte (s.localMem c) a := by
  unfold Pkg.lByte Pkg.lRead localByte
  split <;> rfl

theorem localByte_landed (m : Memory × Memory) {w : LWrite} {a : Nat} (h : ¬ (w.addr ≤ a ∧ a < w.addr + w.data.length)) :
    localByte (landed m w) a = localByte m a := by
  unfold landed localByte
  by_cases hw : w.addr < clusterBase
  · rw [if_pos hw]
    split
    · exact Memory.read_writeN_ne _ _ _ _ (by omega)
    · rfl
  · rw [if_neg hw]
    split
    · rfl
    · exact Memory.read_writeN_ne _ _ _ _ (by omega)

/-- A byte outside the ranges of a list of writes stays. -/
theorem localByte_landedAll (ws : List LWrite) (m : Memory × Memory) {a : Nat} (h : ¬ inRanges (ws.map fun l => (l.addr, l.data.length)) a) :
    localByte (ws.foldl landed m) a = localByte m a := by
  induction ws generalizing m with
  | nil => rfl
  | cons w ws ih =>
    rw [List.foldl_cons, ih _ fun ⟨r, hr, hin⟩ => h ⟨r, List.mem_cons_of_mem _ hr, hin⟩]
    exact localByte_landed m fun hin => h ⟨_, List.mem_cons_self, hin⟩

theorem lands_of_localMem {q : Pkg} {c : Nat} {ws : List LWrite} (h : q.localMem c = ws.foldl landed (p.localMem c)) : Lands p q c ws :=
  ⟨fun a => by rw [Pkg.lByte_eq, Pkg.lByte_eq, h, Pkg.localMem_lWrites], fun a ha => by rw [Pkg.lByte_eq, Pkg.lByte_eq, h, localByte_landedAll ws _ ha]⟩

/-- The units of a READ_DATA packet, as writes of its transfer's stream. -/
def Xfer.unitsIn (x : Xfer) (d : Hd) (b : Bytes) : List LWrite := (chunk (b.length / 64 + 1) 64 b).zipIdx.map fun (u, n) =>
  { slot := 8, addr := (x.ag.at (x.ag.pos + (x.done + d.addr / 64) + n)).addr x.agOff, data := u, poison := false }

/-- The last packet that answers a copy's READ: its units land, and the copy is done. -/
theorem Pkg.dataIn_last {d : Hd} {x : Xfer} (hep : eidEp d.dst < 64) (hx : s.findXfer (eidEp d.dst * 1024 + nbits d.aux 9 0) = some x) (hk : x.kind = .copyIn)
    (hc : x.ctx = d.ctx) (hl : nbits d.aux 10 10 = 1) (hall : x.units ≤ x.done + x.asked) (b : Bytes) :
    s.dataIn d b [] = ((((x.unitsIn d b).foldl (fun s w => s.lWrite x.core w) (s.txeMoved (eidEp d.dst))).credit x.ctx (b.length / 64)).dropXfer x.key) := by
  unfold Pkg.dataIn Xfer.unitsIn
  dsimp only
  rw [if_neg (by omega), hx, List.foldl_map]
  dsimp only
  rw [hk, hc, hl, if_neg (by simp), if_neg (by simp), if_pos hall]
  rfl

theorem Pkg.localMem_dropXfer (s : Pkg) (key c : Nat) : (s.dropXfer key).localMem c = s.localMem c := by
  unfold Pkg.dropXfer Pkg.localMem
  dsimp only
  rw [Pkg.updCluster, Pkg.cluster_setCluster]
  split
  next h =>
    rw [h]
    rfl
  · rfl

theorem Pkg.xfers_dropXfer (s : Pkg) (key : Nat) : ∀ y ∈ ((s.dropXfer key).cluster (key / 1024)).xfers, y.id ≠ key % 1024 := by
  intro y hy
  unfold Pkg.dropXfer Pkg.updCluster at hy
  rw [Pkg.cluster_setCluster, if_pos rfl] at hy
  exact of_decide_eq_true (List.mem_filter.1 hy).2

theorem lWrites_view (hcore : ∀ (s : Pkg) (c : Nat) (x : CoreSt), x.task = (s.core c).task → x.hold = (s.core c).hold → P (s.setCore c x) = P s)
    (hcl : ∀ (s : Pkg) (c : Nat) (x : ClusterSt), x.upe = (s.cluster c).upe → x.xfers = (s.cluster c).xfers → P (s.setCluster c x) = P s) (c : Nat) (ws : List LWrite)
    (s : Pkg) : P (ws.foldl (fun s w => s.lWrite c w) s) = P s := foldl_view (fun s w => lWrite_view hcore hcl s c w) ws s

/-! ### RELAY -/

/-- What a version mode leaves, for a view that sees neither contexts nor version records. -/
theorem versionMode_view (hn : NoteBlind P) (hctx : ∀ s t, P { s with ctxs := t } = P s) (hver : ∀ s l, P { s with fab := { s.fab with versions := l } } = P s)
    (s : Pkg) (mode c tensor step origin version : Nat) : P (s.versionMode mode c tensor step origin version) = P s := by
  have hflag (q : Pkg) (st : Nat) : P (q.raiseFlag none c st false) = P q := by
    unfold Pkg.raiseFlag
    dsimp only
    split
    · exact (hn.noteFor _ _ _ _).trans (hn.bump _ _)
    · exact hctx q _
  unfold Pkg.versionMode
  dsimp only
  split
  · split
    · exact (hver _ _).trans (hn.bump _ _)
    · split
      · exact (hver _ _).trans (hn.bump _ _)
      · split
        · exact (hver _ _).trans ((hn.bump _ _).trans (hn.bump _ _))
        · exact (hn.bump _ _).trans (hn.bump _ _)
  · split
    · rfl
    · exact (hn.ctxIrq _ _).trans ((hn.logWith _ _ _ _ _ _ _).trans ((hctx _ _).trans ((hflag _ _).trans (hn.bump _ _))))
  · rfl

/-- A version mode that checks nothing leaves the contexts. -/
theorem Pkg.ctxs_versionMode (s : Pkg) {mode : Nat} (h : mode ≠ 2) (c tensor step origin version : Nat) : (s.versionMode mode c tensor step origin version).ctxs = s.ctxs := by
  have hb : ReportBlind Pkg.ctxs := ⟨fun _ _ _ _ _ => rfl⟩
  unfold Pkg.versionMode
  dsimp only
  split
  · split
    · exact hb.bump s Reg.verRecords
    · split
      · exact hb.bump s Reg.verRecords
      · split
        · exact (hb.bump (s.bump Reg.verRecords) Reg.verReplaced).trans (hb.bump s Reg.verRecords)
        · exact (hb.bump (s.bump Reg.verRecords) Reg.verReplaced).trans (hb.bump s Reg.verRecords)
  · exact absurd rfl h
  · rfl

/-- The first packet of its block: the block's version mode applied, and the block counted. -/
def Pkg.relayBegun (s : Pkg) (d : Hd) (hdr : Bytes) (first : Bool) : Pkg :=
  if first = true then (s.versionMode (nbits (le hdr 23 1) 4 3) d.ctx (le hdr 0 4) (le hdr 8 8) (le hdr 22 1) (le hdr 4 4)).bump Reg.relayDep else s

/-- The header of the block that a RELAY packet belongs to. -/
def Pkg.relayHdr (s : Pkg) (k : Packet) : Bytes := ((s.relayOf k.hd).map (·.hdr)).getD (slice k.payload 0 32)

/-- The bytes that a RELAY packet carries of its block. -/
def Pkg.relayData (s : Pkg) (k : Packet) : Bytes := if (s.relayOf k.hd).isNone = true then k.payload.drop 32 else k.payload

/-- The package to which a RELAY packet's block goes on. -/
def Pkg.relayNext (s : Pkg) (k : Packet) : Option Nat :=
  let hdr := s.relayHdr k
  (if le hdr 24 1 = 0 then none else (s.lineMap k.hd.ctx).bind fun m => m.neighbour (nbits (le hdr 23 1) 1 0) (nbits (le hdr 23 1) 2 2)).filter fun q => !s.isAbsent q

/-- How a RELAY packet's bytes lie in their block. -/
def Pkg.relayBy (s : Pkg) (k : Packet) : WrBy :=
  { arrives := (s.relayNext k).isNone, head := ((s.relayOf k.hd).map (·.head)).getD 0
    more := decide ((s.relayData k).length < ((s.relayOf k.hd).map (·.left)).getD (64 * le (s.relayHdr k) 26 3)) }

/-- The package once a RELAY packet's bytes have landed. -/
def Pkg.relayLanded (s : Pkg) (k : Packet) : Pkg := (s.storeIn k.hd (s.relayBy k) ((s.relayOf k.hd).bind (·.old)) (s.relayData k)).1

/-- The record of the block that a RELAY packet belongs to. -/
def Pkg.relayRec (s : Pkg) (k : Packet) : RelayFwd := (s.relayOf k.hd).getD
  { src := k.hd.src, dstEp := eidEp k.hd.dst, ctx := k.hd.ctx, gen := k.hd.gen, stroke := le (s.relayHdr k) 16 6, hdr := s.relayHdr k, addr := k.hd.addr
    left := 64 * le (s.relayHdr k) 26 3, next := s.relayNext k }

/-- A block's record kept, in place of the one before, until its copy is acknowledged. -/
def Pkg.putRelay (s : Pkg) (old : Option RelayFwd) (r : RelayFwd) : Pkg :=
  let others := match old with
    | some o => s.fab.relays.erase o
    | none => s.fab.relays
  { s with fab := { s.fab with relays := if r.left = 0 ∧ r.pend.all (·.acked) then others else others ++ [r] } }

/-- A RELAY packet that has landed, sent on while its block has hops left. -/
def Pkg.relayOn (s : Pkg) (d : Hd) (old : Option RelayFwd) (r : RelayFwd) (next : Option Nat) (faulted : Bool) (hdr data : Bytes) : Pkg :=
  let first := old.isNone
  let ep := 64 + le hdr 22 1 % 4
  let e := d.addr + data.length
  let r := { r with left := r.left - data.length, addr := e, head := runHead e data.length r.head }
  match next with
  | none => s.putRelay old r
  | some q =>
    let s := if first then s.bump Reg.relayFwd else s
    let out := if first then setHops hdr (le hdr 24 1 - 1) ++ data else data
    let x := s.inject { d with seq := 0, hops := 0, start := false, esc := false, dl := false, src := eidOf s.self ep, dst := eidOf q ep } out
    x.2.putRelay old { r with pend := r.pend ++ [{ seq := d.seq, fwd := x.1, addr := d.addr, len := if faulted then 0 else data.length }] }

theorem Pkg.relayIn_eq (s : Pkg) (k : Packet) : s.relayIn k =
    ((s.relayLanded k).relayBegun k.hd (s.relayHdr k) (s.relayOf k.hd).isNone).relayOn k.hd (s.relayOf k.hd) (s.relayRec k) (s.relayNext k)
      (s.storeIn k.hd (s.relayBy k) ((s.relayOf k.hd).bind (·.old)) (s.relayData k)).2 (s.relayHdr k) (s.relayData k) := by
  unfold Pkg.relayIn Pkg.relayOn Pkg.relayRec Pkg.relayLanded Pkg.relayBegun Pkg.relayBy Pkg.relayNext Pkg.relayData Pkg.relayHdr Pkg.putRelay
  dsimp only
  cases s.relayOf k.hd with
  | none => rfl
  | some r => rfl

/-- What the forwarding of a block leaves, for a view that sees no packet sent and no block. -/
theorem relayIn_view (hinj : ∀ s d b, P (Pkg.inject s d b).2 = P s) (hfwd : ∀ s, P (Pkg.bump s Reg.relayFwd) = P s)
    (hrel : ∀ s l, P { s with fab := { s.fab with relays := l } } = P s) (s : Pkg) (k : Packet) :
    P (s.relayIn k) = P ((s.relayLanded k).relayBegun k.hd (s.relayHdr k) (s.relayOf k.hd).isNone) := by
  rw [Pkg.relayIn_eq]
  unfold Pkg.relayOn
  dsimp only
  split
  · exact hrel _ _
  · exact (hrel _ _).trans ((hinj _ _ _).trans (view_ite (hfwd _) rfl))

end Sys2Proof.Machine
end

section
/-! WRITE, READ, READ_DATA and RELAY in turn. -/

namespace Sys2Proof.Machine

variable {α : Type} {P : Pkg → α} {s : Pkg} {k : Packet}

/-! ### Packets applied -/

theorem Pkg.applyPacket_units (hcls : k.hd.cls ≠ 3) (hr : s.refusal k = none) (hop : k.hd.op = opREADDATA) : s.applyPacket k [] = s.dataIn k.hd k.payload [] := by
  unfold Pkg.applyPacket
  simp only [spoils, List.isEmpty_nil, Bool.not_true, Bool.false_and, Bool.false_eq_true, if_false, hr, hcls, if_pos hop]

theorem Pkg.applyPacket_write (hcls : k.hd.cls ≠ 3) (hr : s.refusal k = none) (hop : k.hd.op = opWRITE) :
    ∃ last, s.applyPacket k [] = (s.writeIn k.hd k.payload).passed k.hd last := by
  unfold Pkg.applyPacket
  simp only [spoils, List.isEmpty_nil, Bool.not_true, Bool.false_and, Bool.false_eq_true, if_false, if_true, hr, hcls, hop, show opWRITE ≠ opREADDATA by decide]
  exact ⟨_, rfl⟩

theorem Pkg.applyPacket_read (hcls : k.hd.cls ≠ 3) (hr : s.refusal k = none) (hop : k.hd.op = opREAD) :
    ∃ last, s.applyPacket k [] = (s.readIn k.hd).passed k.hd last := by
  unfold Pkg.applyPacket
  simp only [spoils, List.isEmpty_nil, Bool.not_true, Bool.false_and, Bool.false_eq_true, if_false, if_true, hr, hcls, hop, show opREAD ≠ opREADDATA by decide,
    show opREAD ≠ opWRITE by decide]
  exact ⟨_, rfl⟩

theorem Pkg.applyPacket_relay (hcls : k.hd.cls ≠ 3) (hr : s.refusal k = none) (hop : k.hd.op = opRELAY) :
    ∃ last, s.applyPacket k [] = (s.relayIn k).passed k.hd last := by
  unfold Pkg.applyPacket
  simp only [spoils, List.isEmpty_nil, Bool.not_true, Bool.false_and, Bool.false_eq_true, if_false, if_true, hr, hcls, hop, show opRELAY ≠ opREADDATA by decide,
    show opRELAY ≠ opWRITE by decide, show opRELAY ≠ opREAD by decide]
  exact ⟨_, rfl⟩

/-- What a command comes to that brings a data packet in turn: the packet is applied once its flow expects the next. -/
theorem Answers.data {s : State} {t op : Nat} {arr : Option Nat} {P : State → Prop} {o : Host.Outcome State Fault Refusal}
    (ho : o = s.run t fun p => p.arriveAt arr k) (hus : ForUs (s.at t) arr k) (hturn : InTurn (s.at t) k.hd) (hop : k.hd.op = op) (hlt : 1 ≤ op ∧ op < 0x10)
    (hack : op ≠ opACK) (hnack : op ≠ opNACK)
    (hP : ∀ ports fs ports' rooms, (s.at t).Turned ((s.at t).received ports fs) k.hd → P { s with
      pkg := { (((s.at t).received ports fs).applyPacket k []).settled ports' rooms with now := (s.at t).now, fuses := s.pkg.fuses } }) : Answers o P := by
  subst hop ho
  have heir : k.isEir = false := by
    simp only [Packet.isEir, decide_eq_false_iff_not]
    omega
  obtain ⟨ports, fs, ports', rooms, harr, ht⟩ := Pkg.arrive_inTurn hus hturn heir (by omega) hack hnack
  exact .run_of harr (hP ports fs ports' rooms ht)

theorem Pkg.expects_turned {p q : Pkg} {d : Hd} (h : p.Turned q d) : q.expects d = some ((d.seq + 1) % 2 ^ 32) := by
  obtain ⟨g, hg, hn, -⟩ := h
  unfold Pkg.expects
  rw [hg]
  exact congrArg some hn

/-! ### WRITE -/

/-- What a WRITE leaves besides its bytes' landing, for a view that sees no flow entry. -/
theorem ReportBlind.writeIn (hP : ReportBlind P) (hrx : ∀ s fs, P { s with fab := { s.fab with rxFlows := fs } } = P s) (s : Pkg) (d : Hd) (b : Bytes) :
    P (s.writeIn d b) = P (s.stored d (s.writeBy d) none b) := by
  obtain ⟨r, h⟩ := s.writeIn_eq d b
  rw [h]
  exact (hrx _ _).trans (hP.storeIn _ _ _ _ _)

theorem Pkg.expects_writeIn (s : Pkg) (d : Hd) (b : Bytes) : (s.writeIn d b).expects d = s.expects d := by
  have hr : ReportBlind (Pkg.expects d) := ⟨fun _ _ _ _ _ => rfl⟩
  have hw : WriteBlind (Pkg.expects d) d.ctx := ⟨⟨⟨fun _ _ _ _ _ _ _ _ => rfl⟩, fun _ _ _ _ _ => rfl⟩, fun _ _ _ => rfl⟩
  obtain ⟨r, h⟩ := s.writeIn_eq d b
  rw [h, Pkg.expects_updFlow _ _ (g := RxFlow.withRun r) fun _ => ⟨rfl, rfl⟩]
  exact (hr.storeIn _ _ _ _ _).trans (hw.stored _ _ _ _)

theorem Pkg.adderRemote_writeIn (s : Pkg) (d : Hd) (b : Bytes) :
    (s.writeIn d b).reg Reg.adderRemote = s.reg Reg.adderRemote + BitVec.ofNat 64 ((s.ctx d.ctx).adderTouched d.addr b.length).toNat := by
  obtain ⟨r, h⟩ := s.writeIn_eq d b
  rw [h]
  exact s.adderRemote_storeIn d (s.writeBy d) none b

/-! ### RELAY -/

/-- The package once a RELAY packet's bytes have landed, before their reports. -/
def Pkg.relayStored (s : Pkg) (k : Packet) : Pkg := s.stored k.hd (s.relayBy k) ((s.relayOf k.hd).bind (·.old)) (s.relayData k)

/-- What a RELAY packet leaves besides its bytes' landing, for a view that sees no version record, context or block. -/
theorem SendBlind.relayIn (hP : SendBlind P) (hn : NoteBlind P) (hctx : ∀ s t, P { s with ctxs := t } = P s)
    (hver : ∀ s l, P { s with fab := { s.fab with versions := l } } = P s) (hrel : ∀ s l, P { s with fab := { s.fab with relays := l } } = P s) (s : Pkg) (k : Packet) :
    P (s.relayIn k) = P (s.relayStored k) := by
  refine (relayIn_view hP.inject (fun s => hn.bump s _) hrel s k).trans (Eq.trans ?_ (hn.report.storeIn _ _ _ _ _))
  exact view_ite ((hn.bump _ _).trans (versionMode_view hn hctx hver _ _ _ _ _ _ _)) rfl

/-- Where no version is checked, a RELAY packet leaves contexts as its bytes' landing does. -/
theorem Pkg.ctxs_relayIn (s : Pkg) (k : Packet) (h : ¬ ((s.relayOf k.hd).isNone = true ∧ nbits (le (s.relayHdr k) 23 1) 4 3 = 2)) :
    (s.relayIn k).ctxs = (s.relayStored k).ctxs := by
  have hb : ReportBlind Pkg.ctxs := ⟨fun _ _ _ _ _ => rfl⟩
  refine (relayIn_view (P := Pkg.ctxs) Pkg.ctxs_sendBlind.inject (fun s => hb.bump s _) (fun _ _ => rfl) s k).trans (Eq.trans ?_ (hb.storeIn _ _ _ _ _))
  unfold Pkg.relayBegun
  split
  next hf => exact (hb.bump _ _).trans (Pkg.ctxs_versionMode _ (fun hm => h ⟨hf, hm⟩) _ _ _ _ _)
  · rfl

theorem QuietReg.relayIn {r : Nat} (hr : QuietReg r) (hfwd : r ≠ Reg.relayFwd) (s : Pkg) (k : Packet) :
    (s.relayIn k).reg r = ((s.relayLanded k).relayBegun k.hd (s.relayHdr k) (s.relayOf k.hd).isNone).reg r :=
  relayIn_view (P := fun s => s.reg r) hr.inject (fun _ => Pkg.reg_bump_ne _ hfwd) (fun _ _ => rfl) s k

theorem Pkg.adderRemote_relayIn (s : Pkg) (k : Packet) :
    (s.relayIn k).reg Reg.adderRemote = s.reg Reg.adderRemote + BitVec.ofNat 64 ((s.ctx k.hd.ctx).adderTouched k.hd.addr (s.relayData k).length).toNat := by
  refine (Reg.adderRemote_quiet.relayIn (by decide) s k).trans (Eq.trans ?_ (s.adderRemote_storeIn k.hd (s.relayBy k) ((s.relayOf k.hd).bind (·.old)) (s.relayData k)))
  exact view_ite (P := fun s => s.reg Reg.adderRemote) ((Pkg.reg_bump_ne _ (by decide)).trans (Reg.adderRemote_quiet.versionMode _ _ _ _ _ _ _)) rfl

/-- A block's first packet is counted. -/
theorem Pkg.relayDep_relayIn (s : Pkg) (k : Packet) : (s.relayIn k).reg Reg.relayDep = s.reg Reg.relayDep + BitVec.ofNat 64 (s.relayOf k.hd).isNone.toNat := by
  have hland : (s.relayLanded k).reg Reg.relayDep = s.reg Reg.relayDep := Reg.relayDep_quiet.storeIn (by decide) s _ _ _ _
  rw [Reg.relayDep_quiet.relayIn (by decide), ← hland]
  unfold Pkg.relayBegun
  cases (s.relayOf k.hd).isNone with
  | true => exact (Pkg.reg_bump_same _ _).trans (congrArg (· + 1) (Reg.relayDep_quiet.versionMode _ _ _ _ _ _ _))
  | false => exact (BitVec.add_zero _).symm

/-! ### The landing of a packet in turn -/

/-- What is said of bytes that land for another package: memory and context are as a remote write leaves them, and a store into an adder window is counted. -/
def LandsAs (p u q : Pkg) (d : Hd) (n : Nat) (check : Prop) : Prop :=
  u.mem = q.mem ∧ (¬ check → u.ctx d.ctx = q.ctx d.ctx) ∧
    u.reg Reg.adderRemote = p.reg Reg.adderRemote + BitVec.ofNat 64 ((p.ctx d.ctx).adderTouched d.addr n).toNat

theorem writeIn_landsAs {p : Pkg} {ports : Tbl Port} {fs : List RxFlow} {d : Hd} (ht : p.Turned (p.received ports fs) d) (b : Bytes) (last : Bool) :
    LandsAs p (((p.received ports fs).writeIn d b).passed d last) (p.stored d (p.writeBy d) none b) d b.length False := by
  have hby : (p.received ports fs).writeBy d = p.writeBy d := by
    unfold Pkg.writeBy
    rw [Pkg.runBefore_turned ht]
  have hst := p.stored_received d (p.writeBy d) none b ports fs
  have hmem : (((p.received ports fs).writeIn d b).passed d last).mem = _ := SendBlind.passed ⟨fun _ _ _ _ _ _ _ _ _ => rfl, fun _ _ _ _ => rfl⟩ (fun _ _ => rfl) _ _ _
  have hctxs : (((p.received ports fs).writeIn d b).passed d last).ctxs = _ := Pkg.ctxs_sendBlind.passed (fun _ _ => rfl) _ _ _
  refine ⟨hmem.trans ?_, fun _ => congrArg (fun t => Tbl.get ({} : Ctx) t d.ctx) (hctxs.trans ?_), (Reg.adderRemote_quiet.passed _ _ _).trans (Pkg.adderRemote_writeIn _ _ _)⟩
  · rw [ReportBlind.writeIn (P := Pkg.mem) ⟨fun _ _ _ _ _ => rfl⟩ (fun _ _ => rfl), hby, hst]
    rfl
  · rw [ReportBlind.writeIn (P := Pkg.ctxs) ⟨fun _ _ _ _ _ => rfl⟩ (fun _ _ => rfl), hby, hst]
    rfl

theorem relayIn_landsAs (p : Pkg) (ports : Tbl Port) (fs : List RxFlow) (k : Packet) (last : Bool) :
    LandsAs p (((p.received ports fs).relayIn k).passed k.hd last) (p.relayStored k) k.hd (p.relayData k).length
      ((p.relayOf k.hd).isNone = true ∧ nbits (le (p.relayHdr k) 23 1) 4 3 = 2) := by
  have hst : (p.received ports fs).relayStored k = (p.relayStored k).received ports fs := p.stored_received k.hd (p.relayBy k) _ (p.relayData k) ports fs
  have hmem : (((p.received ports fs).relayIn k).passed k.hd last).mem = _ := SendBlind.passed ⟨fun _ _ _ _ _ _ _ _ _ => rfl, fun _ _ _ _ => rfl⟩ (fun _ _ => rfl) _ _ _
  have hctxs : (((p.received ports fs).relayIn k).passed k.hd last).ctxs = _ := Pkg.ctxs_sendBlind.passed (fun _ _ => rfl) _ _ _
  refine ⟨hmem.trans ?_, fun h => congrArg (fun t => Tbl.get ({} : Ctx) t k.hd.ctx) (hctxs.trans ?_), (Reg.adderRemote_quiet.passed _ _ _).trans (Pkg.adderRemote_relayIn _ _)⟩
  · rw [SendBlind.relayIn (P := Pkg.mem) ⟨fun _ _ _ _ _ _ _ _ _ => rfl, fun _ _ _ _ => rfl⟩ ⟨⟨fun _ _ _ _ _ => rfl⟩, fun _ _ _ _ _ _ => rfl⟩
      (fun _ _ => rfl) (fun _ _ => rfl) (fun _ _ => rfl), hst]
    rfl
  · rw [Pkg.ctxs_relayIn (p.received ports fs) k h, hst]
    rfl

/-- What a WRITE in turn leaves of cores and clusters, and its flow. -/
theorem Pkg.write_keeps {p : Pkg} {ports : Tbl Port} {fs : List RxFlow} {d : Hd} (ht : p.Turned (p.received ports fs) d) (b : Bytes) (last : Bool) :
    let q := ((p.received ports fs).writeIn d b).passed d last
    q.cores = p.cores ∧ q.clusters = p.clusters ∧ q.expects d = some ((d.seq + 1) % 2 ^ 32) := by
  refine ⟨?_, ?_, (Pkg.expects_passed _ _ _).trans ((Pkg.expects_writeIn _ _ _).trans (Pkg.expects_turned ht))⟩
  · rw [SendBlind.passed (P := Pkg.cores) ⟨fun _ _ _ _ _ _ _ _ _ => rfl, fun _ _ _ _ => rfl⟩ (fun _ _ => rfl),
      ReportBlind.writeIn (P := Pkg.cores) ⟨fun _ _ _ _ _ => rfl⟩ (fun _ _ => rfl)]
    exact WriteBlind.stored (P := Pkg.cores) ⟨⟨⟨fun _ _ _ _ _ _ _ _ => rfl⟩, fun _ _ _ _ _ => rfl⟩, fun _ _ _ => rfl⟩ _ _ _ _
  · rw [SendBlind.passed (P := Pkg.clusters) ⟨fun _ _ _ _ _ _ _ _ _ => rfl, fun _ _ _ _ => rfl⟩ (fun _ _ => rfl),
      ReportBlind.writeIn (P := Pkg.clusters) ⟨fun _ _ _ _ _ => rfl⟩ (fun _ _ => rfl)]
    exact WriteBlind.stored (P := Pkg.clusters) ⟨⟨⟨fun _ _ _ _ _ _ _ _ => rfl⟩, fun _ _ _ _ _ => rfl⟩, fun _ _ _ => rfl⟩ _ _ _ _

/-- What a RELAY packet in turn leaves of cores and clusters, its flow, and the count of blocks begun. -/
theorem Pkg.relay_keeps {p : Pkg} {ports : Tbl Port} {fs : List RxFlow} {k : Packet} (ht : p.Turned (p.received ports fs) k.hd) (last : Bool) :
    let q := ((p.received ports fs).relayIn k).passed k.hd last
    q.reg Reg.relayDep = p.reg Reg.relayDep + BitVec.ofNat 64 (p.relayOf k.hd).isNone.toNat ∧ q.cores = p.cores ∧ q.clusters = p.clusters ∧
      q.expects k.hd = some ((k.hd.seq + 1) % 2 ^ 32) := by
  have hin {β : Type} {P : Pkg → β} (hP : SendBlind P) (hn : NoteBlind P) (hw : WriteBlind P k.hd.ctx) (hctx : ∀ s t, P { s with ctxs := t } = P s)
      (hver : ∀ s l, P { s with fab := { s.fab with versions := l } } = P s) (hrel : ∀ s l, P { s with fab := { s.fab with relays := l } } = P s) :
      P ((p.received ports fs).relayIn k) = P (p.received ports fs) := (hP.relayIn hn hctx hver hrel _ k).trans (hw.stored _ _ _ _)
  refine ⟨(Reg.relayDep_quiet.passed _ _ _).trans (Pkg.relayDep_relayIn _ _), ?_, ?_, (Pkg.expects_passed _ _ _).trans (Eq.trans ?_ (Pkg.expects_turned ht))⟩
  · rw [SendBlind.passed (P := Pkg.cores) ⟨fun _ _ _ _ _ _ _ _ _ => rfl, fun _ _ _ _ => rfl⟩ (fun _ _ => rfl)]
    exact hin (P := Pkg.cores) ⟨fun _ _ _ _ _ _ _ _ _ => rfl, fun _ _ _ _ => rfl⟩ ⟨⟨fun _ _ _ _ _ => rfl⟩, fun _ _ _ _ _ _ => rfl⟩
      ⟨⟨⟨fun _ _ _ _ _ _ _ _ => rfl⟩, fun _ _ _ _ _ => rfl⟩, fun _ _ _ => rfl⟩ (fun _ _ => rfl) (fun _ _ => rfl) fun _ _ => rfl
  · rw [SendBlind.passed (P := Pkg.clusters) ⟨fun _ _ _ _ _ _ _ _ _ => rfl, fun _ _ _ _ => rfl⟩ (fun _ _ => rfl)]
    exact hin (P := Pkg.clusters) ⟨fun _ _ _ _ _ _ _ _ _ => rfl, fun _ _ _ _ => rfl⟩ ⟨⟨fun _ _ _ _ _ => rfl⟩, fun _ _ _ _ _ _ => rfl⟩
      ⟨⟨⟨fun _ _ _ _ _ _ _ _ => rfl⟩, fun _ _ _ _ _ => rfl⟩, fun _ _ _ => rfl⟩ (fun _ _ => rfl) (fun _ _ => rfl) fun _ _ => rfl
  · exact hin (P := Pkg.expects k.hd) (Pkg.expects_sendBlind _) ⟨⟨fun _ _ _ _ _ => rfl⟩, fun _ _ _ _ _ _ => rfl⟩
      ⟨⟨⟨fun _ _ _ _ _ _ _ _ => rfl⟩, fun _ _ _ _ _ => rfl⟩, fun _ _ _ => rfl⟩ (fun _ _ => rfl) (fun _ _ => rfl) fun _ _ => rfl

/-- What a READ in turn leaves. -/
theorem Pkg.read_keeps {p : Pkg} {ports : Tbl Port} {fs : List RxFlow} {d : Hd} (ht : p.Turned (p.received ports fs) d) (last : Bool) :
    let q := ((p.received ports fs).readIn d).passed d last
    q.mem.bytes = p.mem.bytes ∧ q.cores = p.cores ∧ q.clusters = p.clusters ∧ q.expects d = some ((d.seq + 1) % 2 ^ 32) := by
  have hpass {β : Type} {P : Pkg → β} (hP : SendBlind P) (hrx : ∀ s fs, P { s with fab := { s.fab with rxFlows := fs } } = P s) := hP.passed hrx ((p.received ports fs).readIn d) d last
  obtain ⟨hbytes, hcores, hclusters, hflows⟩ := (p.received ports fs).readIn_keeps d
  have hexp : ((p.received ports fs).readIn d).expects d = (p.received ports fs).expects d := by
    unfold Pkg.expects Pkg.rxFlow
    rw [hflows]
  exact ⟨(hpass (P := fun s => s.mem.bytes) ⟨fun _ _ _ _ _ _ _ _ _ => rfl, fun _ _ _ _ => rfl⟩ fun _ _ => rfl).trans hbytes,
    (hpass (P := Pkg.cores) ⟨fun _ _ _ _ _ _ _ _ _ => rfl, fun _ _ _ _ => rfl⟩ fun _ _ => rfl).trans hcores,
    (hpass (P := Pkg.clusters) ⟨fun _ _ _ _ _ _ _ _ _ => rfl, fun _ _ _ _ => rfl⟩ fun _ _ => rfl).trans hclusters,
    (Pkg.expects_passed _ _ _).trans (hexp.trans (Pkg.expects_turned ht))⟩

/-- What the last READ_DATA packet of a copy leaves. -/
theorem Pkg.units_keep {d : Hd} {x : Xfer} (hep : eidEp d.dst < 64) (hx : s.findXfer (eidEp d.dst * 1024 + nbits d.aux 9 0) = some x) (hk : x.kind = .copyIn)
    (hc : x.ctx = d.ctx) (hl : nbits d.aux 10 10 = 1) (hall : x.units ≤ x.done + x.asked) (b : Bytes) :
    let q := s.dataIn d b []
    (∀ y ∈ (q.cluster (x.key / 1024)).xfers, y.id ≠ x.key % 1024) ∧ q.mem = s.mem ∧ q.localMem x.core = (x.unitsIn d b).foldl landed (s.localMem x.core) ∧
      q.fab.rxFlows = s.fab.rxFlows := by
  intro q
  have hq : q = _ := Pkg.dataIn_last hep hx hk hc hl hall b
  rw [hq]
  refine ⟨Pkg.xfers_dropXfer _ _, ?_, ?_, ?_⟩
  · exact (lWrites_view (P := Pkg.mem) (fun _ _ _ _ _ => rfl) (fun _ _ _ _ _ => rfl) _ _ _ :)
  · exact (Pkg.localMem_dropXfer _ _ _).trans (Pkg.localMem_lWrites x.core (x.unitsIn d b) (s.txeMoved (eidEp d.dst)) :)
  · exact (lWrites_view (P := fun s => s.fab.rxFlows) (fun _ _ _ _ _ => rfl) (fun _ _ _ _ _ => rfl) _ _ _ :)

end Sys2Proof.Machine

open Sys2Proof Sys2Proof.Machine

/-- Settles O36, by what the effect of each data packet in turn leaves, and the flow that expects the next number. -/
theorem dataPackets : Obligations.DataPackets := by
  intro s t arr k p h hus hturn hcls hr turned before lands
  have href (ports : Tbl Port) (fs : List RxFlow) : (p.received ports fs).refusal k = none := hr
  refine ⟨fun hop => ?_, fun hop => ?_, fun hop hep x hx hk hc hcl hid hl hall => ?_, fun hop => ?_⟩
  · refine .data (exec_packet hus hop) hus hturn hop (by decide) (by decide) (by decide) fun ports fs ports' rooms ht => ?_
    obtain ⟨last, happ⟩ := Pkg.applyPacket_write hcls (href ports fs) hop
    obtain ⟨hmem, hctx, hreg⟩ := writeIn_landsAs ht k.payload last
    obtain ⟨hcores, hclusters, hexp⟩ := Pkg.write_keeps ht k.payload last
    rw [happ]
    exact ⟨⟨hmem, hctx, hreg⟩, hcores, hclusters, hexp, rfl⟩
  · refine .data (exec_packet hus hop) hus hturn hop (by decide) (by decide) (by decide) fun ports fs ports' rooms ht => ?_
    obtain ⟨last, happ⟩ := Pkg.applyPacket_read hcls (href ports fs) hop
    obtain ⟨hbytes, hcores, hclusters, hexp⟩ := Pkg.read_keeps ht last
    rw [happ]
    dsimp only [Pkg.settled]
    refine ⟨hbytes, hcores, hclusters, fun hu hnone => ?_, hexp, rfl⟩
    have hno : (p.received ports fs).txFlow h.back = none := by
      refine List.find?_eq_none.2 fun f hf hof => hnone f hf ?_
      simpa [TxFlow.of, Hd.back, and_assoc] using hof
    obtain ⟨f, hf, hn⟩ := Pkg.readIn_sent hu hno
    have hof : f.of h.back = true := List.find?_some (p := fun f : TxFlow => f.of h.back) hf
    have hof : f.src = h.dst ∧ f.dst = h.src ∧ f.ctx = h.ctx ∧ f.gen = h.gen ∧ f.cls = 1 := by simpa [TxFlow.of, Hd.back, and_assoc] using hof
    obtain ⟨h1, h2, h3, h4, h5⟩ := hof
    refine ⟨f, ?_, h1, h2, h3, h4, h5, hn⟩
    have htx := Pkg.txFlows_passed ((p.received ports fs).readIn k.hd) k.hd last
    exact htx ▸ List.mem_of_find?_eq_some hf
  · refine .data (exec_packet hus hop) hus hturn hop (by decide) (by decide) (by decide) fun ports fs ports' rooms ht => ?_
    obtain ⟨hgone, hmem, hlocal, hflows⟩ := Pkg.units_keep (s := p.received ports fs) (d := k.hd) hep hx hk hc hl hall k.payload
    rw [Pkg.applyPacket_units hcls (href ports fs) hop]
    have hlt : x.id < 1024 := hid ▸ Nat.mod_lt _ (by decide)
    have hkey : x.key / 1024 = x.cluster ∧ x.key % 1024 = x.id := by
      unfold Xfer.key
      omega
    refine ⟨?_, hmem, lands_of_localMem hlocal, ?_, rfl⟩
    · obtain ⟨hc, hi⟩ := hkey
      rw [hc, hi] at hgone
      exact hgone
    · have hexp : ((p.received ports fs).dataIn k.hd k.payload []).expects k.hd = (p.received ports fs).expects k.hd := by
        unfold Pkg.expects Pkg.rxFlow
        rw [hflows]
      exact hexp.trans (Pkg.expects_turned ht)
  · refine .data (exec_packet hus hop) hus hturn hop (by decide) (by decide) (by decide) fun ports fs ports' rooms ht => ?_
    obtain ⟨last, happ⟩ := Pkg.applyPacket_relay hcls (href ports fs) hop
    obtain ⟨hmem, hctx, hreg⟩ := relayIn_landsAs p ports fs k last
    obtain ⟨hdep, hcores, hclusters, hexp⟩ := Pkg.relay_keeps ht last
    rw [happ]
    dsimp only [Pkg.settled, Pkg.reg] at hdep ⊢
    exact ⟨⟨hmem, hctx, hreg⟩, hdep, hcores, hclusters, hexp, rfl⟩
end

section
/-! Lanes of a vector register: what packing and the lanes' results give (R96, R104, R197). -/

namespace Sys2Proof.Machine

/-- An element of a packed list, at its place. -/
theorem packNat_element (w : Nat) {xs : List Nat} {n : Nat} (h : n < xs.length) : packNat w xs >>> (w * n) % 2 ^ w = xs[n] % 2 ^ w := by
  induction xs generalizing n with
  | nil => exact absurd h (Nat.not_lt_zero n)
  | cons x xs ih =>
    rw [packNat, Nat.shiftLeft_eq]
    cases n with
    | zero => simp
    | succ n =>
      have hrest : (x % 2 ^ w + packNat w xs * 2 ^ w) >>> w = packNat w xs := by
        rw [Nat.shiftRight_eq_div_pow, Nat.add_mul_div_right _ _ (Nat.two_pow_pos w), Nat.mod_div_self, Nat.zero_add]
      rw [Nat.mul_succ, Nat.add_comm (w * n), Nat.shiftRight_add, hrest, ih (Nat.lt_of_succ_lt_succ h), List.getElem_cons_succ]

/-- A field of a word made from a number is the number's. -/
theorem fld_ofNat {m x hi lo : Nat} (h : hi < m) : fld (BitVec.ofNat m x) hi lo = nbits x hi lo := by
  unfold fld nbits
  refine Nat.eq_of_testBit_eq fun i => ?_
  simp only [BitVec.toNat_ofNat, Nat.testBit_mod_two_pow, Nat.testBit_shiftRight]
  by_cases hi' : i < hi + 1 - lo
  · have : lo + i < m := by omega
    simp [this]
  · simp [hi']

/-- A lane of a register that was put together from lanes. -/
theorem VReg.lane_ofLanes {w n : Nat} {ls : List (Nat × Bool)} (hw : 0 < w) (hl : w * ls.length ≤ 8192) (h : n < ls.length) :
    (VReg.ofLanes w ls).lane w n = ls[n].1 % 2 ^ w := by
  have hn : w * n + w ≤ w * ls.length := Nat.mul_succ w n ▸ Nat.mul_le_mul_left w h
  have hwidth : w * n + w - 1 + 1 - w * n = w := by omega
  unfold VReg.lane VReg.ofLanes
  rw [fld_ofNat (by omega), nbits, hwidth, packNat_element w (by simpa using h), List.getElem_map]

/-- The lanes of an operation on a format fill the register (R197). -/
theorem laneWidth_mul_count (fmt : Nat) : (if fmt = 1 then 64 else 32) * (if fmt = 1 then 128 else 256) = 8192 := by
  split <;> rfl

/-- Each lane of a register-to-register operation is its result on the same lanes of its sources. -/
theorem vxeArith_lane (f : VxeF) (tb : TpSlot) (va vb vc : VReg) {n : Nat} (h : n < 8192 / (if f.fmt = 1 then 64 else 32)) :
    (vxeArith f tb va vb vc).1.lane (if f.fmt = 1 then 64 else 32) n =
      (vxeLane f tb (va.lane (if f.fmt = 1 then 64 else 32) n) (vb.lane (if f.fmt = 1 then 64 else 32) n)
        (vc.lane (if f.fmt = 1 then 64 else 32) n)).1 % 2 ^ (if f.fmt = 1 then 64 else 32) := by
  have hpos : 0 < if f.fmt = 1 then 64 else 32 := by split <;> decide
  have hfill := laneWidth_mul_count f.fmt
  unfold vxeArith
  dsimp only
  generalize (if f.fmt = 1 then 64 else 32) = w at h hpos hfill ⊢
  generalize (if f.fmt = 1 then 128 else 256) = count at hfill ⊢
  have hn : n < count := by rwa [← hfill, Nat.mul_div_cancel_left _ hpos] at h
  rw [VReg.lane_ofLanes hpos (by simp [hfill]) (by simpa using hn)]
  simp

end Sys2Proof.Machine
end

section
/-! A repeat's own part: what it leaves for a view that sees, of the core, its memory alone (R179, R184, R185, R190, R206, R212). -/

namespace Sys2Proof.Machine

variable {α : Type} {P : Pkg → α} {c : Nat}

/-- A core's record with its memory alone: the palette and its check state. -/
def CoreSt.memory (x : CoreSt) : CoreSt := { pal := x.pal, palWritten := x.palWritten, palPoison := x.palPoison }

/-- A view that sees, of core `c`, at most its memory, and no context and no task's last progress. -/
structure SeqBlind (P : Pkg → α) (c : Nat) : Prop where
  core : ∀ (s : Pkg) (x : CoreSt), x.memory = (s.core c).memory → P (s.setCore c x) = P s
  ctxs : ∀ s t, P { s with ctxs := t } = P s
  progress : ∀ (s : Pkg) (k : Nat) (n : Option Nat), P (s.updTask k fun t => { t with progress := n }) = P s

section
variable (h : SeqBlind P c)
include h

theorem SeqBlind.coreCount (s : Pkg) (off n : Nat) : P (s.coreCount c off n) = P s := h.core s _ rfl

theorem SeqBlind.issueStart (pre : Pkg) (k : Nat) (w : CWord) : P (pre.issueStart c k w) = P pre :=
  (h.coreCount _ _ _).trans ((h.coreCount _ _ _).trans (h.coreCount _ _ _))

theorem SeqBlind.agAfter (pre s : Pkg) (w : CWord) (img : Image) (us : List Use) (j : Nat) : P (pre.agAfter s c w img us j) = P s := by
  unfold Pkg.agAfter
  dsimp only
  split
  · rfl
  · split
    iterate 5 exact h.core s _ rfl
    rfl

theorem SeqBlind.sclAfter (pre s : Pkg) (w : CWord) : P (pre.sclAfter s c w) = P s := by
  unfold Pkg.sclAfter
  dsimp only
  split
  · rfl
  · split
    iterate 9 exact h.core s _ rfl
    rfl

theorem SeqBlind.advance (s : Pkg) (r : List LoopLvl × Nat × Bool) : P (s.advance c r) = P s := h.core s _ rfl

theorem SeqBlind.issueSeq (pre s : Pkg) (k : Nat) (img : Image) (w : CWord) : P (pre.issueSeq s c k img w) = P s :=
  (h.progress _ _ _).trans <| (h.core _ _ (by rfl)).trans <| (h.sclAfter _ _ _).trans <|
    foldl_view (fun s j => h.agAfter pre s w img _ j) _ s

/-- A repeat that no fence refuses leaves what its engines leave. -/
theorem SeqBlind.issueRepeat {pre : Pkg} {w : CWord} (hr : pre.refused c w = false) (k : Nat) (img : Image) :
    P (pre.issueRepeat c k img w) = P (pre.issueEngines c k w) := by
  unfold Pkg.issueRepeat
  dsimp only
  rw [hr, if_neg Bool.false_ne_true]
  exact view_ite ((h.core _ _ (by rfl)).trans (h.issueSeq _ _ _ _ _)) ((h.advance _ _).trans (h.issueSeq _ _ _ _ _))

end

/-! ### The memories of the package -/

/-- Every memory of the package, and every core but `c`. -/
def Pkg.memoryBeside (c : Nat) (s : Pkg) : (Nat → CoreSt) × Tbl ClusterSt × MemSt :=
  (fun j => if j = c then (s.core j).memory else s.core j, s.clusters, s.mem)

theorem Pkg.memoryBeside_congr {p q : Pkg} (hcores : q.cores = p.cores) (hclusters : q.clusters = p.clusters) (hmem : q.mem = p.mem) :
    q.memoryBeside c = p.memoryBeside c := by
  unfold Pkg.memoryBeside Pkg.core
  rw [hcores, hclusters, hmem]

theorem Pkg.memoryBeside_ringBlind (c : Nat) : RingBlind (Pkg.memoryBeside c) := ⟨⟨fun _ _ _ _ _ => rfl⟩, fun _ _ => rfl, fun _ _ => rfl, fun _ _ => rfl⟩

theorem Pkg.memoryBeside_seqBlind (c : Nat) : SeqBlind (Pkg.memoryBeside c) c where
  core s x hx := by
    refine Prod.ext (funext fun j => ?_) rfl
    unfold Pkg.memoryBeside
    dsimp only
    rw [Pkg.core_setCore]
    split
    next hj => rw [hj, hx]
    next => rfl
  ctxs _ _ := rfl
  progress s k n := by
    unfold Pkg.updTask
    split <;> rfl

section
variable {p q : Pkg} (h : q.memoryBeside c = p.memoryBeside c)
include h

theorem otherCores_of_memoryBeside : OtherCores c p q := fun j hj => by
  simpa [Pkg.memoryBeside, hj] using congrFun (congrArg Prod.fst h) j

theorem mem_of_memoryBeside : q.mem = p.mem := congrArg (fun v => v.2.2) h

theorem clusters_of_memoryBeside : q.clusters = p.clusters := congrArg (fun v => v.2.1) h

theorem memory_of_memoryBeside (j : Nat) : (q.core j).memory = (p.core j).memory := by
  have hj := congrFun (congrArg Prod.fst h) j
  unfold Pkg.memoryBeside at hj
  dsimp only at hj
  split at hj
  · exact hj
  · exact congrArg CoreSt.memory hj

theorem sameMemory_of_memoryBeside : SameMemory p q := by
  refine ⟨fun j => ?_, fun j => ?_, mem_of_memoryBeside h⟩
  · have hj := memory_of_memoryBeside h j
    exact ⟨(congrArg CoreSt.pal hj :), (congrArg CoreSt.palWritten hj :), (congrArg CoreSt.palPoison hj :)⟩
  · rw [Pkg.cluster, clusters_of_memoryBeside h]
    exact ⟨rfl, rfl⟩

theorem localMem_of_memoryBeside (j : Nat) : q.localMem j = p.localMem j := by
  unfold Pkg.localMem Pkg.cluster
  rw [clusters_of_memoryBeside h]
  exact congrArg (·, _) (congrArg CoreSt.pal (memory_of_memoryBeside h j) :)

end

/-! ### Writes to core-local memory -/

theorem Pkg.lWrite_otherCores (s : Pkg) (c : Nat) (w : LWrite) : OtherCores c s (s.lWrite c w) := by
  intro j hj
  unfold Pkg.lWrite
  dsimp only
  split
  · rw [Pkg.core_updCore, if_neg hj]
  · rfl

theorem Pkg.lWrites_otherCores (c : Nat) (ws : List LWrite) (s : Pkg) : OtherCores c s (ws.foldl (fun s w => s.lWrite c w) s) := by
  induction ws generalizing s with
  | nil => exact fun _ _ => rfl
  | cons w ws ih => exact fun j hj => (ih _ j hj).trans (s.lWrite_otherCores c w j hj)

theorem Pkg.lWrites_mem (c : Nat) (ws : List LWrite) (s : Pkg) : (ws.foldl (fun s w => s.lWrite c w) s).mem = s.mem :=
  lWrites_view (P := Pkg.mem) (fun _ _ _ _ _ => rfl) (fun _ _ _ _ _ => rfl) c ws s

theorem Pkg.noteClash_memoryBeside (s : Pkg) (c k : Nat) (ws : List LWrite) : (s.noteClash c k ws).memoryBeside c = s.memoryBeside c := by
  have hcount (n : Nat) : (s.fresh.2.coreCount c 0x10 n).memoryBeside c = s.memoryBeside c := (Pkg.memoryBeside_seqBlind c).coreCount s.fresh.2 _ n
  unfold Pkg.noteClash
  split
  · rfl
  · dsimp only
    split
    · exact hcount _
    · exact ((Pkg.memoryBeside_ringBlind c).note.taskEvent _ _ _ _ _ _).trans
        (((Pkg.memoryBeside_seqBlind c).core _ _ (by rfl)).trans (hcount _))

/-! ### What a conversion leaves -/

theorem RingBlind.updTask (h : RingBlind P) (s : Pkg) (k : Nat) (f : Task → Task) : P (s.updTask k f) = P s := by
  unfold Pkg.updTask
  split
  · exact h.tasks s _
  · rfl

theorem RingBlind.raiseFlag (h : RingBlind P) (s : Pkg) (task : Option Nat) (c step : Nat) (nonfin : Bool) : P (s.raiseFlag task c step nonfin) = P s := by
  unfold Pkg.raiseFlag
  dsimp only
  split
  · exact (h.note.noteFor _ _ _ _).trans (h.bump s _)
  · exact h.ctxs s _

theorem RingBlind.ledgerAdd (h : RingBlind P) (s : Pkg) (c tensor step fmt : Nat) (f : LedgerCount → LedgerCount) :
    P (s.ledgerAdd c tensor step fmt f) = P s := by
  unfold Pkg.ledgerAdd
  dsimp only
  split
  · rfl
  · exact h.ctxs s _

theorem RingBlind.localNonfin (h : RingBlind P) (s : Pkg) (k i : Nat) (t : TensorRef) : P (s.localNonfin k i t) = P s :=
  view_ite ((h.updTask _ _ _).trans (h.raiseFlag _ _ _ _ _)) (h.raiseFlag _ _ _ _ _)

/-- The notes of a conversion are the task's, the context's and the host's. -/
theorem RingBlind.converted (h : RingBlind P) (s : Pkg) (k i : Nat) (t : TensorRef) (off : Int) (vs : List Num) (cs : List Conv) (r e : Nat) :
    P (s.converted k i t off vs cs r e) = P s := by
  have hledger (c n m : Nat) (fl : Sticky) (f : LedgerCount → LedgerCount) : P ((s.taskFlags k fl).ledgerAdd c t.id n m f) = P s :=
    (h.ledgerAdd _ _ _ _ _ _).trans (h.note.taskFlags s k fl)
  unfold Pkg.converted
  dsimp only
  refine view_ite ((h.localNonfin _ _ _ _).trans ?_) ?_ <;> exact view_ite ((h.updTask _ _ _).trans (hledger _ _ _ _ _)) (hledger _ _ _ _ _)

end Sys2Proof.Machine
end

section
/-! The vector engine's slot, op by op (R103, R104, R147, R197). -/

namespace Sys2Proof.Machine

variable {α : Type} {P : Pkg → α} {pre s : Pkg} {c k : Nat} {w : CWord}

/-! ### The op of the slot -/

theorem vxeF_op (w : CWord) : (vxeF (w.slot 5)).op = w.op 5 := rfl

/-- A vector command's word holds its op. -/
theorem InHand.vxe {p : Pkg} {op : Nat} {img : Image} (h : InHand p c k img w [5] op) : w.has 5 = true ∧ w.op 5 = op := by
  simpa using h.holds

/-- No vector command is for op 0. -/
theorem vxeOp_ne_zero {i : Instr} {op : Nat} (hi : i.coreCmd = some (c, [5], op)) {p : Pkg} {img : Image} (h : InHand p c k img w [5] op) : op ≠ 0 := by
  obtain ⟨hhas, hop⟩ := h.vxe
  obtain ⟨hn, -⟩ := slotNamed_of_coreCmd hi (j := 5) (by simp) (w := w) (by simp [hhas, hop])
  rintro rfl
  simp [slotNamed, hop] at hn

theorem Pkg.vxeIssue_load (hw : w.has 5 = true) (ho : w.op 5 = 1) : pre.vxeIssue s c k w = (pre.vxeLoadIssue s c k w (vxeF (w.slot 5)), []) := by
  unfold Pkg.vxeIssue
  simp only [hw, vxeF_op, ho]
  rfl

theorem Pkg.vxeIssue_store (hw : w.has 5 = true) (ho : w.op 5 = 2) : pre.vxeIssue s c k w = pre.vxeStoreIssue s c k w (vxeF (w.slot 5)) := by
  unfold Pkg.vxeIssue
  simp only [hw, vxeF_op, ho]
  rfl

theorem Pkg.vxeIssue_tableLoad (hw : w.has 5 = true) (ho : w.op 5 = 0x1A) :
    pre.vxeIssue s c k w = (pre.tableLoadIssue s c k w (vxeF (w.slot 5)), []) := by
  unfold Pkg.vxeIssue
  simp only [hw, vxeF_op, ho]
  rfl

/-- Every other op puts its result into its destination register. -/
theorem Pkg.vxeIssue_register (hw : w.has 5 = true) (h0 : w.op 5 ≠ 0) (h1 : w.op 5 ≠ 1) (h2 : w.op 5 ≠ 2) (h3 : w.op 5 ≠ 0x1A) :
    pre.vxeIssue s c k w = (s.vregPut c k (vxeF (w.slot 5)).vd (pre.vxeResult c (vxeF (w.slot 5))), []) := by
  unfold Pkg.vxeIssue
  simp only [hw, vxeF_op]
  split
  · contradiction
  · rfl

/-! ### What the slot leaves -/

section
variable (hr : RingBlind P) (hs : SeqBlind P c)
include hr hs

theorem vregPut_view (s : Pkg) (k vd : Nat) (r : VReg × Sticky) : P (s.vregPut c k vd r) = P s :=
  (hr.note.taskFlags _ _ _).trans (hs.core s _ rfl)

omit hs in
theorem badOffset_view (s : Pkg) (c k : Nat) (f : VxeF) : P (s.badOffset c k f) = P s :=
  view_ite ((hr.note.taskEvent _ _ _ _ _ _).trans (hr.note.taskFlags s k _)) rfl

theorem vxeLoadIssue_view (pre s : Pkg) (k : Nat) (w : CWord) (f : VxeF) : P (pre.vxeLoadIssue s c k w f) = P s := by
  have hput (r : VReg × Sticky) : P ((s.badOffset c k f).vregPut c k f.vd r) = P s := (vregPut_view hr hs _ _ _ _).trans (badOffset_view hr s c k f)
  unfold Pkg.vxeLoadIssue
  split
  · exact view_ite (hput _) ((hr.note.taskCode _ _ _).trans (hput _))
  · rfl

omit hs in
theorem vxeStoreIssue_view (pre s : Pkg) (c k : Nat) (w : CWord) (f : VxeF) : P (pre.vxeStoreIssue s c k w f).1 = P s := by
  unfold Pkg.vxeStoreIssue
  split
  · exact (hr.converted _ _ _ _ _ _ _ _ _).trans (badOffset_view hr s c k f)
  · rfl

theorem tableLoadIssue_view (pre s : Pkg) (k : Nat) (w : CWord) (f : VxeF) : P (pre.tableLoadIssue s c k w f) = P s :=
  view_ite ((hr.note.taskCode _ _ _).trans (hs.core s _ rfl)) (hs.core s _ rfl)

/-- The slot leaves memory to its writes: besides it changes the core's registers and reports. -/
theorem vxeIssue_view (pre s : Pkg) (k : Nat) (w : CWord) : P (pre.vxeIssue s c k w).1 = P s := by
  unfold Pkg.vxeIssue
  split
  · rfl
  · dsimp only
    split
    · rfl
    · exact vxeLoadIssue_view hr hs pre s k w _
    · exact vxeStoreIssue_view hr pre s c k w _
    · exact tableLoadIssue_view hr hs pre s k w _
    · exact vregPut_view hr hs s k _ _

end

/-- The bytes of a STORE are those of the state that it reads, whatever it leaves its records in. -/
theorem Pkg.vxeStoreIssue_writes (pre s r : Pkg) (c k : Nat) (w : CWord) (f : VxeF) :
    (pre.vxeStoreIssue s c k w f).2 = (pre.vxeStoreIssue r c k w f).2 := by
  unfold Pkg.vxeStoreIssue
  split <;> rfl

/-! ### The registers that the slot changes -/

/-- A core's vector registers and table-pair slots. -/
def CoreSt.vectors (x : CoreSt) : Tbl VReg × Tbl TpSlot := (x.vreg, x.tps)

theorem Pkg.vectors_vregPut (s : Pkg) (c k vd : Nat) (r : VReg × Sticky) :
    ((s.vregPut c k vd r).core c).vectors = ((s.core c).vreg.set vd r.1, (s.core c).tps) := by
  unfold Pkg.vregPut
  rw [Pkg.core, Pkg.taskFlags_cores, ← Pkg.core, Pkg.core_updCore_same]
  rfl

theorem Pkg.vectors_vxeLoadIssue {f : VxeF} {t : TensorRef} (ht : (pre.task k).tensor f.tensor = some t) :
    ((pre.vxeLoadIssue s c k w f).core c).vectors = ((s.core c).vreg.set f.vd (pre.vxeLoad c k w f t).1, (s.core c).tps) := by
  have hbad : (s.badOffset c k f).core c = s.core c := by rw [Pkg.core, Pkg.badOffset_cores, ← Pkg.core]
  unfold Pkg.vxeLoadIssue
  rw [ht]
  dsimp only
  have hput := (s.badOffset c k f).vectors_vregPut c k f.vd (pre.vxeLoad c k w f t)
  rw [hbad] at hput
  split
  · exact hput
  · rw [Pkg.core, Pkg.taskCode_cores, ← Pkg.core]
    exact hput

theorem Pkg.vectors_tableLoadIssue (pre s : Pkg) (c k : Nat) (w : CWord) (f : VxeF) :
    ((pre.tableLoadIssue s c k w f).core c).vectors = ((s.core c).vreg, (s.core c).tps.set f.tp (pre.tablePair c k w f)) := by
  unfold Pkg.tableLoadIssue
  dsimp only
  split
  · rw [Pkg.core, Pkg.taskCode_cores, ← Pkg.core, Pkg.core_updCore_same]
    rfl
  · rw [Pkg.core_updCore_same]
    rfl

/-! ### The slot in its repeat -/

/-- The package as a repeat's VXE slot finds it: the repeat counted, and the matrix engine's part done. -/
def Pkg.vxeFinds (pre : Pkg) (c k : Nat) (w : CWord) : Pkg :=
  let s := (pre.mxeIssue (pre.issueStart c k w) c k w (pre.core c).rep).1
  s.credit (s.task k).ctx (3 * ((s.core c).ctr.get 0 0 - (pre.core c).ctr.get 0 0))

/-- The slot finds the vector registers and table pairs that the repeat found. -/
theorem Pkg.vectors_vxeFinds (pre : Pkg) (c k : Nat) (w : CWord) : Keeps CoreSt.vectors (pre.vxeFinds c k w) pre :=
  (Keeps.of_cores rfl).trans <|
    (Keeps.mxeIssue _ _ _ _ _ _ (fun _ _ => rfl) (fun _ _ => rfl) (fun _ _ => rfl) fun _ _ => rfl).trans <|
    .issueStart _ _ _ _ (fun _ _ => rfl) (fun _ _ => rfl) fun _ _ => rfl

/-- The other engines leave the vector registers and table pairs to the slot. -/
theorem Pkg.vectors_issueEngines (pre : Pkg) (c k : Nat) (w : CWord) :
    Keeps CoreSt.vectors (pre.issueEngines c k w) (pre.vxeIssue (pre.vxeFinds c k w) c k w).1 := by
  have hrwe : RweFree CoreSt.vectors :=
    ⟨fun _ _ => rfl, fun _ _ => rfl, fun _ _ => rfl, fun _ _ _ _ => rfl, fun _ _ => rfl, fun _ _ => rfl⟩
  unfold Pkg.issueEngines
  dsimp only
  refine Keeps.trans (Keeps.noteClash _ _ _ _ (fun _ _ => rfl) fun _ _ => rfl) ?_
  refine Keeps.trans (Keeps.of_ite (Keeps.txeIssue _ _ _ _ _ hrwe.pal)) ?_
  refine Keeps.trans (Keeps.foldl (fun s l => Keeps.lWrite s c l hrwe.pal) _ _) ?_
  refine Keeps.trans (Keeps.of_ite_else (Keeps.txeIssue _ _ _ _ _ hrwe.pal)) ?_
  refine Keeps.trans (Keeps.sdeIssue _ _ _ _ _ (fun _ _ => rfl) fun _ _ => rfl) ?_
  exact Keeps.rweIssue hrwe _ _ _ _ _

/-- So does the sequencer's part. -/
theorem Pkg.vectors_issueRepeat (hr : pre.refused c w = false) (k : Nat) (img : Image) :
    Keeps CoreSt.vectors (pre.issueRepeat c k img w) (pre.vxeIssue (pre.vxeFinds c k w) c k w).1 := by
  have hseq := (Keeps.issueSeq (P := CoreSt.vectors) pre (pre.issueEngines c k w) c k img w (fun _ _ => rfl) (fun _ _ _ _ _ => rfl)
    fun _ _ _ => rfl).trans (pre.vectors_issueEngines c k w)
  unfold Pkg.issueRepeat
  dsimp only
  rw [hr, if_neg Bool.false_ne_true]
  split
  · exact (Keeps.updCore _ _ fun _ => by rfl).trans hseq
  · exact (Keeps.advance _ _ _ fun _ _ _ _ _ _ => rfl).trans hseq

/-! ### A word without another engine or transfer slot -/

section
variable (ho : w.only 5)
include ho

theorem CWord.only_five : w.has 4 = false ∧ w.has 6 = false ∧ w.has 7 = false ∧ w.has 8 = false :=
  ⟨ho 4 (by decide) (by decide), ho 6 (by decide) (by decide), ho 7 (by decide) (by decide), ho 8 (by decide) (by decide)⟩

/-- The slot finds the repeat counted and nothing else. -/
theorem vxeFinds_view (hs : SeqBlind P c) (pre : Pkg) (k : Nat) : P (pre.vxeFinds c k w) = P pre := by
  obtain ⟨h4, -⟩ := CWord.only_five ho
  have hm : pre.mxeIssue (pre.issueStart c k w) c k w (pre.core c).rep = (pre.issueStart c k w, []) := by
    unfold Pkg.mxeIssue
    rw [h4]
    rfl
  unfold Pkg.vxeFinds
  rw [hm]
  exact (hs.ctxs _ _).trans (hs.issueStart pre k w)

/-- The slot is the repeat's engine part, and its writes land. -/
theorem Pkg.issueEngines_only (pre : Pkg) (c k : Nat) : pre.issueEngines c k w =
    let r := pre.vxeIssue (pre.vxeFinds c k w) c k w
    (r.2.foldl (fun s l => s.lWrite c l) r.1).noteClash c k r.2 := by
  obtain ⟨h4, h6, h7, h8⟩ := CWord.only_five ho
  have hm (s : Pkg) : pre.mxeIssue s c k w (pre.core c).rep = (s, []) := by
    unfold Pkg.mxeIssue
    rw [h4]
    rfl
  have hrw (s : Pkg) : pre.rweIssue s c k w = (s, []) := by
    unfold Pkg.rweIssue
    rw [h6]
    rfl
  have hsd (s : Pkg) : pre.sdeIssue s c k w = (s, []) := by
    unfold Pkg.sdeIssue
    rw [h7]
    rfl
  have htx (s : Pkg) : pre.txeIssue s c k w = s := by
    unfold Pkg.txeIssue
    rw [h8]
    rfl
  unfold Pkg.issueEngines Pkg.vxeFinds
  simp only [hm, hrw, hsd, htx, h8, ite_self, List.nil_append, List.append_nil]

/-- A repeat that no fence refuses leaves in memory what the slot's writes land. -/
theorem Pkg.memoryBeside_issueRepeat (hr : pre.refused c w = false) (k : Nat) (img : Image) :
    let r := pre.vxeIssue (pre.vxeFinds c k w) c k w
    (pre.issueRepeat c k img w).memoryBeside c = (r.2.foldl (fun s l => s.lWrite c l) r.1).memoryBeside c ∧ r.1.memoryBeside c = pre.memoryBeside c := by
  have hs := Pkg.memoryBeside_seqBlind c
  refine ⟨(hs.issueRepeat hr k img).trans ?_, (vxeIssue_view (Pkg.memoryBeside_ringBlind c) hs _ _ k w).trans (vxeFinds_view ho hs pre k)⟩
  rw [Pkg.issueEngines_only ho]
  exact Pkg.noteClash_memoryBeside _ _ _ _

end

/-! ### The flags of the lanes -/

/-- The IEEE flags of a listed task. -/
def Pkg.ieeeOf (k : Nat) (s : Pkg) : Option Sticky := (s.tasks.find k).map Task.ieee

theorem Pkg.ieeeOf_seqBlind (k c : Nat) : SeqBlind (Pkg.ieeeOf k) c where
  core _ _ _ := rfl
  ctxs _ _ := rfl
  progress s j n := by
    unfold Pkg.ieeeOf
    by_cases hj : k = j
    · subst hj
      cases hf : s.tasks.find k with
      | none => simp only [Pkg.updTask, hf]
      | some v => rw [Pkg.find_updTask hf]; rfl
    · unfold Pkg.updTask
      split
      · exact congrArg _ (Tbl.find_set_ne _ _ hj)
      · rfl

theorem Pkg.task_ieee_of_ieeeOf {fl : Sticky} (h : s.ieeeOf k = some fl) : (s.task k).ieee = fl := by
  obtain ⟨v, hv, rfl⟩ := Option.map_eq_some_iff.1 h
  rw [Pkg.task_of_find hv]

theorem Pkg.ieeeOf_taskFlags (s : Pkg) (k : Nat) (fl : Sticky) : (s.taskFlags k fl).ieeeOf k = (s.ieeeOf k).map (·.or fl) := by
  unfold Pkg.taskFlags Pkg.ieeeOf
  cases hf : s.tasks.find k with
  | none => simp only [Pkg.updTask, hf, Option.map_none]
  | some v => rw [Pkg.find_updTask hf]; rfl

theorem Pkg.ieeeOf_vregPut (s : Pkg) (c k vd : Nat) (r : VReg × Sticky) : (s.vregPut c k vd r).ieeeOf k = (s.ieeeOf k).map (·.or r.2) :=
  Pkg.ieeeOf_taskFlags _ _ _

end Sys2Proof.Machine
end

section
/-! A vector command's repeat: the registers, the flags and the memory that it leaves (R103, R104, R147, R197). -/

namespace Sys2Proof.Machine

variable {pre : Pkg} {c k : Nat} {img : Image} {w : CWord}

/-! ### Registers -/

theorem Pkg.vectors_register (hr : pre.refused c w = false) (hw : w.has 5 = true) (h0 : w.op 5 ≠ 0) (h1 : w.op 5 ≠ 1) (h2 : w.op 5 ≠ 2)
    (h3 : w.op 5 ≠ 0x1A) (k : Nat) (img : Image) : ((pre.issueRepeat c k img w).core c).vectors =
      ((pre.core c).vreg.set (vxeF (w.slot 5)).vd (pre.vxeResult c (vxeF (w.slot 5))).1, (pre.core c).tps) := by
  obtain ⟨hv, ht⟩ := Prod.mk.injEq .. ▸ pre.vectors_vxeFinds c k w c
  rw [Pkg.vectors_issueRepeat hr k img c, Pkg.vxeIssue_register hw h0 h1 h2 h3, Pkg.vectors_vregPut, hv, ht]

theorem Pkg.vectors_load (hr : pre.refused c w = false) (hw : w.has 5 = true) (ho : w.op 5 = 1) {t : TensorRef}
    (ht : (pre.task k).tensor (vxeF (w.slot 5)).tensor = some t) (img : Image) : ((pre.issueRepeat c k img w).core c).vectors =
      ((pre.core c).vreg.set (vxeF (w.slot 5)).vd (pre.vxeLoad c k w (vxeF (w.slot 5)) t).1, (pre.core c).tps) := by
  obtain ⟨hv, htp⟩ := Prod.mk.injEq .. ▸ pre.vectors_vxeFinds c k w c
  rw [Pkg.vectors_issueRepeat hr k img c, Pkg.vxeIssue_load hw ho, Pkg.vectors_vxeLoadIssue ht, hv, htp]

theorem Pkg.vectors_store (hr : pre.refused c w = false) (hw : w.has 5 = true) (ho : w.op 5 = 2) (k : Nat) (img : Image) :
    ((pre.issueRepeat c k img w).core c).vectors = (pre.core c).vectors := by
  rw [Pkg.vectors_issueRepeat hr k img c, Pkg.vxeIssue_store hw ho, Pkg.core, Pkg.vxeStoreIssue_cores]
  exact pre.vectors_vxeFinds c k w c

theorem Pkg.vectors_tableLoad (hr : pre.refused c w = false) (hw : w.has 5 = true) (ho : w.op 5 = 0x1A) (k : Nat) (img : Image) :
    ((pre.issueRepeat c k img w).core c).vectors =
      ((pre.core c).vreg, (pre.core c).tps.set (vxeF (w.slot 5)).tp (pre.tablePair c k w (vxeF (w.slot 5)))) := by
  obtain ⟨hv, htp⟩ := Prod.mk.injEq .. ▸ pre.vectors_vxeFinds c k w c
  rw [Pkg.vectors_issueRepeat hr k img c, Pkg.vxeIssue_tableLoad hw ho, Pkg.vectors_tableLoadIssue, hv, htp]

/-- The lanes of a result are those of the sources that the slot names. -/
theorem Pkg.vxeResult_lane (p : Pkg) (c : Nat) (f : VxeF) {n : Nat} (h : n < 8192 / (if f.fmt = 1 then 64 else 32)) :
    let x := p.core c
    let wd := if f.fmt = 1 then 64 else 32
    let tb := if f.op = 0x18 ∨ f.op = 0x19 then x.tps.get ⟨0, [], false⟩ f.tp else ⟨0, [], false⟩
    let lane (r n : Nat) : Nat := (x.vreg.get {} r).lane wd n
    (p.vxeResult c f).1.lane wd n = (vxeLane f tb (lane f.va n) (lane f.vb n) (lane f.vc n)).1 % 2 ^ wd :=
  vxeArith_lane f _ _ _ _ h

/-! ### A word without another engine or transfer slot -/

section
variable (ho : w.only 5) (hr : pre.refused c w = false)
include ho hr

/-- A slot that writes nothing leaves every memory. -/
theorem Pkg.memoryBeside_of_noWrites (hws : (pre.vxeIssue (pre.vxeFinds c k w) c k w).2 = []) :
    (pre.issueRepeat c k img w).memoryBeside c = pre.memoryBeside c := by
  obtain ⟨hq, hr1⟩ := Pkg.memoryBeside_issueRepeat ho hr k img
  rw [hws] at hq
  exact hq.trans hr1

/-- The slot's writes land in core-local memory, and neither GDDR nor another core changes. -/
theorem Pkg.writes_land (k : Nat) (img : Image) :
    (pre.issueRepeat c k img w).localMem c = (pre.vxeIssue (pre.vxeFinds c k w) c k w).2.foldl landed (pre.localMem c) ∧
    (pre.issueRepeat c k img w).mem = pre.mem ∧ OtherCores c pre (pre.issueRepeat c k img w) := by
  obtain ⟨hq, hr1⟩ := Pkg.memoryBeside_issueRepeat ho hr k img
  refine ⟨?_, ?_, fun j hj => ?_⟩
  · rw [localMem_of_memoryBeside hq, Pkg.localMem_lWrites, localMem_of_memoryBeside hr1]
  · rw [mem_of_memoryBeside hq, Pkg.lWrites_mem, mem_of_memoryBeside hr1]
  · rw [otherCores_of_memoryBeside hq j hj, Pkg.lWrites_otherCores c _ _ j hj, otherCores_of_memoryBeside hr1 j hj]

/-- The flags of the lanes are raised for the task, and no others. -/
theorem Pkg.ieeeOf_register (hw : w.has 5 = true) (h0 : w.op 5 ≠ 0) (h1 : w.op 5 ≠ 1) (h2 : w.op 5 ≠ 2) (h3 : w.op 5 ≠ 0x1A) (k : Nat) (img : Image) :
    (pre.issueRepeat c k img w).ieeeOf k = (pre.ieeeOf k).map (·.or (pre.vxeResult c (vxeF (w.slot 5))).2) := by
  have hs := Pkg.ieeeOf_seqBlind k c
  rw [hs.issueRepeat hr, Pkg.issueEngines_only ho, Pkg.vxeIssue_register hw h0 h1 h2 h3]
  exact (Pkg.ieeeOf_vregPut _ _ _ _ _).trans (congrArg _ (vxeFinds_view ho hs pre k))

end

end Sys2Proof.Machine

open Sys2Proof Sys2Proof.Machine

/-- Settles O8: the result goes through the slot's one register write, and of the rest of the repeat nothing reaches a vector register, a table pair, a memory or the flags. -/
theorem vectorRegisterOps : Obligations.VectorRegisterOps := by
  intro s i c k op img w hi h1 h2 h3 hc hw hg
  obtain ⟨u, hu, hpend, hcores, hmem, hclusters, htasks, -⟩ := exec_goes hi hc hw hg
  have h0 := vxeOp_ne_zero hi hw
  obtain ⟨hhas, rfl⟩ := hw.vxe
  refine ⟨u, hu, ?_⟩
  beta_reduce
  intro f x y wd tb lane
  have hy : y.vectors = (x.vreg.set f.vd (s.pkg.vxeResult c f).1, x.tps) := by
    have hq := Pkg.vectors_register hg.sent hhas h0 h1 h2 h3 k img
    rwa [Pkg.core, ← hcores] at hq
  obtain ⟨hvreg, htps⟩ := Prod.mk.injEq .. ▸ hy
  refine ⟨fun n hn => ?_, fun r hr => ?_, htps, fun ho => ?_, hpend⟩
  · rw [hvreg, Tbl.get_set_same]
    exact s.pkg.vxeResult_lane c f hn
  · rw [hvreg, Tbl.get_set_ne _ _ _ hr]
  · have hm : u.pkg.memoryBeside c = s.pkg.memoryBeside c := by
      refine (Pkg.memoryBeside_congr hcores hclusters hmem).trans (Pkg.memoryBeside_of_noWrites ho hg.sent ?_)
      rw [Pkg.vxeIssue_register hhas h0 h1 h2 h3]
    refine ⟨sameMemory_of_memoryBeside hm, otherCores_of_memoryBeside hm, fun hk => ?_⟩
    obtain ⟨v, hv⟩ := Option.isSome_iff_exists.1 hk
    have hq := Pkg.ieeeOf_register ho hg.sent hhas h0 h1 h2 h3 k img
    rw [Pkg.ieeeOf, ← htasks] at hq
    refine Pkg.task_ieee_of_ieeeOf (hq.trans ?_)
    rw [Pkg.ieeeOf, Pkg.task_of_find hv, Pkg.tick_tasks, hv]
    rfl

/-- Settles O9: the slot's writes are all that lands in core-local memory, LOAD and TABLE_LOAD have none, and each op changes the one register file that it names. -/
theorem vectorLoadStore : Obligations.VectorLoadStore := by
  intro s i c k op img w hi hop hc hw hg ho
  obtain ⟨u, hu, hpend, hcores, hmem, hclusters, -, -⟩ := exec_goes hi hc hw hg
  obtain ⟨hhas, rfl⟩ := hw.vxe
  refine ⟨u, hu, ?_⟩
  beta_reduce
  intro p f x y
  have hbeside := Pkg.memoryBeside_congr (c := c) hcores hclusters hmem
  have hvec : y.vectors = ((p.issueRepeat c k img w).core c).vectors := congrArg (fun cores => (Tbl.get {} cores c).vectors) hcores
  have hsame (hws : (p.vxeIssue (p.vxeFinds c k w) c k w).2 = []) : SameMemory s.pkg u.pkg :=
    sameMemory_of_memoryBeside (p := s.pkg) (hbeside.trans (Pkg.memoryBeside_of_noWrites ho hg.sent hws))
  obtain ⟨hlocal, hgddr, hothers⟩ := Pkg.writes_land ho hg.sent k img
  refine ⟨fun h1 t ht => ?_, fun h2 => ?_, fun h3 => ?_, hmem.trans hgddr, fun j hj => (otherCores_of_memoryBeside hbeside j hj).trans (hothers j hj), hpend⟩
  · obtain ⟨hvreg, htps⟩ := Prod.mk.injEq .. ▸ hvec.trans (Pkg.vectors_load hg.sent hhas h1 ht img)
    refine ⟨by rw [hvreg, Tbl.get_set_same], fun r hr => ?_, htps, hsame (by rw [Pkg.vxeIssue_load hhas h1])⟩
    rw [hvreg, Tbl.get_set_ne _ _ _ hr]
    rfl
  · obtain ⟨hvreg, htps⟩ := Prod.mk.injEq .. ▸ hvec.trans (Pkg.vectors_store hg.sent hhas h2 k img)
    refine ⟨lands_of_localMem ((localMem_of_memoryBeside hbeside c).trans ?_), hvreg, htps⟩
    rw [hlocal, Pkg.vxeIssue_store hhas h2, p.vxeStoreIssue_writes _ p]
    rfl
  · obtain ⟨hvreg, htps⟩ := Prod.mk.injEq .. ▸ hvec.trans (Pkg.vectors_tableLoad hg.sent hhas h3 k img)
    refine ⟨by rw [htps, Tbl.get_set_same], by rw [htps, Tbl.get_set_same]; rfl, fun r hr => ?_, hvreg,
      hsame (by rw [Pkg.vxeIssue_tableLoad hhas h3])⟩
    rw [htps, Tbl.find_set_ne _ _ hr]
    rfl
end

section
/-! A repeat's engines, slot by slot: what each finds, what those after it leave, and where their writes land (R133, R190, R206, R212). -/

namespace Sys2Proof.Machine

variable {α : Type} {P : CoreSt → α} {pre s : Pkg} {c k : Nat} {w : CWord}

/-- A command's word holds its op. -/
theorem InHand.holdsOp {p : Pkg} {j op : Nat} {img : Image} (h : InHand p c k img w [j] op) : w.has j = true ∧ w.op j = op := by
  simpa using h.holds

/-! ### Slots that a word does not hold -/

theorem Pkg.mxeIssue_absent (h : w.has 4 = false) (rep : Nat) : pre.mxeIssue s c k w rep = (s, []) := by
  unfold Pkg.mxeIssue
  rw [h]
  rfl

theorem Pkg.vxeIssue_absent (h : w.has 5 = false) : pre.vxeIssue s c k w = (s, []) := by
  unfold Pkg.vxeIssue
  rw [h]
  rfl

theorem Pkg.rweIssue_absent (h : w.has 6 = false) : pre.rweIssue s c k w = (s, []) := by
  unfold Pkg.rweIssue
  rw [h]
  rfl

theorem Pkg.sdeIssue_absent (h : w.has 7 = false) : pre.sdeIssue s c k w = (s, []) := by
  unfold Pkg.sdeIssue
  rw [h]
  rfl

theorem Pkg.sclAfter_absent (h : w.has 9 = false) : pre.sclAfter s c w = s := by
  unfold Pkg.sclAfter
  rw [h]
  rfl

/-! ### What each slot finds -/

/-- The matrix engine's part of a repeat, which is the first. -/
def Pkg.mxePart (pre : Pkg) (c k : Nat) (w : CWord) : Pkg × List LWrite := pre.mxeIssue (pre.issueStart c k w) c k w (pre.core c).rep

/-- The package as a repeat's RWE slot finds it: the matrix and the vector engine's parts done. -/
def Pkg.rweFinds (pre : Pkg) (c k : Nat) (w : CWord) : Pkg := (pre.vxeIssue (pre.vxeFinds c k w) c k w).1

/-- The package as a repeat's SDE slot finds it: the row engine's part done besides. -/
def Pkg.sdeFinds (pre : Pkg) (c k : Nat) (w : CWord) : Pkg := (pre.rweIssue (pre.rweFinds c k w) c k w).1

/-- The writes of a repeat's slots to core-local memory, in the order in which they land (R133). -/
def Pkg.slotWrites (pre : Pkg) (c k : Nat) (w : CWord) : List LWrite :=
  (pre.mxePart c k w).2 ++ (pre.vxeIssue (pre.vxeFinds c k w) c k w).2 ++ (pre.rweIssue (pre.rweFinds c k w) c k w).2 ++
    (pre.sdeIssue (pre.sdeFinds c k w) c k w).2

/-- Without a transfer slot, the engines' part is the slots in turn and then their writes. -/
theorem Pkg.issueEngines_noTransfer (h : w.has 8 = false) (pre : Pkg) (c k : Nat) : pre.issueEngines c k w =
    ((pre.slotWrites c k w).foldl (fun s l => s.lWrite c l) (pre.sdeIssue (pre.sdeFinds c k w) c k w).1).noteClash c k (pre.slotWrites c k w) := by
  have htx (s : Pkg) : pre.txeIssue s c k w = s := by
    unfold Pkg.txeIssue
    rw [h]
    rfl
  unfold Pkg.issueEngines
  simp only [htx, ite_self]
  rfl

/-! ### What is counted as a repeat begins -/

/-- A view that sees nothing of what is counted as a repeat begins. -/
structure StartFree (P : CoreSt → α) : Prop where
  c08 : CtrFree P 0x08
  c18 : CtrFree P 0x18
  c60 : CtrFree P 0x60

theorem Keeps.start (h : StartFree P) (pre : Pkg) (c k : Nat) (w : CWord) : Keeps P (pre.issueStart c k w) pre := .issueStart pre c k w h.c08 h.c18 h.c60

/-! ### What follows a slot -/

/-- A view that sees nothing of what follows the SDE slot in a repeat: no byte of the palette and no clash, and nothing that the sequencer changes. -/
structure AfterSdeFree (P : CoreSt → α) (w : CWord) : Prop where
  pal   : ∀ x a b d, P { x with pal := a, palWritten := b, palPoison := d } = P x
  clash : ∀ x a, P { x with clashLogged := a } = P x
  c10   : CtrFree P 0x10
  ags   : ∀ x a, P { x with ags := a } = P x
  scl   : w.has 9 = false ∨ ∀ x a b d e, P { x with sreg := a, ct := b, cp := d, lc := e } = P x
  busy  : ∀ x a b, P { x with busy := a, hold := b } = P x
  step  : ∀ x a b d e f, P { x with loops := a, pc := b, rep := d, clashLogged := e, ended := f } = P x

/-- A view that sees nothing of what follows the RWE slot. -/
structure AfterRweFree (P : CoreSt → α) (w : CWord) : Prop extends AfterSdeFree P w where
  c40 : CtrFree P 0x40
  c48 : CtrFree P 0x48

/-- A view that sees nothing of what follows the MXE slot. -/
structure AfterMxeFree (P : CoreSt → α) (w : CWord) : Prop extends AfterRweFree P w where
  rwe  : RweFree P
  vreg : ∀ x a, P { x with vreg := a } = P x
  tps  : ∀ x a, P { x with tps := a } = P x

/-- The writes and the transfers of a repeat leave what the SDE slot leaves. -/
theorem Keeps.issueEngines_sde (h : AfterSdeFree P w) (pre : Pkg) (c k : Nat) :
    Keeps P (pre.issueEngines c k w) (pre.sdeIssue (pre.sdeFinds c k w) c k w).1 := by
  unfold Pkg.issueEngines
  dsimp only
  refine Keeps.trans (Keeps.noteClash _ _ _ _ h.c10 h.clash) ?_
  refine Keeps.trans (Keeps.of_ite (Keeps.txeIssue _ _ _ _ _ h.pal)) ?_
  refine Keeps.trans (Keeps.foldl (fun s l => Keeps.lWrite s c l h.pal) _ _) ?_
  exact Keeps.of_ite_else (Keeps.txeIssue _ _ _ _ _ h.pal)

/-- A repeat that no fence refuses leaves what its engines leave. -/
theorem Keeps.issueRepeat_engines (h : AfterSdeFree P w) (hr : pre.refused c w = false) (k : Nat) (img : Image) :
    Keeps P (pre.issueRepeat c k img w) (pre.issueEngines c k w) := by
  have hscl (s : Pkg) : Keeps P (pre.sclAfter s c w) s := by
    rcases h.scl with h9 | hs
    · exact .of_cores (by rw [Pkg.sclAfter_absent h9])
    · exact .sclAfter _ _ _ _ hs
  have hseq (s : Pkg) : Keeps P (pre.issueSeq s c k img w) s :=
    (Keeps.of_cores (Pkg.updTask_cores _ _ _)).trans <| (Keeps.updCore _ _ fun x => h.busy x _ _).trans <|
      (hscl _).trans (.foldl (fun s j => Keeps.agAfter _ _ _ _ _ _ _ h.ags) _ _)
  unfold Pkg.issueRepeat
  dsimp only
  rw [hr, if_neg Bool.false_ne_true]
  split
  · exact (Keeps.updCore _ _ fun x => h.step x x.loops x.pc _ x.clashLogged x.ended).trans (hseq _)
  · exact (Keeps.advance _ _ _ h.step).trans (hseq _)

section
variable (hr : pre.refused c w = false) (k : Nat) (img : Image)
include hr

theorem Keeps.issueRepeat_sde (h : AfterSdeFree P w) : Keeps P (pre.issueRepeat c k img w) (pre.sdeIssue (pre.sdeFinds c k w) c k w).1 :=
  (Keeps.issueRepeat_engines h hr k img).trans (.issueEngines_sde h pre c k)

theorem Keeps.issueRepeat_rwe (h : AfterRweFree P w) : Keeps P (pre.issueRepeat c k img w) (pre.rweIssue (pre.rweFinds c k w) c k w).1 :=
  (Keeps.issueRepeat_sde hr k img h.toAfterSdeFree).trans (.sdeIssue _ _ _ _ _ h.c40 h.c48)

theorem Keeps.issueRepeat_mxe (h : AfterMxeFree P w) : Keeps P (pre.issueRepeat c k img w) (pre.mxePart c k w).1 :=
  (Keeps.issueRepeat_rwe hr k img h.toAfterRweFree).trans <| (Keeps.rweIssue h.rwe _ _ _ _ _).trans <|
    (Keeps.vxeIssue _ _ _ _ _ h.vreg h.tps).trans (.of_cores rfl)

end

/-- Accumulators, vector registers, statistics and the spill selection: what the engines before the SDE leave in a core. -/
def CoreSt.results (x : CoreSt) : Tbl AccSet × Tbl VReg × List StatEntry × Option Nat := (x.acc, x.vreg, x.stats, x.spill)

theorem CoreSt.results_afterRweFree (w : CWord) : AfterRweFree CoreSt.results w where
  pal _ _ _ _ := rfl
  clash _ _ := rfl
  c10 _ _ := rfl
  ags _ _ := rfl
  scl := .inr fun _ _ _ _ _ => rfl
  busy _ _ _ := rfl
  step _ _ _ _ _ _ := rfl
  c40 _ _ := rfl
  c48 _ _ := rfl

/-! ### A core's counters -/

/-- A counter of the core is apart from the others. -/
theorem ctrFree_get {off n : Nat} (h : off ≠ n) : CtrFree (fun x => x.ctr.get 0 off) n := fun x m => Tbl.get_upd_ne 0 x.ctr (· + m) h

theorem ctr_startFree {off : Nat} (h : off ∉ [0x08, 0x18, 0x60]) : StartFree fun x => x.ctr.get 0 off := by
  simp only [List.mem_cons, List.not_mem_nil, or_false, not_or] at h
  obtain ⟨h08, h18, h60⟩ := h
  exact ⟨ctrFree_get h08, ctrFree_get h18, ctrFree_get h60⟩

theorem ctr_afterSdeFree (w : CWord) {off : Nat} (h : off ≠ 0x10) : AfterSdeFree (fun x => x.ctr.get 0 off) w where
  pal _ _ _ _ := rfl
  clash _ _ := rfl
  c10 := ctrFree_get h
  ags _ _ := rfl
  scl := .inr fun _ _ _ _ _ => rfl
  busy _ _ _ := rfl
  step _ _ _ _ _ _ := rfl

theorem Pkg.ctr_coreCount_same (s : Pkg) (c off n : Nat) : ((s.coreCount c off n).core c).ctr.get 0 off = (s.core c).ctr.get 0 off + n := by
  rw [Pkg.coreCount, Pkg.core_updCore_same]
  exact Tbl.get_upd_same 0 _ off (· + n)

theorem Pkg.ctr_coreCount_ne (s : Pkg) (c n : Nat) {off r : Nat} (h : r ≠ off) :
    ((s.coreCount c off n).core c).ctr.get 0 r = (s.core c).ctr.get 0 r := Keeps.coreCount s c n (ctrFree_get h) c

/-! ### Where the writes land -/

/-- A repeat without a transfer leaves in memory what its slots leave and their writes land. -/
theorem Pkg.memoryBeside_noTransfer (h : w.has 8 = false) (hr : pre.refused c w = false) (k : Nat) (img : Image) :
    (pre.issueRepeat c k img w).memoryBeside c =
      ((pre.slotWrites c k w).foldl (fun s l => s.lWrite c l) (pre.sdeIssue (pre.sdeFinds c k w) c k w).1).memoryBeside c := by
  refine ((Pkg.memoryBeside_seqBlind c).issueRepeat hr k img).trans ?_
  rw [Pkg.issueEngines_noTransfer h]
  exact Pkg.noteClash_memoryBeside _ _ _ _

end Sys2Proof.Machine
end

section
/-! GATHER and SCATTER: their slot's writes land, and besides they count and report (R161 to R164, R200, R201). -/

namespace Sys2Proof.Machine

variable {α : Type} {P : Pkg → α} {pre s : Pkg} {c k : Nat} {w : CWord}

/-! ### The slot -/

theorem Pkg.sdeIssue_gather (hw : w.has 7 = true) (ho : w.op 7 = 1) :
    pre.sdeIssue s c k w = pre.gather s c k (sdeF (w.slot 7)) (pre.sdeParams c w (sdeF (w.slot 7))) := by
  unfold Pkg.sdeIssue
  rw [hw]
  exact if_pos ho

theorem Pkg.sdeIssue_scatter (hw : w.has 7 = true) (ho : w.op 7 = 2) :
    pre.sdeIssue s c k w = pre.scatter s c k (sdeF (w.slot 7)) (pre.sdeParams c w (sdeF (w.slot 7))) := by
  have h1 : (sdeF (w.slot 7)).op ≠ 1 := by
    rw [show (sdeF (w.slot 7)).op = w.op 7 from rfl, ho]
    decide
  unfold Pkg.sdeIssue
  rw [hw]
  exact (if_neg h1).trans (if_pos ho)

/-- The writes of a GATHER are those of the state that it reads, whatever it leaves its records in. -/
theorem Pkg.gather_writes (pre s r : Pkg) (c k : Nat) (f : SdeF) (d : SdeP) : (pre.gather s c k f d).2 = (pre.gather r c k f d).2 := rfl

theorem Pkg.scatter_writes (pre s r : Pkg) (c k : Nat) (f : SdeF) (d : SdeP) : (pre.scatter s c k f d).2 = (pre.scatter r c k f d).2 := rfl

/-! ### What the slot leaves -/

theorem Pkg.cores_noteBlind : NoteBlind Pkg.cores := ⟨⟨fun _ _ _ _ _ => rfl⟩, fun _ _ _ _ _ _ => rfl⟩

/-- A GATHER counts the entries out of range and those that it cannot defer as dropped, and those that it defers; besides it only reports. -/
theorem NoteBlind.gather (hn : NoteBlind P) (pre s : Pkg) (c k : Nat) (f : SdeF) (d : SdeP) : ∃ dropped deferred,
    P (pre.gather s c k f d).1 = P (((s.rangeReports c k (pre.routes c f d).2).coreCount c 0x40 dropped).coreCount c 0x48 deferred) :=
  have hfull (q : Pkg) (b : Bool) : P (if b = true then q.taskEvent k Ev.routeDeferFull (Unit.engine c 3) 0 [] else q) = P q :=
    view_ite (hn.taskEvent q _ _ _ _ _) rfl
  ⟨_, _, view_ite ((hn.taskCode _ _ _).trans (hfull _ _)) (hfull _ _)⟩

/-- A SCATTER only reports. -/
theorem NoteBlind.scatter (hn : NoteBlind P) (pre s : Pkg) (c k : Nat) (f : SdeF) (d : SdeP) : P (pre.scatter s c k f d).1 = P s :=
  view_ite ((hn.taskCode _ _ _).trans (hn.taskFlags s k _)) (hn.taskFlags s k _)

section
variable (hn : NoteBlind P) (hs : SeqBlind P c)
include hn hs

theorem rangeReports_view (k n : Nat) (s : Pkg) : P (s.rangeReports c k n) = P s := by
  induction n generalizing s with
  | zero => rfl
  | succ n ih => exact (ih _).trans ((hn.taskEvent _ _ _ _ _ _).trans (hs.coreCount s 0x40 1))

/-- The slot leaves memory to its writes: besides it counts and reports. -/
theorem sdeIssue_view (pre s : Pkg) (k : Nat) (w : CWord) : P (pre.sdeIssue s c k w).1 = P s := by
  unfold Pkg.sdeIssue
  split
  · rfl
  · dsimp only
    split
    · obtain ⟨m, o, hg⟩ := hn.gather pre s c k (sdeF (w.slot 7)) (pre.sdeParams c w (sdeF (w.slot 7)))
      exact hg.trans ((hs.coreCount _ _ _).trans ((hs.coreCount _ _ _).trans (rangeReports_view hn hs k _ s)))
    · split
      · exact hn.scatter pre s c k _ _
      · rfl

end

/-! ### The routes dropped -/

theorem Pkg.drops_rangeReports (c k n : Nat) (s : Pkg) :
    ((s.rangeReports c k n).core c).ctr.get 0 0x40 = (s.core c).ctr.get 0 0x40 + n := by
  induction n generalizing s with
  | zero => rfl
  | succ n ih =>
    rw [Pkg.rangeReports, ih, Pkg.core, Pkg.taskEvent_cores, ← Pkg.core, Pkg.ctr_coreCount_same]
    omega

/-- The entries out of range are among those that a GATHER counts as dropped. -/
theorem Pkg.drops_gather (pre s : Pkg) (c k : Nat) (f : SdeF) (d : SdeP) :
    (s.core c).ctr.get 0 0x40 + (pre.routes c f d).2 ≤ ((pre.gather s c k f d).1.core c).ctr.get 0 0x40 := by
  obtain ⟨m, o, hg⟩ := NoteBlind.gather Pkg.cores_noteBlind pre s c k f d
  have hcore := Keeps.of_cores (P := fun x => x.ctr.get 0 0x40) hg c
  refine Nat.le_trans (Nat.le_add_right _ m) (Eq.ge (hcore.trans ?_))
  refine (Pkg.ctr_coreCount_ne _ c o (by decide)).trans ?_
  rw [Pkg.ctr_coreCount_same, Pkg.drops_rangeReports]

/-! ### A word without another engine or transfer slot -/

section
variable (ho : w.only 7)
include ho

theorem CWord.only_seven : w.has 4 = false ∧ w.has 5 = false ∧ w.has 6 = false ∧ w.has 8 = false :=
  ⟨ho 4 (by decide) (by decide), ho 5 (by decide) (by decide), ho 6 (by decide) (by decide), ho 8 (by decide) (by decide)⟩

/-- The slot finds the repeat counted and nothing else. -/
theorem Pkg.sdeFinds_only (pre : Pkg) (c k : Nat) : ∃ ctx n, pre.sdeFinds c k w = (pre.issueStart c k w).credit ctx n := by
  obtain ⟨h4, h5, h6, -⟩ := CWord.only_seven ho
  unfold Pkg.sdeFinds Pkg.rweFinds Pkg.vxeFinds
  rw [Pkg.rweIssue_absent h6, Pkg.vxeIssue_absent h5, Pkg.mxeIssue_absent h4]
  exact ⟨_, _, rfl⟩

/-- The slot's writes are the word's. -/
theorem Pkg.slotWrites_sde (pre : Pkg) (c k : Nat) : pre.slotWrites c k w = (pre.sdeIssue (pre.sdeFinds c k w) c k w).2 := by
  obtain ⟨h4, h5, h6, -⟩ := CWord.only_seven ho
  unfold Pkg.slotWrites Pkg.mxePart
  rw [Pkg.rweIssue_absent h6, Pkg.vxeIssue_absent h5, Pkg.mxeIssue_absent h4]
  rfl

/-- The slot's writes land in core-local memory, and neither GDDR nor another core changes. -/
theorem Pkg.sdeWrites_land (hr : pre.refused c w = false) (k : Nat) (img : Image) :
    (pre.issueRepeat c k img w).localMem c = (pre.sdeIssue (pre.sdeFinds c k w) c k w).2.foldl landed (pre.localMem c) ∧
    (pre.issueRepeat c k img w).mem = pre.mem ∧ OtherCores c pre (pre.issueRepeat c k img w) := by
  obtain ⟨-, -, -, h8⟩ := CWord.only_seven ho
  have hs := Pkg.memoryBeside_seqBlind c
  have hq := Pkg.memoryBeside_noTransfer h8 hr k img
  rw [Pkg.slotWrites_sde ho] at hq
  have hslot : (pre.sdeIssue (pre.sdeFinds c k w) c k w).1.memoryBeside c = pre.memoryBeside c := by
    obtain ⟨ctx, n, hf⟩ := Pkg.sdeFinds_only ho pre c k
    rw [sdeIssue_view (Pkg.memoryBeside_ringBlind c).note hs, hf]
    exact (hs.ctxs _ _).trans (hs.issueStart pre k w)
  refine ⟨?_, ?_, fun j hj => ?_⟩
  · rw [localMem_of_memoryBeside hq, Pkg.localMem_lWrites, localMem_of_memoryBeside hslot]
  · rw [mem_of_memoryBeside hq, Pkg.lWrites_mem, mem_of_memoryBeside hslot]
  · rw [otherCores_of_memoryBeside hq j hj, Pkg.lWrites_otherCores c _ _ j hj, otherCores_of_memoryBeside hslot j hj]

theorem Keeps.sdeFinds_only {Q : CoreSt → α} (h : StartFree Q) (pre : Pkg) (c k : Nat) : Keeps Q (pre.sdeFinds c k w) pre := by
  obtain ⟨ctx, n, hf⟩ := Pkg.sdeFinds_only ho pre c k
  rw [hf]
  exact (Keeps.of_cores rfl).trans (.start h pre c k w)

end
end Sys2Proof.Machine

open Sys2Proof Sys2Proof.Machine

/-- Settles O13: the slot's writes are all that lands, and of the core the repeat changes only counters and what its sequencer names. -/
theorem gatherScatter : Obligations.GatherScatter := by
  intro s i c k op img w hi hc hw hg ho
  obtain ⟨u, hu, hpend, hcores, hmem, hclusters, -, -⟩ := exec_goes hi hc hw hg
  obtain ⟨hhas, rfl⟩ := hw.holdsOp
  refine ⟨u, hu, ?_⟩
  beta_reduce
  intro p f d x y
  have hbeside := Pkg.memoryBeside_congr (c := c) hcores hclusters hmem
  obtain ⟨hlocal, hgddr, hothers⟩ := Pkg.sdeWrites_land ho hg.sent k img
  replace hlocal := (localMem_of_memoryBeside hbeside c).trans hlocal
  have hslot {α : Type} {Q : CoreSt → α} (h : AfterSdeFree Q w) : Q y = Q ((p.sdeIssue (p.sdeFinds c k w) c k w).1.core c) :=
    (Keeps.of_cores hcores c).trans (Keeps.issueRepeat_sde hg.sent k img h c)
  have hdrops := hslot (ctr_afterSdeFree w (off := 0x40) (by decide))
  have hfound := Keeps.sdeFinds_only ho (ctr_startFree (off := 0x40) (by decide)) p c k c
  have hkept {α : Type} {Q : CoreSt → α} (h : AfterRweFree Q w) (hs : StartFree Q) : Q y = Q x :=
    (hslot h.toAfterSdeFree).trans (((Keeps.sdeIssue _ _ _ _ _ h.c40 h.c48).trans (Keeps.sdeFinds_only ho hs p c k)) c)
  have hresults : y.results = x.results := hkept (CoreSt.results_afterRweFree w) ⟨fun _ _ => rfl, fun _ _ => rfl, fun _ _ => rfl⟩
  obtain ⟨hacc, hvreg, hstats, -⟩ : y.acc = x.acc ∧ y.vreg = x.vreg ∧ y.stats = x.stats ∧ y.spill = x.spill := by simpa [CoreSt.results] using hresults
  refine ⟨fun h1 => ?_, fun h2 => ?_, fun h9 => ?_, hacc, hvreg, hstats, hmem.trans hgddr,
    fun j hj => (otherCores_of_memoryBeside hbeside j hj).trans (hothers j hj), hpend⟩
  · rw [Pkg.sdeIssue_gather hhas h1] at hlocal hdrops
    rw [p.gather_writes _ p] at hlocal
    refine ⟨lands_of_localMem hlocal, ?_⟩
    exact (Nat.add_le_add_right hfound.ge _).trans ((p.drops_gather (p.sdeFinds c k w) c k f d).trans hdrops.ge)
  · rw [Pkg.sdeIssue_scatter hhas h2] at hlocal hdrops
    rw [p.scatter_writes _ p] at hlocal
    refine ⟨lands_of_localMem hlocal, hdrops.trans (Eq.trans ?_ hfound)⟩
    exact Keeps.of_cores (P := fun x => x.ctr.get 0 0x40) (Pkg.scatter_cores _ _ _ _ _ _) c
  · exact hkept (Q := CoreSt.sreg)
      ⟨⟨fun _ _ _ _ => rfl, fun _ _ => rfl, fun _ _ => rfl, fun _ _ => rfl, .inl h9, fun _ _ _ => rfl, fun _ _ _ _ _ _ => rfl⟩, fun _ _ => rfl, fun _ _ => rfl⟩
      ⟨fun _ _ => rfl, fun _ _ => rfl, fun _ _ => rfl⟩
end

section
/-! The matrix engine's slot: what an MMA and a WRITEOUT leave, and the ranges that a write-out's writes lie in (R138, R141, R142, R191, R194). -/

namespace Sys2Proof.Machine

variable {α : Type} {P : Pkg → α} {pre s : Pkg} {c k : Nat} {w : CWord}

/-! ### What a conversion leaves -/

/-- A view that sees nothing of what conversions change: no report, no byte of GDDR, no context, no frame's events, and of a task at most its context. -/
structure ConvBlind (P : Pkg → α) : Prop extends record : RecordBlind P where
  ctxs   : ∀ s t, P { s with ctxs := t } = P s
  tasks  : ∀ (s : Pkg) (k : Nat) (v w : Task), s.tasks.find k = some v → w.ctx = v.ctx → P (s.setTask k w) = P s
  frames : ∀ (s : Pkg) (j : Nat) (t : Tbl (Nat × Nat)), P (s.setCluster j { s.cluster j with frameEv := t }) = P s

section
variable (h : ConvBlind P)
include h

theorem ConvBlind.note : NoteBlind P := ⟨h.record.mem.report, fun s k v w hv hw => h.tasks s k v w hv (congrArg Task.ctx hw :)⟩

theorem ConvBlind.write (c : Nat) : WriteBlind P c := ⟨h.record, fun s _ _ => h.ctxs s _⟩

theorem ConvBlind.updTask (s : Pkg) (k : Nat) {f : Task → Task} (hf : ∀ t, (f t).ctx = t.ctx) : P (s.updTask k f) = P s := by
  unfold Pkg.updTask
  split
  next v hv => exact h.tasks s k v _ hv (hf v)
  · rfl

theorem ConvBlind.noteMax (s : Pkg) (k i : Nat) (m : Nat × Int) : P (s.updTask k fun x => x.noteMax i m) = P s :=
  h.updTask s k fun t => by
    unfold Task.noteMax
    split <;> rfl

theorem ConvBlind.frameEv (s : Pkg) (j : Nat) (g : ClusterSt → Tbl (Nat × Nat)) : P (s.updCluster j fun x => { x with frameEv := g x }) = P s := h.frames s j _

theorem ConvBlind.raiseFlag (s : Pkg) (task : Option Nat) (c step : Nat) (nonfin : Bool) : P (s.raiseFlag task c step nonfin) = P s := by
  unfold Pkg.raiseFlag
  dsimp only
  split
  · exact (h.note.noteFor _ _ _ _).trans (h.note.bump s _)
  · exact h.ctxs s _

theorem ConvBlind.localNonfin (s : Pkg) (k i : Nat) (t : TensorRef) : P (s.localNonfin k i t) = P s :=
  view_ite ((h.noteMax _ _ _ _).trans (h.raiseFlag _ _ _ _ _)) (h.raiseFlag _ _ _ _ _)

theorem ConvBlind.ledgerAdd (s : Pkg) (c tensor step fmt : Nat) (f : LedgerCount → LedgerCount) :
    P (s.ledgerAdd c tensor step fmt f) = P s := by
  unfold Pkg.ledgerAdd
  dsimp only
  split
  · rfl
  · exact h.ctxs s _

theorem ConvBlind.converted (s : Pkg) (k i : Nat) (t : TensorRef) (off : Int) (vs : List Num) (cs : List Conv) (r e : Nat) :
    P (s.converted k i t off vs cs r e) = P s := by
  have hledger (c n m : Nat) (fl : Sticky) (f : LedgerCount → LedgerCount) : P ((s.taskFlags k fl).ledgerAdd c t.id n m f) = P s :=
    (h.ledgerAdd _ _ _ _ _ _).trans (h.note.taskFlags s k fl)
  unfold Pkg.converted
  dsimp only
  refine view_ite ((h.localNonfin _ _ _ _).trans ?_) ?_ <;> exact view_ite ((h.noteMax _ _ _ _).trans (hledger _ _ _ _ _)) (hledger _ _ _ _ _)

/-! ### A task's own accesses to memory -/

theorem ConvBlind.taskRead (s : Pkg) (k unit va n : Nat) : P (s.taskRead k unit va n).2 = P s := by
  have hread (b : Bool) (r : Rd) : P (if b = true then (s.took r).taskFault k unit else s.took r) = P s :=
    view_ite ((h.note.taskFault _ _ _).trans (h.record.mem.took s r)) (h.record.mem.took s r)
  exact view_ite ((h.note.taskCode _ _ _).trans (hread _ _)) (hread _ _)

theorem ConvBlind.taskWrite (s : Pkg) (k unit va : Nat) (bs : Bytes) (bad : Bool) : P (s.taskWrite k unit va bs bad) = P s :=
  view_ite ((h.note.taskFault _ _ _).trans ((h.write _).vWriteAs s _ _ _ _)) ((h.write _).vWriteAs s _ _ _ _)

omit h in
theorem NoteBlind.offsetReports (hn : NoteBlind P) (k unit n : Nat) (s : Pkg) : P (s.offsetReports k unit n) = P s := by
  induction n generalizing s with
  | zero => rfl
  | succ n ih => exact (ih _).trans ((hn.taskEvent _ _ _ _ _ _).trans (hn.taskFlags s k _))

omit h in
theorem NoteBlind.scaleReports (hn : NoteBlind P) (k unit n : Nat) (s : Pkg) : P (s.scaleReports k unit n) = P s := by
  induction n generalizing s with
  | zero => rfl
  | succ n ih => exact (ih _).trans (hn.taskEvent s _ _ _ _ _)

/-! ### WRITEOUT -/

theorem ConvBlind.halfOut (pre s : Pkg) (c k : Nat) (f : OutF) (t : TensorRef) (vs : List Num) (n : Nat) : P (pre.halfOut c k f t vs s n).1 = P s := by
  unfold Pkg.halfOut
  dsimp only
  split
  · refine view_ite ((h.note.taskEvent _ _ _ _ _ _).trans ((h.note.bump _ _).trans ?_)) ?_ <;>
      exact view_ite ((h.note.bump _ _).trans (h.taskWrite _ _ _ _ _ _)) (h.taskWrite _ _ _ _ _ _)
  · split
    · rfl
    · exact view_ite ((h.note.offsetReports _ _ _ _).trans (h.taskRead _ _ _ _ _)) (h.taskRead _ _ _ _ _)

theorem ConvBlind.writeout (pre s : Pkg) (c k : Nat) (w : CWord) (f : OutF) (t : TensorRef) : P (pre.writeout s c k w f t).1 = P s := by
  have hno (b : Bool) : P (if b = true then (s.updTask k fun x => { x with noOffsets := f.ten :: x.noOffsets }).taskEvent k Ev.recomputeNoOffsets
      (Unit.engine c 0) 0 [] else s) = P s :=
    view_ite ((h.note.taskEvent _ _ _ _ _ _).trans (h.updTask s k fun _ => rfl)) rfl
  unfold Pkg.writeout
  dsimp only
  refine view_ite ?_ ((h.note.taskCode _ _ _).trans ?_) <;>
    exact (h.converted _ _ _ _ _ _ _ _ _).trans <| (h.converted _ _ _ _ _ _ _ _ _).trans <| (h.halfOut _ _ _ _ _ _ _ _).trans <|
      (h.halfOut _ _ _ _ _ _ _ _).trans <| (h.note.taskFlags _ _ _).trans (hno _)

theorem ConvBlind.writeFrames (pre s : Pkg) (c k : Nat) (w : CWord) (f : OutF) (t : TensorRef) : P (pre.writeFrames s c k w f t).1 = P s := by
  unfold Pkg.writeFrames
  dsimp only
  generalize pre.contribFrame c k f t (pre.outValues c k f t) 0 = b0, pre.contribFrame c k f t (pre.outValues c k f t) 1 = b1
  generalize (b0.2 ++ b1.2).foldl (fun fl e => fl.or e.fl) (pre.outFlags c k f t) = fl
  have hnonfin (b : Bool) : P (if b = true then (s.taskFlags k fl).localNonfin k f.ten t else s.taskFlags k fl) = P s :=
    view_ite ((h.localNonfin _ _ _ _).trans (h.note.taskFlags s k fl)) (h.note.taskFlags s k fl)
  refine view_ite ?_ ((h.note.taskCode _ _ _).trans ?_) <;>
  · split
    · exact (h.frameEv _ _ _).trans (hnonfin _)
    · exact hnonfin _

end

/-! ### The slot -/

theorem Pkg.mxeIssue_mma (hw : w.has 4 = true) (ho : w.op 4 = 1) (rep : Nat) : pre.mxeIssue s c k w rep = (pre.mma s c k w rep, []) := by
  unfold Pkg.mxeIssue
  rw [hw, ho]
  rfl

theorem Pkg.mxeIssue_writeout (hw : w.has 4 = true) (ho : w.op 4 = 2) (rep : Nat) : pre.mxeIssue s c k w rep = pre.outIssue s c k w (outF (w.slot 4)) := by
  unfold Pkg.mxeIssue
  rw [hw, ho]
  rfl

theorem SeqBlind.accumulators (hs : SeqBlind P c) (s : Pkg) (g : CoreSt → Tbl AccSet) : P (s.updCore c fun x => { x with acc := g x }) = P s := hs.core s _ rfl

section
variable (hn : NoteBlind P) (hs : SeqBlind P c)
include hn hs

theorem metaReports_view (k unit n : Nat) (s : Pkg) : P (s.metaReports c k unit n) = P s := by
  induction n generalizing s with
  | zero => rfl
  | succ n ih => exact (ih _).trans ((hn.taskEvent _ _ _ _ _ _).trans (hs.coreCount s 0x28 1))

/-- An MMA leaves memory: it changes accumulators and counters, and reports. -/
theorem mma_view (pre s : Pkg) (k : Nat) (w : CWord) (rep : Nat) : P (pre.mma s c k w rep) = P s := by
  unfold Pkg.mma
  generalize pre.mmaOut c k w rep = r
  dsimp only
  refine view_ite ?_ ((hn.taskCode _ _ _).trans ?_) <;>
    exact (hn.scaleReports _ _ _ _).trans <| (hn.offsetReports _ _ _ _).trans <| (metaReports_view hn hs _ _ _ _).trans <| (hn.taskFlags _ _ _).trans <|
      (hs.coreCount _ _ _).trans <| (hs.coreCount _ _ _).trans (hs.accumulators s _)

end

section
variable (h : ConvBlind P) (hs : SeqBlind P c)
include h hs

theorem outIssue_view (pre s : Pkg) (k : Nat) (w : CWord) (f : OutF) : P (pre.outIssue s c k w f).1 = P s := by
  unfold Pkg.outIssue
  split
  · dsimp only
    split
    · exact (h.writeFrames _ _ _ _ _ _ _).trans (hs.accumulators s _)
    · exact (h.writeout _ _ _ _ _ _ _).trans (hs.accumulators s _)
  · rfl

/-- The slot leaves core-local memory to its writes. -/
theorem mxeIssue_view (pre s : Pkg) (k : Nat) (w : CWord) (rep : Nat) : P (pre.mxeIssue s c k w rep).1 = P s := by
  unfold Pkg.mxeIssue
  split
  · rfl
  · split
    · dsimp only
      exact mma_view h.note hs pre s k w rep
    · exact outIssue_view h hs pre s k w _
    · rfl

end

/-! ### The accumulators and counters that the slot leaves -/

theorem Keeps.mma_reports {Q : CoreSt → α} (hq : CtrFree Q 0x28) (pre s : Pkg) (c k : Nat) (w : CWord) (rep : Nat) :
    Keeps Q (pre.mma s c k w rep) (((s.updCore c fun x => { x with acc := x.acc.set (mmaF (w.slot 4)).acc (pre.mmaOut c k w rep).acc }).coreCount c 0x00
      (pre.mmaOut c k w rep).steps).coreCount c 0x20 (pre.mmaOut c k w rep).zeros) := by
  unfold Pkg.mma
  generalize pre.mmaOut c k w rep = r
  dsimp only
  generalize ((s.updCore c fun x => { x with acc := x.acc.set (mmaF (w.slot 4)).acc r.acc }).coreCount c 0x00 r.steps).coreCount c 0x20 r.zeros = q
  have hreports : Keeps Q ((((q.taskFlags k r.fl).metaReports c k (Unit.engine c 0) r.metas).offsetReports k (Unit.engine c 0) r.offs).scaleReports k
      (Unit.engine c 0) r.scs) q :=
    (Keeps.of_cores (Pkg.scaleReports_cores _ _ _ _)).trans <| (Keeps.of_cores (Pkg.offsetReports_cores _ _ _ _)).trans <|
      (Keeps.metaReports _ _ _ _ _ hq).trans (.of_cores (Pkg.taskFlags_cores _ _ _))
  split
  · exact hreports
  · exact (Keeps.of_cores (Pkg.taskCode_cores _ _ _)).trans hreports

theorem Pkg.mmaOut_fresh (pre : Pkg) (c k : Nat) (w : CWord) (rep : Nat) : (pre.mmaOut c k w rep).acc.filled = true ∧ (pre.mmaOut c k w rep).acc.written = false :=
  ⟨rfl, rfl⟩

end Sys2Proof.Machine
end

section
/-! The units that a write-out's writes lie in: its stream's, and the bytes at its side pointer (R96, R142, R182, R194, R312, R457). -/

namespace Sys2Proof.Machine

variable {pre s : Pkg} {c k a : Nat} {w : CWord}

/-! ### Lists of bytes -/

theorem leBytes_length (n v : Nat) : (leBytes n v).length = n := by
  induction n generalizing v with
  | zero => rfl
  | succ n ih => rw [leBytes, List.length_cons, ih]

theorem packBytes_length (wd : Nat) (xs : List Nat) : (packBytes wd xs).length = (wd * xs.length + 7) / 8 := leBytes_length _ _

/-- The values of a write-out fill four units for each bit of their format (R194). -/
theorem packBytes_units (wd : Nat) {xs : List Nat} (h : xs.length ≤ 2048) : ceilDiv (packBytes wd xs).length 64 ≤ 4 * wd := by
  have hbits : wd * xs.length ≤ wd * 2048 := Nat.mul_le_mul_left wd h
  rw [packBytes_length, ceilDiv]
  omega

/-- A piece of a cut list, by its place. -/
theorem chunk_getElem? {β : Type} {n f i : Nat} {l b : List β} (h : (chunk f n l)[i]? = some b) : b = (l.drop (n * i)).take n := by
  induction f generalizing l i with
  | zero => simp [chunk] at h
  | succ f ih =>
    rw [chunk] at h
    split at h
    · simp at h
    · cases i with
      | zero => simpa using h.symm
      | succ i => rw [ih h, List.drop_drop, Nat.mul_succ, Nat.add_comm]

/-- Results as long as the pieces that they are for are, in all, no longer than the list that was cut. -/
theorem chunk_results_length {β γ : Type} {g : List β × Nat → List γ} (hg : ∀ x, (g x).length = x.1.length) (f n m : Nat) (l : List β) :
    (((chunk f n l).zipIdx m).flatMap g).length ≤ l.length := by
  induction f generalizing l m with
  | zero => exact Nat.zero_le _
  | succ f ih =>
    rw [chunk]
    split
    · exact Nat.zero_le _
    · have hrest := ih (m + 1) (l.drop n)
      rw [List.zipIdx_cons, List.flatMap_cons, List.length_append, hg]
      simp only [List.length_take, List.length_drop] at hrest ⊢
      omega

theorem chunk_length_le {β : Type} (f n : Nat) (l : List β) : (chunk f n l).length ≤ f := by
  induction f generalizing l with
  | zero => exact Nat.zero_le _
  | succ f ih =>
    rw [chunk]
    split
    · exact Nat.zero_le _
    · exact Nat.succ_le_succ (ih _)

/-! ### Ranges of writes -/

theorem inRanges_writes {ws : List LWrite} : inRanges (ws.map fun l => (l.addr, l.data.length)) a ↔ ∃ l ∈ ws, l.addr ≤ a ∧ a < l.addr + l.data.length := by
  simp [inRanges]

theorem unitWrites_within {slot addr : Nat} {data : Bytes} {bad : Nat → Bool} {l : LWrite} (hl : l ∈ unitWrites slot addr data bad)
    (ha : l.addr ≤ a ∧ a < l.addr + l.data.length) : addr ≤ a ∧ a < addr + data.length := by
  unfold unitWrites at hl
  split at hl
  · obtain ⟨⟨d, i⟩, hd, rfl⟩ := List.mem_map.1 hl
    have hlen := congrArg List.length (chunk_getElem? (List.mk_mem_zipIdx_iff_getElem?.1 hd))
    simp only [List.length_take, List.length_drop] at hlen ha
    omega
  · rw [List.mem_singleton.1 hl] at ha
    exact ha

theorem sideWrites_within {slot addr : Nat} {data : Bytes} {bad : Nat → Bool} {l : LWrite} (hl : l ∈ sideWrites slot addr data bad)
    (ha : l.addr ≤ a ∧ a < l.addr + l.data.length) : addr ≤ a ∧ a < addr + data.length := by
  unfold sideWrites at hl
  split at hl
  · exact absurd hl List.not_mem_nil
  · split at hl
    · obtain ⟨u, -, rfl⟩ := List.mem_map.1 hl
      simp only [List.length_take, List.length_drop] at ha
      omega
    · rw [List.mem_singleton.1 hl] at ha
      exact ha

theorem Ag.units_mono (g : Ag) (off : Int) {m n : Nat} (h : m ≤ n) {ad : Nat} (had : ad ∈ g.units off m) : ad ∈ g.units off n := by
  obtain ⟨i, hi, rfl⟩ := List.mem_map.1 had
  exact List.mem_map.2 ⟨i, List.mem_range.2 (Nat.lt_of_lt_of_le (List.mem_range.1 hi) h), rfl⟩

/-- The writes of a stream lie in its units. -/
theorem Pkg.streamWrites_within {slot st n : Nat} {data : Bytes} {bad : Nat → Bool} {l : LWrite} (hl : l ∈ pre.streamWrites c w slot st data bad)
    (ha : l.addr ≤ a ∧ a < l.addr + l.data.length) (hn : ceilDiv data.length 64 ≤ n) :
    ∃ q, w.stream st = some q ∧ inRanges (((pre.ag c q.1).units q.2 n).map fun b => (b, 64)) a := by
  unfold Pkg.streamWrites at hl
  split at hl
  · exact absurd hl List.not_mem_nil
  next g off hq =>
    obtain ⟨⟨ad, i⟩, hd, hl⟩ := List.mem_flatMap.1 hl
    have hin := unitWrites_within hl ha
    rw [List.length_take] at hin
    have hunit := Ag.units_mono _ _ hn (List.mem_of_getElem? (List.mk_mem_zipIdx_iff_getElem?.1 hd))
    exact ⟨(g, off), hq, _, List.mem_map.2 ⟨ad, hunit, rfl⟩, by dsimp only; omega⟩

/-! ### The bytes that a write-out gives -/

theorem blockConv_length (fmt : Nat) (rm : Rm) (sat : Bool) (u : Nat → Nat) (vs : List Num) : (blockConv fmt rm sat u vs).2.length = vs.length := by
  unfold blockConv
  dsimp only
  split <;> simp

/-- A tile gives a conversion for each value at most, and a block scale for each row at most. -/
theorem tileConv_length (fmt : Nat) (rm : Rm) (sat : Bool) (u : Nat → Nat) (off : Int) (vs : List Num) :
    (tileConv fmt rm sat u off vs).1.length ≤ vs.length ∧ (tileConv fmt rm sat u off vs).2.length ≤ 32 := by
  unfold tileConv
  dsimp only
  split
  · refine ⟨?_, ?_⟩
    · rw [List.flatMap_map]
      refine (chunk_results_length (fun x => ?_) 32 32 0 (vs.map fun v => v.scale (-off))).trans (List.length_map _).le
      exact blockConv_length _ _ _ _ _
    · simpa using chunk_length_le 32 32 (vs.map fun v => v.scale (-off))
  · simp

/-- An overflow recompute gives the conversions of one of its attempts (R261). -/
theorem recompute_attempt {Q : List Conv × List Nat → Prop} {conv : Int → List Conv × List Nat} (hq : ∀ o, Q (conv o)) (vs : List Num) (step n off : Nat) :
    Q (recompute conv vs step n off).2.1 := by
  induction n generalizing off with
  | zero => exact hq _
  | succ n ih =>
    unfold recompute
    dsimp only
    split
    · split
      · exact hq _
      · exact ih _
    · exact hq _

/-- A half of a write-out gives a conversion for each of its 1024 values at most, and a block scale for each of its 32 rows at most. -/
theorem Pkg.halfOut_length (pre s : Pkg) (c k : Nat) (f : OutF) (t : TensorRef) (vs : List Num) (n : Nat) :
    (pre.halfOut c k f t vs s n).2.convs.length ≤ 1024 ∧ (pre.halfOut c k f t vs s n).2.scales.length ≤ 32 := by
  have htile (rm : Rm) (sat : Bool) (u : Nat → Nat) (off : Int) : (tileConv f.fmt rm sat u off ((vs.drop (1024 * n)).take 1024)).1.length ≤ 1024 ∧
      (tileConv f.fmt rm sat u off ((vs.drop (1024 * n)).take 1024)).2.length ≤ 32 := by
    obtain ⟨hconvs, hscales⟩ := tileConv_length f.fmt rm sat u off ((vs.drop (1024 * n)).take 1024)
    exact ⟨hconvs.trans (List.length_take_le _ _), hscales⟩
  unfold Pkg.halfOut
  dsimp only
  split
  · exact recompute_attempt (Q := fun r => r.1.length ≤ 1024 ∧ r.2.length ≤ 32) (fun o => htile _ _ _ _) _ _ _ _
  · split
    · exact htile _ _ _ _
    · exact htile _ _ _ _

/-- The writes of a write-out's block scales, at the side pointer of its stream's generator. -/
def Pkg.scaleWrites (p : Pkg) (c : Nat) (w : CWord) (st : Nat) (scales : Bytes) (bad : Nat → Bool) : List LWrite :=
  match w.stream st with
  | some (g, _) => sideWrites 4 (p.ag c g).side scales bad
  | none => []

theorem Pkg.scaleWrites_within {st : Nat} {scales : Bytes} {bad : Nat → Bool} {l : LWrite} (hl : l ∈ pre.scaleWrites c w st scales bad)
    (ha : l.addr ≤ a ∧ a < l.addr + l.data.length) : ∃ q, w.stream st = some q ∧ (pre.ag c q.1).side ≤ a ∧ a < (pre.ag c q.1).side + scales.length := by
  unfold Pkg.scaleWrites at hl
  split at hl
  next g off hq => exact ⟨(g, off), hq, sideWrites_within hl ha⟩
  · exact absurd hl List.not_mem_nil

/-- A write-out of rows writes at most four units for each bit of the format, and at most 64 block scales. -/
theorem Pkg.writeout_writes (pre s : Pkg) (c k : Nat) (w : CWord) (f : OutF) (t : TensorRef) : ∃ data bad scales spoilt,
    ceilDiv data.length 64 ≤ 4 * fmtWidth f.fmt ∧ scales.length ≤ 64 ∧ (pre.writeout s c k w f t).2 =
      pre.streamWrites c w 4 f.st data bad ++ pre.scaleWrites c w f.st scales spoilt := by
  unfold Pkg.writeout
  dsimp only
  refine ⟨_, _, _, _, ?_, ?_, rfl⟩
  · refine packBytes_units _ ?_
    rw [List.length_map, List.length_append]
    exact Nat.add_le_add (pre.halfOut_length _ c k f t _ 0).1 (pre.halfOut_length _ c k f t _ 1).1
  · rw [List.length_map, List.length_append]
    exact Nat.add_le_add (pre.halfOut_length _ c k f t _ 0).2 (pre.halfOut_length _ c k f t _ 1).2

theorem frameImage_length (h : FrameHdr) (es : List FrameElem) : (frameImage h es).length = 64 + 8 * es.length + (2 * es.length + 7) / 8 := by
  unfold frameImage FrameHdr.bytes
  simp [leBytes_length, packBytes_length]
  omega

/-- A frame's bytes are those of its 1024 elements at most (R312). -/
theorem Pkg.contribFrame_length (pre : Pkg) (c k : Nat) (f : OutF) (t : TensorRef) (vs : List Num) (h : Nat) :
    (pre.contribFrame c k f t vs h).1.length ≤ frameBytes := by
  unfold Pkg.contribFrame frameBytes
  dsimp only
  rw [frameImage_length]
  simp only [List.length_map, List.length_zipIdx, List.length_take]
  omega

theorem Pkg.writeFrames_writes (pre s : Pkg) (c k : Nat) (w : CWord) (f : OutF) (t : TensorRef) : ∃ data bad,
    ceilDiv data.length 64 ≤ 266 ∧ (pre.writeFrames s c k w f t).2 = pre.streamWrites c w 4 f.st data bad := by
  unfold Pkg.writeFrames
  dsimp only
  refine ⟨_, _, ?_, rfl⟩
  have h0 := pre.contribFrame_length c k f t (pre.outValues c k f t) 0
  have h1 := pre.contribFrame_length c k f t (pre.outValues c k f t) 1
  unfold frameBytes at h0 h1
  rw [List.length_append, ceilDiv]
  omega

/-- The writes of a WRITEOUT lie in the units of its stream and in the 64 bytes at its generator's side pointer. -/
theorem Pkg.outIssue_within {f : OutF} {l : LWrite} (hl : l ∈ (pre.outIssue s c k w f).2) (ha : l.addr ≤ a ∧ a < l.addr + l.data.length) :
    ∃ q, w.stream f.st = some q ∧
      (inRanges (((pre.ag c q.1).units q.2 (if f.dest = 2 then 266 else 4 * fmtWidth f.fmt)).map fun b => (b, 64)) a ∨
        (pre.ag c q.1).side ≤ a ∧ a < (pre.ag c q.1).side + 64) := by
  unfold Pkg.outIssue at hl
  split at hl
  next t ht =>
    dsimp only at hl
    split at hl
    next hd =>
      rw [if_pos hd]
      obtain ⟨data, bad, hlen, hws⟩ := pre.writeFrames_writes _ c k w f t
      rw [hws] at hl
      obtain ⟨q, hq, hin⟩ := Pkg.streamWrites_within hl ha hlen
      exact ⟨q, hq, .inl hin⟩
    next hd =>
      rw [if_neg hd]
      obtain ⟨data, bad, scales, spoilt, hlen, hside, hws⟩ := pre.writeout_writes _ c k w f t
      rw [hws] at hl
      rcases List.mem_append.1 hl with hl | hl
      · obtain ⟨q, hq, hin⟩ := Pkg.streamWrites_within hl ha hlen
        exact ⟨q, hq, .inl hin⟩
      · obtain ⟨q, hq, hlo, hhi⟩ := Pkg.scaleWrites_within hl ha
        exact ⟨q, hq, .inr ⟨hlo, by omega⟩⟩
  · exact absurd hl List.not_mem_nil

end Sys2Proof.Machine
end

section
/-! A matrix command's repeat: the accumulators, the counters and the memory that it leaves (R138, R141, R142, R191, R194). -/

namespace Sys2Proof.Machine

variable {α : Type} {Q : CoreSt → α} {pre s : Pkg} {c k : Nat} {w : CWord}

/-! ### The memory that a core reaches -/

/-- The memory that a core reaches, with its check state in the palette; the other cores; and each task's context. -/
def Pkg.reach (c : Nat) (s : Pkg) : (Nat → CoreSt) × Memory × (Nat → Nat) :=
  (fun j => if j = c then (s.core j).memory else s.core j, (s.cluster (clusterOf c)).mem, fun j => (s.task j).ctx)

theorem Pkg.reach_convBlind (c : Nat) : ConvBlind (Pkg.reach c) where
  record := ⟨⟨fun _ _ _ _ _ _ _ _ => rfl⟩, fun _ _ _ _ _ => rfl⟩
  ctxs _ _ := rfl
  tasks s k v w hv hw := by
    refine congrArg (fun t => (_, _, t)) (funext fun j => ?_)
    rw [Pkg.task, Pkg.setTask, Tbl.get_set]
    split
    next hj => rw [hj, hw, Pkg.task_of_find hv]
    next => rfl
  frames s j t := by
    refine congrArg (fun m => (_, m, _)) ?_
    rw [Pkg.cluster_setCluster]
    split
    next hj => rw [hj]
    next => rfl

theorem Pkg.reach_seqBlind (c : Nat) : SeqBlind (Pkg.reach c) c where
  core s x hx := by
    refine Prod.ext (funext fun j => ?_) rfl
    unfold Pkg.reach
    dsimp only
    rw [Pkg.core_setCore]
    split
    next hj => rw [hj, hx]
    next => rfl
  ctxs _ _ := rfl
  progress s k _ := (Pkg.reach_convBlind c).updTask s k fun _ => rfl

section
variable {p q : Pkg} (h : q.reach c = p.reach c)
include h

theorem otherCores_of_reach : OtherCores c p q := fun j hj => by
  simpa [Pkg.reach, hj] using congrFun (congrArg Prod.fst h) j

theorem localMem_of_reach : q.localMem c = p.localMem c := by
  have hcore : (q.core c).memory = (p.core c).memory := by simpa [Pkg.reach] using congrFun (congrArg Prod.fst h) c
  exact Prod.ext (congrArg CoreSt.pal hcore :) (congrArg (fun v => v.2.1) h :)

theorem taskCtx_of_reach (k : Nat) : (q.task k).ctx = (p.task k).ctx := congrFun (congrArg (fun v => v.2.2) h) k

end

/-! ### What the matrix engine leaves of the core -/

theorem CoreSt.acc_afterMxeFree (w : CWord) : AfterMxeFree CoreSt.acc w where
  pal _ _ _ _ := rfl
  clash _ _ := rfl
  c10 _ _ := rfl
  ags _ _ := rfl
  scl := .inr fun _ _ _ _ _ => rfl
  busy _ _ _ := rfl
  step _ _ _ _ _ _ := rfl
  c40 _ _ := rfl
  c48 _ _ := rfl
  rwe := ⟨fun _ _ => rfl, fun _ _ => rfl, fun _ _ => rfl, fun _ _ _ _ => rfl, fun _ _ => rfl, fun _ _ => rfl⟩
  vreg _ _ := rfl
  tps _ _ := rfl

/-- No slot after the matrix engine's counts in the counters of the steps and of the zero groups. -/
theorem ctr_afterMxeFree (w : CWord) {off : Nat} (h : off ∉ [0x10, 0x30, 0x38, 0x40, 0x48]) : AfterMxeFree (fun x => x.ctr.get 0 off) w := by
  simp only [List.mem_cons, List.not_mem_nil, or_false, not_or] at h
  obtain ⟨h10, h30, h38, h40, h48⟩ := h
  exact
    { ctr_afterSdeFree w h10 with
      c40 := ctrFree_get h40, c48 := ctrFree_get h48
      rwe := ⟨fun _ _ => rfl, fun _ _ => rfl, fun _ _ => rfl, fun _ _ _ _ => rfl, ctrFree_get h30, ctrFree_get h38⟩
      vreg := fun _ _ => rfl, tps := fun _ _ => rfl }

theorem Pkg.acc_mma (pre s : Pkg) (c k : Nat) (w : CWord) (rep : Nat) :
    ((pre.mma s c k w rep).core c).acc = (s.core c).acc.set (mmaF (w.slot 4)).acc (pre.mmaOut c k w rep).acc := by
  refine (Keeps.mma_reports (Q := CoreSt.acc) (fun _ _ => rfl) pre s c k w rep c).trans ?_
  refine (Keeps.coreCount (P := CoreSt.acc) _ c _ (fun _ _ => rfl) c).trans ((Keeps.coreCount (P := CoreSt.acc) _ c _ (fun _ _ => rfl) c).trans ?_)
  rw [Pkg.core_updCore_same]

theorem Pkg.steps_mma (pre s : Pkg) (c k : Nat) (w : CWord) (rep : Nat) :
    ((pre.mma s c k w rep).core c).ctr.get 0 0 = (s.core c).ctr.get 0 0 + (pre.mmaOut c k w rep).steps := by
  refine (Keeps.mma_reports (ctrFree_get (off := 0) (by decide)) pre s c k w rep c).trans ?_
  refine (Pkg.ctr_coreCount_ne _ c _ (by decide)).trans ?_
  rw [Pkg.ctr_coreCount_same, Pkg.core_updCore_same]

theorem Pkg.zeros_mma (pre s : Pkg) (c k : Nat) (w : CWord) (rep : Nat) :
    ((pre.mma s c k w rep).core c).ctr.get 0 0x20 = (s.core c).ctr.get 0 0x20 + (pre.mmaOut c k w rep).zeros := by
  refine (Keeps.mma_reports (ctrFree_get (off := 0x20) (by decide)) pre s c k w rep c).trans ?_
  refine (Pkg.ctr_coreCount_same _ c _ _).trans ?_
  rw [Pkg.ctr_coreCount_ne _ c _ (by decide), Pkg.core_updCore_same]

/-- A WRITEOUT of a tensor that the task has marks its accumulator set written out. -/
theorem Pkg.acc_outIssue (pre s : Pkg) (c : Nat) (w : CWord) {f : OutF} (ht : (pre.task k).tensorOk f.ten = true) :
    ((pre.outIssue s c k w f).1.core c).acc = (s.core c).acc.upd {} f.acc fun a => { a with written := true } := by
  obtain ⟨t, ht⟩ := Option.isSome_iff_exists.1 ht
  unfold Pkg.outIssue
  rw [ht]
  dsimp only
  split
  · rw [Pkg.core, Pkg.writeFrames_cores, ← Pkg.core, Pkg.core_updCore_same]
  · rw [Pkg.core, Pkg.writeout_cores, ← Pkg.core, Pkg.core_updCore_same]

theorem Pkg.mxePart_mma (hw : w.has 4 = true) (ho : w.op 4 = 1) (pre : Pkg) (c k : Nat) :
    pre.mxePart c k w = (pre.mma (pre.issueStart c k w) c k w (pre.core c).rep, []) := by
  rw [Pkg.mxePart, Pkg.mxeIssue_mma hw ho]

theorem Pkg.mxePart_writeout (hw : w.has 4 = true) (ho : w.op 4 = 2) (pre : Pkg) (c k : Nat) :
    pre.mxePart c k w = pre.outIssue (pre.issueStart c k w) c k w (outF (w.slot 4)) := by
  rw [Pkg.mxePart, Pkg.mxeIssue_writeout hw ho]

/-! ### A word without another engine or transfer slot -/

section
variable (ho : w.only 4)
include ho

theorem CWord.only_four : w.has 5 = false ∧ w.has 6 = false ∧ w.has 7 = false ∧ w.has 8 = false :=
  ⟨ho 5 (by decide) (by decide), ho 6 (by decide) (by decide), ho 7 (by decide) (by decide), ho 8 (by decide) (by decide)⟩

/-- A repeat that no fence refuses leaves in memory what the slot leaves and its writes land. -/
theorem Pkg.memoryBeside_mxeOnly (hr : pre.refused c w = false) (k : Nat) (img : Image) : (pre.issueRepeat c k img w).memoryBeside c =
    ((pre.mxePart c k w).2.foldl (fun s l => s.lWrite c l) (pre.vxeFinds c k w)).memoryBeside c := by
  obtain ⟨h5, h6, h7, h8⟩ := CWord.only_four ho
  rw [Pkg.memoryBeside_noTransfer h8 hr, Pkg.slotWrites, Pkg.sdeFinds, Pkg.rweFinds, Pkg.sdeIssue_absent h7, Pkg.rweIssue_absent h6,
    Pkg.vxeIssue_absent h5, List.append_nil, List.append_nil, List.append_nil]

/-- A slot without writes leaves every memory. -/
theorem Pkg.memoryBeside_mma (hr : pre.refused c w = false) (hw : w.has 4 = true) (h1 : w.op 4 = 1) (k : Nat) (img : Image) :
    (pre.issueRepeat c k img w).memoryBeside c = pre.memoryBeside c := by
  have hs := Pkg.memoryBeside_seqBlind c
  have hpart := Pkg.mxePart_mma hw h1 pre c k
  rw [Pkg.memoryBeside_mxeOnly ho hr, hpart]
  refine (hs.ctxs (pre.mxePart c k w).1 _).trans ?_
  rw [hpart]
  dsimp only
  exact (mma_view (Pkg.memoryBeside_ringBlind c).note hs _ _ k w _).trans (hs.issueStart pre k w)

/-- The slot's writes land in core-local memory, and no other core changes. -/
theorem Pkg.mxeWrites_land (hr : pre.refused c w = false) (k : Nat) (img : Image) :
    (pre.issueRepeat c k img w).localMem c = (pre.mxePart c k w).2.foldl landed (pre.localMem c) ∧ OtherCores c pre (pre.issueRepeat c k img w) := by
  have hs := Pkg.reach_seqBlind c
  have hq := Pkg.memoryBeside_mxeOnly ho hr k img
  have hslot : (pre.vxeFinds c k w).reach c = pre.reach c :=
    (hs.ctxs _ _).trans ((mxeIssue_view (Pkg.reach_convBlind c) hs _ _ k w _).trans (hs.issueStart pre k w))
  refine ⟨?_, fun j hj => ?_⟩
  · rw [localMem_of_memoryBeside hq, Pkg.localMem_lWrites, localMem_of_reach hslot]
  · rw [otherCores_of_memoryBeside hq j hj, Pkg.lWrites_otherCores c _ _ j hj, otherCores_of_reach hslot j hj]

end

end Sys2Proof.Machine

open Sys2Proof Sys2Proof.Machine

/-- Settles O10: the slot's part is the first of the repeat, nothing after it reaches an accumulator set or its counters, and a write-out's writes lie in its stream's units and at its side pointer. -/
theorem matrixOps : Obligations.MatrixOps := by
  intro s i c k op img w hi hc hw hg
  obtain ⟨u, hu, hpend, hcores, hmem, hclusters, -, -⟩ := exec_goes hi hc hw hg
  obtain ⟨hhas, rfl⟩ := hw.holdsOp
  refine ⟨u, hu, ?_⟩
  beta_reduce
  intro p x y f g r
  have hbeside := Pkg.memoryBeside_congr (c := c) hcores hclusters hmem
  have hpart {α : Type} {Q : CoreSt → α} (h : AfterMxeFree Q w) : Q y = Q ((p.mxePart c k w).1.core c) :=
    (Keeps.of_cores hcores c).trans (Keeps.issueRepeat_mxe hg.sent k img h c)
  have hstart {α : Type} {Q : CoreSt → α} (h : StartFree Q) : Q ((p.issueStart c k w).core c) = Q x := Keeps.start h p c k w c
  have hacc := hstart (Q := CoreSt.acc) ⟨fun _ _ => rfl, fun _ _ => rfl, fun _ _ => rfl⟩
  have hsteps := hstart (ctr_startFree (off := 0) (by decide))
  have hzeros := hstart (ctr_startFree (off := 0x20) (by decide))
  have hpacc := hpart (CoreSt.acc_afterMxeFree w)
  have hpsteps := hpart (ctr_afterMxeFree w (off := 0) (by decide))
  have hpzeros := hpart (ctr_afterMxeFree w (off := 0x20) (by decide))
  refine ⟨fun h1 => ?_, fun h2 ht => ?_, hpend⟩
  · have hmma := Pkg.mxePart_mma hhas h1 p c k
    rw [hmma] at hpacc hpsteps hpzeros
    dsimp only at hpacc hpsteps hpzeros
    rw [Pkg.acc_mma, hacc] at hpacc
    change y.acc = x.acc.set f.acc r.acc at hpacc
    obtain ⟨hfilled, hwritten⟩ := p.mmaOut_fresh c k w x.rep
    refine ⟨by rw [hpacc, Tbl.get_set_same], hfilled, hwritten, fun n hn => by rw [hpacc, Tbl.get_set_ne _ _ _ hn],
      hpsteps.trans ((Pkg.steps_mma _ _ _ _ _ _).trans (congrArg (· + _) hsteps)),
      hpzeros.trans ((Pkg.zeros_mma _ _ _ _ _ _).trans (congrArg (· + _) hzeros)), fun ho => ?_⟩
    have hm : u.pkg.memoryBeside c = s.pkg.memoryBeside c := hbeside.trans (Pkg.memoryBeside_mma ho hg.sent hhas h1 k img)
    exact ⟨sameMemory_of_memoryBeside hm, otherCores_of_memoryBeside hm⟩
  · have hout := Pkg.mxePart_writeout hhas h2 p c k
    rw [hout] at hpacc hpsteps
    rw [Pkg.acc_outIssue p _ c w ht, hacc] at hpacc
    refine ⟨by rw [hpacc, Tbl.get_upd_same], fun n hn => by rw [hpacc, Tbl.get_upd_ne _ _ _ hn],
      hpsteps.trans ((Keeps.outIssue (P := fun x => x.ctr.get 0 0) p _ c k w g (fun _ _ => rfl) c).trans hsteps), fun ho => ?_⟩
    obtain ⟨hlocal, hothers⟩ := Pkg.mxeWrites_land ho hg.sent k img
    refine ⟨fun j hj => (otherCores_of_memoryBeside hbeside j hj).trans (hothers j hj), fun a ha => ?_⟩
    rw [Pkg.lByte_eq, Pkg.lByte_eq, localMem_of_memoryBeside hbeside, hlocal, hout]
    refine localByte_landedAll _ _ fun hin => ?_
    obtain ⟨l, hl, hla⟩ := inRanges_writes.1 hin
    obtain ⟨q, hq, hwithin⟩ := Pkg.outIssue_within hl hla
    obtain ⟨hunits, hside⟩ := ha q hq
    exact hwithin.elim hunits hside
end

section
/-! The lookups of row statistics: what they see, what they leave, and the misses of a backward op (R152, R155, R156). -/

namespace Sys2Proof.Machine

variable {α : Type} {P : Pkg → α} {pre s q : Pkg} {c k : Nat} {w : CWord}

/-- The vector engine's slot leaves core-local memory to its writes, and each task its context. -/
theorem ConvBlind.vxeIssue (h : ConvBlind P) (hs : SeqBlind P c) (pre s : Pkg) (k : Nat) (w : CWord) : P (pre.vxeIssue s c k w).1 = P s := by
  have hbad (f : VxeF) : P (s.badOffset c k f) = P s := view_ite ((h.note.taskEvent _ _ _ _ _ _).trans (h.note.taskFlags s k _)) rfl
  have hput (q : Pkg) (vd : Nat) (r : VReg × Sticky) : P (q.vregPut c k vd r) = P q := (h.note.taskFlags _ _ _).trans (hs.core q _ rfl)
  have htable (f : VxeF) : P (s.updCore c fun x => { x with tps := x.tps.set f.tp (pre.tablePair c k w f) }) = P s := hs.core s _ rfl
  unfold Pkg.vxeIssue
  split
  · rfl
  · dsimp only
    split
    · rfl
    · unfold Pkg.vxeLoadIssue
      split
      · exact view_ite ((hput _ _ _).trans (hbad _)) ((h.note.taskCode _ _ _).trans ((hput _ _ _).trans (hbad _)))
      · rfl
    · unfold Pkg.vxeStoreIssue
      split
      · exact (h.converted _ _ _ _ _ _ _ _ _).trans (hbad _)
      · rfl
    · exact view_ite ((h.note.taskCode _ _ _).trans (htable _)) (htable _)
    · exact hput _ _ _

/-! ### What a lookup sees -/

/-- What an entry says: its key and its statistics, without its set and its release marks. -/
def StatEntry.said (e : StatEntry) : Nat × Nat × Nat × Nat × Nat := (e.ctx, e.tag, e.row, e.stat0, e.stat1)

/-- What a core's entries say, the spill descriptor that it has selected, and its count of lookups that failed. -/
def CoreSt.rowState (x : CoreSt) : List (Nat × Nat × Nat × Nat × Nat) × Option Nat × Nat := (x.stats.map StatEntry.said, x.spill, x.ctr.get 0 0x38)

theorem CoreSt.rowState_ctrFree {n : Nat} (h : 0x38 ≠ n) : CtrFree CoreSt.rowState n := fun x m =>
  congrArg (fun v => (_, _, v)) (ctrFree_get h x m)

theorem CoreSt.rowState_afterRweFree (w : CWord) : AfterRweFree CoreSt.rowState w where
  pal _ _ _ _ := rfl
  clash _ _ := rfl
  c10 := CoreSt.rowState_ctrFree (by decide)
  ags _ _ := rfl
  scl := .inr fun _ _ _ _ _ => rfl
  busy _ _ _ := rfl
  step _ _ _ _ _ _ := rfl
  c40 := CoreSt.rowState_ctrFree (by decide)
  c48 := CoreSt.rowState_ctrFree (by decide)

/-- What the lookups of core `c` see. -/
def Pkg.lookups (c : Nat) (s : Pkg) : ((Nat → CoreSt) × Memory × (Nat → Nat)) × (Nat → List (Nat × Nat × Nat × Nat × Nat) × Option Nat × Nat) :=
  (s.reach c, fun j => (s.core j).rowState)

theorem Pkg.lookups_eq (hreach : q.reach c = s.reach c) (hkeeps : Keeps CoreSt.rowState q s) : q.lookups c = s.lookups c :=
  Prod.ext hreach (funext hkeeps)

section
variable (h : q.lookups c = s.lookups c)
include h

theorem reach_of_lookups : q.reach c = s.reach c := congrArg Prod.fst h

theorem rowState_of_lookups (j : Nat) : (q.core j).rowState = (s.core j).rowState := congrFun (congrArg Prod.snd h) j

end

theorem lRead_of_localMem (h : q.localMem c = s.localMem c) (a n : Nat) : q.lRead c a n = s.lRead c a n := by
  obtain ⟨hpal, hmem⟩ := Prod.mk.injEq .. ▸ h
  unfold Pkg.lRead
  rw [hpal, hmem]

theorem spillFind_congr (hspill : (q.core c).spill = (s.core c).spill) (hmem : q.localMem c = s.localMem c) (ctx tag row : Nat) :
    q.spillFind c ctx tag row = s.spillFind c ctx tag row := by
  unfold Pkg.spillFind Pkg.spillDesc
  simp only [hspill, lRead_of_localMem hmem]

/-- A lookup fails where neither the core's entries nor its spill region hold the key. -/
theorem Pkg.statRead_isNone (s : Pkg) (c k tag row : Nat) (consume : Bool) : (s.statRead c k tag row consume).1.isNone =
    (!((s.core c).stats.map StatEntry.said).any (fun e => e.1 == (s.task k).ctx && e.2.1 == tag && e.2.2.1 == row) &&
      (s.spillFind c (s.task k).ctx tag row).isNone) := by
  have hany := List.isSome_find? (xs := (s.core c).stats) (f := fun x => x.ctx == (s.task k).ctx && x.tag == tag && x.row == row)
  rw [List.any_map, Function.comp_def]
  dsimp only [StatEntry.said]
  rw [← hany]
  unfold Pkg.statRead
  dsimp only
  split
  next e he =>
    rw [he]
    rfl
  next hnone =>
    rw [hnone]
    split
    next hspill => rw [hspill]; rfl
    next hspill => rw [hspill]; rfl

/-- Where the lookups see the same, they fail alike. -/
theorem statRead_isNone_congr (h : q.lookups c = s.lookups c) (k tag row : Nat) (a b : Bool) :
    (q.statRead c k tag row a).1.isNone = (s.statRead c k tag row b).1.isNone := by
  have hstate := rowState_of_lookups h c
  have hsaid : (q.core c).stats.map StatEntry.said = (s.core c).stats.map StatEntry.said := congrArg Prod.fst hstate
  have hspill : (q.core c).spill = (s.core c).spill := congrArg (fun v => v.2.1) hstate
  rw [Pkg.statRead_isNone, Pkg.statRead_isNone, hsaid, taskCtx_of_reach (reach_of_lookups h), spillFind_congr hspill (localMem_of_reach (reach_of_lookups h))]

/-- A lookup changes release marks alone. -/
theorem Pkg.statRead_lookups (s : Pkg) (c k tag row : Nat) (consume : Bool) : (s.statRead c k tag row consume).2.lookups c = s.lookups c := by
  have hs := Pkg.reach_seqBlind c
  unfold Pkg.statRead
  dsimp only
  split
  · split
    · refine Pkg.lookups_eq (hs.core s _ rfl) (Keeps.updCore s c fun x => congrArg (·, _) ?_)
      dsimp only
      rw [List.map_map]
      refine List.map_congr_left fun e _ => ?_
      dsimp only [Function.comp_apply]
      split <;> rfl
    · rfl
  · split
    · dsimp only
      split
      · exact Pkg.lookups_eq (hs.core s _ rfl) (.updCore s c fun _ => rfl)
      · rfl
    · rfl

theorem Pkg.taskFlags_lookups (s : Pkg) (c k : Nat) (fl : Sticky) : (s.taskFlags k fl).lookups c = s.lookups c :=
  Pkg.lookups_eq ((Pkg.reach_convBlind c).note.taskFlags s k fl) (.of_cores (Pkg.taskFlags_cores _ _ _))

/-- The row engine's slot finds the core as the repeat found it, but for the matrix and the vector engine's part. -/
theorem Keeps.rweFinds {β : Type} {Q : CoreSt → β} (hv : ∀ x a, Q { x with vreg := a } = Q x) (ht : ∀ x a, Q { x with tps := a } = Q x)
    (ha : ∀ x a, Q { x with acc := a } = Q x) (h00 : CtrFree Q 0) (h20 : CtrFree Q 0x20) (h28 : CtrFree Q 0x28) (h : StartFree Q)
    (pre : Pkg) (c k : Nat) (w : CWord) : Keeps Q (pre.rweFinds c k w) pre :=
  (Keeps.vxeIssue _ _ _ _ _ hv ht).trans <| (Keeps.of_cores rfl).trans <| (Keeps.mxeIssue _ _ _ _ _ _ ha h00 h20 h28).trans (.start h _ _ _ _)

/-- The row engine's slot finds what the lookups see as the repeat found it. -/
theorem Pkg.rweFinds_lookups (pre : Pkg) (c k : Nat) (w : CWord) : (pre.rweFinds c k w).lookups c = pre.lookups c := by
  have hb := Pkg.reach_convBlind c
  have hs := Pkg.reach_seqBlind c
  refine Pkg.lookups_eq ?_ ?_
  · exact (hb.vxeIssue hs _ _ _ _).trans ((hs.ctxs (pre.mxePart c k w).1 _).trans ((mxeIssue_view hb hs _ _ _ _ _).trans (hs.issueStart pre k w)))
  · have hctr {n : Nat} (h : 0x38 ≠ n) := CoreSt.rowState_ctrFree h
    exact .rweFinds (fun _ _ => rfl) (fun _ _ => rfl) (fun _ _ => rfl) (hctr (by decide)) (hctr (by decide)) (hctr (by decide))
      ⟨hctr (by decide), hctr (by decide), hctr (by decide)⟩ pre c k w

/-! ### The rows of a backward op -/

/-- Whether the lookup of a row of an op fails. -/
def Pkg.rowLost (pre s : Pkg) (c k : Nat) (f : RweF) (r : Nat) : Bool :=
  (s.statRead c k (fld (pre.sreg c f.tagR) 31 0) ((fld (pre.sreg c f.rowR) 19 0 + r) % 2 ^ 20) false).1.isNone

/-- A row of a backward op is one lookup. -/
theorem Pkg.rweRow_bwd {f : RweF} (hb : f.bwd = true) (pre : Pkg) (c k r : Nat) (x g : List FV × Bool) (a : RweAcc) :
    (pre.rweRow c k f r x g a).s.lookups c = a.s.lookups c ∧ (pre.rweRow c k f r x g a).miss = a.miss + (pre.rowLost a.s c k f r).toNat := by
  have hlost := statRead_isNone_congr (q := a.s) (s := a.s) (c := c) rfl k (fld (pre.sreg c f.tagR) 31 0) ((fld (pre.sreg c f.rowR) 19 0 + r) % 2 ^ 20) false f.consume
  have hsees := a.s.statRead_lookups c k (fld (pre.sreg c f.tagR) 31 0) ((fld (pre.sreg c f.rowR) 19 0 + r) % 2 ^ 20) f.consume
  unfold Pkg.rowLost
  rw [hlost]
  unfold Pkg.rweRow
  dsimp only
  rw [if_pos hb]
  split
  next hst => exact ⟨hsees, by rw [hst]; rfl⟩
  next hst => exact ⟨hsees, by rw [hst]; rfl⟩

/-- The rows of a backward op miss where the package that the op found has no statistics for them. -/
theorem Pkg.rweRows_bwd {f : RweF} (hb : f.bwd = true) (pre : Pkg) (c k : Nat) (xs gs : Nat → List FV × Bool) (rows : List Nat) (a : RweAcc)
    (ha : a.s.lookups c = q.lookups c) :
    (rows.foldl (fun a r => pre.rweRow c k f r (xs r) (gs r) a) a).s.lookups c = q.lookups c ∧
    (rows.foldl (fun a r => pre.rweRow c k f r (xs r) (gs r) a) a).miss = a.miss + (rows.filter (pre.rowLost q c k f)).length := by
  induction rows generalizing a with
  | nil => exact ⟨ha, rfl⟩
  | cons r rows ih =>
    obtain ⟨hsees, hmiss⟩ := Pkg.rweRow_bwd hb pre c k r (xs r) (gs r) a
    obtain ⟨hall, hcount⟩ := ih _ (hsees.trans ha)
    have hlost : pre.rowLost a.s c k f r = pre.rowLost q c k f r := statRead_isNone_congr ha _ _ _ _ _
    refine ⟨hall, hcount.trans ?_⟩
    rw [hmiss, hlost, List.filter_cons]
    cases pre.rowLost q c k f r
    · rfl
    · exact Nat.add_right_comm _ _ _

theorem Pkg.rweRun_bwd {f : RweF} (hb : f.bwd = true) (pre : Pkg) (k : Nat) (w : CWord) (hs : s.lookups c = q.lookups c) :
    (pre.rweRun s c k w f).s.lookups c = q.lookups c ∧ (pre.rweRun s c k w f).miss = ((List.range f.rows).filter (pre.rowLost q c k f)).length := by
  unfold Pkg.rweRun
  dsimp only
  exact And.imp_right (fun h => h.trans (Nat.zero_add _)) (Pkg.rweRows_bwd hb pre c k
    (fun r => (pre.rweRows c w f.inS f.inF (pre.rweLen c f) f.rows).getD r ([], false))
    (fun r => (if f.bwd = true then pre.rweRows c w f.gS f.inF (pre.rweLen c f) f.rows else []).getD r ([], false)) _ _
    ((s.taskFlags_lookups c k _).trans hs))

end Sys2Proof.Machine
end

section
/-! A row command's repeat: its count of misses, the statistics and the spill selection that it leaves (R153, R155, R156, R198). -/

namespace Sys2Proof.Machine

variable {α : Type} {pre s q : Pkg} {c k : Nat} {w : CWord}

theorem Pkg.rweIssue_spillSet (hw : w.has 6 = true) (ho : w.op 6 = 7) : pre.rweIssue s c k w = (pre.spillSet s c k w (rweF (w.slot 6)), []) := by
  have hop : (rweF (w.slot 6)).op = 7 := ho
  unfold Pkg.rweIssue
  rw [hw]
  dsimp only
  rw [hop]
  rfl

theorem Pkg.coreCount_congr (h : q.cores = s.cores) (c off n : Nat) : (q.coreCount c off n).cores = (s.coreCount c off n).cores := by
  unfold Pkg.coreCount Pkg.updCore Pkg.setCore Pkg.core
  rw [h]

/-- Besides its rows, a row op counts its misses and reports. -/
theorem Pkg.rweIssue_cores (hw : w.has 6 = true) (h0 : w.op 6 ≠ 0) (h7 : w.op 6 < 7) : (pre.rweIssue s c k w).1.cores =
    (if (pre.rweRun s c k w (rweF (w.slot 6))).miss > 0 then
      (pre.rweRun s c k w (rweF (w.slot 6))).s.coreCount c 0x38 (pre.rweRun s c k w (rweF (w.slot 6))).miss
    else (pre.rweRun s c k w (rweF (w.slot 6))).s).cores := by
  have hop : (rweF (w.slot 6)).op = w.op 6 := rfl
  unfold Pkg.rweIssue
  rw [hw]
  dsimp only
  rw [hop, if_neg (by simp), if_neg (by omega), if_neg (by omega)]
  generalize pre.rweRun s c k w (rweF (w.slot 6)) = a
  have hcount (x : Pkg) (hx : x.cores = a.s.cores) :
      (if a.miss > 0 then (x.coreCount c 0x38 a.miss).taskEvent k Ev.rowStatsMissing (Unit.engine c 2) Code.poisonedInput [] else x).cores =
        (if a.miss > 0 then a.s.coreCount c 0x38 a.miss else a.s).cores := by
    split
    · exact (Pkg.taskEvent_cores _ _ _ _ _ _).trans (Pkg.coreCount_congr hx _ _ _)
    · exact hx
  have hreports {x : Pkg} (hx : x.cores = (if a.miss > 0 then a.s.coreCount c 0x38 a.miss else a.s).cores) (b : Bool) :
      (if b = true then x.taskCode k Code.poisonedInput else x).cores = (if a.miss > 0 then a.s.coreCount c 0x38 a.miss else a.s).cores :=
    view_ite ((Pkg.taskCode_cores _ _ _).trans hx) hx
  refine hreports (hcount _ ?_) _
  split
  · exact (Pkg.converted_cores _ _ _ _ _ _ _ _ _).trans (Pkg.taskFlags_cores _ _ _)
  · exact (Pkg.rweNans_cores _ _ _ _ _).trans ((Pkg.taskFlags_cores _ _ _).trans (Pkg.taskFlags_cores _ _ _))

/-- A backward op counts the rows whose statistics are lost, and leaves what the entries say, the spill selection and the other cores. -/
theorem Pkg.rweIssue_bwd (hw : w.has 6 = true) (h4 : 4 ≤ w.op 6) (h6 : w.op 6 ≤ 6) (pre : Pkg) (k : Nat) (hs : s.lookups c = q.lookups c) :
    ((pre.rweIssue s c k w).1.core c).rowState = ((q.core c).stats.map StatEntry.said, (q.core c).spill,
      (q.core c).ctr.get 0 0x38 + ((List.range (rweF (w.slot 6)).rows).filter (pre.rowLost q c k (rweF (w.slot 6)))).length) ∧
    OtherCores c q (pre.rweIssue s c k w).1 := by
  have hb : (rweF (w.slot 6)).bwd = true := decide_eq_true ⟨h4, h6⟩
  obtain ⟨hsees, hmiss⟩ := Pkg.rweRun_bwd hb pre k w hs
  have hcores := Pkg.rweIssue_cores (pre := pre) (s := s) (c := c) (k := k) hw (by omega) (by omega)
  rw [hmiss] at hcores
  generalize (pre.rweRun s c k w (rweF (w.slot 6))).s = a at hsees hcores
  generalize ((List.range (rweF (w.slot 6)).rows).filter (pre.rowLost q c k (rweF (w.slot 6)))).length = n at hcores ⊢
  have hstate := rowState_of_lookups hsees c
  have hcore (j : Nat) : (pre.rweIssue s c k w).1.core j = (if n > 0 then a.coreCount c 0x38 n else a).core j :=
    Keeps.of_cores (P := fun x => x) hcores j
  refine ⟨?_, fun j hj => ?_⟩
  · rw [hcore]
    split
    · rw [Pkg.coreCount, Pkg.core_updCore_same]
      unfold CoreSt.rowState at hstate ⊢
      simp only [Prod.mk.injEq] at hstate ⊢
      rw [Tbl.get_upd_same]
      exact ⟨hstate.1, hstate.2.1, congrArg (· + n) hstate.2.2⟩
    next hn =>
      rw [hstate, Nat.eq_zero_of_not_pos hn]
      rfl
  · rw [hcore, ← otherCores_of_reach (reach_of_lookups hsees) j hj]
    split
    · rw [Pkg.coreCount, Pkg.core_updCore, if_neg hj]
    · rfl

/-- SPILL_SET selects the descriptor at its stream's address. -/
theorem Pkg.spill_spillSet {f : RweF} {r : Nat × Int} (hr : w.stream f.inS = some r) :
    ((pre.spillSet s c k w f).core c).spill = some ((pre.ag c r.1).addr r.2) := by
  unfold Pkg.spillSet
  rw [hr]
  dsimp only
  rw [Pkg.core, Pkg.updCtx_cores, ← Pkg.core, Pkg.core_updCore_same]

/-- A SPILL_SET changes the core's selection alone. -/
theorem Pkg.spillSet_keeps (pre s : Pkg) (c k : Nat) (w : CWord) (f : RweF) :
    Keeps CoreSt.stats (pre.spillSet s c k w f) s ∧ OtherCores c s (pre.spillSet s c k w f) := by
  unfold Pkg.spillSet
  split
  · refine ⟨(Keeps.of_cores (Pkg.updCtx_cores _ _ _)).trans (.updCore _ _ fun _ => rfl), fun j hj => ?_⟩
    rw [Pkg.core, Pkg.updCtx_cores, ← Pkg.core, Pkg.core_updCore, if_neg hj]
  · exact ⟨.refl s, fun _ _ => rfl⟩

/-- In a word without another engine or transfer slot, the other cores are as the slot leaves them. -/
theorem Pkg.otherCores_rweOnly (ho : w.only 6) (hr : pre.refused c w = false) (k : Nat) (img : Image) :
    OtherCores c (pre.rweIssue (pre.rweFinds c k w) c k w).1 (pre.issueRepeat c k img w) := by
  have h7 : w.has 7 = false := ho 7 (by decide) (by decide)
  have h8 : w.has 8 = false := ho 8 (by decide) (by decide)
  have hq := Pkg.memoryBeside_noTransfer h8 hr k img
  rw [Pkg.sdeIssue_absent h7] at hq
  exact fun j hj => (otherCores_of_memoryBeside hq j hj).trans (Pkg.lWrites_otherCores c _ _ j hj)

end Sys2Proof.Machine

open Sys2Proof Sys2Proof.Machine

/-- Settles O12: the lookups of a backward op see what the repeat found, whatever the slots before have done, and the slots after leave entries, selection and count. -/
theorem rowBackward : Obligations.RowBackward := by
  intro s i c k op img w hi hop hc hw hg
  obtain ⟨u, hu, hpend, hcores, hmem, hclusters, -, -⟩ := exec_goes hi hc hw hg
  obtain ⟨hhas, rfl⟩ := hw.holdsOp
  refine ⟨u, hu, ?_⟩
  beta_reduce
  intro x y f tag row lost
  let p := s.pkg.tick i.time
  have hslot {α : Type} {Q : CoreSt → α} (h : AfterRweFree Q w) : Q y = Q ((p.rweIssue (p.rweFinds c k w) c k w).1.core c) :=
    (Keeps.of_cores hcores c).trans (Keeps.issueRepeat_rwe hg.sent k img h c)
  have hothers (ho : w.only 6) : OtherCores c (p.rweIssue (p.rweFinds c k w) c k w).1 u.pkg := fun j hj =>
    (Keeps.of_cores (P := fun x => x) hcores j).trans (Pkg.otherCores_rweOnly ho hg.sent k img j hj)
  have hfound : (p.rweFinds c k w).lookups c = s.pkg.lookups c := p.rweFinds_lookups c k w
  by_cases h7 : w.op 6 = 7
  · have hset := Pkg.rweIssue_spillSet (pre := p) (s := p.rweFinds c k w) (c := c) (k := k) hhas h7
    obtain ⟨hstats, hbeside⟩ := p.spillSet_keeps (p.rweFinds c k w) c k w f
    have hresults := hslot (CoreSt.results_afterRweFree w)
    rw [hset] at hresults hothers
    dsimp only at hresults hothers
    refine ⟨fun h => absurd h7 h, fun _ => ⟨?_, fun q hq => ?_⟩, fun ho j hj => ?_, hpend⟩
    · refine (congrArg (fun v => v.2.2.1) hresults).trans ((hstats c).trans ?_)
      exact Keeps.rweFinds (Q := CoreSt.stats) (fun _ _ => rfl) (fun _ _ => rfl) (fun _ _ => rfl) (fun _ _ => rfl) (fun _ _ => rfl) (fun _ _ => rfl)
        ⟨fun _ _ => rfl, fun _ _ => rfl, fun _ _ => rfl⟩ p c k w c
    · exact (congrArg (fun v => v.2.2.2) hresults).trans (Pkg.spill_spillSet hq)
    · exact (hothers ho j hj).trans ((hbeside j hj).trans (otherCores_of_reach (reach_of_lookups hfound) j hj))
  · obtain ⟨hstate, hbeside⟩ := Pkg.rweIssue_bwd hhas (by omega) (by omega) p k hfound
    have hy := (hslot (CoreSt.rowState_afterRweFree w)).trans hstate
    refine ⟨fun _ => ⟨congrArg (fun v => v.2.2) hy, congrArg Prod.fst hy, congrArg (fun v => v.2.1) hy⟩, fun h => absurd h h7, fun ho j hj => ?_, hpend⟩
    exact (hothers ho j hj).trans (hbeside j hj)
end
